-- ==== Sys2Proof/Word.lean ====
section
/-! DEFINITION. The word types of the J1024T and their plainest arithmetic. -/

namespace Sys2Proof

/-- The 16-bit word of the host bus, the banks and the Galros cores (spec/00 R7, spec/11 R276). -/
abbrev Word := BitVec 16

/-- The upper half of a 32-bit register (spec/00 R7). -/
def hiHalf (v : BitVec 32) : Word := v.extractLsb' 16 16

/-- The lower half of a 32-bit register (spec/00 R7). -/
def loHalf (v : BitVec 32) : Word := v.extractLsb' 0 16

/-- A 32-bit register from its halves (spec/00 R7). -/
def ofHalves (hi lo : Word) : BitVec 32 := hi ++ lo

/-- Natural number of a Bool, for packing one-bit fields. -/
def bit (b : Bool) : Nat := if b then 1 else 0

/-- Saturating increment of a counter. -/
def satInc (top n : Nat) : Nat := if n < top then n + 1 else top

/-- Saturating increment of a counter held in bits: it stays at all ones. -/
def satIncBv {w : Nat} (v : BitVec w) : BitVec w := if v = BitVec.allOnes w then v else v + 1

/-- Clip an integer into a range. -/
def clip (lo hi x : Int) : Int := if x < lo then lo else if x > hi then hi else x

/-- A signed number as a word that saturates. -/
def satWord (x : Int) : Word := BitVec.ofInt 16 (clip (-32768) 32767 x)

/-- Division rounded to the nearest whole number, a tie down (spec/06 R149). -/
def divNearest (a b : Int) : Int := -((-(2 * a) + b) / (2 * b))

end Sys2Proof
end

