-- ==== Sys2Proof/Types.lean ====
section
/-! DEFINITION. The operand types of the commands and the plain data shared by commands and state. -/

namespace Sys2Proof

/-- The two Galros cores (spec/12). -/
inductive CoreId where
  | trk | svc
deriving DecidableEq, Repr

/-- The requester classes of spec/07 R173. -/
inductive Cls where
  | ns | sec | trk | svc | dbg | mir
deriving DecidableEq, Repr

/-- The condition field of spec/12 R303, spec/13 R329. -/
inductive Cond where
  | al | eq | ne | cs | cc | mi | ts | tc
deriving DecidableEq, Repr

/-- A working register W0–W7 (spec/12 R301). -/
abbrev Reg := Fin 8

/-- How a stored word's check bits fail to decode clean (spec/11 R276, R286, R289):
a single-bit error, a double-bit error, or the poison mark. -/
inductive Upset where
  | single | double | poison
deriving DecidableEq, Repr

/-- The memory operand of LD and ST (spec/13 R336). -/
inductive MemForm where
  /-- short form: segment and base register 4 + b, with or without post-increment -/
  | short (b : Fin 4) (inc : Bool)
  /-- offset form: segment g, base register w, offset 0–2,047 -/
  | offset (g : Fin 4) (w : Reg) (off : BitVec 11)
deriving DecidableEq, Repr

/-- The instruction that follows RPT or RPTU, as decoded (spec/13 R344): one of those it may repeat, or any
other, of which only its length in words matters. -/
inductive RepBody where
  | mov (d s : Reg) | add (d s : Reg) | adc (d s : Reg) | sub (d s : Reg) | sbc (d s : Reg)
  | and (d s : Reg) | or (d s : Reg) | xor (d s : Reg) | cmp (d s : Reg) | tst (d s : Reg)
  | dadd (d s : Reg) | dsub (d s : Reg)
  | shl (r : Reg) | shr (r : Reg) | asr (r : Reg) | rol (r : Reg) | ror (r : Reg) | rlc (r : Reg) | rrc (r : Reg)
  | swab (r : Reg) | not (r : Reg) | neg (r : Reg) | inc (r : Reg) | dec (r : Reg) | clr (r : Reg) | sexb (r : Reg)
  | push (r : Reg) | st (r : Reg) (b : Fin 4) (inc : Bool) | mfs (r : Reg) (spec : Fin 4)
  | btstr (r : Reg) | bsetr (r : Reg) | bclrr (r : Reg) | bmovr (r : Reg) | nop
  | other (words : Fin 4)
deriving DecidableEq, Repr

/-- A notice word of Sluice (spec/10 R242). -/
structure Notice where
  bank   : BitVec 3
  offset : BitVec 14
  cls    : BitVec 3
  client : BitVec 10
  kind   : BitVec 2
deriving DecidableEq, Repr

/-- A position with its uncertainties in the units of spec/05 R138. -/
structure Position where
  lat    : Int
  lon    : Int
  height : Int
  hSigma : Nat
  vSigma : Nat
deriving DecidableEq, Repr

/-- What one notch measured over the epoch that ends (spec/03 R77): INR in dB and the frequency code tracked. -/
structure NotchObs where
  inr  : Int
  freq : BitVec 16
deriving DecidableEq, Repr

/-- What the edge placer saw of SCLK in a pace period (spec/03 R70, R71): the edge count and the phase captured,
in ticks modulo one SCLK period about the REFIN grid. -/
structure SclkObs where
  edges   : Nat
  capture : Option Int
deriving DecidableEq, Repr

/-- One pan's measurement at a solution epoch (spec/05 R124, R126, R129, R140). -/
structure SatObs where
  pan    : Fin 32
  elev   : Option Nat
  az     : Option Nat
  /-- pseudorange, 1/64 m -/
  range  : BitVec 32
  /-- Doppler measured, 0.25 Hz -/
  doppler : Int
  /-- Doppler predicted from ephemeris, position, velocity and the solved epsilon, 0.25 Hz -/
  predicted : Int
  /-- post-fit residual, 0.1 m -/
  resid  : Int
  /-- post-fit residual of the solution repeated without the excluded measurement, 0.1 m (spec/05 R130) -/
  residX : Int
deriving DecidableEq, Repr

/-- What SVC's computation yields at a solution epoch (spec/05 R126–R132): the figures that rest on the sky. -/
structure SolObs where
  sats     : List SatObs
  /-- GNSS time of the signals in the present sample, in ticks, before any of the corrections below, and before the
  delays of the front end and of the notches are removed -/
  tSol     : Int
  /-- what the ionosphere correction with the parameters of subframe 4 page 18 adds, in ticks (spec/05 R126) -/
  iono     : Int
  /-- what the fixed sea-level troposphere model adds, in ticks (spec/05 R126) -/
  tropo    : Int
  /-- fractional frequency error of the solution, in 0.001 ppb -/
  eps      : Int
  /-- 1-sigma time term of the solution covariance, in ns -/
  sigma    : Nat
  /-- the disciplining loop's frequency uncertainty after this solution, in 0.01 ppb (spec/01 R27) -/
  freqSigma : Nat
  pos      : Position
  velE     : Int
  velN     : Int
  velU     : Int
  /-- TDOP x 100 -/
  tdop     : Nat
deriving DecidableEq, Repr

/-- What the end of a cell search brings with it (spec/04 R90, spec/11 R291): a poisoned accumulator word was met, and
whether the dwell that could start now holds no predicted data-bit edge of its PRN. -/
structure CellObs where
  poisoned : Bool
  aligned  : Bool
deriving DecidableEq, Repr

/-- A decoded LNAV word's content (spec/05 R128). -/
inductive LnavItem where
  | parityFail
  | subframeFail
  | subframeOk
  | preamble (parityOk : Bool)
  /-- subframe 1: IODC, URA index and whether the health bits are zero -/
  | clock (iodc : Nat) (ura : Nat) (healthy : Bool)
  /-- subframe 2: IODE and toe in seconds of the week -/
  | orbitA (iode : Nat) (toe : Nat)
  /-- subframe 3: IODE -/
  | orbitB (iode : Nat)
  /-- a page of subframe 5 (or of subframe 4): its number -/
  | page (five : Bool) (n : Nat)
  /-- page 25 of subframe 5: health of SV 1-24, toa and WNa; of subframe 4: health of SV 25-32; a 1 marks an unhealthy SV -/
  | almHealth (five : Bool) (bad : BitVec 24) (toa : Nat) (wna : Nat)
  | ionoUtc (leap : Int) (next : Option (Nat × Nat × Int))
  | ignored
deriving DecidableEq, Repr

/-- What a pan's correlators hold at the end of an integration (spec/04 R100–R105, spec/14 R352). -/
structure IntegObs where
  /-- I and Q of P, E, L, VE, VL, XA and XB -/
  result  : List (BitVec 16)
  /-- I and Q of the noise-floor estimator for each code of PRN 33-63 (spec/04 R102) -/
  noise   : List (BitVec 16 × BitVec 16)
  /-- the data-bit edge as predicted from ephemeris and position: its millisecond of the pan's count, modulo 20 -/
  predEdge : Nat
  lnav    : Option LnavItem
deriving DecidableEq, Repr

/-- A satellite as ephemeris or almanac, time and position predict it (spec/04 R97). -/
structure Pred where
  prn     : Nat
  /-- elevation in degrees -/
  elev    : Int
  doppler : Int
  /-- predicted code phase in 1/32 chip -/
  code    : Nat
deriving DecidableEq, Repr

/-- What the assistance held predicts at the start of a search (spec/04 R97): used only for the PRNs, and as far as, what
the Runtime holds allows. -/
abbrev Assist := List Pred

/-- A call of the Runtime by customer code in a hook: the slot calls, with the client that the caller declares, and the
parameter calls (spec/07 R174, R175, spec/08 R221, spec/12 R325). -/
inductive RtCall where
  | slotArm (client : BitVec 10) (image : List (BitVec 16))
  | slotModify (client : BitVec 10) (image : List (BitVec 16))
  | slotCancel (client : BitVec 10) (slot : BitVec 16)
  | slotCancelClient (client : BitVec 10)
  | txnBegin
  | txnCommit (atEpoch : Bool)
  | txnRollback
  | paramWrite (page : BitVec 4) (index : BitVec 8) (value : BitVec 32)
deriving DecidableEq, Repr

/-- What customer code does in hook 2, asked to run a command of its own (spec/12 R325): the status code that it returns, and
its calls of the Runtime. -/
structure HookRun where
  status : BitVec 8
  calls  : List RtCall
deriving DecidableEq, Repr

/-- What an epoch boundary brings with it: what the four notches measured over the epoch that ends, the powers of the
Crystallizer's dwell epoch that ends, by cell (bin x 2,046 + phase; a cell not listed has power 0), whether a dwell epoch
that could start now holds no predicted data-bit edge of its PRN, what assistance predicts, should the Runtime begin a search
plan (spec/20 R473), and the Runtime calls that customer code of each core makes in its EPOCH hook (spec/12 R325). -/
structure EpochObs where
  n0 : NotchObs
  n1 : NotchObs
  n2 : NotchObs
  n3 : NotchObs
  cells : List (Nat × Nat)
  aligned : Bool
  assist : Assist
  calls : List (CoreId × RtCall)
deriving DecidableEq, Repr

/-- A Hexile frame as received (spec/19 R445): type, sequence, payload and whether its CRC is good. -/
structure Frame where
  type    : BitVec 4
  seq     : BitVec 6
  payload : List (BitVec 16)
  crcOk   : Bool
deriving DecidableEq, Repr

end Sys2Proof
end

