-- ==== Sys2Proof/Syntax.lean ====
section
/-! DEFINITION. The commands of the J1024T: one constructor per row of spec/opcode_table.json, in its order,
but that rows without operands from the 150th on stand last. A core
instruction names the core that executes it and its condition; an event carries what the outside world brings with it. -/

namespace Sys2Proof

/-- The commands (spec/opcode_table.json; spec/95_what_each_step_holds.md lists what comes about inside each). -/
inductive Instr where
  /-- A read of the lower word of SYS_DTC_LO latches the DTC, SYS_DTC_HI and SYS_TIMEQ for the reading class and arms that class's latch (R17) -/
  | dtcLatchRead
  /-- A class's time latch disarms 1 ms of DTC time after it was taken if the class has not yet read the upper word of SYS_TIMEQ (R17) -/
  | timeLatchExpiry (cls : Cls)
  /-- The 52-bit DTC wraps and the Runtime carries the wrap into its anchor; GNSS time and time quality are unchanged (R16) -/
  | dtcWrap
  /-- A 1 ms epoch boundary of the DTC passes; pending epoch commits, steps, notch changes, gap marking and per-epoch updates take effect (R61) -/
  | epochBoundary (o : EpochObs)
  /-- SVC forms one solution, runs the consistency checks, accepts or rejects it, updates the anchor and posts the MSR record (R123) -/
  | solutionEpoch (o : SolObs)
  /-- After sys.fine_hold of solutions at or below sys.fine_enter, the time quality moves from GNSS-COARSE to GNSS-FINE (R23) -/
  | gnssFineEntry
  /-- With no accepted solution for sys.ho_wait, GNSS-COARSE or GNSS-FINE passes to HOLDOVER (R23) -/
  | holdoverEntry
  /-- After int.sp_clear_s of solutions that pass every check, SPOOF_SUSPECT clears, the solution is accepted and an INTEG notice is posted (R134) -/
  | spoofSuspectClear (o : SolObs)
  /-- After msr.survey_s of accepted PVT solutions, the mean position is held and mode 0 solves time-only from then on (R125) -/
  | surveyComplete
  /-- The Runtime writes UTC into the RTC calendar in one crossing at an R34 point, skipping the load while RTC_HALT.halt reads 1 (R413) -/
  | calendarLoad
  /-- A scheduled leap-second change from the LNAV UTC parameters is applied to UTC at the end of the stated day (R36) -/
  | leapSecondApply
  /-- At the end of each pace period the Pace Monitor compares the Brine fill with its thresholds and acts on VCORE, shedding and restoring (R48) -/
  | pacePeriodEnd (o : SclkObs)
  /-- pwr.relapse_win passes after a restore with no relapse, and the back-off b returns to 0 (R58) -/
  | relapseWindowExpiry
  /-- No SCLK edge for 64 REFIN periods declares an SCLK fault (R71) -/
  | sclkAbsence
  /-- An admitted sample enters the Brine FIFO after the notches, or is discarded and counted when the FIFO holds 4,096 samples (R60) -/
  | sampleArrival (sdata : BitVec 4)
  /-- smp.fe_settle ends after FE_EN rose, and admission starts at the next 1 ms epoch boundary (R74) -/
  | feSettleExpiry
  /-- A Crystallizer cell search completes; the peak is tested as a hit, confirmed, rejected as cross-correlation, or the search moves on (R91) -/
  | cellSearchEnd (o : CellObs)
  /-- A pending hit older than acq.pend_age is discarded and its PRN is queued again (R95) -/
  | pendingHitExpiry
  /-- A pan completes a coherent integration and sets its ready bit; a result not yet serviced is replaced and trk.late_cnt increments (R106) -/
  | integrationEnd (p : Fin 32) (o : IntegObs)
  /-- After trk.pull_ms in PULL with car_lk set, the pan enters LOCK (R107) -/
  | pullComplete (p : Fin 32)
  /-- C/N0 below trk.cn0_loss for trk.loss_ms clears code_lk, and the pan starts reacquisition by pan search (R113) -/
  | codeLockLoss (p : Fin 32)
  /-- Pan search fails for trk.reacq_s, the pan is released and its PRN is queued for the Crystallizer (R113) -/
  | reacqTimeout (p : Fin 32)
  /-- An active pan sets no ready bit for 100 ms; the group is withdrawn in unit_flt and its pans are released (R482) -/
  | panGroupStall (g : Fin 4)
  /-- A DWELL runs for more than 4 times its duration; the Crystallizer is withdrawn and cry_off is set (R482) -/
  | crystallizerStall
  /-- TPOUT goes active at a pulse time of GNSS time when the time-quality mask admits it, and TP_QERR is updated (R147) -/
  | tpoutActiveEdge
  /-- TPOUT returns to its inactive level tp.width after its active edge (R147) -/
  | tpoutInactiveEdge
  /-- An active edge that fell due while TPOUT was active is emitted 1 us after the pulse in progress ends, and TP_STAT.late is set (R152) -/
  | tpoutDeferredPulse
  /-- A change of tp.rate, tp.width, tp.pol or tp.user_off takes effect at the next whole GNSS second (R147) -/
  | tpSettingsApply
  /-- Writing WCS_CTRL.en to 1 moves the WCS from OFF to START, and the PLL begins to lock (R156) -/
  | wcsEnable (d : Word)
  /-- Writing WCS_CTRL.en to 0 stops the WCS and holds its outputs inactive in state OFF (R166) -/
  | wcsDisable (d : Word)
  /-- The WCS PLL locks to REFIN and WCS_STAT.pll_lk is set (R156) -/
  | pllLockAcquired
  /-- WCLK_OUT and WALIGN begin in phase at the first lattice point at least 20 us after pll_lk (R156) -/
  | wcsOutputStart
  /-- Every 10 ms of GNSS time the edge placer measures the WCS phase and updates the steering law and the SLEW or LOCKED state (R155) -/
  | wcsPhaseMeasure (phi : Int)
  /-- Writing 1 to WCS_CTRL.realign requests a re-align, merged with any pending one (R157) -/
  | wcsRealignRequest (d : Word)
  /-- The WCS outputs stop at the next lattice point of the present phase and are held inactive (R157) -/
  | realignStop
  /-- The WCS outputs restart at the first target lattice point at least one WALIGN period after the stop, and realign_cnt increments (R157) -/
  | realignRestart
  /-- The WCS PLL loses lock; the outputs are forced inactive, WCS_STAT.unlock is set, START is re-entered and a WCS notice is posted (R162) -/
  | pllLockLoss
  /-- The WCS outputs stop at the next lattice point before SLEEP with wcs.sleep_run 0, or before DEEP SLEEP (R161) -/
  | wcsSleepStop
  /-- 20 us before a slot's target, the occurrence is committed and its EVOUT placement and re-align are handed to the edge placer (R177) -/
  | slotCommitPoint (i : Fin 1024)
  /-- At the target instant the slot performs its actions if tq_mask admits the time quality, or is skipped, then advances or becomes FREE (R179) -/
  | slotFire (i : Fin 1024)
  /-- A slot whose next target is too close or past fires once 20 us after the advance, flagged late, reporting the occurrences it passed over (R182) -/
  | slotLateFire (i : Fin 1024)
  /-- An EVOUT pulse returns to its inactive level pulse_w after its leading edge (R179) -/
  | evoutPulseEnd (pin : Fin 4)
  /-- A selected TMARK edge is stamped to the nearest tick into the capture buffer, or counted as lost (R185) -/
  | tmarkEdge (k : Fin 2) (rising : Bool) (step : Fin 64)
  /-- The fabric accepts a buffered stamp and posts its timemark EVT record (R187) -/
  | tmarkRecordPost (k : Fin 2)
  /-- A read of the lower word of EVS_TMARK returns the lost-edge counts and clears them (R190) -/
  | evsTmarkRead
  /-- An address phase of a host bus cycle latches the word offset and the HWR_N and HSEC qualifiers for the cycle (R194) -/
  | busAddressPhase (off : Word) (wr sec : Bool)
  /-- A host data phase writes a direct register that has no row of its own, including staging of paired lower words and W1C or W1S fields (R201) -/
  | registerWrite (d : Word)
  /-- A read of the lower word of HB_ERR returns the first error cause and the count, and clears the register (R206) -/
  | hbErrRead
  /-- An upper-word write of HB_PDATA writes the selected parameter after width, range and rule checks, live or into the open transaction's shadow (R211) -/
  | parameterWrite (d : Word)
  /-- A read of the upper word of HB_PDATA returns the selected parameter and advances the index when auto_inc is set (R211) -/
  | parameterRead
  /-- A PRG_DATA write stores a word of program RAM while the addressed core is stopped, or is refused with ROM or PRG_BUSY (R213) -/
  | programWindowWrite (d : Word)
  /-- A BNK_WDATA write stores a whole word with fresh check bits in a HOST-owned bank, clearing any poison (R214) -/
  | bankWindowWrite (d : Word)
  /-- A BNK_WDATA read returns a bank word, with POISON or WITHDRAWN error responses where they apply (R291) -/
  | bankWindowRead (u : Option Upset)
  /-- TXN_CTRL.op BEGIN opens an empty transaction for the class (R217) -/
  | txnBegin (d : Word)
  /-- TXN_CTRL.op COMMIT checks for conflict and rules, then applies the shadow at once or leaves it pending until the epoch boundary (R218) -/
  | txnCommit (d : Word)
  /-- TXN_CTRL.op ROLLBACK discards the shadow and closes the transaction with result ROLLED_BACK (R217) -/
  | txnRollback (d : Word)
  /-- A read of PWR_PACE_CNT returns shed_cnt and gap_ep and clears both counters (R65) -/
  | pwrPaceCntRead
  /-- A read of the lower word of SLU_RING returns the four Sluice loss counters and clears them (R235) -/
  | sluRingRead
  /-- A read of the lower word of BNK_LOG returns the oldest log entry, removes it and clears ovf (R236) -/
  | bnkLogRead
  /-- A read of VREG_STAT returns the regulator status and clears clip_cnt (R237) -/
  | vregStatRead
  /-- A committed BNK_OWNER write changes bank owners under the permission table and starts a handover with drain for each changed bank (R282) -/
  | bnkOwnerWrite (d : Word)
  /-- The old owner's accepted accesses complete, the drain bit clears and the new owner is admitted (R282) -/
  | handoverDrainEnd (b : Fin 8)
  /-- Writing 1 to RTC_HALT.halt stops the calendar and holds the prescaler at 0 (R411) -/
  | rtcHaltSet (d : Word)
  /-- Writing 0 to RTC_HALT.halt resumes counting from the written calendar with the prescaler at 0 (R412) -/
  | rtcHaltClear (d : Word)
  /-- A write of RTC_TIME or RTC_DATE is accepted while halt reads 1, or refused with RULE (R411) -/
  | rtcCalendarWrite (d : Word)
  /-- Writing 1 to RTC_SWSTAMP.valid clears the switch-over stamp and re-arms it (R416) -/
  | rtcSwstampRearm (d : Word)
  /-- Writing 1 to ANT_STAT.unlatch in state 4 clears tries and starts a soft start if ANTOUT is wanted (R374) -/
  | antUnlatch (d : Word)
  /-- CAL_CTRL.op LOAD copies the calibration block to the cal page and applies the trims, or nominal values if the check fails (R501) -/
  | calLoad (d : Word)
  /-- CAL_CTRL.op STORE computes cal.crc, erases the block and writes the cal page into it (R501) -/
  | calStore (d : Word)
  /-- A STORE finishes, the wear counter increments and a verifying LOAD sets or clears err (R501) -/
  | calStoreEnd (ok : Bool)
  /-- A 1 in DBG_CTRL.halt requests a halt of the core (R240) -/
  | dbgHaltRequest (d : Word)
  /-- A 1 in DBG_CTRL.resume resumes the halted core (R240) -/
  | dbgResumeRequest (d : Word)
  /-- Writing sys.boot to 0 releases both cores held at boot, takes sys.pram_crc and starts both at vector 0 (R474) -/
  | sysBootRelease (d : Word)
  /-- A write of ntc.msr_rd or ntc.evt_rd frees records, refused with RULE if the fill would go out of range (R255) -/
  | ringReadIndexWrite (d : Word)
  /-- A write of ntc.mail_bank, ntc.msr_bank or ntc.evt_bank places the mail area or a ring and resets its indices, or is refused with RULE (R254) -/
  | ringPlace (d : Word)
  /-- A ring stores the sender's notice in a channel or posts it to CMD, stamping class and client, or is refused (R245) -/
  | doorbellRing (d : Word)
  /-- A take copies a channel's notice, or the oldest NTC notice, into the receiver's SLU_NOTICE and empties the channel (R246) -/
  | doorbellTake (d : Word)
  /-- A channel still full ntc.chN_tmo us after a ring sets the sender's timeout flag (R249) -/
  | channelTimeout (ch : Fin 64)
  /-- Runtime command 0x01 sets the time from the host under R23 and R24, or completes with an error (R268) -/
  | timeSet
  /-- Runtime command 0x02 holds a host position and restarts the survey (R268) -/
  | posSet
  /-- Runtime command 0x03 supplies the REFIN frequency error, making frequency known (R268) -/
  | freqAid
  /-- Runtime command 0x04 replaces the search plan once the cell search in progress ends (R268) -/
  | search (a : Assist)
  /-- Runtime command 0x05 ends the search with ACQ_END reason 1 (R268) -/
  | searchStop
  /-- Runtime command 0x06 starts a pan in PULL at the next epoch boundary (R268) -/
  | panStart
  /-- Runtime command 0x07 releases a pan (R268) -/
  | panStop
  /-- Runtime command 0x08 requests a twin pan for a tracked PRN (R268) -/
  | twin
  /-- Runtime command 0x09 re-baselines integrity, clearing SPOOF_SUSPECT and dropping the anchor (R134) -/
  | intRebase
  /-- Runtime command 0x0A arms a FREE slot from its image, or is refused with a slot refusal code (R175) -/
  | slotArm
  /-- Runtime command 0x0B modifies the selected fields of a slot, subject to ownership and the commit point (R177) -/
  | slotModify
  /-- Runtime command 0x0C cancels a slot, subject to ownership and the commit point (R175) -/
  | slotCancel
  /-- Runtime command 0x0D cancels every slot of a class and client and returns the number cancelled (R175) -/
  | slotCancelClient
  /-- Runtime command 0x0E returns a slot's image and status, subject to visibility (R175) -/
  | slotQuery
  /-- Runtime command 0x0F parks a core for the program window, or resumes it and updates sys.pram_crc (R268) -/
  | progLoad
  /-- Runtime command 0x10 makes SVC request a power state, or withdraw an uncommitted request (R385) -/
  | power
  /-- Runtime command 0x11 hands B5 from SVC to HOST (R268) -/
  | bankLend
  /-- Runtime command 0x12 returns B5 to SVC (R268) -/
  | bankRecall
  /-- Runtime command 0x13 sets the mirrored-pair role, moving B5 and starting or stopping the link and PCU (R442) -/
  | mirRole
  /-- Runtime command 0x14 starts a takeover on a standby (R456) -/
  | mirTakeover
  /-- Runtime command 0x15 continues uncompared or rewrites the delay copies and resumes comparison (R455) -/
  | mirCompare
  /-- Runtime command 0x16 does nothing and completes OK (R268) -/
  | nopCommand
  /-- A command with opcode 0x80-0xFE calls hook 2, or completes with BAD_OPCODE when the hook is disabled (R325) -/
  | customerCommand (o : HookRun)
  /-- Rake checks one word per bank, corrects single-bit errors and poisons words with uncorrectable errors (R287) -/
  | rakeCheck (u : List (Option Upset))
  /-- A non-retained bank finishes clearing to zero after a CORE power-up, and its waiting accesses proceed (R296) -/
  | bankClearEnd (b : Fin 8)
  /-- 40 us after CORE is up on a wake, retained banks grant their first access (R297) -/
  | retainedBankReady
  /-- Copies one working register into another (R333) -/
  | mov (k : CoreId) (c : Cond) (d s : Reg)
  /-- Adds two registers and sets Z, C, N and V (R333) -/
  | add (k : CoreId) (c : Cond) (d s : Reg)
  /-- Adds two registers and the carry (R333) -/
  | adc (k : CoreId) (c : Cond) (d s : Reg)
  /-- Subtracts one register from another (R333) -/
  | sub (k : CoreId) (c : Cond) (d s : Reg)
  /-- Subtracts one register and the borrow from another (R333) -/
  | sbc (k : CoreId) (c : Cond) (d s : Reg)
  /-- Bitwise AND of two registers (R333) -/
  | and (k : CoreId) (c : Cond) (d s : Reg)
  /-- Bitwise OR of two registers (R333) -/
  | or (k : CoreId) (c : Cond) (d s : Reg)
  /-- Bitwise XOR of two registers (R333) -/
  | xor (k : CoreId) (c : Cond) (d s : Reg)
  /-- Compares two registers, setting flags only (R333) -/
  | cmp (k : CoreId) (c : Cond) (d s : Reg)
  /-- Tests the AND of two registers, setting flags only (R333) -/
  | tst (k : CoreId) (c : Cond) (d s : Reg)
  /-- Adds two registers and the carry in packed BCD (R334) -/
  | dadd (k : CoreId) (c : Cond) (d s : Reg)
  /-- Subtracts in packed BCD with borrow (R334) -/
  | dsub (k : CoreId) (c : Cond) (d s : Reg)
  /-- Loads a full 16-bit immediate into a register (R335) -/
  | ldi (k : CoreId) (c : Cond) (d : Reg) (h : BitVec 2) (w2 : BitVec 14)
  /-- Adds a sign-extended immediate (R335) -/
  | addi (k : CoreId) (c : Cond) (d : Reg) (w2 : BitVec 14)
  /-- Subtracts a sign-extended immediate (R335) -/
  | subi (k : CoreId) (c : Cond) (d : Reg) (w2 : BitVec 14)
  /-- ANDs a sign-extended immediate (R335) -/
  | andi (k : CoreId) (c : Cond) (d : Reg) (w2 : BitVec 14)
  /-- ORs a sign-extended immediate (R335) -/
  | ori (k : CoreId) (c : Cond) (d : Reg) (w2 : BitVec 14)
  /-- XORs a sign-extended immediate (R335) -/
  | xori (k : CoreId) (c : Cond) (d : Reg) (w2 : BitVec 14)
  /-- Compares a register with an immediate (R335) -/
  | cmpi (k : CoreId) (c : Cond) (d : Reg) (w2 : BitVec 14)
  /-- Tests a register against an immediate mask (R335) -/
  | tsti (k : CoreId) (c : Cond) (d : Reg) (w2 : BitVec 14)
  /-- Adds a zero-extended immediate and the carry in BCD (R335) -/
  | daddi (k : CoreId) (c : Cond) (d : Reg) (w2 : BitVec 14)
  /-- Loads a word from data memory or the register page, with a load delay, trapping on segment, ownership or poison (R336) -/
  | ld (k : CoreId) (c : Cond) (r : Reg) (m : MemForm) (u : Option Upset)
  /-- Stores a register into data memory or the register page, trapping on segment or ownership (R336) -/
  | st (k : CoreId) (c : Cond) (r : Reg) (m : MemForm)
  /-- Decrements W7 and stores a register on the memory stack (R336) -/
  | push (k : CoreId) (c : Cond) (r : Reg)
  /-- Loads a register from the memory stack and increments W7 (R336) -/
  | pop (k : CoreId) (c : Cond) (r : Reg)
  /-- Shifts a register left into C (R337) -/
  | shl (k : CoreId) (c : Cond) (r : Reg)
  /-- Shifts a register right logically into C (R337) -/
  | shr (k : CoreId) (c : Cond) (r : Reg)
  /-- Shifts a register right arithmetically into C (R337) -/
  | asr (k : CoreId) (c : Cond) (r : Reg)
  /-- Rotates a register left (R337) -/
  | rol (k : CoreId) (c : Cond) (r : Reg)
  /-- Rotates a register right (R337) -/
  | ror (k : CoreId) (c : Cond) (r : Reg)
  /-- Rotates a register left through C (R337) -/
  | rlc (k : CoreId) (c : Cond) (r : Reg)
  /-- Rotates a register right through C (R337) -/
  | rrc (k : CoreId) (c : Cond) (r : Reg)
  /-- Exchanges the bytes of a register (R337) -/
  | swab (k : CoreId) (c : Cond) (r : Reg)
  /-- Complements a register (R337) -/
  | not (k : CoreId) (c : Cond) (r : Reg)
  /-- Negates a register (R337) -/
  | neg (k : CoreId) (c : Cond) (r : Reg)
  /-- Increments a register, leaving C unchanged (R337) -/
  | inc (k : CoreId) (c : Cond) (r : Reg)
  /-- Decrements a register, leaving C unchanged (R337) -/
  | dec (k : CoreId) (c : Cond) (r : Reg)
  /-- Clears a register without changing flags (R337) -/
  | clr (k : CoreId) (c : Cond) (r : Reg)
  /-- Sign-extends the low byte of a register (R337) -/
  | sexb (k : CoreId) (c : Cond) (r : Reg)
  /-- Loads a segment register whole from three working registers, trapping SEG if R307 refuses it (R338) -/
  | sgld (k : CoreId) (c : Cond) (g : Fin 4) (a : Reg)
  /-- Stores a segment register's base and limit into three working registers (R338) -/
  | sgst (k : CoreId) (c : Cond) (g : Fin 4) (a : Reg)
  /-- Moves FL, RSP or IVB into a working register (R338) -/
  | mfs (k : CoreId) (c : Cond) (spec : Fin 4) (r : Reg)
  /-- Moves a working register into FL, RSP or IVB (R338) -/
  | mts (k : CoreId) (c : Cond) (spec : Fin 4) (r : Reg)
  /-- Copies an absolute B-space bit into T (R339) -/
  | btst (k : CoreId) (c : Cond) (w2 : BitVec 14)
  /-- Writes 1 to an absolute B-space bit under its kind (R339) -/
  | bset (k : CoreId) (c : Cond) (w2 : BitVec 14)
  /-- Writes 0 to an absolute B-space bit under its kind (R339) -/
  | bclr (k : CoreId) (c : Cond) (w2 : BitVec 14)
  /-- Writes T to an absolute B-space bit (R339) -/
  | bmov (k : CoreId) (c : Cond) (w2 : BitVec 14)
  /-- Copies the B-space bit addressed by a register into T (R339) -/
  | btstr (k : CoreId) (c : Cond) (r : Reg)
  /-- Writes 1 to the B-space bit addressed by a register (R339) -/
  | bsetr (k : CoreId) (c : Cond) (r : Reg)
  /-- Writes 0 to the B-space bit addressed by a register (R339) -/
  | bclrr (k : CoreId) (c : Cond) (r : Reg)
  /-- Writes T to the B-space bit addressed by a register (R339) -/
  | bmovr (k : CoreId) (c : Cond) (r : Reg)
  /-- Does nothing for 1 hs (R340) -/
  | nop (k : CoreId) (c : Cond)
  /-- Stops fetching, sets the core's wait bit and serves as the core's reply to a power entry attempt (R321) -/
  | wait (k : CoreId) (c : Cond)
  /-- An enabled interrupt above the run level becomes pending and the core leaves WAIT, vectoring if ie is 1 (R321) -/
  | waitResume (k : CoreId)
  /-- Halts the core with an SDP session attached, or takes a BRK trap otherwise (R340) -/
  | brk (k : CoreId) (c : Cond)
  /-- Pops the return stack into PC (R340) -/
  | ret (k : CoreId) (c : Cond)
  /-- Pops the return stack and restores PC, FL, the run level and ie (R340) -/
  | reti (k : CoreId) (c : Cond)
  /-- Pops the CALLM mask and registers from the memory stack and returns (R317) -/
  | retm (k : CoreId) (c : Cond)
  /-- Pops an RS trap frame from the memory stack and restores PC, FL, the run level and ie (R315) -/
  | retf (k : CoreId) (c : Cond)
  /-- Jumps to an absolute program address (R340) -/
  | jmp (k : CoreId) (c : Cond) (target : BitVec 14)
  /-- Pushes the return address on the return stack and jumps (R340) -/
  | call (k : CoreId) (c : Cond) (target : BitVec 14)
  /-- Saves the masked registers on the memory stack, pushes the return address and jumps, atomically (R317) -/
  | callm (k : CoreId) (c : Cond) (mask : BitVec 14) (target : BitVec 14)
  /-- Jumps to the address held in a register (R340) -/
  | jmpr (k : CoreId) (c : Cond) (r : Reg)
  /-- Calls the address held in a register (R340) -/
  | callr (k : CoreId) (c : Cond) (r : Reg)
  /-- Repeats the next instruction r times, interruptible between iterations (R343) -/
  | rpt (k : CoreId) (c : Cond) (r : Reg) (ic : Cond) (body : RepBody) (n : Nat)
  /-- Repeats the next instruction r times without interruption (R343) -/
  | rptu (k : CoreId) (c : Cond) (r : Reg) (ic : Cond) (body : RepBody)
  /-- An undefined encoding or illegal field with a true condition takes an ILL trap (R331) -/
  | illegalInstruction (k : CoreId) (c : Cond)
  /-- An enabled pending interrupt above the run level is taken at an instruction boundary, pushing the return stack and vectoring (R320) -/
  | interruptEntry (k : CoreId)
  /-- CP0 function 0x0001 returns the latest correlator results of a pan and clears its ready bit (R352) -/
  | fetch (k : CoreId) (c : Cond) (t : Fin 4) (r : Reg)
  /-- CP0 function 0x0002 sets a pan's carrier and code rates from its next integration boundary (R352) -/
  | ncoSet (k : CoreId) (c : Cond) (t : Fin 4) (r : Reg)
  /-- CP0 function 0x0003 returns a pan's code and carrier phase (R352) -/
  | phase (k : CoreId) (c : Cond) (t : Fin 4) (r : Reg)
  /-- CP0 function 0x0004 starts a pan at the next 1 ms epoch boundary (R352) -/
  | start (k : CoreId) (c : Cond) (t : Fin 4) (r : Reg)
  /-- CP0 function 0x0005 stops a pan (R352) -/
  | stop (k : CoreId) (c : Cond) (t : Fin 4) (r : Reg)
  /-- CP0 function 0x0006 sets a pan's tap spacings and roaming offsets (R352) -/
  | taps (k : CoreId) (c : Cond) (t : Fin 4) (r : Reg)
  /-- CP0 function 0x0007 sets a pan's integration length from its next bit edge (R352) -/
  | intlen (k : CoreId) (c : Cond) (t : Fin 4) (r : Reg)
  /-- CP1 function 0x0001 runs one Crystallizer cell search and returns its hit result (R353) -/
  | dwell (k : CoreId) (c : Cond) (t : Fin 4) (r : Reg)
  /-- CP1 function 0x0002 returns the result of the latest cell search (R353) -/
  | result (k : CoreId) (c : Cond) (t : Fin 4) (r : Reg)
  /-- CP1 function 0x0003 ends the search in progress with UNAVAIL (R353) -/
  | abort (k : CoreId) (c : Cond) (t : Fin 4) (r : Reg)
  /-- CP2 function 0x0001 multiplies two unsigned 32-bit values (R354) -/
  | mulu (k : CoreId) (c : Cond) (t : Fin 4) (r : Reg)
  /-- CP2 function 0x0002 multiplies two signed 32-bit values (R354) -/
  | muls (k : CoreId) (c : Cond) (t : Fin 4) (r : Reg)
  /-- CP2 function 0x0003 divides unsigned 32-bit values (R354) -/
  | divu (k : CoreId) (c : Cond) (t : Fin 4) (r : Reg)
  /-- CP2 function 0x0004 divides signed 32-bit values (R354) -/
  | divs (k : CoreId) (c : Cond) (t : Fin 4) (r : Reg)
  /-- CP2 function 0x0005 rotates a vector by an angle (R354) -/
  | rot (k : CoreId) (c : Cond) (t : Fin 4) (r : Reg)
  /-- CP2 function 0x0006 returns the angle and magnitude of a vector (R354) -/
  | atan2 (k : CoreId) (c : Cond) (t : Fin 4) (r : Reg)
  /-- CP2 function 0x0007 returns the integer square root (R354) -/
  | sqrt (k : CoreId) (c : Cond) (t : Fin 4) (r : Reg)
  /-- A CPOP to CP3 writes the header into the core's block and queues the operation for the host (R355) -/
  | cp3Operation (k : CoreId) (c : Cond) (t : Fin 4) (r : Reg) (fn : BitVec 14)
  /-- A coprocessor operation completes, freeing its tag and making its status and results available (R349) -/
  | cpOperationComplete (k : CoreId) (t : Fin 4)
  /-- Reads the next result word of a tag, waiting for it, or takes a CP trap (R350) -/
  | cprd (k : CoreId) (c : Cond) (slot : Fin 4) (t : Fin 4) (r : Reg)
  /-- Reads the status of a tag without waiting (R350) -/
  | cpst (k : CoreId) (c : Cond) (slot : Fin 4) (t : Fin 4) (r : Reg)
  /-- Waits for a tag's operation to complete and returns its completion status (R350) -/
  | waitcp (k : CoreId) (c : Cond) (slot : Fin 4) (t : Fin 4) (r : Reg)
  /-- The 200 us VCORE soft start ends; VCORE reaches its target, or the failure rules apply (R368) -/
  | softStartEnd (vOk ilimHeld : Bool)
  /-- Every 1 ms the regulator measures VDDIN and posts SUPPLY notices on crossings of vreg.vin_warn (R371) -/
  | vddinMeasure (mv : Nat)
  /-- ANTSNS reaches 90 % within 2 ms, ANTOUT enters state 2 with the running limit and tries clears (R373) -/
  | antSoftStartPass (ma : Nat)
  /-- ANTOUT current below ant.open_ma for ant.open_ms sets ANT_STAT.open (R376) -/
  | antOpenDetect (ma : Nat)
  /-- ANTOUT current at or above ant.open_ma for ant.open_ms clears ANT_STAT.open (R376) -/
  | antOpenClear (ma : Nat)
  /-- ANTOUT current exceeds ant.ima_hi and one SUPPLY notice is posted (R376) -/
  | antCurrentHigh (ma : Nat)
  /-- A core writes its PWR_MODE request of 2-4 and starts an entry attempt, setting ip_power in the other core (R385) -/
  | pwrModeRequest (k : CoreId) (v : BitVec 3)
  /-- A core that has not replied within pwr.core_lim refuses the attempt (R386) -/
  | coreReplyTimeout (k : CoreId)
  /-- The last delaying block accepts and the attempt commits, entering SLEEP, DEEP SLEEP or OFF (R387) -/
  | entryCommit (delayUs : Nat)
  /-- A wake source ends SLEEP: the fabric restarts, VCORE retargets, cores are released and held data phases complete (R397) -/
  | sleepExit (ms : Nat)
  /-- A wake source ends DEEP SLEEP and the regulator begins a soft start (R398) -/
  | deepSleepExit (ms : Nat)
  /-- After 1,024 good REFIN periods with CORE up, the DTC starts or resumes and both cores start at vector 0 or are held (R470) -/
  | refinStable (gap : Nat) (prescMoved : Bool)
  /-- The mirror-link wake pattern repeated pwr.ml_pat_n times wakes the device when enabled (R396) -/
  | wakePattern (n : Nat)
  /-- A gauge sample ends; charge is counted, Raw and Displayed SOC update, sampling mode and thresholds are evaluated (R423) -/
  | gaugeSample (vbatMv : Nat) (ua : Int)
  /-- In stretched mode the current comparator trips and the gauge returns to normal sampling (R425) -/
  | comparatorTrip (us : Nat)
  /-- An IDLE frame is received carrying the partner's role, time quality, lock, sync, fire count and nonce (R446) -/
  | idleFrame (f : Frame)
  /-- A STATE frame from the primary writes pan or solution state into B5 on the standby (R446) -/
  | stateFrame (f : Frame)
  /-- A WORDS frame writes mirrored bank words on the standby, which may lose to an owner write (R446) -/
  | wordsFrame (f : Frame) (lost : List (BitVec 14))
  /-- A SLOT frame writes a slot image into the standby's Event Scheduler as mirror class (R444) -/
  | slotFrame (f : Frame)
  /-- A TAKE frame sets the handover point H and carries EVOUT levels and pulse ends (R457) -/
  | takeFrame (f : Frame)
  /-- An ACK frame acknowledges a frame by sequence (R446) -/
  | ackFrame (f : Frame)
  /-- A RESEND frame names lost words, and the primary sends their present values within 1 ms (R450) -/
  | resendFrame (f : Frame)
  /-- At the standby's next internal TPOUT edge after link loss, it takes over if no TPCMP edge is seen and auto takeover is enabled (R459) -/
  | linkLossEdgeCheck (seen : Bool)
  /-- The PCU captures a TPCMP edge, forms the offset e and steers delta on a standby (R452) -/
  | tpcmpEdge (delayed capture : Int)
  /-- A core halted under R316 without an SDP session restarts at vector 0 after 10 ms (R483) -/
  | coreRestart (k : CoreId)
  /-- The session key after a break attaches a session and sets sdp_on and sdp_seen (R488) -/
  | sdpSessionAttach (key : Word)
  /-- An SDP read frame reads an item in the named space as debug class and answers DONE, RETRY or ERROR (R489) -/
  | sdpReadFrame (space : BitVec 3) (addr : BitVec 24) (crcOk : Bool)
  /-- An SDP write frame writes an item in the named space as debug class and answers DONE, RETRY or ERROR (R489) -/
  | sdpWriteFrame (space : BitVec 3) (addr : BitVec 24) (data : BitVec 32) (crcOk : Bool)
  /-- D_CTL halt requests a halt of the core (R495) -/
  | sdpHalt (k : CoreId)
  /-- D_CTL resume resumes the halted core (R495) -/
  | sdpResume (k : CoreId)
  /-- D_CTL step executes one instruction or iteration and halts again (R496) -/
  | sdpStep (k : CoreId)
  /-- A requested halt takes effect at the next instruction boundary and DBG_CTRL.halted is set (R495) -/
  | coreHalt (k : CoreId)
  /-- An enabled breakpoint halts the core before the instruction at its address executes (R495) -/
  | breakpointHit (k : CoreId)
  /-- The operation at the head of the CP3 queue rings the CP3 channel with a MSG notice and is in service (R357) -/
  | cp3Serve
  /-- sys.cp3_tmo passes with no accepted answer; the operation completes with TIMEOUT and the next is served (R361) -/
  | cp3Timeout
  /-- 100 ms after a core-rail failure the regulator starts a new soft start (R369) -/
  | coreRailRetry
  /-- A short condition that holds for 50 us after soft start takes CORE down at once (R370) -/
  | coreRailFault
  /-- The VCORE output reaches its last target and VREG_STAT.slewing clears (R365) -/
  | regulatorTargetReached
  /-- ANTSNS has not reached its threshold 2 ms into soft start; ANTOUT switches off and retries or latches off (R374) -/
  | antShort
  /-- ant.retry_s after an ANT_SHORT, tries increments and a new antenna soft start begins (R374) -/
  | antRetry
  /-- ANTOUT current held at the 70 mA limit for ant.ilim_ms declares ANT_SHORT (R375) -/
  | antCurrentLimitExpiry
  /-- ANTOUT becomes wanted or not wanted under ant.mode, starting a soft start or switching off (R372) -/
  | antoutWantedChange
  /-- After pwr.auto_sleep seconds without pans, search or commands, SVC requests SLEEP (R401) -/
  | autoSleepTimeout
  /-- A qualified rising edge on WAKE acts as a wake source, including exit from OFF (R396) -/
  | wakePin
  /-- An edge on MLRX wakes the device from SLEEP when enabled (R396) -/
  | mirrorLinkActivity
  /-- The prescaler wraps and the calendar advances by one second with its carries (R410) -/
  | rtcSecondTick
  /-- VDDIN falls below 2.45 V and BAK moves to VBAK without losing a crystal cycle (R408) -/
  | vbakSwitchOver
  /-- VDDIN rises above 2.55 V and BAK moves back to VDDIN (R408) -/
  | vddinSwitchBack
  /-- VBAK and VDDIN are both absent and the BAK registers take their reset values (R228) -/
  | bakReset
  /-- Once per second SVC updates soc_sd and applies rest correction and full detection (R430) -/
  | gaugeSecondTasks
  /-- The device sends a Hexile frame at least every 4 us, mirroring content or IDLE (R445) -/
  | frameSend
  /-- No valid frame for mir.loss_us clears link_ok and posts a MIRROR notice (R447) -/
  | linkLoss
  /-- At S the standby drives the shared pins, the primary releases them 4 ns later and the roles swap (R457) -/
  | takeoverSwitch
  /-- VDDIN above 2.55 V for 1 ms starts AON, loads fuses and calibration and resets AON values (R467) -/
  | vddinPowerOn
  /-- VDDIN below 2.40 V for 10 us resets AON (R520) -/
  | aonReset
  /-- RST_N recognised low takes CORE down and the bus is ignored (R471) -/
  | rstNAssert
  /-- The release of RST_N starts a CORE power-up (R469) -/
  | rstNRelease
  /-- REFIN lost while running drops to L0, takes CORE down and starts a CORE power-up that waits for REFIN (R482) -/
  | refinLoss
  /-- A run of SDIO low ends any SDP session (R488) -/
  | sdpBreak
  /-- An SDP read of D_ERR returns the latest error cause and space and clears the word (R494) -/
  | dErrRead
  /-- A write to D_SESS ends the session as a break does (R494) -/
  | sdpDetach
  /-- A host read of PRG_DATA returns the program word at PRG_ADDR and advances the address when auto_inc is 1 (R213) -/
  | programWindowRead
  /-- A host read of a direct register captures bits 31:16 in the class's holding word on a lower-word read, and an upper-word read of SYS_TIMEQ disarms the class's time latch (R202) -/
  | registerRead
  /-- After MIR_ROLE 2 the device's shared-net outputs enter high impedance at the next lattice point (R442) -/
  | standbyOutputRelease
  /-- After a takeover on link loss, the new primary starts driving its WCS and EVOUT pins at the next lattice point (R459) -/
  | takeoverWcsDrive
  /-- On the standby, mir.stat.sync clears when a full mirroring pass does not complete within mir.sync_ms (R448) -/
  | mirrorSyncLoss
deriving DecidableEq, Repr

end Sys2Proof
end

