-- ==== Sys2Proof/Decode.lean ====
section
/-! DEFINITION. The decoder over the table's bits. spec/opcode_table.json gives bits for none of its rows: the block's
commands are bus phases, events and steps, not words of one format, so no word spells a command (log entry 12). -/

namespace Sys2Proof

/-- The command that a word spells by the table's bits: the table gives bits for no row. -/
def decodeTableWord (_nbits _w : Nat) : Option Instr := none

end Sys2Proof
end

