-- ==== Sys2Proof/Config.lean ====
section
/-! DEFINITION. What the spec leaves open: constants without a body, so that nothing can be proved of their values.
Each is applied to the model's counter `State.free` or to the operands it depends on (log entry 9). -/

namespace Sys2Proof

/-- The ROM image of a core (core number, address): no file of the spec gives its contents. -/
opaque Config.romWord : Nat → Nat → BitVec 14

/-- What the notches and the requantiser make of a sample (spec/03 R75-R77): the spec gives the filters' centres and
widths, not their coefficients. Applied to the counter, the path (0 A, 1 B) and the sample's values on both paths. -/
opaque Config.notchOut : Nat → Nat → Int → Int → BitVec 4

/-- The computed group delay, in ticks, of an engaged notch at the signal centre (spec/03 R78), of sample mode, frequency
code and width code: the spec states no formula. -/
opaque Config.notchDelay : Nat → BitVec 16 → Nat → Int

/-- Whether a value that the spec gives in whole units without a rounding rule is the next unit up (log entry 67): of the
place it arises and of the value rounded down. -/
opaque Config.roundUp : Nat → Int → Bool

/-- Whether the gauge adds its offset trims before the gain rather than after it (spec/18 R439): the spec gives both and not
their order. -/
opaque Config.offsetFirst : Bool

/-- The detection level, in 0.1 dB, for a false-hit probability of 10^-3 at an acq.ncoh (spec/04 R91): computed by the
Runtime from noise-only statistics. -/
opaque Config.noiseThr : Nat → Nat

/-- How far the interpolated peak lies from its cell, from the power of the cell below, of the peak and of the cell above
(spec/04 R94): 1/32 chip for the code, Hz for the Doppler. The spec gives no formula. -/
opaque Config.interpolate : Nat → Nat → Nat → Int

/-- The estimated C/N0 of a hit in 0.1 dB-Hz (spec/04 R94), from the peak, the sum of the other cells, their number, and
the milliseconds searched. -/
opaque Config.hitCn0 : Nat → Nat → Nat → Nat → Nat

/-- 0.1 dB of a ratio whose denominator is 0 (spec/04 R91, R94, R109), from its numerator. -/
opaque Config.dbInfinite : Nat → Nat

/-- PLI in hundredths over a window in which P was zero throughout (spec/04 R110). -/
opaque Config.pliZero : Int

/-- The two-quadrant arctangent of Q/I (spec/04 R108), from Q and I: the spec gives no unit. -/
opaque Config.arctan : Int → Int → Int

/-- The carrier rate (0) or code rate (1) that a pan's loops give (spec/04 R107, R108), from the settings of the loop, the
discriminators and the present rate: the spec gives bandwidths and orders, not the filters. -/
opaque Config.loopRate : Nat → List Int → List Int → BitVec 32 → BitVec 32

/-- A residual normalised by the weight of its measurement (spec/05 R126, R130), from C/N0, the URA index and the residual:
the spec gives no weights. -/
opaque Config.normResid : Nat → Nat → Int → Nat

/-- How many Brine entries a consumer reads in one REFIN period (spec/03 R75; the fabric is self-timed), of the counter
and the consumer. -/
opaque Config.brineDrain : Nat → Nat → Nat

/-- RTC_HALT.presc so many DTC counts after it was 0 (spec/17 R410): the crystal is not tied to REFIN. -/
opaque Config.prescaler : Nat → BitVec 15

/-- The random nonce of a role change (spec/19 R443). -/
opaque Config.nonce : Nat → BitVec 16

/-- The measured open-circuit figures and other analogue readings that a command does not carry. -/
opaque Config.analogue : Nat → Nat

/-- A word computed by a unit whose rounding the spec does not state (spec/14 R354). -/
opaque Config.unitWord : Nat → BitVec 16

/-- The banks whose port holds accepted accesses of the old owner when a handover commits (spec/11 R282; the fabric is
self-timed). -/
opaque Config.portBusy : Nat → BitVec 8

/-- Which structure of the Runtime holds a word of B0-B4, by linear word number (spec/11 R293, spec/12 R324): the spec
gives the areas, not their layout. 0-31 is the state of that pan, 32-63 the ephemeris of that PRN less 31, 64-95 the almanac of that
satellite less 63, 96 the UTC data, 97 the ionosphere data, 98 the held position, 99 SVC's integrity state, anything else
another structure. -/
opaque Config.holder : Nat → Nat

/-- Word `i` of what the CORDIC unit gives for a function, its operands and no more (spec/14 R354): the spec states
neither its precision nor its rounding. -/
opaque Config.cordic : Nat → BitVec 16 → BitVec 16 → BitVec 16 → Nat → BitVec 16

/-- What a LOAD gives the target of cal word 0x12 + `i` when the word is outside the target's range (spec/21 R501): the
spec states no value. -/
opaque Config.calUnfit : Nat → BitVec 16 → Nat

end Sys2Proof
end

