-- ==== Sys2Proof/Machine/Params.lean ====
section
/-! DEFINITION. The parameters (spec/09 R231-R233 and the parameter tables of the other chapters): keys, rows and
reset values. Values are carried as spec/08 R212 says. -/

namespace Sys2Proof.Machine

/-- The access code of a parameter (spec/00). -/
inductive Acc where
  | ro | rw | rwx | w1c
deriving DecidableEq, Repr

/-- One parameter row: index in its page, width, access, range and reset value, all as carried. -/
structure PRow where
  idx    : Nat
  width  : Nat
  acc    : Acc
  lo     : Int
  hi     : Int
  signed : Bool
  reset  : Int
deriving DecidableEq, Repr

/-- The rows of the sys page (spec/01 R40, spec/09 R233). -/
def rowsSys : List PRow :=
  [⟨0x00, 1, .rw, 0, 1, false, 0⟩,
   ⟨0x01, 2, .rwx, 0, 3, false, 0⟩,
   ⟨0x02, 16, .rwx, 1, 65535, false, 1000⟩,
   ⟨0x03, 6, .rwx, 0, 63, false, 33⟩,
   ⟨0x04, 8, .rwx, 0, 255, false, 16⟩,
   ⟨0x05, 2, .rw, 0, 3, false, 3⟩,
   ⟨0x06, 16, .rw, 0, 65535, false, 0⟩,
   ⟨0x07, 16, .rw, 0, 65535, false, 0⟩,
   ⟨0x08, 16, .rw, 0, 65535, false, 0⟩,
   ⟨0x09, 16, .rw, 0, 65535, false, 0⟩,
   ⟨0x0A, 32, .ro, 0, 4294967295, false, 0⟩,
   ⟨0x0B, 16, .ro, 0, 65535, false, 0⟩,
   ⟨0x0C, 16, .ro, 0, 65535, false, 0⟩,
   ⟨0x0D, 16, .ro, 0, 65535, false, 0⟩,
   ⟨0x20, 16, .rwx, 1, 65535, false, 1000⟩,
   ⟨0x21, 16, .rwx, 1, 1000, false, 100⟩,
   ⟨0x22, 16, .rwx, 1, 1000, false, 100⟩,
   ⟨0x23, 8, .rwx, 1, 255, false, 15⟩,
   ⟨0x24, 8, .rwx, 1, 255, false, 25⟩,
   ⟨0x25, 8, .rwx, 1, 255, false, 10⟩] ++
  [⟨0x26, 16, .rwx, 100, 60000, false, 3000⟩,
   ⟨0x27, 16, .rwx, 1, 65535, false, 50⟩,
   ⟨0x28, 16, .rwx, 1, 65535, false, 10⟩,
   ⟨0x29, 16, .rwx, 1, 65535, false, 200⟩,
   ⟨0x2A, 8, .rwx, 1, 255, false, 5⟩,
   ⟨0x2B, 16, .rwx, 0, 65535, false, 2356⟩,
   ⟨0x2C, 8, .rwx, 0, 255, false, 18⟩]

/-- The rows of the smp page (spec/03 R86). -/
def rowsSmp : List PRow :=
  [⟨0x00, 2, .rw, 0, 2, false, 0⟩,
   ⟨0x01, 1, .rw, 0, 1, false, 0⟩,
   ⟨0x02, 1, .rwx, 0, 1, false, 0⟩,
   ⟨0x03, 1, .rwx, 0, 1, false, 1⟩,
   ⟨0x04, 1, .rw, 0, 1, false, 0⟩,
   ⟨0x05, 2, .rwx, 0, 2, false, 0⟩,
   ⟨0x06, 8, .rwx, 0, 255, false, 2⟩,
   ⟨0x07, 8, .rwx, 1, 255, false, 4⟩,
   ⟨0x08, 10, .rwx, 1, 1023, false, 335⟩,
   ⟨0x09, 8, .rwx, 0, 255, false, 16⟩,
   ⟨0x0A, 8, .rwx, 0, 255, false, 16⟩,
   ⟨0x0B, 4, .rwx, 0, 10, false, 6⟩,
   ⟨0x0C, 8, .rwx, 1, 254, false, 64⟩,
   ⟨0x0D, 8, .rwx, 2, 255, false, 160⟩,
   ⟨0x0E, 8, .rwx, 0, 63, false, 16⟩,
   ⟨0x10, 2, .rwx, 0, 2, false, 2⟩,
   ⟨0x11, 2, .rwx, 0, 2, false, 2⟩,
   ⟨0x12, 2, .rwx, 0, 2, false, 2⟩,
   ⟨0x13, 2, .rwx, 0, 2, false, 2⟩,
   ⟨0x14, 16, .rwx, 0, 65535, false, 0⟩] ++
  [⟨0x15, 16, .rwx, 0, 65535, false, 0⟩,
   ⟨0x16, 16, .rwx, 0, 65535, false, 0⟩,
   ⟨0x17, 16, .rwx, 0, 65535, false, 0⟩,
   ⟨0x18, 2, .rwx, 0, 3, false, 1⟩,
   ⟨0x19, 2, .rwx, 0, 3, false, 1⟩,
   ⟨0x1A, 2, .rwx, 0, 3, false, 1⟩,
   ⟨0x1B, 2, .rwx, 0, 3, false, 1⟩,
   ⟨0x1C, 8, .rwx, 1, 40, false, 6⟩,
   ⟨0x1D, 8, .rwx, 0, 39, false, 3⟩,
   ⟨0x1E, 8, .rwx, 0, 255, false, 128⟩,
   ⟨0x20, 32, .ro, 0, 4294967295, false, 0⟩,
   ⟨0x21, 32, .ro, 0, 4294967295, false, 0⟩,
   ⟨0x22, 32, .ro, 0, 4294967295, false, 0⟩,
   ⟨0x23, 32, .ro, 0, 4294967295, false, 0⟩,
   ⟨0x24, 16, .ro, 0, 65535, false, 0⟩,
   ⟨0x25, 16, .ro, 0, 65535, false, 0⟩]

/-- The rows of the ntc page (spec/10 R275). -/
def rowsNtc : List PRow :=
  [⟨0x80, 3, .rw, 0, 7, false, 6⟩,
   ⟨0x81, 4, .rw, 0, 8, false, 8⟩,
   ⟨0x82, 4, .rw, 0, 8, false, 7⟩,
   ⟨0x83, 1, .rwx, 0, 1, false, 0⟩,
   ⟨0x84, 1, .rw, 0, 1, false, 0⟩,
   ⟨0x85, 4, .rw, 0, 15, false, 0⟩,
   ⟨0x86, 4, .rw, 0, 15, false, 0⟩,
   ⟨0x87, 9, .ro, 0, 256, false, 0⟩,
   ⟨0x88, 10, .ro, 0, 512, false, 0⟩,
   ⟨0x89, 32, .ro, 0, 4294967295, false, 0⟩,
   ⟨0x8A, 7, .ro, 0, 127, false, 0⟩,
   ⟨0x8B, 7, .rw, 0, 127, false, 0⟩,
   ⟨0x8C, 11, .ro, 0, 2047, false, 0⟩,
   ⟨0x8D, 11, .rw, 0, 2047, false, 0⟩,
   ⟨0x8E, 32, .w1c, 0, 4294967295, false, 0⟩,
   ⟨0x8F, 32, .w1c, 0, 4294967295, false, 0⟩]

/-- The rows of the acq page (spec/04 R121). -/
def rowsAcq : List PRow :=
  [⟨0x00, 2, .rwx, 0, 2, false, 0⟩,
   ⟨0x01, 4, .rwx, 1, 10, false, 1⟩,
   ⟨0x02, 7, .rwx, 1, 64, false, 4⟩,
   ⟨0x03, 8, .rwx, 0, 250, false, 0⟩,
   ⟨0x04, 2, .rwx, 0, 3, false, 1⟩,
   ⟨0x05, 16, .rwx, 100, 20000, false, 8000⟩,
   ⟨0x06, 16, .rwx, 50, 5000, false, 500⟩,
   ⟨0x07, 32, .rwx, 0, 4294967295, false, 4294967295⟩,
   ⟨0x08, 1, .rw, 0, 1, false, 0⟩,
   ⟨0x09, 8, .rwx, 0, 40, false, 20⟩,
   ⟨0x0A, 16, .rwx, 100, 10000, false, 2000⟩,
   ⟨0x0B, 16, .ro, 0, 65535, false, 0⟩,
   ⟨0x0C, 16, .ro, 0, 65535, false, 0⟩]

/-- The rows of the trk page (spec/04 R122). -/
def rowsTrk : List PRow :=
  [⟨0x00, 32, .rwx, 0, 4294967295, false, 4294967295⟩,
   ⟨0x01, 5, .rwx, 1, 16, false, 8⟩,
   ⟨0x02, 6, .rwx, 2, 32, false, 24⟩,
   ⟨0x03, 5, .rwx, 1, 16, false, 4⟩,
   ⟨0x04, 2, .rwx, 0, 2, false, 2⟩,
   ⟨0x05, 2, .rwx, 0, 2, false, 1⟩,
   ⟨0x06, 7, .rwx, (-48), 48, true, 0⟩,
   ⟨0x07, 7, .rwx, (-48), 48, true, (-24)⟩,
   ⟨0x08, 6, .rwx, 2, 48, false, 24⟩,
   ⟨0x09, 4, .rwx, 1, 8, false, 2⟩,
   ⟨0x0A, 5, .rwx, 1, 20, false, 20⟩,
   ⟨0x0B, 8, .rwx, 5, 255, false, 100⟩,
   ⟨0x0C, 8, .rwx, 5, 255, false, 40⟩,
   ⟨0x0D, 6, .rwx, 1, 50, false, 15⟩,
   ⟨0x0E, 2, .rwx, 2, 3, false, 3⟩,
   ⟨0x0F, 7, .rwx, 1, 100, false, 20⟩,
   ⟨0x10, 16, .rwx, 50, 5000, false, 200⟩,
   ⟨0x11, 6, .rwx, 10, 50, false, 18⟩,
   ⟨0x12, 6, .rwx, 5, 45, false, 9⟩,
   ⟨0x13, 16, .rwx, 100, 10000, false, 1000⟩] ++
  [⟨0x14, 7, .rwx, 50, 99, false, 70⟩,
   ⟨0x15, 16, .rwx, 20, 2000, false, 100⟩,
   ⟨0x16, 16, .rwx, 100, 10000, false, 1000⟩,
   ⟨0x17, 16, .rwx, 200, 10000, false, 1000⟩,
   ⟨0x18, 6, .rwx, 0, 60, false, 10⟩,
   ⟨0x19, 4, .rwx, 1, 10, false, 2⟩,
   ⟨0x1A, 13, .rwx, 50, 5000, false, 250⟩,
   ⟨0x1B, 6, .rwx, 33, 63, false, 63⟩,
   ⟨0x1C, 16, .ro, 0, 65535, false, 0⟩]

/-- The rows of the msr page (spec/05 R143). -/
def rowsMsr : List PRow :=
  [⟨0x00, 2, .rwx, 0, 3, false, 0⟩,
   ⟨0x01, 2, .rwx, 0, 2, false, 0⟩,
   ⟨0x02, 7, .rwx, 0, 90, false, 10⟩,
   ⟨0x03, 6, .rwx, 0, 50, false, 25⟩,
   ⟨0x04, 16, .rwx, 0, 65535, false, 0⟩,
   ⟨0x05, 16, .rwx, 1, 10000, false, 100⟩,
   ⟨0x06, 1, .rwx, 0, 1, false, 0⟩,
   ⟨0x07, 1, .rwx, 0, 1, false, 1⟩,
   ⟨0x08, 1, .rwx, 0, 1, false, 1⟩]

/-- The rows of the int page (spec/05 R144). -/
def rowsInt : List PRow :=
  [⟨0x00, 16, .rwx, 1, 1000, false, 30⟩,
   ⟨0x01, 1, .rwx, 0, 1, false, 1⟩,
   ⟨0x02, 6, .rwx, 4, 32, false, 5⟩,
   ⟨0x03, 8, .rwx, 1, 255, false, 15⟩,
   ⟨0x04, 6, .rwx, 30, 60, false, 47⟩,
   ⟨0x05, 8, .rwx, 1, 255, false, 10⟩,
   ⟨0x06, 8, .rwx, 1, 255, false, 15⟩,
   ⟨0x07, 8, .rwx, 1, 255, false, 20⟩,
   ⟨0x08, 4, .rwx, 1, 15, false, 3⟩,
   ⟨0x09, 1, .rwx, 0, 1, false, 1⟩,
   ⟨0x0A, 4, .rwx, 1, 15, false, 4⟩,
   ⟨0x0B, 16, .rwx, 10, 65535, false, 50⟩,
   ⟨0x0C, 16, .rwx, 1, 65535, false, 20⟩,
   ⟨0x0D, 16, .rwx, 1, 3600, false, 60⟩,
   ⟨0x0E, 4, .rwx, 1, 15, false, 3⟩,
   ⟨0x0F, 16, .rwx, 1, 3600, false, 30⟩,
   ⟨0x10, 16, .ro, 0, 65535, false, 0⟩,
   ⟨0x11, 16, .ro, 0, 65535, false, 0⟩,
   ⟨0x12, 16, .ro, 0, 65535, false, 0⟩,
   ⟨0x13, 16, .ro, 0, 65535, false, 0⟩]

/-- The rows of the tp page (spec/06 R170). -/
def rowsTp : List PRow :=
  [⟨0x00, 3, .rwx, 0, 5, false, 0⟩,
   ⟨0x01, 20, .rwx, 1, 500000, false, 100000⟩,
   ⟨0x02, 1, .rwx, 0, 1, false, 0⟩,
   ⟨0x03, 6, .rwx, 0, 63, false, 56⟩,
   ⟨0x04, 16, .rwx, 0, 65535, false, 0⟩,
   ⟨0x05, 16, .rwx, 0, 65535, false, 0⟩,
   ⟨0x06, 32, .rwx, (-499999999), 499999999, true, 0⟩,
   ⟨0x07, 1, .rwx, 0, 1, false, 1⟩]

/-- The rows of the wcs page (spec/06 R171). -/
def rowsWcs : List PRow :=
  [⟨0x00, 8, .rwx, 1, 255, false, 4⟩,
   ⟨0x01, 8, .rwx, 1, 200, false, 50⟩,
   ⟨0x02, 8, .rwx, 1, 255, false, 10⟩,
   ⟨0x03, 16, .rwx, 0, 65535, false, 0⟩,
   ⟨0x04, 8, .rwx, 1, 128, false, 1⟩,
   ⟨0x05, 1, .rwx, 0, 1, false, 1⟩,
   ⟨0x06, 1, .rwx, 0, 1, false, 0⟩]

/-- The rows of the evs page (spec/07 R191). -/
def rowsEvs : List PRow :=
  [⟨0x00, 11, .rwx, 0, 1024, false, 768⟩,
   ⟨0x01, 1, .rwx, 0, 1, false, 0⟩,
   ⟨0x02, 4, .rwx, 0, 15, false, 0⟩,
   ⟨0x03, 1, .rwx, 0, 1, false, 1⟩,
   ⟨0x04, 1, .rwx, 0, 1, false, 0⟩,
   ⟨0x05, 1, .rwx, 0, 1, false, 0⟩,
   ⟨0x06, 1, .rwx, 0, 1, false, 0⟩,
   ⟨0x07, 1, .rwx, 0, 1, false, 0⟩,
   ⟨0x08, 2, .rwx, 0, 3, false, 0⟩,
   ⟨0x09, 2, .rwx, 0, 3, false, 0⟩,
   ⟨0x0A, 10, .rwx, 0, 1023, false, 0⟩,
   ⟨0x0B, 10, .rwx, 0, 1023, false, 0⟩]

/-- The rows of the pwr page (spec/16 R407, spec/02 R66). -/
def rowsPwr : List PRow :=
  [⟨0x00, 8, .rwx, 1, 255, false, 50⟩,
   ⟨0x01, 8, .rwx, 0, 255, false, 2⟩,
   ⟨0x02, 9, .rwx, 0, 511, false, 510⟩,
   ⟨0x03, 7, .rwx, 0, 90, false, 10⟩,
   ⟨0x04, 4, .rwx, 4, 15, false, 4⟩,
   ⟨0x05, 16, .rwx, 0, 65535, false, 0⟩,
   ⟨0x06, 16, .ro, 0, 65535, false, 0⟩,
   ⟨0x07, 16, .ro, 0, 65535, false, 0⟩,
   ⟨0x08, 8, .rwx, 0, 255, false, 27⟩,
   ⟨0x09, 16, .ro, 0, 65535, false, 0⟩,
   ⟨0x0A, 1, .rwx, 0, 1, false, 0⟩,
   ⟨0x0B, 32, .ro, 0, 4294967295, false, 0⟩,
   ⟨0x0C, 16, .ro, 0, 65535, false, 0⟩,
   ⟨0x0D, 16, .ro, 0, 65535, false, 0⟩,
   ⟨0x0E, 1, .rwx, 0, 1, false, 1⟩,
   ⟨0x0F, 16, .ro, 0, 65535, false, 0⟩,
   ⟨0x10, 1, .rwx, 0, 1, false, 1⟩,
   ⟨0x11, 13, .rwx, 64, 4032, false, 2048⟩,
   ⟨0x12, 13, .rwx, 0, 4031, false, 512⟩,
   ⟨0x13, 8, .rwx, 1, 20, false, 2⟩] ++
  [⟨0x14, 8, .rwx, 1, 255, false, 16⟩,
   ⟨0x15, 8, .rwx, 1, 255, false, 8⟩,
   ⟨0x16, 13, .rwx, 1024, 4095, false, 3584⟩,
   ⟨0x17, 6, .rwx, 1, 32, false, 4⟩,
   ⟨0x18, 16, .rwx, 16, 65535, false, 256⟩,
   ⟨0x19, 8, .rwx, 0, 51, false, 6⟩,
   ⟨0x1A, 16, .rwx, 1, 65535, false, 1000⟩,
   ⟨0x1B, 4, .rwx, 0, 8, false, 8⟩]

/-- The rows of the vreg page (spec/15 R381). -/
def rowsVreg : List PRow :=
  [⟨0x00, 7, .rwx, 0, 90, false, 10⟩,
   ⟨0x01, 7, .rwx, 0, 90, false, 80⟩,
   ⟨0x02, 7, .rwx, 0, 90, false, 40⟩,
   ⟨0x03, 5, .rwx, (-16), 15, true, 0⟩,
   ⟨0x04, 4, .rwx, 4, 16, false, 12⟩,
   ⟨0x05, 1, .rwx, 0, 1, false, 0⟩,
   ⟨0x06, 1, .rwx, 0, 1, false, 0⟩,
   ⟨0x07, 16, .ro, 0, 65535, false, 0⟩,
   ⟨0x08, 7, .rwx, 54, 110, false, 60⟩,
   ⟨0x09, 16, .ro, 0, 6000, false, 0⟩]

/-- The rows of the ant page (spec/15 R382). -/
def rowsAnt : List PRow :=
  [⟨0x00, 2, .rwx, 0, 2, false, 1⟩,
   ⟨0x01, 1, .rwx, 0, 1, false, 0⟩,
   ⟨0x02, 4, .rwx, 0, 15, false, 3⟩,
   ⟨0x03, 6, .rwx, 1, 60, false, 1⟩,
   ⟨0x04, 5, .rwx, 1, 20, false, 2⟩,
   ⟨0x05, 10, .rwx, 1, 1000, false, 100⟩,
   ⟨0x06, 8, .rwx, 1, 255, false, 10⟩,
   ⟨0x07, 8, .rwx, (-128), 127, true, 0⟩,
   ⟨0x08, 7, .rwx, 1, 70, false, 50⟩,
   ⟨0x09, 16, .ro, 0, 65535, false, 0⟩,
   ⟨0x0A, 16, .ro, 0, 65535, false, 0⟩,
   ⟨0x0B, 1, .rwx, 0, 1, false, 1⟩]

/-- The rows of the gau page (spec/18 R439). -/
def rowsGau : List PRow :=
  [⟨0x00, 1, .rwx, 0, 1, false, 1⟩,
   ⟨0x01, 2, .rwx, 0, 3, false, 0⟩,
   ⟨0x02, 13, .rwx, 1000, 5000, false, 1000⟩,
   ⟨0x03, 16, .rwx, 100, 65535, false, 2000⟩,
   ⟨0x04, 12, .rwx, 2500, 4000, false, 3000⟩,
   ⟨0x05, 13, .rwx, 3800, 4500, false, 4150⟩,
   ⟨0x06, 10, .rwx, 1, 1000, false, 100⟩,
   ⟨0x07, 8, .rwx, 1, 255, false, 60⟩,
   ⟨0x08, 12, .rwx, 60, 4095, false, 1800⟩,
   ⟨0x09, 10, .rwx, 1, 1000, false, 150⟩,
   ⟨0x0A, 8, .rwx, 1, 255, false, 5⟩,
   ⟨0x0B, 8, .rwx, 1, 255, false, 20⟩,
   ⟨0x0C, 6, .rwx, 1, 63, false, 5⟩,
   ⟨0x0D, 6, .rwx, 1, 63, false, 8⟩,
   ⟨0x0E, 4, .rwx, 1, 15, false, 3⟩,
   ⟨0x0F, 14, .rwx, 0, 10000, false, 1000⟩,
   ⟨0x10, 13, .rwx, 2500, 4600, false, 3000⟩,
   ⟨0x11, 13, .rwx, 2500, 4600, false, 3450⟩,
   ⟨0x12, 13, .rwx, 2500, 4600, false, 3580⟩,
   ⟨0x13, 13, .rwx, 2500, 4600, false, 3650⟩] ++
  [⟨0x14, 13, .rwx, 2500, 4600, false, 3700⟩,
   ⟨0x15, 13, .rwx, 2500, 4600, false, 3750⟩,
   ⟨0x16, 13, .rwx, 2500, 4600, false, 3800⟩,
   ⟨0x17, 13, .rwx, 2500, 4600, false, 3870⟩,
   ⟨0x18, 13, .rwx, 2500, 4600, false, 3950⟩,
   ⟨0x19, 13, .rwx, 2500, 4600, false, 4050⟩,
   ⟨0x1A, 13, .rwx, 2500, 4600, false, 4180⟩,
   ⟨0x1B, 13, .rwx, 0, 4600, false, 0⟩,
   ⟨0x1C, 14, .rwx, 0, 10000, false, 0⟩,
   ⟨0x1D, 4, .rwx, 0, 15, false, 0⟩,
   ⟨0x1E, 4, .w1c, 0, 15, false, 0⟩,
   ⟨0x1F, 5, .ro, 0, 31, false, 0⟩,
   ⟨0x20, 16, .ro, 0, 65535, false, 0⟩,
   ⟨0x21, 16, .ro, (-10000), 10000, true, 0⟩,
   ⟨0x22, 20, .ro, 0, 1048575, false, 0⟩,
   ⟨0x23, 14, .ro, 0, 5000, false, 0⟩,
   ⟨0x24, 16, .rwx, (-32768), 32767, true, 0⟩,
   ⟨0x25, 10, .rwx, (-512), 511, true, 0⟩,
   ⟨0x26, 16, .rwx, (-32768), 32767, true, 0⟩,
   ⟨0x27, 8, .rwx, (-128), 127, true, 0⟩]

/-- The rows of the mir page (spec/19 R466). -/
def rowsMir : List PRow :=
  [⟨0x00, 16, .rwx, 0, 65535, false, 0⟩,
   ⟨0x01, 16, .rwx, 0, 65535, false, 0⟩,
   ⟨0x02, 8, .rwx, 5, 255, false, 8⟩,
   ⟨0x03, 14, .rwx, 100, 10000, false, 500⟩,
   ⟨0x04, 3, .rwx, 0, 7, false, 3⟩,
   ⟨0x05, 8, .rwx, 1, 255, false, 5⟩,
   ⟨0x06, 16, .rwx, 10, 65535, false, 200⟩,
   ⟨0x07, 4, .rwx, 1, 15, false, 3⟩,
   ⟨0x08, 4, .rwx, 1, 15, false, 2⟩,
   ⟨0x09, 14, .rwx, 10, 10000, false, 500⟩,
   ⟨0x0A, 14, .rwx, 100, 10000, false, 1000⟩,
   ⟨0x0B, 7, .rwx, 1, 100, false, 10⟩,
   ⟨0x0C, 4, .rwx, 4, 15, false, 4⟩,
   ⟨0x0D, 16, .ro, 0, 65535, false, 0⟩,
   ⟨0x0E, 32, .ro, (-2147483648), 2147483647, true, 0⟩,
   ⟨0x0F, 16, .ro, (-32768), 32767, true, 0⟩,
   ⟨0x10, 16, .ro, 0, 65535, false, 0⟩,
   ⟨0x11, 16, .ro, 0, 65535, false, 0⟩,
   ⟨0x12, 16, .ro, 0, 65535, false, 0⟩]

/-- The rows of the cal page (spec/21 R498). -/
def rowsCal : List PRow :=
  [⟨0x00, 16, .rwx, 1, 1, false, 1⟩,
   ⟨0x01, 16, .rwx, 0, 65535, false, 0⟩,
   ⟨0x02, 16, .rwx, (-100), 100, true, 0⟩,
   ⟨0x03, 16, .rwx, (-100), 100, true, 0⟩,
   ⟨0x04, 16, .rwx, (-100), 100, true, 0⟩,
   ⟨0x05, 16, .rwx, (-100), 100, true, 0⟩,
   ⟨0x06, 16, .rwx, (-2000), 2000, true, 0⟩,
   ⟨0x07, 16, .rwx, (-2000), 2000, true, 0⟩,
   ⟨0x08, 16, .rwx, (-2000), 2000, true, 0⟩,
   ⟨0x09, 16, .rwx, (-2000), 2000, true, 0⟩,
   ⟨0x0A, 16, .rwx, (-2000), 2000, true, 0⟩,
   ⟨0x0B, 16, .rwx, (-2000), 2000, true, 0⟩,
   ⟨0x0C, 16, .rwx, (-2000), 2000, true, 0⟩,
   ⟨0x0D, 16, .rwx, (-2000), 2000, true, 0⟩,
   ⟨0x0E, 16, .rwx, (-2000), 2000, true, 0⟩,
   ⟨0x0F, 16, .rwx, (-2000), 2000, true, 0⟩,
   ⟨0x10, 16, .rwx, (-2000), 2000, true, 0⟩,
   ⟨0x11, 16, .rwx, (-1000), 1000, true, 0⟩,
   ⟨0x12, 16, .rwx, (-16), 15, true, 0⟩,
   ⟨0x13, 16, .rwx, (-128), 127, true, 0⟩] ++
  [⟨0x14, 16, .rwx, (-32768), 32767, true, 0⟩,
   ⟨0x15, 16, .rwx, (-512), 511, true, 0⟩,
   ⟨0x16, 16, .rwx, (-32768), 32767, true, 0⟩,
   ⟨0x17, 16, .rwx, (-128), 127, true, 0⟩,
   ⟨0x18, 16, .rwx, 0, 255, false, 128⟩,
   ⟨0x19, 16, .rwx, 1, 65535, false, 200⟩,
   ⟨0x1A, 16, .rwx, 0, 65535, false, 0⟩,
   ⟨0x1B, 16, .rwx, 0, 65535, false, 0⟩,
   ⟨0x1C, 16, .rwx, 0, 65535, false, 0⟩,
   ⟨0x1D, 16, .rwx, 0, 65535, false, 0⟩,
   ⟨0x1E, 16, .rwx, 0, 65535, false, 0⟩,
   ⟨0x1F, 16, .rwx, 0, 65535, false, 0⟩,
   ⟨0x20, 16, .rwx, 0, 65535, false, 0⟩,
   ⟨0x21, 16, .rwx, 0, 65535, false, 0⟩,
   ⟨0x22, 16, .rwx, 0, 65535, false, 0⟩,
   ⟨0x23, 16, .rwx, 0, 65535, false, 0⟩,
   ⟨0x24, 16, .rwx, 0, 65535, false, 0⟩,
   ⟨0x25, 16, .rwx, 0, 65535, false, 0⟩,
   ⟨0x26, 16, .rwx, 0, 65535, false, 0⟩,
   ⟨0x27, 16, .rwx, 0, 65535, false, 0⟩] ++
  [⟨0x28, 16, .rwx, 0, 65535, false, 0⟩,
   ⟨0x29, 16, .rwx, 0, 65535, false, 0⟩,
   ⟨0x2A, 16, .rwx, 0, 65535, false, 0⟩,
   ⟨0x2B, 16, .rwx, 0, 65535, false, 0⟩,
   ⟨0x2C, 16, .rwx, 0, 65535, false, 0⟩,
   ⟨0x2D, 16, .rwx, 0, 65535, false, 0⟩,
   ⟨0x2E, 16, .rwx, 0, 65535, false, 0⟩,
   ⟨0x2F, 16, .rwx, 0, 65535, false, 0⟩,
   ⟨0x30, 16, .rwx, 0, 65535, false, 0⟩,
   ⟨0x31, 16, .rwx, 0, 65535, false, 0⟩,
   ⟨0x32, 16, .rwx, 0, 65535, false, 0⟩,
   ⟨0x33, 16, .rwx, 0, 65535, false, 0⟩,
   ⟨0x34, 16, .rwx, 0, 65535, false, 0⟩,
   ⟨0x35, 16, .rwx, 0, 65535, false, 0⟩,
   ⟨0x36, 16, .rwx, 0, 65535, false, 0⟩,
   ⟨0x37, 16, .rwx, 0, 65535, false, 0⟩,
   ⟨0x38, 16, .rwx, 0, 65535, false, 0⟩,
   ⟨0x39, 16, .rwx, 0, 65535, false, 0⟩,
   ⟨0x3A, 16, .rwx, 0, 65535, false, 0⟩,
   ⟨0x3B, 16, .rwx, 0, 65535, false, 0⟩] ++
  [⟨0x3C, 16, .rwx, 0, 65535, false, 0⟩,
   ⟨0x3D, 16, .rwx, 0, 65535, false, 0⟩,
   ⟨0x3E, 16, .rwx, 0, 65535, false, 0⟩,
   ⟨0x3F, 16, .ro, 0, 65535, false, 9436⟩]

/-- The rows of page `p`; the doorbell channel rows of the ntc page are computed by `paramRow`. -/
def pageRows : Nat → List PRow
  | 0 => rowsSys
  | 1 => rowsSmp
  | 2 => rowsNtc
  | 3 => rowsAcq
  | 4 => rowsTrk
  | 5 => rowsMsr
  | 6 => rowsInt
  | 7 => rowsTp
  | 8 => rowsWcs
  | 9 => rowsEvs
  | 10 => rowsPwr
  | 11 => rowsVreg
  | 12 => rowsAnt
  | 13 => rowsGau
  | 14 => rowsMir
  | 15 => rowsCal
  | _ => []

/-- The row of the list with index `i`. -/
def findRow : List PRow → Nat → Option PRow
  | [], _ => none
  | r :: rs, i => if r.idx = i then some r else findRow rs i

/-- The row behind a key (page * 256 + index); none where page and index hold no parameter (spec/09 R232). The
configuration and timeout rows of the 64 doorbell channels are those of spec/10 R275. -/
def paramRow (key : Nat) : Option PRow :=
  if key / 256 = 2 ∧ key % 256 < 64 then
    some ⟨key % 256, 4, .rwx, 0, 15, false, if key % 256 = 33 then 8 else 3⟩
  else if key / 256 = 2 ∧ key % 256 < 128 then some ⟨key % 256, 16, .rwx, 0, 65535, false, 0⟩
  else findRow (pageRows (key / 256)) (key % 256)

/-- A parameter's reset value (spec/09 R231); an F parameter's is its nominal calibration value (log entry 6). -/
def paramReset (key : Nat) : Int := match paramRow key with | some r => r.reset | none => 0

/-- Whether a page belongs to the CORE domain (spec/09 R232). -/
def coreP (page : Nat) : Bool := (1 ≤ page && page ≤ 9) || page == 14

/-- Key of sys.boot. -/
abbrev pSysBoot : Nat := 0x000
/-- Key of sys.pram_en. -/
abbrev pSysPramEn : Nat := 0x001
/-- Key of sys.cp3_tmo. -/
abbrev pSysCp3Tmo : Nat := 0x002
/-- Key of sys.cp3_chan. -/
abbrev pSysCp3Chan : Nat := 0x003
/-- Key of sys.rake_rate. -/
abbrev pSysRakeRate : Nat := 0x004
/-- Key of sys.rs_trap. -/
abbrev pSysRsTrap : Nat := 0x005
/-- Key of sys.scratch0. -/
abbrev pSysScratch0 : Nat := 0x006
/-- Key of sys.scratch1. -/
abbrev pSysScratch1 : Nat := 0x007
/-- Key of sys.scratch2. -/
abbrev pSysScratch2 : Nat := 0x008
/-- Key of sys.scratch3. -/
abbrev pSysScratch3 : Nat := 0x009
/-- Key of sys.pram_crc. -/
abbrev pSysPramCrc : Nat := 0x00A
/-- Key of sys.rake_passes. -/
abbrev pSysRakePasses : Nat := 0x00B
/-- Key of sys.rake_corr. -/
abbrev pSysRakeCorr : Nat := 0x00C
/-- Key of sys.rake_poison. -/
abbrev pSysRakePoison : Nat := 0x00D
/-- Key of sys.step_thr. -/
abbrev pSysStepThr : Nat := 0x020
/-- Key of sys.slew_max. -/
abbrev pSysSlewMax : Nat := 0x021
/-- Key of sys.coarse_max. -/
abbrev pSysCoarseMax : Nat := 0x022
/-- Key of sys.fine_enter. -/
abbrev pSysFineEnter : Nat := 0x023
/-- Key of sys.fine_exit. -/
abbrev pSysFineExit : Nat := 0x024
/-- Key of sys.fine_hold. -/
abbrev pSysFineHold : Nat := 0x025
/-- Key of sys.ho_wait. -/
abbrev pSysHoWait : Nat := 0x026
/-- Key of sys.tcxo_floor. -/
abbrev pSysTcxoFloor : Nat := 0x027
/-- Key of sys.tcxo_drift. -/
abbrev pSysTcxoDrift : Nat := 0x028
/-- Key of sys.tcxo_stab. -/
abbrev pSysTcxoStab : Nat := 0x029
/-- Key of sys.bridge_ppm. -/
abbrev pSysBridgePpm : Nat := 0x02A
/-- Key of sys.week_min. -/
abbrev pSysWeekMin : Nat := 0x02B
/-- Key of sys.leap_default. -/
abbrev pSysLeapDefault : Nat := 0x02C
/-- Key of smp.mode. -/
abbrev pSmpMode : Nat := 0x100
/-- Key of smp.sclk_edge. -/
abbrev pSmpSclkEdge : Nat := 0x101
/-- Key of smp.sign_pos. -/
abbrev pSmpSignPos : Nat := 0x102
/-- Key of smp.mag_big. -/
abbrev pSmpMagBig : Nat := 0x103
/-- Key of smp.spec_inv. -/
abbrev pSmpSpecInv : Nat := 0x104
/-- Key of smp.fe_en_mode. -/
abbrev pSmpFeEnMode : Nat := 0x105
/-- Key of smp.fe_settle. -/
abbrev pSmpFeSettle : Nat := 0x106
/-- Key of smp.sclk_ph_tol. -/
abbrev pSmpSclkPhTol : Nat := 0x107
/-- Key of smp.mag_target. -/
abbrev pSmpMagTarget : Nat := 0x108
/-- Key of smp.jam_ka. -/
abbrev pSmpJamKa : Nat := 0x109
/-- Key of smp.jam_kh. -/
abbrev pSmpJamKh : Nat := 0x10A
/-- Key of smp.jam_tc. -/
abbrev pSmpJamTc : Nat := 0x10B
/-- Key of smp.jam_warn. -/
abbrev pSmpJamWarn : Nat := 0x10C
/-- Key of smp.jam_alarm. -/
abbrev pSmpJamAlarm : Nat := 0x10D
/-- Key of smp.jam_hyst. -/
abbrev pSmpJamHyst : Nat := 0x10E
/-- Key of smp.n0_mode. -/
abbrev pSmpN0Mode : Nat := 0x110
/-- Key of smp.n1_mode. -/
abbrev pSmpN1Mode : Nat := 0x111
/-- Key of smp.n2_mode. -/
abbrev pSmpN2Mode : Nat := 0x112
/-- Key of smp.n3_mode. -/
abbrev pSmpN3Mode : Nat := 0x113
/-- Key of smp.n0_freq. -/
abbrev pSmpN0Freq : Nat := 0x114
/-- Key of smp.n1_freq. -/
abbrev pSmpN1Freq : Nat := 0x115
/-- Key of smp.n2_freq. -/
abbrev pSmpN2Freq : Nat := 0x116
/-- Key of smp.n3_freq. -/
abbrev pSmpN3Freq : Nat := 0x117
/-- Key of smp.n0_bw. -/
abbrev pSmpN0Bw : Nat := 0x118
/-- Key of smp.n1_bw. -/
abbrev pSmpN1Bw : Nat := 0x119
/-- Key of smp.n2_bw. -/
abbrev pSmpN2Bw : Nat := 0x11A
/-- Key of smp.n3_bw. -/
abbrev pSmpN3Bw : Nat := 0x11B
/-- Key of smp.notch_on. -/
abbrev pSmpNotchOn : Nat := 0x11C
/-- Key of smp.notch_off. -/
abbrev pSmpNotchOff : Nat := 0x11D
/-- Key of smp.notch_gain. -/
abbrev pSmpNotchGain : Nat := 0x11E
/-- Key of smp.n0_stat. -/
abbrev pSmpN0Stat : Nat := 0x120
/-- Key of smp.n1_stat. -/
abbrev pSmpN1Stat : Nat := 0x121
/-- Key of smp.n2_stat. -/
abbrev pSmpN2Stat : Nat := 0x122
/-- Key of smp.n3_stat. -/
abbrev pSmpN3Stat : Nat := 0x123
/-- Key of smp.slip_cnt. -/
abbrev pSmpSlipCnt : Nat := 0x124
/-- Key of smp.sclk_flt_cnt. -/
abbrev pSmpSclkFltCnt : Nat := 0x125
/-- Key of ntc.mail_bank. -/
abbrev pNtcMailBank : Nat := 0x280
/-- Key of ntc.msr_bank. -/
abbrev pNtcMsrBank : Nat := 0x281
/-- Key of ntc.evt_bank. -/
abbrev pNtcEvtBank : Nat := 0x282
/-- Key of ntc.msr_ovw. -/
abbrev pNtcMsrOvw : Nat := 0x283
/-- Key of ntc.ntc_sec. -/
abbrev pNtcNtcSec : Nat := 0x284
/-- Key of ntc.irq_ns. -/
abbrev pNtcIrqNs : Nat := 0x285
/-- Key of ntc.irq_s. -/
abbrev pNtcIrqS : Nat := 0x286
/-- Key of ntc.cmd_stat. -/
abbrev pNtcCmdStat : Nat := 0x287
/-- Key of ntc.ntc_stat. -/
abbrev pNtcNtcStat : Nat := 0x288
/-- Key of ntc.coal_pend. -/
abbrev pNtcCoalPend : Nat := 0x289
/-- Key of ntc.msr_wr. -/
abbrev pNtcMsrWr : Nat := 0x28A
/-- Key of ntc.msr_rd. -/
abbrev pNtcMsrRd : Nat := 0x28B
/-- Key of ntc.evt_wr. -/
abbrev pNtcEvtWr : Nat := 0x28C
/-- Key of ntc.evt_rd. -/
abbrev pNtcEvtRd : Nat := 0x28D
/-- Key of ntc.empt_ns. -/
abbrev pNtcEmptNs : Nat := 0x28E
/-- Key of ntc.empt_s. -/
abbrev pNtcEmptS : Nat := 0x28F
/-- Key of acq.mode. -/
abbrev pAcqMode : Nat := 0x300
/-- Key of acq.dwell. -/
abbrev pAcqDwell : Nat := 0x301
/-- Key of acq.ncoh. -/
abbrev pAcqNcoh : Nat := 0x302
/-- Key of acq.det_thr. -/
abbrev pAcqDetThr : Nat := 0x303
/-- Key of acq.confirm. -/
abbrev pAcqConfirm : Nat := 0x304
/-- Key of acq.dop_span. -/
abbrev pAcqDopSpan : Nat := 0x305
/-- Key of acq.dop_span_aid. -/
abbrev pAcqDopSpanAid : Nat := 0x306
/-- Key of acq.prn_mask. -/
abbrev pAcqPrnMask : Nat := 0x307
/-- Key of acq.test_prn_en. -/
abbrev pAcqTestPrnEn : Nat := 0x308
/-- Key of acq.xcorr_db. -/
abbrev pAcqXcorrDb : Nat := 0x309
/-- Key of acq.pend_age. -/
abbrev pAcqPendAge : Nat := 0x30A
/-- Key of acq.hits. -/
abbrev pAcqHits : Nat := 0x30B
/-- Key of acq.rejects. -/
abbrev pAcqRejects : Nat := 0x30C
/-- Key of trk.pan_mask. -/
abbrev pTrkPanMask : Nat := 0x400
/-- Key of trk.el_sp. -/
abbrev pTrkElSp : Nat := 0x401
/-- Key of trk.vel_sp. -/
abbrev pTrkVelSp : Nat := 0x402
/-- Key of trk.twin_el_sp. -/
abbrev pTrkTwinElSp : Nat := 0x403
/-- Key of trk.xa_mode. -/
abbrev pTrkXaMode : Nat := 0x404
/-- Key of trk.xb_mode. -/
abbrev pTrkXbMode : Nat := 0x405
/-- Key of trk.xa_off. -/
abbrev pTrkXaOff : Nat := 0x406
/-- Key of trk.xb_off. -/
abbrev pTrkXbOff : Nat := 0x407
/-- Key of trk.sweep_span. -/
abbrev pTrkSweepSpan : Nat := 0x408
/-- Key of trk.sweep_step. -/
abbrev pTrkSweepStep : Nat := 0x409
/-- Key of trk.coh. -/
abbrev pTrkCoh : Nat := 0x40A
/-- Key of trk.fll_pull_bw. -/
abbrev pTrkFllPullBw : Nat := 0x40B
/-- Key of trk.fll_bw. -/
abbrev pTrkFllBw : Nat := 0x40C
/-- Key of trk.pll_bw. -/
abbrev pTrkPllBw : Nat := 0x40D
/-- Key of trk.pll_order. -/
abbrev pTrkPllOrder : Nat := 0x40E
/-- Key of trk.dll_bw. -/
abbrev pTrkDllBw : Nat := 0x40F
/-- Key of trk.pull_ms. -/
abbrev pTrkPullMs : Nat := 0x410
/-- Key of trk.cn0_lock. -/
abbrev pTrkCn0Lock : Nat := 0x411
/-- Key of trk.cn0_loss. -/
abbrev pTrkCn0Loss : Nat := 0x412
/-- Key of trk.loss_ms. -/
abbrev pTrkLossMs : Nat := 0x413
/-- Key of trk.pli_thr. -/
abbrev pTrkPliThr : Nat := 0x414
/-- Key of trk.lock_win. -/
abbrev pTrkLockWin : Nat := 0x415
/-- Key of trk.cn0_win. -/
abbrev pTrkCn0Win : Nat := 0x416
/-- Key of trk.bs_win. -/
abbrev pTrkBsWin : Nat := 0x417
/-- Key of trk.reacq_s. -/
abbrev pTrkReacqS : Nat := 0x418
/-- Key of trk.ps_chips. -/
abbrev pTrkPsChips : Nat := 0x419
/-- Key of trk.ps_hz. -/
abbrev pTrkPsHz : Nat := 0x41A
/-- Key of trk.nf_prn. -/
abbrev pTrkNfPrn : Nat := 0x41B
/-- Key of trk.late_cnt. -/
abbrev pTrkLateCnt : Nat := 0x41C
/-- Key of msr.rate. -/
abbrev pMsrRate : Nat := 0x500
/-- Key of msr.mode. -/
abbrev pMsrMode : Nat := 0x501
/-- Key of msr.elev_mask. -/
abbrev pMsrElevMask : Nat := 0x502
/-- Key of msr.cn0_mask. -/
abbrev pMsrCn0Mask : Nat := 0x503
/-- Key of msr.survey_s. -/
abbrev pMsrSurveyS : Nat := 0x504
/-- Key of msr.pos_unc_max. -/
abbrev pMsrPosUncMax : Nat := 0x505
/-- Key of msr.post. -/
abbrev pMsrPost : Nat := 0x506
/-- Key of msr.iono. -/
abbrev pMsrIono : Nat := 0x507
/-- Key of msr.tropo. -/
abbrev pMsrTropo : Nat := 0x508
/-- Key of int.res_thr. -/
abbrev pIntResThr : Nat := 0x600
/-- Key of int.excl_en. -/
abbrev pIntExclEn : Nat := 0x601
/-- Key of int.cn0u_min. -/
abbrev pIntCn0uMin : Nat := 0x602
/-- Key of int.cn0u_sd. -/
abbrev pIntCn0uSd : Nat := 0x603
/-- Key of int.cn0u_hi. -/
abbrev pIntCn0uHi : Nat := 0x604
/-- Key of int.dop_thr. -/
abbrev pIntDopThr : Nat := 0x605
/-- Key of int.twin_m. -/
abbrev pIntTwinM : Nat := 0x606
/-- Key of int.twin_hz. -/
abbrev pIntTwinHz : Nat := 0x607
/-- Key of int.twin_n. -/
abbrev pIntTwinN : Nat := 0x608
/-- Key of int.twin_auto. -/
abbrev pIntTwinAuto : Nat := 0x609
/-- Key of int.clk_k. -/
abbrev pIntClkK : Nat := 0x60A
/-- Key of int.clk_min. -/
abbrev pIntClkMin : Nat := 0x60B
/-- Key of int.freq_ppb. -/
abbrev pIntFreqPpb : Nat := 0x60C
/-- Key of int.clk_ref_s. -/
abbrev pIntClkRefS : Nat := 0x60D
/-- Key of int.sp_clk_n. -/
abbrev pIntSpClkN : Nat := 0x60E
/-- Key of int.sp_clear_s. -/
abbrev pIntSpClearS : Nat := 0x60F
/-- Key of int.stat. -/
abbrev pIntStat : Nat := 0x610
/-- Key of int.rej_cnt. -/
abbrev pIntRejCnt : Nat := 0x611
/-- Key of int.excl_cnt. -/
abbrev pIntExclCnt : Nat := 0x612
/-- Key of int.spoof_cnt. -/
abbrev pIntSpoofCnt : Nat := 0x613
/-- Key of tp.rate. -/
abbrev pTpRate : Nat := 0x700
/-- Key of tp.width. -/
abbrev pTpWidth : Nat := 0x701
/-- Key of tp.pol. -/
abbrev pTpPol : Nat := 0x702
/-- Key of tp.tq_mask. -/
abbrev pTpTqMask : Nat := 0x703
/-- Key of tp.fe_delay. -/
abbrev pTpFeDelay : Nat := 0x704
/-- Key of tp.out_delay. -/
abbrev pTpOutDelay : Nat := 0x705
/-- Key of tp.user_off. -/
abbrev pTpUserOff : Nat := 0x706
/-- Key of tp.late_en. -/
abbrev pTpLateEn : Nat := 0x707
/-- Key of wcs.tc. -/
abbrev pWcsTc : Nat := 0x800
/-- Key of wcs.dev_max. -/
abbrev pWcsDevMax : Nat := 0x801
/-- Key of wcs.lock_ns. -/
abbrev pWcsLockNs : Nat := 0x802
/-- Key of wcs.out_delay. -/
abbrev pWcsOutDelay : Nat := 0x803
/-- Key of wcs.walign_w. -/
abbrev pWcsWalignW : Nat := 0x804
/-- Key of wcs.sleep_run. -/
abbrev pWcsSleepRun : Nat := 0x805
/-- Key of wcs.step_jump. -/
abbrev pWcsStepJump : Nat := 0x806
/-- Key of evs.ns_quota. -/
abbrev pEvsNsQuota : Nat := 0x900
/-- Key of evs.deep_cancel. -/
abbrev pEvsDeepCancel : Nat := 0x901
/-- Key of evs.evout_sec. -/
abbrev pEvsEvoutSec : Nat := 0x902
/-- Key of evs.realign_ns. -/
abbrev pEvsRealignNs : Nat := 0x903
/-- Key of evs.evout0_pol. -/
abbrev pEvsEvout0Pol : Nat := 0x904
/-- Key of evs.evout1_pol. -/
abbrev pEvsEvout1Pol : Nat := 0x905
/-- Key of evs.evout2_pol. -/
abbrev pEvsEvout2Pol : Nat := 0x906
/-- Key of evs.evout3_pol. -/
abbrev pEvsEvout3Pol : Nat := 0x907
/-- Key of evs.tm0_edge. -/
abbrev pEvsTm0Edge : Nat := 0x908
/-- Key of evs.tm1_edge. -/
abbrev pEvsTm1Edge : Nat := 0x909
/-- Key of evs.tm0_client. -/
abbrev pEvsTm0Client : Nat := 0x90A
/-- Key of evs.tm1_client. -/
abbrev pEvsTm1Client : Nat := 0x90B
/-- Key of pwr.core_lim. -/
abbrev pPwrCoreLim : Nat := 0xA00
/-- Key of pwr.slot_guard. -/
abbrev pPwrSlotGuard : Nat := 0xA01
/-- Key of pwr.wake_en. -/
abbrev pPwrWakeEn : Nat := 0xA02
/-- Key of pwr.sleep_vcore. -/
abbrev pPwrSleepVcore : Nat := 0xA03
/-- Key of pwr.ml_pat_n. -/
abbrev pPwrMlPatN : Nat := 0xA04
/-- Key of pwr.auto_sleep. -/
abbrev pPwrAutoSleep : Nat := 0xA05
/-- Key of pwr.enter_cnt. -/
abbrev pPwrEnterCnt : Nat := 0xA06
/-- Key of pwr.refuse_cnt. -/
abbrev pPwrRefuseCnt : Nat := 0xA07
/-- Key of pwr.retain. -/
abbrev pPwrRetain : Nat := 0xA08
/-- Key of pwr.abandon_cnt. -/
abbrev pPwrAbandonCnt : Nat := 0xA09
/-- Key of pwr.wake_run. -/
abbrev pPwrWakeRun : Nat := 0xA0A
/-- Key of pwr.last_ms. -/
abbrev pPwrLastMs : Nat := 0xA0B
/-- Key of pwr.refuse_blk. -/
abbrev pPwrRefuseBlk : Nat := 0xA0C
/-- Key of pwr.delay_us. -/
abbrev pPwrDelayUs : Nat := 0xA0D
/-- Key of pwr.off_en. -/
abbrev pPwrOffEn : Nat := 0xA0E
/-- Key of pwr.wake_seen. -/
abbrev pPwrWakeSeen : Nat := 0xA0F
/-- Key of pwr.pace_en. -/
abbrev pPwrPaceEn : Nat := 0xA10
/-- Key of pwr.pace_hi. -/
abbrev pPwrPaceHi : Nat := 0xA11
/-- Key of pwr.pace_lo. -/
abbrev pPwrPaceLo : Nat := 0xA12
/-- Key of pwr.pace_step. -/
abbrev pPwrPaceStep : Nat := 0xA13
/-- Key of pwr.pace_dn_hold. -/
abbrev pPwrPaceDnHold : Nat := 0xA14
/-- Key of pwr.shed_wait. -/
abbrev pPwrShedWait : Nat := 0xA15
/-- Key of pwr.shed_jump. -/
abbrev pPwrShedJump : Nat := 0xA16
/-- Key of pwr.pan_keep. -/
abbrev pPwrPanKeep : Nat := 0xA17
/-- Key of pwr.unshed_hold. -/
abbrev pPwrUnshedHold : Nat := 0xA18
/-- Key of pwr.unshed_margin. -/
abbrev pPwrUnshedMargin : Nat := 0xA19
/-- Key of pwr.relapse_win. -/
abbrev pPwrRelapseWin : Nat := 0xA1A
/-- Key of pwr.backoff_max. -/
abbrev pPwrBackoffMax : Nat := 0xA1B
/-- Key of vreg.floor. -/
abbrev pVregFloor : Nat := 0xB00
/-- Key of vreg.ceil. -/
abbrev pVregCeil : Nat := 0xB01
/-- Key of vreg.set. -/
abbrev pVregSet : Nat := 0xB02
/-- Key of vreg.trim. -/
abbrev pVregTrim : Nat := 0xB03
/-- Key of vreg.ilim. -/
abbrev pVregIlim : Nat := 0xB04
/-- Key of vreg.mode. -/
abbrev pVregMode : Nat := 0xB05
/-- Key of vreg.fsw. -/
abbrev pVregFsw : Nat := 0xB06
/-- Key of vreg.short_cnt. -/
abbrev pVregShortCnt : Nat := 0xB07
/-- Key of vreg.vin_warn. -/
abbrev pVregVinWarn : Nat := 0xB08
/-- Key of vreg.vin. -/
abbrev pVregVin : Nat := 0xB09
/-- Key of ant.mode. -/
abbrev pAntMode : Nat := 0xC00
/-- Key of ant.level. -/
abbrev pAntLevel : Nat := 0xC01
/-- Key of ant.retries. -/
abbrev pAntRetries : Nat := 0xC02
/-- Key of ant.retry_s. -/
abbrev pAntRetryS : Nat := 0xC03
/-- Key of ant.open_ma. -/
abbrev pAntOpenMa : Nat := 0xC04
/-- Key of ant.open_ms. -/
abbrev pAntOpenMs : Nat := 0xC05
/-- Key of ant.ilim_ms. -/
abbrev pAntIlimMs : Nat := 0xC06
/-- Key of ant.isense_trim. -/
abbrev pAntIsenseTrim : Nat := 0xC07
/-- Key of ant.ima_hi. -/
abbrev pAntImaHi : Nat := 0xC08
/-- Key of ant.short_cnt. -/
abbrev pAntShortCnt : Nat := 0xC09
/-- Key of ant.open_cnt. -/
abbrev pAntOpenCnt : Nat := 0xC0A
/-- Key of ant.fault_en. -/
abbrev pAntFaultEn : Nat := 0xC0B
/-- Key of gau.en. -/
abbrev pGauEn : Nat := 0xD00
/-- Key of gau.cells. -/
abbrev pGauCells : Nat := 0xD01
/-- Key of gau.div. -/
abbrev pGauDiv : Nat := 0xD02
/-- Key of gau.cap_mah. -/
abbrev pGauCapMah : Nat := 0xD03
/-- Key of gau.v_sd. -/
abbrev pGauVSd : Nat := 0xD04
/-- Key of gau.v_full. -/
abbrev pGauVFull : Nat := 0xD05
/-- Key of gau.taper_ma. -/
abbrev pGauTaperMa : Nat := 0xD06
/-- Key of gau.full_s. -/
abbrev pGauFullS : Nat := 0xD07
/-- Key of gau.rest_s. -/
abbrev pGauRestS : Nat := 0xD08
/-- Key of gau.r_mohm. -/
abbrev pGauRMohm : Nat := 0xD09
/-- Key of gau.disp_rate. -/
abbrev pGauDispRate : Nat := 0xD0A
/-- Key of gau.stretch_ma. -/
abbrev pGauStretchMa : Nat := 0xD0B
/-- Key of gau.stretch_hyst. -/
abbrev pGauStretchHyst : Nat := 0xD0C
/-- Key of gau.stretch_n. -/
abbrev pGauStretchN : Nat := 0xD0D
/-- Key of gau.sd_n. -/
abbrev pGauSdN : Nat := 0xD0E
/-- Key of gau.soc_lo. -/
abbrev pGauSocLo : Nat := 0xD0F
/-- Key of gau.ocv0. -/
abbrev pGauOcv0 : Nat := 0xD10
/-- Key of gau.ocv1. -/
abbrev pGauOcv1 : Nat := 0xD11
/-- Key of gau.ocv2. -/
abbrev pGauOcv2 : Nat := 0xD12
/-- Key of gau.ocv3. -/
abbrev pGauOcv3 : Nat := 0xD13
/-- Key of gau.ocv4. -/
abbrev pGauOcv4 : Nat := 0xD14
/-- Key of gau.ocv5. -/
abbrev pGauOcv5 : Nat := 0xD15
/-- Key of gau.ocv6. -/
abbrev pGauOcv6 : Nat := 0xD16
/-- Key of gau.ocv7. -/
abbrev pGauOcv7 : Nat := 0xD17
/-- Key of gau.ocv8. -/
abbrev pGauOcv8 : Nat := 0xD18
/-- Key of gau.ocv9. -/
abbrev pGauOcv9 : Nat := 0xD19
/-- Key of gau.ocv10. -/
abbrev pGauOcv10 : Nat := 0xD1A
/-- Key of gau.v_lo. -/
abbrev pGauVLo : Nat := 0xD1B
/-- Key of gau.i_hi. -/
abbrev pGauIHi : Nat := 0xD1C
/-- Key of gau.evt_en. -/
abbrev pGauEvtEn : Nat := 0xD1D
/-- Key of gau.evt. -/
abbrev pGauEvt : Nat := 0xD1E
/-- Key of gau.stat. -/
abbrev pGauStat : Nat := 0xD1F
/-- Key of gau.v_mv. -/
abbrev pGauVMv : Nat := 0xD20
/-- Key of gau.i_ma. -/
abbrev pGauIMa : Nat := 0xD21
/-- Key of gau.q_rem. -/
abbrev pGauQRem : Nat := 0xD22
/-- Key of gau.soc_sd. -/
abbrev pGauSocSd : Nat := 0xD23
/-- Key of gau.i_gain. -/
abbrev pGauIGain : Nat := 0xD24
/-- Key of gau.i_off. -/
abbrev pGauIOff : Nat := 0xD25
/-- Key of gau.v_gain. -/
abbrev pGauVGain : Nat := 0xD26
/-- Key of gau.v_off. -/
abbrev pGauVOff : Nat := 0xD27
/-- Key of mir.dly_cmp. -/
abbrev pMirDlyCmp : Nat := 0xE00
/-- Key of mir.dly_out. -/
abbrev pMirDlyOut : Nat := 0xE01
/-- Key of mir.loss_us. -/
abbrev pMirLossUs : Nat := 0xE02
/-- Key of mir.ho_lead. -/
abbrev pMirHoLead : Nat := 0xE03
/-- Key of mir.auto_take. -/
abbrev pMirAutoTake : Nat := 0xE04
/-- Key of mir.lock_ns. -/
abbrev pMirLockNs : Nat := 0xE05
/-- Key of mir.accuse_ns. -/
abbrev pMirAccuseNs : Nat := 0xE06
/-- Key of mir.accuse_n. -/
abbrev pMirAccuseN : Nat := 0xE07
/-- Key of mir.st_tol. -/
abbrev pMirStTol : Nat := 0xE08
/-- Key of mir.win_ns. -/
abbrev pMirWinNs : Nat := 0xE09
/-- Key of mir.sync_ms. -/
abbrev pMirSyncMs : Nat := 0xE0A
/-- Key of mir.slew. -/
abbrev pMirSlew : Nat := 0xE0B
/-- Key of mir.wake_rep. -/
abbrev pMirWakeRep : Nat := 0xE0C
/-- Key of mir.stat. -/
abbrev pMirStat : Nat := 0xE0D
/-- Key of mir.delta. -/
abbrev pMirDelta : Nat := 0xE0E
/-- Key of mir.offset. -/
abbrev pMirOffset : Nat := 0xE0F
/-- Key of mir.frm_err. -/
abbrev pMirFrmErr : Nat := 0xE10
/-- Key of mir.take_cnt. -/
abbrev pMirTakeCnt : Nat := 0xE11
/-- Key of mir.st_fail_cnt. -/
abbrev pMirStFailCnt : Nat := 0xE12
/-- Key of ntc.chN_cfg. -/
abbrev pChCfg (n : Nat) : Nat := 0x200 + n
/-- Key of ntc.chN_tmo. -/
abbrev pChTmo (n : Nat) : Nat := 0x240 + n
/-- Key of word k of the cal page. -/
abbrev pCal (k : Nat) : Nat := 0xF00 + k

end Sys2Proof.Machine
end

