-- ==== Sys2Proof/Machine/State.lean ====
section
/-! DEFINITION. The state of the block: every register, buffer, counter, mode and pin the spec gives it, as plain
data, and the state right after reset. INVENTORY.md lists each field with the rule that names it. -/

namespace Sys2Proof.Machine

/-- Why a step could stop with a fault. No rule of the spec leaves a command of the block without an effect, so
no step of this model ends in a fault and the type has no constructor (log entry 2). -/
inductive Fault where
deriving DecidableEq, Repr

/-- Why a step could be refused. -/
inductive Refusal where
  /-- Raised by `Machine.exec` for a command that has no meaning yet; safe: the machine stops there. -/
  | notModelled (mnemonic : String)
deriving DecidableEq, Repr

/-- The time-quality state (spec/01 R22). -/
inductive TimeQ where
  | unknown | hostSet | rtcBridged | gnssCoarse | gnssFine | holdover
deriving DecidableEq, Repr

/-- A scheduled leap-second change: the count that holds after the end of the stated day (spec/01 R36). -/
structure LeapSched where
  week : Nat
  day  : Nat
  leap : Int
deriving DecidableEq, Repr

/-- One Brine entry: a 4-bit value per path and the epoch mark (spec/03 R75). -/
structure BrineEntry where
  a    : BitVec 4
  b    : BitVec 4
  mark : Bool
  /-- the sample's time on the DTC scale, in 1/64 tick: its REFIN edge corrected by the stored SCLK phase, less
  tp.fe_delay (spec/03 R70, spec/06 R145) -/
  time : Int
deriving DecidableEq, Repr

/-- One PRN of a search plan (spec/04 R88, R97): Doppler centre and half-span in hertz, and the windows still to be
searched once its search has started. -/
structure PlanItem where
  prn     : Nat
  centre  : Int
  span    : Nat
  /-- windows left: the centre, in 1/2520 Hz, and the acq.dwell it was laid out for -/
  wins    : Option (List (Int × Nat))
  /-- predicted code phase in 1/32 chip, and its half-span in chips, where a code phase is predicted -/
  code    : Option (Nat × Nat)
  /-- the fourth row of R97: a pan starts at the predicted state, without a search -/
  direct  : Bool
  /-- DTC count at which the prediction was made -/
  at_     : Nat
deriving DecidableEq, Repr

/-- A result of a cell search (spec/04 R94). -/
structure Hit where
  prn    : Nat
  code   : Nat
  dop    : Int
  metric : Nat
  ratio  : Nat
  cn0    : Nat
  /-- DTC count at the hit -/
  dtc    : Nat
deriving DecidableEq, Repr

/-- The first hit of a search under confirmation (spec/04 R92): the hit, the phase of its peak and the centre of the
peak's bin, in 1/2520 Hz. -/
structure FirstHit where
  hit   : Hit
  phase : Nat
  freq  : Int
deriving DecidableEq, Repr

/-- The cell search in progress (spec/04 R87-R92): its PRN and window centre, the dwell settings it runs under,
the confirmations still to pass with the first hit, the coprocessor operation it serves, and how far it has come. -/
structure Cell where
  prn   : Nat
  /-- window centre, in 1/2520 Hz -/
  win   : Int
  dwell : Nat
  ncoh  : Nat
  /-- dwell epochs are aligned where R90 can do so -/
  align : Bool
  conf  : Nat
  first : Option FirstHit
  op    : Option (CoreId × Fin 4)
  /-- dwell epochs summed so far -/
  done  : Nat
  /-- the dwell epoch that runs: its 1 ms epochs so far, and that one of them was a gap epoch -/
  run   : Option (Nat × Bool)
  /-- summed power by cell, bin x 2,046 + phase; a cell not listed has sum 0 -/
  sums  : List (Nat × Nat)
  /-- DTC count at which the cell search was taken up -/
  at_   : Nat
deriving DecidableEq, Repr

/-- Ephemeris of one PRN (spec/05 R126, R128): issue of data, URA index, health, and toe in seconds of the week. -/
structure Eph where
  iodc    : Nat
  ura     : Nat
  healthy : Bool
  toe     : Nat
deriving DecidableEq, Repr

/-- A pan search in progress (spec/04 R114): the setting under way, the integrations summed at it, the powers of the
seven taps so far, and the cells already summed, as (half-chip index, Doppler index, power). -/
structure PanSrch where
  idx   : Nat
  n     : Nat
  acc   : List Nat
  cells : List (Nat × Nat × Nat)
deriving DecidableEq, Repr

/-- The reference anchor (spec/05 R131): D0, T0, epsilon, its uncertainty, and the time at which it was taken. -/
structure RefAnchor where
  d   : Int
  t   : Int
  eps : Int
  u   : Nat
  /-- frequency uncertainty, in 0.01 ppb -/
  sigF : Nat
  /-- elapsed time when it was taken, gaps included, in ticks -/
  at_ : Nat
deriving DecidableEq, Repr

/-- A pan's carrier state (spec/04 R107). -/
inductive Carrier where
  | pull | lock | fll
deriving DecidableEq, Repr

/-- WCS_STAT.state (spec/06 R169). -/
inductive WcsState where
  | off | start | slew | locked
deriving DecidableEq, Repr

/-- One stamp in a capture buffer (spec/07 R186): its instant in ticks, its TSB and the gap flag. -/
structure Stamp where
  ticks : Nat
  tsb   : List Word
  gap   : Bool
deriving DecidableEq, Repr

/-- The pwr parameters that an entry attempt goes by (spec/16 R405): pwr.core_lim, slot_guard, off_en, retain, sleep_vcore
and ml_pat_n as they stood when it began. -/
structure AttPars where
  lim    : Nat
  guard  : Nat
  offEn  : Nat
  retain : Nat
  vcore  : Nat
  pat    : Nat
deriving DecidableEq, Repr

/-- The fields of a slot that a slot image carries (spec/07 R172, spec/10 R269). -/
structure SlotImg where
  actions : BitVec 4
  pin     : Fin 4
  op      : BitVec 2
  chan    : Fin 64
  lateOk  : Bool
  tqMask  : BitVec 6
  /-- target, in ticks since week 0 -/
  target  : Int
  period  : Nat
  count   : Nat
  pulse   : Nat
deriving DecidableEq, Repr

/-- An ARMED slot (spec/07 R172): owner, image, the occurrence committed (R177), the time at which it fires late where
its target can take no commit point (R178, R182), and that its count was modified after the commit point (R177). -/
structure Slot where
  cls    : Cls
  client : BitVec 10
  img    : SlotImg
  com    : Option SlotImg
  late   : Option Int
  cntMod : Bool
deriving DecidableEq, Repr

/-- A firing whose doorbell and record are still to be delivered (spec/07 R179, R188, R189). -/
structure FireRec where
  idx     : Nat
  cls     : Cls
  client  : BitVec 10
  img     : SlotImg
  skip    : Bool
  late    : Bool
  gap     : Bool
  collide : Bool
  realign : Bool
  passed  : Nat
  /-- the placed instant, in DTC ticks -/
  ticks   : Int
deriving DecidableEq, Repr

/-- An open bus cycle (spec/08 R194, R195): the next word offset and the qualifiers as latched. -/
structure BusCyc where
  off : Word
  wr  : Bool
  sec : Bool
deriving DecidableEq, Repr

/-- The owner of a bank (spec/09 R236). -/
inductive BankOwner where
  | trk | svc | host | cryst | mirror
deriving DecidableEq, Repr

/-- An operation issued to CP0-CP2 (spec/14 R348, R349): unit, function, operands and its place in the order of issue. -/
structure CpOp where
  unit : Fin 4
  fn   : Nat
  args : List Word
  nr   : Nat
deriving DecidableEq, Repr

/-- A CP3 operation (spec/14 R355-R357). -/
structure Cp3Op where
  core   : CoreId
  tag    : Fin 4
  bank   : Fin 8
  off    : BitVec 14
  seq    : BitVec 8
deriving DecidableEq, Repr

/-- A hardware breakpoint (spec/21 R494). -/
structure Breakpoint where
  addr : BitVec 14
  en   : Bool
deriving DecidableEq, Repr

/-- The power state (spec/16 R383). -/
inductive PwrState where
  | run | idle | sleep | deep | off
deriving DecidableEq, Repr

/-- What the partner's latest IDLE frame said (spec/19 R446). -/
structure Partner where
  role   : Nat
  tq     : Nat
  locked : Bool
  sync   : Bool
  fire   : Word
  nonce  : Word
deriving DecidableEq, Repr

/-- One copy of a delay-compensation register with its parity bit (spec/19 R451). -/
structure DlyCopy where
  value  : BitVec 16
  parity : Bool
deriving DecidableEq, Repr

/-- A takeover in progress (spec/19 R457): the handover point, the trigger, whether the standby was healthy for
takeover when it was set, and the primary's EVOUT levels and pulse ends where they have arrived. -/
structure TakePend where
  h      : Int
  trig   : Nat
  levels : Option (List (Bool × Option Int))
deriving DecidableEq, Repr

/-- The status an SDP frame is answered with (spec/21 R489). -/
inductive SdpStatus where
  | none | done | retry | error
deriving DecidableEq, Repr

/-- The Device Time Counter, GNSS time and time quality (01). -/
structure TimeSt where
  /-- The Device Time Counter (spec/01 R14) -/
  dtc : BitVec 52
  /-- DTC wraps since the cold start, kept so that elapsed DTC time (R38) survives a wrap (the model's own field: log entry 5) (spec/01 R16) -/
  wraps : Nat
  /-- whether the DTC counts (from REFIN stable on; not in DEEP SLEEP) (reset value: DEDUCED, log entry 3) (spec/01 R14, 16 R398, 20 R470) -/
  running : Bool
  /-- SYS_DTC_HI.bridged (spec/01 R31) -/
  bridged : Bool
  /-- time-quality code (spec/01 R22) -/
  tq : TimeQ
  /-- D0 of the anchor, in DTC counts since the cold start (wraps counted, R16) (the model's own field: log entry 5) (spec/01 R16, R18) -/
  anchorD : Int
  /-- T0 of the anchor, GNSS ticks since week 0 (the model's own field: log entry 5) (spec/01 R18) -/
  anchorT : Int
  /-- the solved fractional frequency error (taken as 0 in UNKNOWN) (spec/01 R18, R160) -/
  eps : Int
  /-- correction to be slewed into GNSS time from the anchor on (the model's own field: log entry 5) (spec/01 R19) -/
  slewLeft : Int
  /-- sys.slew_max as it was when that correction was formed (the model's own field: log entry 5) (spec/01 R19) -/
  slewRate : Nat
  /-- a step waiting for the next 1 ms epoch boundary (the model's own field: log entry 5) (spec/01 R19) -/
  stepPend : Option Int
  /-- uncertainty on entry to the present state (the model's own field: log entry 5) (spec/01 R27) -/
  u0 : Nat
  /-- unc code 0xFFFF (UNKNOWN) (spec/01 R29, R38) -/
  unbounded : Bool
  /-- sigma_f in force (the model's own field: log entry 5) (spec/01 R27) -/
  sigF : Nat
  /-- DTC time at which u0 held (the model's own field: log entry 5) (spec/01 R27) -/
  uAt : Nat
  /-- DTC time of the last accepted solution (ho_wait) (the model's own field: log entry 5) (spec/01 R23) -/
  lastAccept : Nat
  /-- the DEEP SLEEP gaps bridged since the cold start, in ticks (the model's own field: log entry 5) (spec/01 R30, R37) -/
  gapTicks : Nat
  /-- elapsed time, gaps included, at the last accepted solution, in ticks (the model's own field: log entry 5) (spec/01 R37) -/
  acceptAt : Option Nat
  /-- elapsed time, gaps included, at the last host set, in ticks (the model's own field: log entry 5) (spec/01 R37) -/
  hostAt : Nat
  /-- elapsed time at the latest R34 point of the calendar, in ticks (the model's own field: log entry 5) (spec/01 R34) -/
  calAt : Option Nat
  /-- GNSS-FINE has been entered since that point (the model's own field: log entry 5) (spec/01 R34) -/
  calDue : Bool
  /-- first of the run of solutions at or below sys.fine_enter (the model's own field: log entry 5) (spec/01 R23) -/
  fineSince : Option Nat
  /-- UTC parameters held (spec/01 R36, R37) -/
  utcValid : Bool
  /-- leap-second count from the UTC parameters (sys.leap_default is used until utcValid) (spec/01 R36) -/
  leap : Int
  /-- a scheduled leap-second change (spec/01 R36) -/
  leapNext : Option LeapSched
  /-- DTC captured at DEEP SLEEP entry (AON) (the model's own field: log entry 5) (spec/01 R30) -/
  heldDtc : BitVec 52
  /-- uncertainty at DEEP SLEEP entry (AON) (the model's own field: log entry 5) (spec/01 R30) -/
  uHeld : Nat
  /-- the held position (spec/05 R125, 10 R268) -/
  pos : Option Position
  /-- accepted PVT solutions averaged so far (the model's own field: log entry 5) (spec/05 R125) -/
  surveyN : Nat
  /-- the time they cover, in 0.1 s (the model's own field: log entry 5) (spec/05 R125) -/
  surveyT : Nat
  /-- sum of the positions averaged (the model's own field: log entry 5) (spec/05 R125) -/
  surveySum : Position
  /-- the survey's mean is held (mode 0 solves time-only) (the model's own field: log entry 5) (spec/05 R125) -/
  surveyHeld : Bool
  /-- REFIN's fractional error is known (spec/04 R97, 10 R268) -/
  freqKnown : Bool
  /-- sigma of a host frequency aid (the model's own field: log entry 5) (spec/10 R268) -/
  freqSigma : Nat
deriving DecidableEq, Repr

/-- The reset value of `TimeSt`. -/
def TimeSt.reset : TimeSt where
  dtc := 0
  wraps := 0
  running := false
  bridged := false
  tq := .unknown
  anchorD := 0
  anchorT := 0
  eps := 0
  slewLeft := 0
  slewRate := 100
  stepPend := none
  u0 := 0
  unbounded := true
  sigF := 0
  uAt := 0
  lastAccept := 0
  gapTicks := 0
  acceptAt := none
  hostAt := 0
  calAt := none
  calDue := false
  fineSince := none
  utcValid := false
  leap := 0
  leapNext := none
  heldDtc := 0
  uHeld := 0
  pos := none
  surveyN := 0
  surveyT := 0
  surveySum := ⟨0, 0, 0, 0, 0⟩
  surveyHeld := false
  freqKnown := false
  freqSigma := 0

/-- The Pace Monitor, shedding and gap marking (02). -/
structure PaceSt where
  /-- PWR_PACE.level (spec/02 R52, R65) -/
  level : Nat
  /-- PWR_PACE.at_ceil (spec/02 R49, R65) -/
  atCeil : Bool
  /-- PWR_PACE.jump (spec/02 R55, R65) -/
  jump : Bool
  /-- PWR_PACE.ovr (spec/02 R62, R65) -/
  ovr : Bool
  /-- PWR_PACE.backoff (spec/02 R58, R65) -/
  backoff : Nat
  /-- PWR_PACE_CNT.shed_cnt (spec/02 R65) -/
  shedCnt : BitVec 16
  /-- PWR_PACE_CNT.gap_ep (spec/02 R65) -/
  gapEp : BitVec 16
  /-- low periods since the last step down (the model's own field: log entry 5) (spec/02 R48) -/
  lowRun : Nat
  /-- periods with at_ceil and fill at or above pwr.pace_hi since the last shed step (the model's own field: log entry 5) (spec/02 R51) -/
  hiRun : Nat
  /-- periods of the present run towards a restore (the model's own field: log entry 5) (spec/02 R57) -/
  quietRun : Nat
  /-- a sample was discarded at a full FIFO in the present pace period (the model's own field: log entry 5) (spec/02 R57, R62) -/
  overrun : Bool
  /-- the overrun in progress has been announced (the model's own field: log entry 5) (spec/02 R56) -/
  ovrNoted : Bool
  /-- restores inside their relapse window, oldest first: level, DTC count and that no relapse has followed (the model's own field: log entry 5) (spec/02 R58) -/
  restores : List (Nat × Nat × Bool)
  /-- pwr parameters written in the present pace period, with the values in force until its end (the model's own field: log entry 5) (spec/02 R63) -/
  old : List (Nat × Int)
  /-- the PACE notice of a level returned to 0 for a sleep state waits for the wake (the model's own field: log entry 5) (spec/02 R56, R63) -/
  zeroHeld : Bool
  /-- N, pans tracking when level 5 was first reached (the model's own field: log entry 5) (spec/02 R52) -/
  nAtFive : Option Nat
  /-- suspended pans, latest suspension first (the model's own field: log entry 5) (spec/02 R52, R57) -/
  suspOrder : List Nat
  /-- the present 1 ms epoch contains a discarded sample (the model's own field: log entry 5) (spec/02 R61) -/
  gapNow : Bool
  /-- gap epochs since the last solution epoch (the model's own field: log entry 5) (spec/05 R138) -/
  gapSinceSol : Nat
  /-- a gap epoch lies after the anchoring solution (the model's own field: log entry 5) (spec/02 R61) -/
  gapSinceAnchor : Bool
deriving DecidableEq, Repr

/-- The reset value of `PaceSt`. -/
def PaceSt.reset : PaceSt where
  level := 0
  atCeil := false
  jump := false
  ovr := false
  backoff := 0
  shedCnt := 0
  gapEp := 0
  lowRun := 0
  hiRun := 0
  quietRun := 0
  overrun := false
  ovrNoted := false
  restores := []
  old := []
  zeroHeld := false
  nAtFive := none
  suspOrder := []
  gapNow := false
  gapSinceSol := 0
  gapSinceAnchor := false

/-- One adaptive notch (03). -/
structure Notch where
  /-- notch engaged (spec/03 R77, R80) -/
  engaged : Bool
  /-- present frequency code (spec/03 R76, R80) -/
  freq : BitVec 16
  /-- INR in dB (spec/03 R80) -/
  inr : Int
  /-- consecutive epochs at or above smp.notch_on (the model's own field: log entry 5) (spec/03 R77) -/
  onRun : Nat
  /-- consecutive epochs below smp.notch_off (the model's own field: log entry 5) (spec/03 R77) -/
  offRun : Nat
  /-- mode in force since the last epoch boundary (spec/03 R77, R78) -/
  mode : Nat
  /-- FIXED frequency in force since the last epoch boundary (spec/03 R78) -/
  fixed : BitVec 16
  /-- an AUTO notch has tracked in an admitted epoch since it last took its seed (the model's own field: log entry 5) (spec/03 R77) -/
  adapted : Bool
deriving DecidableEq, Repr

/-- The reset value of `Notch`. -/
def Notch.reset : Notch where
  engaged := false
  freq := 0
  inr := 0
  onRun := 0
  offRun := 0
  mode := 2
  fixed := 0
  adapted := false

/-- The jamming indicator of one path (03). -/
structure JamPath where
  /-- samples at -3 in this epoch (the model's own field: log entry 5) (spec/03 R81) -/
  nM3 : Nat
  /-- samples at -1 in this epoch (the model's own field: log entry 5) (spec/03 R81) -/
  nM1 : Nat
  /-- samples at +1 in this epoch (the model's own field: log entry 5) (spec/03 R81) -/
  nP1 : Nat
  /-- samples at +3 in this epoch (the model's own field: log entry 5) (spec/03 R81) -/
  nP3 : Nat
  /-- JAM with 8 fractional bits (spec/03 R81) -/
  jam8 : Nat
  /-- jamming state (spec/03 R82) -/
  state : Nat
deriving DecidableEq, Repr

/-- The reset value of `JamPath`. -/
def JamPath.reset : JamPath where
  nM3 := 0
  nM1 := 0
  nP1 := 0
  nP3 := 0
  jam8 := 0
  state := 0

/-- The sample boundary and the Brine FIFO (03). -/
structure SampSt where
  /-- the Brine FIFO, oldest entry first (spec/03 R75) -/
  fifo : List BrineEntry
  /-- the next admitted sample is the first of its 1 ms epoch (the model's own field: log entry 5) (spec/03 R75) -/
  epochMark : Bool
  /-- parity of the sample, for spectral inversion in real mode (the model's own field: log entry 5) (spec/03 R68) -/
  phaseIdx : Nat
  /-- SYS_SMPSTAT.sclk_ok (spec/03 R71, R85) -/
  sclkOk : Bool
  /-- SYS_SMPSTAT.sclk_flt (spec/03 R71, R85) -/
  sclkFlt : Bool
  /-- SYS_SMPSTAT.slip (spec/03 R72, R85) -/
  slip : Bool
  /-- an SCLK fault is in force (samples are discarded, notches and JAM frozen) (the model's own field: log entry 5) (spec/03 R71) -/
  faulted : Bool
  /-- consecutive correct pace periods since the fault (the model's own field: log entry 5) (spec/03 R71) -/
  goodRun : Nat
  /-- stored SCLK phase in 1/64 tick (the model's own field: log entry 5) (spec/03 R70) -/
  phase64 : Int
  /-- captures averaged so far (16 end the mean) (the model's own field: log entry 5) (spec/03 R70) -/
  phaseN : Nat
  /-- FE_EN (spec/03 R74, R85) -/
  feEn : Bool
  /-- smp.fe_settle is running (the model's own field: log entry 5) (spec/03 R74) -/
  settling : Bool
  /-- DTC count at which FE_EN rose (the model's own field: log entry 5) (spec/03 R74) -/
  feRose : Nat
  /-- entries of the FIFO that each consumer has still to read: pan groups 0-3, then the Crystallizer (the model's own field: log entry 5) (spec/03 R75, 04 R89, R103) -/
  unread : Vector Nat 5
  /-- samples are admitted (the model's own field: log entry 5) (spec/03 R71, R74) -/
  admitting : Bool
  /-- the sample path runs: FE_EN is asserted, CORE runs and smp.mode is not 0 (the model's own field: log entry 5) (spec/03 R74) -/
  live : Bool
  /-- path A (spec/03 R81) -/
  jamA : JamPath
  /-- path B (spec/03 R81) -/
  jamB : JamPath
  /-- notches 0-3 (spec/03 R76) -/
  notch : Vector Notch 4
deriving DecidableEq, Repr

/-- The reset value of `SampSt`. -/
def SampSt.reset : SampSt where
  fifo := []
  epochMark := true
  phaseIdx := 0
  sclkOk := false
  sclkFlt := false
  slip := false
  faulted := false
  goodRun := 0
  phase64 := 0
  phaseN := 0
  feEn := false
  settling := false
  feRose := 0
  unread := Vector.replicate 5 0
  admitting := false
  live := false
  jamA := .reset
  jamB := .reset
  notch := Vector.replicate 4 .reset

/-- The Crystallizer and the search (04). -/
structure AcqSt where
  /-- a search is in progress (the model's own field: log entry 5) (spec/04 R94, R96) -/
  searching : Bool
  /-- PRNs and windows still to be searched (the model's own field: log entry 5) (spec/04 R97) -/
  plan : List PlanItem
  /-- a SEARCH command's plan, waiting for the cell search in progress (the model's own field: log entry 5) (spec/10 R268) -/
  newPlan : Option (List PlanItem)
  /-- the cell search in progress (the model's own field: log entry 5) (spec/04 R87) -/
  cell : Option Cell
  /-- B-space 0x201 (spec/04 R111) -/
  dwellDone : Bool
  /-- the Crystallizer was withdrawn after a stall (the model's own field: log entry 5) (spec/20 R482) -/
  stalled : Bool
  /-- pending hits, oldest first (spec/04 R95) -/
  pendHits : List Hit
  /-- result of the latest cell search (spec/14 R353) -/
  lastRes : List (BitVec 16)
  /-- the latest cell search was a hit (spec/14 R353) -/
  lastHit : Bool
  /-- PRNs not searched because the plan is wider than pan search (the model's own field: log entry 5) (spec/04 R114, 10 R272) -/
  notSearched : BitVec 32
  /-- confirmed hits of this search (the model's own field: log entry 5) (spec/10 R272) -/
  hitsNow : Nat
  /-- frequency is known, from assistance or from the first confirmed hit of this search (the model's own field: log entry 5) (spec/04 R98) -/
  freqFound : Bool
  /-- the Runtime has begun its search plan since its start (the model's own field: log entry 5) (spec/20 R473) -/
  begun : Bool
  /-- DWELL operations waiting for the cell search in progress, in order of issue (the model's own field: log entry 5) (spec/14 R353) -/
  dwellQ : List (CoreId × Fin 4)
  /-- milliseconds since the last dwell epoch ended, and its length, while its idle interval runs (the model's own field: log entry 5) (spec/04 R89) -/
  idle : Option (Nat × Nat)
  /-- PRNs for which a twin has been requested (the model's own field: log entry 5) (spec/04 R96, R115) -/
  twinReq : List Nat
deriving DecidableEq, Repr

/-- The reset value of `AcqSt`. -/
def AcqSt.reset : AcqSt where
  searching := false
  plan := []
  newPlan := none
  cell := none
  dwellDone := false
  stalled := false
  pendHits := []
  lastRes := []
  lastHit := false
  notSearched := 0
  hitsNow := 0
  freqFound := false
  begun := false
  dwellQ := []
  idle := none
  twinReq := []

/-- Solutions and integrity (05), held in B1. -/
structure IntegSt where
  /-- SPOOF_SUSPECT (spec/05 R133) -/
  spoof : Bool
  /-- int.stat.cause (spec/05 R133) -/
  cause : Nat
  /-- consecutive clock failures (spec/05 R133) -/
  clkRun : Nat
  /-- solution epochs passed since the first of the consecutive passing solutions, in 0.1 s (the model's own field: log entry 5) (spec/05 R134) -/
  passT : Option Nat
  /-- the reference anchor (spec/05 R131) -/
  ref : Option RefAnchor
  /-- consecutive solutions with a twin disagreement, by PRN (spec/05 R129, R133) -/
  twins : List (Nat × Nat)
  /-- PRNs whose lead has changed since the last solution epoch (the model's own field: log entry 5) (spec/05 R141) -/
  leadChg : List Nat
  /-- DTC count of the last solution epoch (the model's own field: log entry 5) (spec/05 R123) -/
  solvedAt : Option Nat
  /-- cn0_flat of the latest solution (the model's own field: log entry 5) (spec/05 R129) -/
  cn0Flat : Bool
  /-- sequence number of the next MSR record (reset value: DESIGN CHOICE, log entry 8) (spec/05 R138) -/
  seq : BitVec 16
  /-- a path was in jamming state 2 in the latest solution (the model's own field: log entry 5) (spec/05 R133) -/
  jamAlarm : Bool
deriving DecidableEq, Repr

/-- The reset value of `IntegSt`. -/
def IntegSt.reset : IntegSt where
  spoof := false
  cause := 0
  clkRun := 0
  passT := none
  ref := none
  twins := []
  leadChg := []
  solvedAt := none
  cn0Flat := false
  seq := 0
  jamAlarm := false

/-- TPOUT (06). -/
structure TpSt where
  /-- TPOUT is at its active level (TP_STAT.active and TP_STAT.gated follow the mask of R148) (spec/06 R147) -/
  level : Bool
  /-- TP_STAT.late (spec/06 R152, R168) -/
  late : Bool
  /-- TP_STAT.step (spec/06 R152, R168) -/
  step : Bool
  /-- TP_STAT.pulse_cnt (spec/06 R168) -/
  pulseCnt : BitVec 16
  /-- TP_QERR.qerr (spec/06 R150, R168) -/
  qerr : BitVec 16
  /-- TP_QERR.tow_lo (spec/06 R150, R168) -/
  towLo : BitVec 16
  /-- tp.rate in force (spec/06 R147, R170) -/
  rate : Nat
  /-- tp.width in force (spec/06 R147, R170) -/
  width : Nat
  /-- tp.pol in force (spec/06 R147, R170) -/
  pol : Bool
  /-- tp.user_off in force (spec/06 R147, R170) -/
  userOff : Int
  /-- latest pulse time emitted (never emitted again) (the model's own field: log entry 5) (spec/06 R152) -/
  lastTarget : Option Int
  /-- tp.out_delay in force, in 0.1 ns (spec/06 R146, 23 R534) -/
  outDly : Int
  /-- target of the inactive edge of the pulse in progress: a GNSS tick and picoseconds after it (the model's own field: log entry 5) (spec/06 R147, R149) -/
  endsAt : Option (Int × Int)
  /-- a pulse deferred to 1 us after the pulse in progress, in the same form (the model's own field: log entry 5) (spec/06 R152) -/
  deferred : Option (Int × Int)
  /-- DTC tick at which the latest edge was placed (the model's own field: log entry 5) (spec/06 R149) -/
  placed : Int
deriving DecidableEq, Repr

/-- The reset value of `TpSt`. -/
def TpSt.reset : TpSt where
  level := false
  late := false
  step := false
  pulseCnt := 0
  qerr := 0
  towLo := 0
  rate := 0
  width := 100000
  pol := false
  userOff := 0
  lastTarget := none
  outDly := 0
  endsAt := none
  deferred := none
  placed := 0

/-- The Word Clock Synthesizer (06). -/
structure WcsSt where
  /-- WCS_CTRL.en (spec/06 R169) -/
  en : Bool
  /-- WCS_CTRL.fam (spec/06 R169) -/
  fam : Bool
  /-- WCS_CTRL.mclk_x2 (spec/06 R169) -/
  x2 : Bool
  /-- WCS_CTRL.walign_mode (spec/06 R169) -/
  square : Bool
  /-- WCS_CTRL.walign_pol (spec/06 R169) -/
  lowAct : Bool
  /-- WCS_CTRL.auto_jump (spec/06 R169) -/
  autoJump : Bool
  /-- WCS_STAT.state (spec/06 R156, R169) -/
  state : WcsState
  /-- WCS_STAT.holdover (spec/06 R160, R169) -/
  holdover : Bool
  /-- WCS_STAT.realign_pend (spec/06 R157, R169) -/
  pend : Bool
  /-- WCS_STAT.pll_lk (spec/06 R156, R169) -/
  pllLk : Bool
  /-- WCS_STAT.unlock (spec/06 R162, R169) -/
  unlock : Bool
  /-- WCS_STAT.realign_cnt (spec/06 R157, R169) -/
  cnt : Nat
  /-- the output phase, in 1/16 tick: as last measured, moved by every step of GNSS time (the model's own field: log entry 5) (spec/06 R155, R157) -/
  phi : Int
  /-- phi_a, in 1/16 tick (spec/06 R155; log entry 91) -/
  phiA : Int
  /-- N of the steering law, as numerator and denominator (reset value: DESIGN CHOICE, log entry 5) (spec/06 R155) -/
  ratio : Int × Int
  /-- WCLK_OUT and WALIGN are running (spec/06 R156) -/
  running : Bool
  /-- the outputs are held between the stop and the restart of a re-align (the model's own field: log entry 5) (spec/06 R157) -/
  stopped : Bool
  /-- GNSS time of that stop, in 1/16 tick divided by fs (the model's own field: log entry 5) (spec/06 R157) -/
  stoppedAt : Int
  /-- GNSS time at which pll_lk was set (the model's own field: log entry 5) (spec/06 R156) -/
  lockedAt : Int
  /-- the auto_jump re-align of this start has been requested (the model's own field: log entry 5) (spec/06 R158) -/
  jumpDone : Bool
  /-- the lattice has been GNSS-based since the WCS started (the model's own field: log entry 5) (spec/06 R160) -/
  gnssBased : Bool
  /-- the outputs stopped for a sleep state (the model's own field: log entry 5) (spec/06 R161) -/
  sleepStop : Bool
  /-- WCS_STAT.fam (spec/06 R169) -/
  famUse : Bool
deriving DecidableEq, Repr

/-- The reset value of `WcsSt`. -/
def WcsSt.reset : WcsSt where
  en := false
  fam := false
  x2 := false
  square := false
  lowAct := false
  autoJump := true
  state := .off
  holdover := false
  pend := false
  pllLk := false
  unlock := false
  cnt := 0
  phi := 0
  phiA := 0
  ratio := (0, 1)
  running := false
  stopped := false
  stoppedAt := 0
  lockedAt := 0
  jumpDone := false
  gnssBased := false
  sleepStop := false
  famUse := false

/-- One EVOUT pin (07). -/
structure EvPin where
  /-- the pin is at its active level (spec/07 R181) -/
  active : Bool
  /-- GNSS times of the trailing edges still to come, earliest first (the model's own field: log entry 5) (spec/07 R179, R180) -/
  ends : List Int
  /-- tick of the latest slot edge applied (the model's own field: log entry 5) (spec/07 R180) -/
  lastAt : Option Int
  /-- DTC tick at which the latest edge was placed (the model's own field: log entry 5) (spec/07 R179) -/
  placed : Int
deriving DecidableEq, Repr

/-- The reset value of `EvPin`. -/
def EvPin.reset : EvPin where
  active := false
  ends := []
  lastAt := none
  placed := 0

/-- One timemark input (07). -/
structure TmSt where
  /-- capture buffer, oldest first (spec/07 R186) -/
  buf : List Stamp
  /-- EVS_TMARK.tmK_lost (spec/07 R186, R190) -/
  lost : BitVec 8
  /-- lost edges not yet reported in a record (the model's own field: log entry 5) (spec/07 R186) -/
  lostRep : Nat
  /-- tick count of the last stamped edge (the model's own field: log entry 5) (spec/07 R186) -/
  lastEdge : Option Nat
deriving DecidableEq, Repr

/-- The reset value of `TmSt`. -/
def TmSt.reset : TmSt where
  buf := []
  lost := 0
  lostRep := 0
  lastEdge := none

/-- The Event Scheduler and the timemarks (07). -/
structure EvsSt where
  /-- the ARMED slots, by index (a slot not listed is FREE with all fields zero) (spec/07 R172) -/
  slots : List (Nat × Slot)
  /-- EVS_STAT.collide (spec/07 R190) -/
  collide : Bool
  /-- EVS_STAT.tm_lost (spec/07 R190) -/
  tmLost : Bool
  /-- EVS_STAT.skip (spec/07 R190) -/
  skip : Bool
  /-- EVS_STAT.late (spec/07 R190) -/
  late : Bool
  /-- EVS_STAT.fire_cnt (spec/07 R190) -/
  fireCnt : BitVec 16
  /-- EVS_TMARK.tm_wake (spec/07 R190) -/
  tmWake : BitVec 2
  /-- TMARK0 and TMARK1 (spec/07 R185) -/
  tm : Vector TmSt 2
  /-- sequence number of the next EVT record (reset value: DESIGN CHOICE, log entry 8) (spec/07 R188) -/
  seq : BitVec 16
  /-- firings in SLEEP whose ring and record follow the wake (the model's own field: log entry 5) (spec/07 R189) -/
  held : List FireRec
  /-- on a standby, firings after the last fire count received, oldest first (the model's own field: log entry 5) (spec/19 R463) -/
  shadow : List FireRec
  /-- B-space 0x400-0x7FF (spec/07 R184, 12 R311) -/
  fired : BitVec 1024
  /-- EVOUT0-EVOUT3 (spec/07 R181) -/
  ev : Vector EvPin 4
deriving DecidableEq, Repr

/-- The reset value of `EvsSt`. -/
def EvsSt.reset : EvsSt where
  slots := []
  collide := false
  tmLost := false
  skip := false
  late := false
  fireCnt := 0
  tmWake := 0
  tm := Vector.replicate 2 .reset
  seq := 0
  held := []
  shadow := []
  fired := 0
  ev := Vector.replicate 4 .reset

/-- The host bus cycle (08). -/
structure BusSt where
  /-- the open cycle: next word offset, HWR_N and HSEC as latched (spec/08 R194) -/
  cyc : Option BusCyc
  /-- HAD as the device drove it in the last read data phase (spec/08 R196) -/
  rdata : BitVec 16
  /-- HERR_N asserted in the last data phase (spec/08 R204) -/
  herr : Bool
  /-- a data phase is held (HACK_N high) until the fabric runs (spec/08 R199) -/
  held : Bool
deriving DecidableEq, Repr

/-- The reset value of `BusSt`. -/
def BusSt.reset : BusSt where
  cyc := none
  rdata := 0
  herr := false
  held := false

/-- One class's transaction (08). -/
structure TxnSt where
  /-- TXN_CTRL.open (spec/08 R224) -/
  isOpen : Bool
  /-- TXN_CTRL.pend (spec/08 R224) -/
  pend : Bool
  /-- TXN_CTRL.lost (spec/08 R224) -/
  lost : Bool
  /-- TXN_CTRL.result (spec/08 R224) -/
  result : Nat
  /-- TXN_CTRL.items (spec/08 R224) -/
  items : Nat
  /-- TXN_CTRL.pages (spec/08 R224) -/
  pages : BitVec 16
  /-- shadowed items and their values (spec/08 R216) -/
  shadow : List (Nat × Int)
  /-- a shadowed item was written live since it was shadowed (the model's own field: log entry 5) (spec/08 R218) -/
  dirty : Bool
deriving DecidableEq, Repr

/-- The reset value of `TxnSt`. -/
def TxnSt.reset : TxnSt where
  isOpen := false
  pend := false
  lost := false
  result := 0
  items := 0
  pages := 0
  shadow := []
  dirty := false

/-- One class's time latch (01). -/
structure LatchSt where
  /-- the latch is armed (spec/01 R17) -/
  armed : Bool
  /-- DTC at which it was taken (the model's own field: log entry 5) (spec/01 R17) -/
  takenAt : Nat
  /-- SYS_DTC_HI as latched (spec/01 R17) -/
  hi : BitVec 32
  /-- SYS_TIMEQ as latched (spec/01 R17) -/
  timeq : BitVec 32
deriving DecidableEq, Repr

/-- The reset value of `LatchSt`. -/
def LatchSt.reset : LatchSt where
  armed := false
  takenAt := 0
  hi := 0
  timeq := 0x000FFFF0

/-- The banked registers of one requester class (08, 09). -/
structure ClsBank where
  /-- HB_CLIENT.client (spec/08 R223) -/
  client : BitVec 10
  /-- HB_PSEL.index (spec/08 R223) -/
  pindex : BitVec 8
  /-- HB_PSEL.page (spec/08 R223) -/
  ppage : BitVec 4
  /-- HB_PSEL.auto_inc (spec/08 R223) -/
  pinc : Bool
  /-- HB_ERR.cause (spec/08 R206, R223) -/
  errCause : Nat
  /-- HB_ERR.wr (spec/08 R223) -/
  errWr : Bool
  /-- HB_ERR.count (spec/08 R223) -/
  errCnt : Nat
  /-- HB_ERR.offset (spec/08 R223) -/
  errOff : BitVec 16
  /-- HB_IRQ.err (spec/08 R210, R223) -/
  irqErr : Bool
  /-- HB_IRQ.txn (spec/08 R210, R223) -/
  irqTxn : Bool
  /-- HB_IRQ.core (spec/08 R210, R223) -/
  irqCore : Bool
  /-- HB_IRQ.wake (spec/08 R210, R223) -/
  irqWake : Bool
  /-- HB_IRQ.en (spec/08 R223) -/
  irqEn : BitVec 6
  /-- TXN_CTRL and the shadow (spec/08 R224) -/
  txn : TxnSt
  /-- SLU_NOTICE.kind (spec/09 R235) -/
  nKind : BitVec 2
  /-- SLU_NOTICE.client (spec/09 R235, 12 R309) -/
  nClient : BitVec 10
  /-- SLU_NOTICE.cls (spec/09 R235) -/
  nCls : BitVec 3
  /-- SLU_NOTICE.offset (spec/09 R235) -/
  nOff : BitVec 14
  /-- SLU_NOTICE.bank (spec/09 R235) -/
  nBank : BitVec 3
  /-- SLU_DB.chan (spec/09 R235) -/
  dbChan : BitVec 6
  /-- SLU_DB.res (spec/09 R235) -/
  dbRes : Nat
  /-- SLU_DB.tmo (spec/09 R235) -/
  dbTmo : Bool
  /-- the holding word and the register it belongs to (spec/08 R202) -/
  hold : Option (Nat × BitVec 16)
  /-- staged lower words of paired registers (spec/08 R201) -/
  stage : List (Nat × BitVec 16)
  /-- the class's time latch (spec/01 R17) -/
  latch : LatchSt
deriving DecidableEq, Repr

/-- The reset value of `ClsBank`. -/
def ClsBank.reset : ClsBank where
  client := 0
  pindex := 0
  ppage := 0
  pinc := false
  errCause := 0
  errWr := false
  errCnt := 0
  errOff := 0
  irqErr := false
  irqTxn := false
  irqCore := false
  irqWake := false
  irqEn := 0
  txn := .reset
  nKind := 0
  nClient := 0
  nCls := 0
  nOff := 0
  nBank := 0
  dbChan := 0
  dbRes := 0
  dbTmo := false
  hold := none
  stage := []
  latch := .reset

/-- A full doorbell channel (10). -/
structure ChanSt where
  /-- the notice held (spec/10 R244) -/
  notice : Notice
  /-- class of the sender (the model's own field: log entry 5) (spec/10 R245) -/
  sender : BitVec 3
  /-- its timeout flag has been set (the model's own field: log entry 5) (spec/10 R249) -/
  timed : Bool
  /-- the DTC count of the ring (the model's own field: log entry 5) (spec/10 R249) -/
  rungAt : Nat
deriving DecidableEq, Repr

/-- The reset value of `ChanSt`. -/
def ChanSt.reset : ChanSt where
  notice := ⟨0, 0, 0, 0, 0⟩
  sender := 0
  timed := false
  rungAt := 0

/-- Sluice: channels and rings (10). -/
structure SluSt where
  /-- the full channels, by number (spec/10 R244) -/
  chans : List (Nat × ChanSt)
  /-- CMD, oldest first (spec/10 R251) -/
  cmd : List Notice
  /-- NTC, oldest first (spec/10 R251) -/
  ntc : List Notice
  /-- NTC entry number (mod 512) of the oldest notice, which places its body (the model's own field: log entry 5) (spec/10 R253) -/
  ntcHead : Nat
  /-- SLU_RING.cmd_ref (spec/09 R235) -/
  cmdRef : BitVec 8
  /-- SLU_RING.ntc_ovf (spec/09 R235) -/
  ntcOvf : BitVec 8
  /-- SLU_RING.msr_held (spec/09 R235) -/
  msrHeld : BitVec 8
  /-- SLU_RING.evt_held (spec/09 R235) -/
  evtHeld : BitVec 8
  /-- coalesced types and their counts (spec/10 R258) -/
  coal : List (Nat × Nat)
  /-- the MSR ring is suspended (spec/10 R254) -/
  msrSusp : Bool
  /-- the EVT ring is suspended (spec/10 R254) -/
  evtSusp : Bool
deriving DecidableEq, Repr

/-- The reset value of `SluSt`. -/
def SluSt.reset : SluSt where
  chans := []
  cmd := []
  ntc := []
  ntcHead := 0
  cmdRef := 0
  ntcOvf := 0
  msrHeld := 0
  evtHeld := 0
  coal := []
  msrSusp := false
  evtSusp := false

/-- The data banks (11). -/
structure BankSt where
  /-- bank words as bytes 2a (low) and 2a+1 (high) of linear word a; unlisted bytes read 0 (R296) (spec/11 R276) -/
  mem : List Host.Cell
  /-- words whose check bits do not decode clean: a single-bit error, a double-bit error or the poison mark (spec/11 R276, R289) -/
  errs : List (Nat × Upset)
  /-- BNK_OWNER.own0-own7 (spec/09 R236) -/
  owners : Vector BankOwner 8
  /-- BNK_OWNER.drain (spec/09 R236, 11 R282) -/
  drain : BitVec 8
  /-- (bank, word), oldest first (spec/11 R290) -/
  log : List (Nat × Nat)
  /-- BNK_LOG.ovf (spec/11 R290) -/
  logOvf : Bool
  /-- words of each bank poisoned since VDDIN power-on (spec/11 R294) -/
  poisonN : Vector Nat 8
  /-- Rake's next word (reset value: DESIGN CHOICE, log entry 5) (spec/11 R287) -/
  rakeAt : BitVec 14
  /-- the millisecond of the DTC in which Rake last checked words, and how many of each bank (the model's own field: log entry 5) (spec/11 R287) -/
  rakeMs : Nat × Nat
  /-- banks being cleared (accesses wait) (the model's own field: log entry 5) (spec/11 R296) -/
  clearing : BitVec 8
  /-- retained banks not yet granting accesses after a wake (the model's own field: log entry 5) (spec/11 R297) -/
  wakeWait : BitVec 8
  /-- banks retained through the present DEEP SLEEP (the model's own field: log entry 5) (spec/11 R295) -/
  retained : BitVec 8
  /-- B5 is lent to HOST (spec/10 R268) -/
  lent : Bool
  /-- BNK_WADDR.word (spec/08 R225) -/
  wAddr : BitVec 14
  /-- BNK_WADDR.bank (spec/08 R225) -/
  wBank : BitVec 3
  /-- BNK_WADDR.auto_inc (spec/08 R225) -/
  wInc : Bool
deriving DecidableEq, Repr

/-- The reset value of `BankSt`. -/
def BankSt.reset : BankSt where
  mem := []
  errs := []
  owners := ⟨#[.trk, .svc, .cryst, .trk, .svc, .svc, .host, .host], rfl⟩
  drain := 0
  log := []
  logOvf := false
  poisonN := Vector.replicate 8 0
  rakeAt := 0
  rakeMs := (0, 0)
  clearing := 0
  wakeWait := 0
  retained := 0
  lent := false
  wAddr := 0
  wBank := 0
  wInc := false

/-- One segment register (12). -/
structure SegReg where
  /-- base (spec/12 R301, R306) -/
  base : BitVec 18
  /-- limit (spec/12 R301, R306) -/
  lim : BitVec 16
deriving DecidableEq, Repr

/-- The reset value of `SegReg`. -/
def SegReg.reset : SegReg where
  base := 0
  lim := 0

/-- One return-stack entry (12). -/
structure RsEntry where
  /-- return address (reset value: DESIGN CHOICE, log entry 4) (spec/12 R313) -/
  addr : BitVec 14
  /-- FL bits 4:0 (reset value: DESIGN CHOICE, log entry 4) (spec/12 R313) -/
  fl : BitVec 5
  /-- run level (reset value: DESIGN CHOICE, log entry 4) (spec/12 R313) -/
  level : BitVec 3
  /-- IE (reset value: DESIGN CHOICE, log entry 4) (spec/12 R313) -/
  ie : Bool
deriving DecidableEq, Repr

/-- The reset value of `RsEntry`. -/
def RsEntry.reset : RsEntry where
  addr := 0
  fl := 0
  level := 0
  ie := false

/-- One coprocessor tag (14). -/
structure Tag where
  /-- an operation is outstanding (spec/14 R347) -/
  busy : Bool
  /-- completion code (1 IDLE since reset) (spec/14 R351) -/
  code : Nat
  /-- completion detail (spec/14 R351) -/
  detail : Nat
  /-- unread result words (spec/14 R347) -/
  words : List (BitVec 16)
  /-- the operation issued (the model's own field: log entry 5) (spec/14 R348) -/
  op : Option CpOp
deriving DecidableEq, Repr

/-- The reset value of `Tag`. -/
def Tag.reset : Tag where
  busy := false
  code := 1
  detail := 0
  words := []
  op := none

/-- The context of the Runtime at a call of a program-RAM hook (12). -/
structure HookFrame where
  /-- address after the CALL (the model's own field: log entry 5) (spec/12 R325, R327) -/
  ret : BitVec 14
  /-- RSP.top before the CALL (the model's own field: log entry 5) (spec/12 R327) -/
  top : BitVec 3
  /-- RSP.count before the CALL (the model's own field: log entry 5) (spec/12 R327) -/
  count : Nat
  /-- W0-W7 (the model's own field: log entry 5) (spec/12 R325) -/
  w : Vector (BitVec 16) 8
  /-- SG0-SG3 (the model's own field: log entry 5) (spec/12 R325) -/
  sg : Vector SegReg 4
  /-- FL.T (the model's own field: log entry 5) (spec/12 R325) -/
  t : Bool
  /-- IVB.ie (the model's own field: log entry 5) (spec/12 R325) -/
  ie : Bool
  /-- IVB.level (the model's own field: log entry 5) (spec/12 R325) -/
  level : BitVec 3
  /-- IVB.base (the model's own field: log entry 5) (spec/12 R325) -/
  base : BitVec 9
deriving DecidableEq, Repr

/-- The reset value of `HookFrame`. -/
def HookFrame.reset : HookFrame where
  ret := 0
  top := 0
  count := 0
  w := Vector.replicate 8 0
  sg := Vector.replicate 4 .reset
  t := false
  ie := false
  level := 0
  base := 0

/-- One Galros core (12). -/
structure Core where
  /-- W0-W7 (reset value: DESIGN CHOICE, log entry 4) (spec/12 R301) -/
  w : Vector (BitVec 16) 8
  /-- PC (spec/12 R301) -/
  pc : BitVec 14
  /-- FL.Z (spec/12 R301, R302) -/
  z : Bool
  /-- FL.C (spec/12 R301, R302) -/
  c : Bool
  /-- FL.N (spec/12 R301, R302) -/
  n : Bool
  /-- FL.V (spec/12 R301, R302) -/
  v : Bool
  /-- FL.T (spec/12 R301, R302) -/
  t : Bool
  /-- SG0-SG3 (spec/12 R301) -/
  sg : Vector SegReg 4
  /-- the return stack's 8 slots (reset value: DESIGN CHOICE, log entry 4) (spec/12 R313) -/
  rs : Vector RsEntry 8
  /-- RSP.top (spec/12 R313) -/
  rsTop : BitVec 3
  /-- RSP.count (spec/12 R313) -/
  rsCount : Nat
  /-- IVB.ie (0 on entry to vector 0, R319) (spec/12 R318) -/
  ie : Bool
  /-- IVB.level (7 once vector 0 is entered, R319) (spec/12 R318) -/
  level : BitVec 3
  /-- IVB.base (spec/12 R318) -/
  base : BitVec 9
  /-- the loaded value the next instruction does not yet see (the model's own field: log entry 5) (spec/12 R322) -/
  delay : Option (Nat × BitVec 16)
  /-- parked at WAIT (PWR_MODE.trk_wait / svc_wait) (spec/12 R321, 09 R237) -/
  waiting : Bool
  /-- DBG_CTRL.halted (spec/09 R240, 21 R495) -/
  halted : Bool
  /-- D_CTL reason (spec/21 R494) -/
  reason : Nat
  /-- DBG_CTRL.halt (spec/09 R240) -/
  haltReq : Bool
  /-- D_CTL halt (spec/21 R494) -/
  haltSdp : Bool
  /-- D_CTL step (spec/21 R494) -/
  stepReq : Bool
  /-- not yet started: CORE down or held at boot (the model's own field: log entry 5) (spec/20 R470, R474) -/
  held : Bool
  /-- stopped after a third restart (spec/20 R483) -/
  stopped : Bool
  /-- DTC times of the restarts within the last 10 s, latest first (the model's own field: log entry 5) (spec/20 R483) -/
  restarts : List Nat
  /-- parked by PROG_LOAD (spec/10 R268) -/
  parked : Bool
  /-- halted because a frame could not be written (the model's own field: log entry 5) (spec/12 R316) -/
  frameHalt : Bool
  /-- the DTC count of that halt (the model's own field: log entry 5) (spec/20 R483) -/
  haltAt : Nat
  /-- a program-RAM hook called from ROM runs: its caller (the model's own field: log entry 5) (spec/12 R325, R327) -/
  hook : Option HookFrame
  /-- the vector of a trap of program RAM that hook 3 is asked about (the model's own field: log entry 5) (spec/12 R325, R327) -/
  trapVec : Option Nat
  /-- resumed from a breakpoint: no second hit (the model's own field: log entry 5) (spec/21 R495) -/
  bpSkip : Bool
  /-- D_BP0-D_BP3 (spec/21 R494) -/
  bp : Vector Breakpoint 4
  /-- PWR_MODE.trk_req / svc_req (spec/09 R237) -/
  req : Nat
  /-- bit RAM 0x800-0xFFF (reset value: DESIGN CHOICE, log entry 4) (spec/12 R311) -/
  bitRam : BitVec 2048
  /-- ie8-ie15 (spec/12 R312) -/
  ieBits : BitVec 8
  /-- rs_wrap (reset value: DESIGN CHOICE, log entry 5) (spec/12 R312) -/
  rsWrap : Bool
  /-- ip_epoch (reset value: DESIGN CHOICE, log entry 5) (spec/12 R312) -/
  ipEpoch : Bool
  /-- ip_poison (reset value: DESIGN CHOICE, log entry 5) (spec/12 R312) -/
  ipPoison : Bool
  /-- ip_peer (reset value: DESIGN CHOICE, log entry 5) (spec/12 R312) -/
  ipPeer : Bool
  /-- ip_power (spec/12 R312, 16 R386) -/
  ipPower : Bool
  /-- B-space 0x340-0x37F (reset value: DESIGN CHOICE, log entry 5) (spec/12 R311) -/
  empties : BitVec 64
  /-- B-space 0x380-0x3BF (reset value: DESIGN CHOICE, log entry 5) (spec/12 R311) -/
  tmos : BitVec 64
  /-- T0-T3 (spec/14 R347) -/
  tag : Vector Tag 4
deriving DecidableEq, Repr

/-- The reset value of `Core`. -/
def Core.reset : Core where
  w := Vector.replicate 8 0
  pc := 0
  z := false
  c := false
  n := false
  v := false
  t := false
  sg := Vector.replicate 4 .reset
  rs := Vector.replicate 8 .reset
  rsTop := 0
  rsCount := 0
  ie := false
  level := 0
  base := 0
  delay := none
  waiting := false
  halted := false
  reason := 0
  haltReq := false
  haltSdp := false
  stepReq := false
  held := true
  stopped := false
  restarts := []
  parked := false
  frameHalt := false
  haltAt := 0
  hook := none
  trapVec := none
  bpSkip := false
  bp := Vector.replicate 4 ⟨0, false⟩
  req := 0
  bitRam := 0
  ieBits := 0
  rsWrap := false
  ipEpoch := false
  ipPoison := false
  ipPeer := false
  ipPower := false
  empties := 0
  tmos := 0
  tag := Vector.replicate 4 .reset

/-- CP3 and program memory (08, 14). -/
structure CpSt where
  /-- CP3 operations waiting, oldest first (spec/14 R356) -/
  queue : List Cp3Op
  /-- the CP3 operation in service (spec/14 R357) -/
  serving : Option Cp3Op
  /-- channel of the operation in service (spec/14 R357, R362) -/
  chan : Nat
  /-- next CP3 sequence number (reset value: DESIGN CHOICE, log entry 8) (spec/14 R356) -/
  seq : BitVec 8
  /-- DTC time of the ring of the operation in service (the model's own field: log entry 5) (spec/14 R361) -/
  servedAt : Nat
  /-- operations issued so far, which numbers them in the order of issue (the model's own field: log entry 5) (spec/14 R349) -/
  issued : Nat
  /-- program RAM as bytes (reset value: DESIGN CHOICE, log entry 4) (spec/12 R304) -/
  pram : List Host.Cell
  /-- PRG_ADDR.addr (spec/08 R225) -/
  pAddr : BitVec 14
  /-- PRG_ADDR.auto_inc (spec/08 R225) -/
  pInc : Bool
  /-- PRG_ADDR.core (spec/08 R225) -/
  pCore : Bool
deriving DecidableEq, Repr

/-- The reset value of `CpSt`. -/
def CpSt.reset : CpSt where
  queue := []
  serving := none
  chan := 33
  seq := 0
  servedAt := 0
  issued := 0
  pram := []
  pAddr := 0
  pInc := false
  pCore := false

/-- The core regulator (15). -/
structure VregSt where
  /-- VREG_STAT.target (spec/15 R364, 09 R237) -/
  target : Nat
  /-- the output as the present slew began, in 5 mV / 16,368: VREG_STAT.out follows it (spec/15 R365, 09 R237) -/
  out : Nat
  /-- DTC count at which the present slew began (the model's own field: log entry 5) (spec/15 R365) -/
  slewAt : Nat
  /-- VREG_STAT.slewing (spec/15 R365) -/
  slewing : Bool
  /-- VREG_STAT.softst (reset value: DEDUCED, log entry 3) (spec/15 R368) -/
  softst : Bool
  /-- VREG_STAT.short (spec/15 R369) -/
  short : Bool
  /-- VREG_STAT.clip_cnt (spec/15 R364) -/
  clipCnt : BitVec 8
  /-- the last command that arrived during soft start (the model's own field: log entry 5) (spec/15 R368) -/
  late : Option Nat
  /-- a core-rail failure stands (FAULT_N) (spec/15 R369, R377) -/
  failed : Bool
  /-- failures since the previous SUPPLY event 8 (spec/15 R378) -/
  failsSince : Nat
  /-- vreg.vin was last below vreg.vin_warn (the model's own field: log entry 5) (spec/15 R371) -/
  vinLow : Bool
  /-- the target held at the SLEEP commit (the model's own field: log entry 5) (spec/16 R397) -/
  atCommit : Nat
deriving DecidableEq, Repr

/-- The reset value of `VregSt`. -/
def VregSt.reset : VregSt where
  target := 0
  out := 0
  slewAt := 0
  slewing := false
  softst := true
  short := false
  clipCnt := 0
  late := none
  failed := false
  failsSince := 0
  vinLow := false
  atCommit := 0

/-- The antenna supply (15). -/
structure AntSt where
  /-- ANT_STAT.state (spec/15 R373, 09 R237) -/
  state : Nat
  /-- ANT_STAT.open (spec/15 R376) -/
  isOpen : Bool
  /-- ANT_STAT.short (spec/15 R374) -/
  short : Bool
  /-- ANT_STAT.ilim (spec/15 R375) -/
  ilim : Bool
  /-- ANT_STAT.tries (spec/15 R374) -/
  tries : Nat
  /-- ANT_STAT.ima (spec/09 R237) -/
  ima : Nat
  /-- the over-current notice has been posted (the model's own field: log entry 5) (spec/15 R376) -/
  hiNoted : Bool
deriving DecidableEq, Repr

/-- The reset value of `AntSt`. -/
def AntSt.reset : AntSt where
  state := 0
  isOpen := false
  short := false
  ilim := false
  tries := 0
  ima := 0
  hiNoted := false

/-- Power states, start-up and service levels (16, 20). -/
structure PwrSt where
  /-- AON is powered and answers the bus (reset value: DEDUCED, log entry 3) (spec/20 R467) -/
  aonUp : Bool
  /-- CORE is powered (soft start passed) (reset value: DEDUCED, log entry 3) (spec/20 R470) -/
  coreUp : Bool
  /-- REFIN was judged stable and the cores were started or held (reset value: DEDUCED, log entry 3) (spec/20 R470) -/
  coresUp : Bool
  /-- RST_N is recognised low (reset value: DEDUCED, log entry 3) (spec/20 R471) -/
  rstLow : Bool
  /-- the CORE power-up in progress is a wake from DEEP SLEEP (the model's own field: log entry 5) (spec/16 R398) -/
  wakeDeep : Bool
  /-- PWR_STAT.state (spec/09 R237, 16 R383) -/
  state : PwrState
  /-- PWR_STAT.tried (spec/09 R237) -/
  tried : Nat
  /-- PWR_STAT.outcome (spec/09 R237) -/
  outcome : Nat
  /-- PWR_STAT.block (spec/09 R237) -/
  block : Nat
  /-- PWR_STAT.wake (spec/09 R237) -/
  wake : Nat
  /-- an entry attempt is in progress (spec/16 R385) -/
  attempt : Bool
  /-- the blocks have been asked and some still delay (spec/16 R387) -/
  asked : Bool
  /-- the DTC count at which the attempt began (the model's own field: log entry 5) (spec/16 R386) -/
  attAt : Nat
  /-- the DTC count at which the blocks were asked (the model's own field: log entry 5) (spec/16 R387) -/
  askedAt : Nat
  /-- the DTC count at which the last entry committed (the model's own field: log entry 5) (spec/16 R407) -/
  commitAt : Nat
  /-- the DTC count at which a pan, a search or a command last kept the Runtime busy (the model's own field: log entry 5) (spec/16 R401; log entry 99) -/
  busyAt : Nat
  /-- the pwr parameters that govern the attempt, as they stood when it began (the model's own field: log entry 5) (spec/16 R405) -/
  att : AttPars
  /-- wake sources held since the commit (spec/16 R390) -/
  heldWakes : List Nat
  /-- cause of the CORE power-up in progress (reset value: DEDUCED, log entry 3) (spec/20 R475) -/
  bootCause : Nat
  /-- a boot hold preceded this start (spec/20 R474) -/
  bootHold : Bool
  /-- the calibration check failed at start-up (spec/20 R468) -/
  calFail : Bool
  /-- SYS_LEVEL.level (spec/20 R478) -/
  level : Nat
  /-- SYS_LEVEL.chg (spec/09 R234) -/
  chg : Bool
  /-- SYS_LEVEL.bnk_out (reset value: DESIGN CHOICE, log entry 6) (spec/09 R234) -/
  bnkOut : BitVec 8
  /-- SYS_LEVEL.unit_out (reset value: DESIGN CHOICE, log entry 6) (spec/09 R234) -/
  unitOut : BitVec 8
  /-- SYS_LEVEL.unit_flt (spec/09 R234) -/
  unitFlt : BitVec 8
  /-- fuses: banks mapped out (reset value: DESIGN CHOICE, log entry 6) (spec/21 R504) -/
  fuseBnk : BitVec 8
  /-- fuses: units mapped out (reset value: DESIGN CHOICE, log entry 6) (spec/21 R504) -/
  fuseUnit : BitVec 8
  /-- SUPPLY events not yet posted, with their data (spec/15 R378) -/
  supplyHeld : List (Nat × Nat)
  /-- GAUGE events not yet posted, with their data (spec/18 R434) -/
  gaugeHeld : List (Nat × Nat)
  /-- slots cancelled at DEEP SLEEP entry, to be reported (the model's own field: log entry 5) (spec/16 R394) -/
  cancelled : Nat
  /-- EVS_TMARK.tm_wake as copied into AON at commit (the model's own field: log entry 5) (spec/16 R396) -/
  tmWakeAon : BitVec 2
  /-- the prescaler showed progress at the start in hand (the model's own field: log entry 5) (spec/17 R414) -/
  prescOk : Bool
deriving DecidableEq, Repr

/-- The reset value of `PwrSt`. -/
def PwrSt.reset : PwrSt where
  aonUp := true
  coreUp := false
  coresUp := false
  rstLow := false
  wakeDeep := false
  state := .run
  tried := 0
  outcome := 0
  block := 0
  wake := 0
  attempt := false
  asked := false
  attAt := 0
  askedAt := 0
  commitAt := 0
  busyAt := 0
  att := ⟨0, 0, 0, 0, 0, 0⟩
  heldWakes := []
  bootCause := 0
  bootHold := false
  calFail := false
  level := 0
  chg := false
  bnkOut := 0
  unitOut := 0
  unitFlt := 0
  fuseBnk := 0
  fuseUnit := 0
  supplyHeld := []
  gaugeHeld := []
  cancelled := 0
  tmWakeAon := 0
  prescOk := true

/-- The RTC, in BAK (17). -/
structure RtcSt where
  /-- RTC_HALT.halt (spec/09 R238) -/
  halt : Bool
  /-- the DTC count at which RTC_HALT.presc was last 0; none before it first counts (spec/09 R238, 17 R410; log entry 57) -/
  prescAt : Option Nat
  /-- RTC_TIME.sec (spec/09 R238) -/
  sec : BitVec 7
  /-- RTC_TIME.min (spec/09 R238) -/
  min : BitVec 7
  /-- RTC_TIME.hour (spec/09 R238) -/
  hour : BitVec 6
  /-- RTC_TIME.wday (spec/09 R238) -/
  wday : BitVec 3
  /-- RTC_DATE.day (spec/09 R238) -/
  day : BitVec 6
  /-- RTC_DATE.month (spec/09 R238) -/
  month : BitVec 5
  /-- RTC_DATE.year (spec/09 R238) -/
  year : BitVec 8
  /-- RTC_ALM0 (spec/09 R238) -/
  alm0 : BitVec 32
  /-- RTC_ALM1 (spec/09 R238) -/
  alm1 : BitVec 32
  /-- RTC_SWSTAMP (spec/09 R238, 17 R416) -/
  stamp : BitVec 32
  /-- BAK draws from VBAK (reset value: DEDUCED, log entry 3) (spec/17 R408) -/
  onVbak : Bool
  /-- the calendar counts as written under R34 (spec/17 R414) -/
  r34 : Bool
deriving DecidableEq, Repr

/-- The reset value of `RtcSt`. -/
def RtcSt.reset : RtcSt where
  halt := false
  prescAt := none
  sec := 0
  min := 0
  hour := 0
  wday := 1
  day := 1
  month := 1
  year := 0
  alm0 := 0x01000000
  alm1 := 0x01000000
  stamp := 0
  onVbak := false
  r34 := false

/-- The battery gauge (18). -/
structure GauSt where
  /-- GAU_SOC.disp (spec/09 R239) -/
  disp : Nat
  /-- GAU_SOC.disp_ok (spec/09 R239) -/
  dispOk : Bool
  /-- GAU_SOC.raw (spec/09 R239) -/
  raw : Nat
  /-- the next sample starts the gauge from the open-circuit voltage (reset value: DEDUCED, log entry 3) (spec/18 R429) -/
  starting : Bool
  /-- the remaining charge in uA*us, which keeps the fraction of gau.q_rem (the model's own field: log entry 5) (spec/18 R427) -/
  q : Int
  /-- the fraction of the displayed move carried from sample to sample (spec/18 R431) -/
  frac : Nat
  /-- consecutive samples below gau.stretch_ma (the model's own field: log entry 5) (spec/18 R424) -/
  stretchRun : Nat
  /-- consecutive samples at or below gau.v_sd while discharging (the model's own field: log entry 5) (spec/18 R432) -/
  sdRun : Nat
  /-- consecutive samples below gau.v_lo (the model's own field: log entry 5) (spec/18 R433) -/
  vloRun : Nat
  /-- consecutive samples below 1.0 V (the model's own field: log entry 5) (spec/18 R436) -/
  absentRun : Nat
  /-- Displayed SOC is held at 0 (the model's own field: log entry 5) (spec/18 R432) -/
  zeroHold : Bool
  /-- events that wait for their re-arm condition (the model's own field: log entry 5) (spec/18 R433) -/
  disarmed : BitVec 4
  /-- a gauge fault stands (spec/18 R436) -/
  fault : Bool
  /-- time for which stretched has read 1 (the model's own field: log entry 5) (spec/18 R430) -/
  restUs : Nat
  /-- the correction of this rest period has been made (the model's own field: log entry 5) (spec/18 R430) -/
  restDone : Bool
  /-- time for which the full condition has held (the model's own field: log entry 5) (spec/18 R430) -/
  fullUs : Nat
  /-- the samples of the last 60 s, latest first: current in uA and length in us (the model's own field: log entry 5) (spec/18 R430) -/
  iHist : List (Int × Nat)
  /-- current of the latest sample (the model's own field: log entry 5) (spec/18 R421) -/
  lastI : Int
  /-- cell voltage of the latest sample (the model's own field: log entry 5) (spec/18 R420) -/
  lastV : Nat
  /-- time since the latest sample (the model's own field: log entry 5) (spec/18 R425) -/
  sinceUs : Nat
deriving DecidableEq, Repr

/-- The reset value of `GauSt`. -/
def GauSt.reset : GauSt where
  disp := 0
  dispOk := false
  raw := 0
  starting := true
  q := 0
  frac := 0
  stretchRun := 0
  sdRun := 0
  vloRun := 0
  absentRun := 0
  zeroHold := false
  disarmed := 0
  fault := false
  restUs := 0
  restDone := false
  fullUs := 0
  iHist := []
  lastI := 0
  lastV := 0
  sinceUs := 0

/-- The mirrored pair (19). -/
structure MirSt where
  /-- MIR_STAT.role (spec/09 R239, 19 R442) -/
  role : Nat
  /-- MIR_STAT.link_ok (spec/09 R239, 19 R447) -/
  linkOk : Bool
  /-- MIR_STAT.pcu (spec/09 R239, 19 R454) -/
  pcu : Nat
  /-- MIR_STAT.st_fail (spec/09 R239) -/
  stFail : Bool
  /-- MIR_STAT.dly_mis (spec/09 R239) -/
  dlyMis : Bool
  /-- MIR_STAT.wlost (spec/09 R239) -/
  wlost : Bool
  /-- MIR_STAT.wl_bank (spec/09 R239) -/
  wlBank : BitVec 3
  /-- MIR_STAT.wl_word (spec/09 R239) -/
  wlWord : BitVec 14
  /-- MIR_STAT.takeover (spec/09 R239) -/
  takeover : Bool
  /-- the link is started (the model's own field: log entry 5) (spec/19 R442) -/
  linkRun : Bool
  /-- this device's nonce (the model's own field: log entry 5) (spec/19 R443) -/
  nonce : BitVec 16
  /-- content of the partner's latest IDLE frame (the model's own field: log entry 5) (spec/19 R446) -/
  partner : Option Partner
  /-- consecutive valid frames (the model's own field: log entry 5) (spec/19 R447) -/
  goodRun : Nat
  /-- consecutive frames from another primary (the model's own field: log entry 5) (spec/19 R443) -/
  conflictRun : Nat
  /-- sequence of the next frame sent (reset value: DESIGN CHOICE, log entry 8) (spec/19 R445) -/
  txSeq : BitVec 6
  /-- frames waiting to be sent, oldest first (the model's own field: log entry 5) (spec/19 R445) -/
  out : List Frame
  /-- the last frame sent on MLTX (the model's own field: log entry 5) (spec/19 R445) -/
  lastSent : Option Frame
  /-- lost words to name in the next RESEND (spec/19 R450) -/
  resend : List (Nat × Nat)
  /-- a full mirroring pass completed (the model's own field: log entry 5) (spec/19 R448) -/
  passDone : Bool
  /-- the PCU has been started (the model's own field: log entry 5) (spec/19 R442, R454) -/
  pcuOn : Bool
  /-- a self-test has passed since the PCU started (the model's own field: log entry 5) (spec/19 R454) -/
  tested : Bool
  /-- a self-test is asked for at the next comparison (the model's own field: log entry 5) (spec/19 R453, R455) -/
  testDue : Bool
  /-- the 16-second block of GNSS time of the last self-test (the model's own field: log entry 5) (spec/19 R453) -/
  testBlk : Int
  /-- the last 4 ordinary comparisons, 0.1 ns, latest first (the model's own field: log entry 5) (spec/19 R453) -/
  es : List Int
  /-- consecutive comparisons within mir.lock_ns (the model's own field: log entry 5) (spec/19 R452) -/
  lockRun : Nat
  /-- consecutive comparisons outside mir.lock_ns (the model's own field: log entry 5) (spec/19 R452) -/
  looseRun : Nat
  /-- consecutive comparisons with |delta| beyond mir.accuse_ns (the model's own field: log entry 5) (spec/19 R456) -/
  accuseRun : Nat
  /-- first copy of mir.dly_cmp with its parity (spec/19 R451) -/
  cmpA : DlyCopy
  /-- second copy of mir.dly_cmp (spec/19 R451) -/
  cmpB : DlyCopy
  /-- first copy of mir.dly_out (spec/19 R451) -/
  outA : DlyCopy
  /-- second copy of mir.dly_out (spec/19 R451) -/
  outB : DlyCopy
  /-- a takeover in progress: H, trigger and levels (the model's own field: log entry 5) (spec/19 R457) -/
  take : Option TakePend
  /-- the primary holds slot requests since its TAKE (spec/19 R457) -/
  holdSlots : Bool
  /-- the slot requests held (spec/19 R457) -/
  heldOps : List Notice
  /-- link lost: the next internal TPOUT edge decides (the model's own field: log entry 5) (spec/19 R459) -/
  lossWait : Bool
  /-- WCS and EVOUT pins are driven from the next lattice point (the model's own field: log entry 5) (spec/19 R459) -/
  wcsWait : Bool
  /-- outputs enter high impedance at the next lattice point (the model's own field: log entry 5) (spec/19 R442) -/
  relWait : Bool
  /-- the shared-net pins are in high impedance (CORE is down) (reset value: DEDUCED, log entry 3) (spec/19 R441, 23 R532) -/
  hiZ : Bool
  /-- delta is being slewed out after a takeover (the model's own field: log entry 5) (spec/19 R461) -/
  slewOut : Bool
  /-- fire count of the partner's latest IDLE frame (the model's own field: log entry 5) (spec/19 R463) -/
  fireSeen : BitVec 16
deriving DecidableEq, Repr

/-- The reset value of `MirSt`. -/
def MirSt.reset : MirSt where
  role := 0
  linkOk := false
  pcu := 0
  stFail := false
  dlyMis := false
  wlost := false
  wlBank := 0
  wlWord := 0
  takeover := false
  linkRun := false
  nonce := 0
  partner := none
  goodRun := 0
  conflictRun := 0
  txSeq := 0
  out := []
  lastSent := none
  resend := []
  passDone := false
  pcuOn := false
  tested := false
  testDue := false
  testBlk := 0
  es := []
  lockRun := 0
  looseRun := 0
  accuseRun := 0
  cmpA := ⟨0, false⟩
  cmpB := ⟨0, false⟩
  outA := ⟨0, false⟩
  outB := ⟨0, false⟩
  take := none
  holdSlots := false
  heldOps := []
  lossWait := false
  wcsWait := false
  relWait := false
  hiZ := true
  slewOut := false
  fireSeen := 0

/-- The debug port and the calibration block (21). -/
structure DbgSt where
  /-- a session is attached (DBG_CTRL.sdp_on) (spec/21 R488) -/
  session : Bool
  /-- a break was seen and the SDP waits for a session key (the model's own field: log entry 5) (spec/21 R488) -/
  afterBreak : Bool
  /-- DBG_CTRL.sdp_seen (spec/21 R486) -/
  seen : Bool
  /-- D_ERR.cause (spec/21 R494) -/
  errCause : Nat
  /-- D_ERR.space (spec/21 R494) -/
  errSpace : Nat
  /-- status of the last frame as sent on SDIO (the model's own field: log entry 5) (spec/21 R489) -/
  status : SdpStatus
  /-- data of the last read frame as sent on SDIO (the model's own field: log entry 5) (spec/21 R489) -/
  data : BitVec 32
  /-- CAL_CTRL.busy (spec/09 R240) -/
  calBusy : Bool
  /-- CAL_CTRL.err (spec/09 R240) -/
  calErr : Bool
  /-- CAL_CTRL.valid (reset value: DESIGN CHOICE, log entry 6) (spec/09 R240) -/
  calValid : Bool
  /-- CAL_CTRL.cycles, the wear counter (reset value: DESIGN CHOICE, log entry 6) (spec/09 R240, 21 R498) -/
  cycles : Nat
  /-- words of the calibration block that differ from the nominal block (reset value: DESIGN CHOICE, log entry 6) (spec/21 R498) -/
  nvm : List (Nat × BitVec 16)
  /-- the block image a STORE is writing (the model's own field: log entry 5) (spec/21 R501) -/
  storing : Option (List (Nat × BitVec 16))
  /-- edge-placer trims written, taking effect at the next epoch boundary (the model's own field: log entry 5) (spec/21 R500) -/
  trimPend : Bool
  /-- cal words 0x02-0x11 in use by the edge placer, in ps (the model's own field: log entry 5) (spec/21 R500) -/
  trims : List Int
deriving DecidableEq, Repr

/-- The reset value of `DbgSt`. -/
def DbgSt.reset : DbgSt where
  session := false
  afterBreak := false
  seen := false
  errCause := 0
  errSpace := 0
  status := .none
  data := 0
  calBusy := false
  calErr := false
  calValid := true
  cycles := 0
  nvm := []
  storing := none
  trimPend := false
  trims := List.replicate 16 0

/-- Pins driven by the device that no other field gives (23). -/
structure PinSt where
  /-- REFOUT is driven (low until CORE is up) (spec/16 R394, 20 R470) -/
  refout : Bool
deriving DecidableEq, Repr

/-- The reset value of `PinSt`. -/
def PinSt.reset : PinSt where
  refout := false

/-- One active pan (04). -/
structure Pan where
  /-- the PRN held (spec/04 R100) -/
  prn : Nat
  /-- carrier state (spec/04 R107) -/
  phase : Carrier
  /-- the pan starts at the next epoch boundary (the model's own field: log entry 5) (spec/10 R268, 14 R352) -/
  starting : Bool
  /-- carrier NCO rate (reset value: DESIGN CHOICE, log entry 5) (spec/04 R100) -/
  carNco : BitVec 32
  /-- code NCO rate (reset value: DESIGN CHOICE, log entry 5) (spec/04 R100) -/
  codeNco : BitVec 32
  /-- rates that apply at the next integration boundary (the model's own field: log entry 5) (spec/14 R352) -/
  pendRate : Option (BitVec 32 × BitVec 32)
  /-- chip of the PRN code generator at the latest integration boundary, 0-1,022 (reset value: DESIGN CHOICE, log entry 5) (spec/04 R100) -/
  chip : Nat
  /-- code NCO phase at the latest integration boundary (reset value: DESIGN CHOICE, log entry 5) (spec/04 R100, 14 R352) -/
  codePh : BitVec 32
  /-- carrier NCO phase at the latest integration boundary (reset value: DESIGN CHOICE, log entry 5) (spec/04 R100, 14 R352) -/
  carPh : BitVec 32
  /-- DTC count at which the code and carrier phases held (the model's own field: log entry 5) (spec/14 R352) -/
  posAt : Nat
  /-- milliseconds the pan has run (the model's own field: log entry 5) (spec/04 R105) -/
  ms : Nat
  /-- E-L spacing in force (spec/04 R100) -/
  elSp : Nat
  /-- VE-VL spacing in force (spec/04 R100) -/
  velSp : Nat
  /-- roaming tap A position (spec/04 R101) -/
  xaOff : Int
  /-- roaming tap B position (spec/04 R101) -/
  xbOff : Int
  /-- tap settings that apply at the next integration boundary (the model's own field: log entry 5) (spec/14 R352) -/
  pendTaps : Option (Nat × Nat × Int × Int)
  /-- integration length (spec/04 R104) -/
  coh : Nat
  /-- integration length that applies at the next bit edge (the model's own field: log entry 5) (spec/04 R104, 14 R352) -/
  pendCoh : Option Nat
  /-- millisecond, modulo 20, of the data-bit edge once bit_sync is set (the model's own field: log entry 5) (spec/04 R104, R105) -/
  bitPos : Nat
  /-- code_lk (spec/04 R110) -/
  codeLk : Bool
  /-- car_lk (spec/04 R110) -/
  carLk : Bool
  /-- bit_sync (spec/04 R110) -/
  bitSync : Bool
  /-- frm_sync (spec/04 R110) -/
  frmSync : Bool
  /-- susp (spec/04 R111) -/
  susp : Bool
  /-- ready (spec/04 R111) -/
  ready : Bool
  /-- the pan is the lead of its PRN (spec/04 R116) -/
  lead : Bool
  /-- C/N0 (spec/04 R109) -/
  cn0 : Nat
  /-- sums of |P|^2 and |N|^2 and milliseconds of the present C/N0 window (the model's own field: log entry 5) (spec/04 R109) -/
  cnWin : Nat × Nat × Nat
  /-- sums of I^2 and Q^2 on P and milliseconds of the present PLI window (the model's own field: log entry 5) (spec/04 R110) -/
  pliWin : Nat × Nat × Nat
  /-- successive windows with PLI at or above trk.pli_thr (the model's own field: log entry 5) (spec/04 R110) -/
  pliRun : Nat
  /-- milliseconds with C/N0 below trk.cn0_loss (the model's own field: log entry 5) (spec/04 R110) -/
  lossMs : Option Nat
  /-- sign changes at the 20 millisecond positions, and milliseconds, of the present bit-sync window (the model's own field: log entry 5) (spec/04 R105) -/
  signs : List Nat × Nat
  /-- the last result of P (the model's own field: log entry 5) (spec/04 R105, R108) -/
  lastP : Option (Int × Int)
  /-- pan search in progress, after a loss of code lock, a failed start at the predicted state or for first acquisition (the model's own field: log entry 5) (spec/04 R113, R114) -/
  reacq : Option PanSrch
  /-- DTC count at which PULL or pan search was entered (the model's own field: log entry 5) (spec/04 R107, R113) -/
  since : Nat
  /-- the pan started at its predicted state and has not pulled in yet (the model's own field: log entry 5) (spec/04 R97, R114) -/
  direct : Bool
  /-- phase discriminator of the latest result that TRK took (reset value: DESIGN CHOICE, log entry 5) (spec/04 R108) -/
  pll : Int
  /-- frequency discriminator: cross and dot product of the two latest results of P (reset value: DESIGN CHOICE, log entry 5) (spec/04 R108) -/
  fll : Int × Int
  /-- code discriminator (|A| - |B|) / (|A| + |B|) as |A|^2 - |B|^2, |A|^2 + |B|^2 and |A|^2 |B|^2 (reset value: DESIGN CHOICE, log entry 5) (spec/04 R108) -/
  dll : Int × Nat × Nat
  /-- millisecond of the LNAV preamble found (the model's own field: log entry 5) (spec/04 R105) -/
  preamble : Option Nat
  /-- successive subframes with a parity failure (the model's own field: log entry 5) (spec/04 R110) -/
  parityRun : Nat
  /-- the integration in progress includes a gap epoch (the model's own field: log entry 5) (spec/02 R61) -/
  gapHit : Bool
  /-- an integration of the measurement interval was discarded for a gap (the model's own field: log entry 5) (spec/05 R124) -/
  gapMeas : Bool
  /-- I and Q of P, E, L, VE, VL, XA, XB and N (spec/14 R352) -/
  result : List (BitVec 16)
  /-- IODC, URA index and health of the latest subframe 1 (spec/05 R128) -/
  sf1 : Option (Nat × Nat × Bool)
  /-- IODE and toe of the latest subframe 2 (spec/05 R128) -/
  sf2 : Option (Nat × Nat)
  /-- IODE of the latest subframe 3 (spec/05 R128) -/
  sf3 : Option Nat
deriving DecidableEq, Repr

/-- The reset value of `Pan`. -/
def Pan.reset : Pan where
  prn := 0
  phase := .pull
  starting := false
  carNco := 0
  codeNco := 0
  pendRate := none
  chip := 0
  codePh := 0
  carPh := 0
  posAt := 0
  ms := 0
  elSp := 8
  velSp := 24
  xaOff := 0
  xbOff := 0
  pendTaps := none
  coh := 1
  pendCoh := none
  bitPos := 0
  codeLk := false
  carLk := false
  bitSync := false
  frmSync := false
  susp := false
  ready := false
  lead := true
  cn0 := 0
  cnWin := (0, 0, 0)
  pliWin := (0, 0, 0)
  pliRun := 0
  lossMs := none
  signs := (List.replicate 20 0, 0)
  lastP := none
  reacq := none
  since := 0
  direct := false
  pll := 0
  fll := (0, 0)
  dll := (0, 0, 0)
  preamble := none
  parityRun := 0
  gapHit := false
  gapMeas := false
  result := []
  sf1 := none
  sf2 := none
  sf3 := none

/-- The 32 pans (04) and message content held (05). -/
structure PanSt where
  /-- the active pans, by number (spec/04 R100) -/
  act : List (Nat × Pan)
  /-- ephemeris in use, by PRN (spec/05 R128) -/
  eph : List (Nat × Eph)
  /-- new sets, by PRN, which take effect at the next solution epoch (spec/05 R128) -/
  ephNew : List (Nat × Eph)
  /-- PRNs with almanac (spec/05 R128) -/
  almPrn : List Nat
  /-- PRNs that the almanac marks unhealthy (reset value: DESIGN CHOICE, log entry 5) (spec/05 R128) -/
  almBad : BitVec 32
  /-- almanac toa (reset value: DESIGN CHOICE, log entry 5) (spec/05 R128) -/
  almToa : Nat
  /-- almanac week WNa (reset value: DESIGN CHOICE, log entry 5) (spec/05 R128) -/
  almWn : Nat
  /-- ionosphere parameters held (spec/05 R126, R128) -/
  iono : Bool
deriving DecidableEq, Repr

/-- The reset value of `PanSt`. -/
def PanSt.reset : PanSt where
  act := []
  eph := []
  ephNew := []
  almPrn := []
  almBad := 0
  almToa := 0
  almWn := 0
  iono := false

/-- The state of the block. -/
structure State where
  /-- The Device Time Counter, GNSS time and time quality (01). -/
  time : TimeSt
  /-- The Pace Monitor, shedding and gap marking (02). -/
  pace : PaceSt
  /-- The sample boundary and the Brine FIFO (03). -/
  samp : SampSt
  /-- The Crystallizer and the search (04). -/
  acq : AcqSt
  /-- Solutions and integrity (05), held in B1. -/
  integ : IntegSt
  /-- TPOUT (06). -/
  tp : TpSt
  /-- The Word Clock Synthesizer (06). -/
  wcs : WcsSt
  /-- The Event Scheduler and the timemarks (07). -/
  evs : EvsSt
  /-- The host bus cycle (08). -/
  bus : BusSt
  /-- Sluice: channels and rings (10). -/
  slu : SluSt
  /-- The data banks (11). -/
  bank : BankSt
  /-- CP3 and program memory (08, 14). -/
  cp : CpSt
  /-- The core regulator (15). -/
  vreg : VregSt
  /-- The antenna supply (15). -/
  ant : AntSt
  /-- Power states, start-up and service levels (16, 20). -/
  pwr : PwrSt
  /-- The RTC, in BAK (17). -/
  rtc : RtcSt
  /-- The battery gauge (18). -/
  gau : GauSt
  /-- The mirrored pair (19). -/
  mir : MirSt
  /-- The debug port and the calibration block (21). -/
  dbg : DbgSt
  /-- Pins driven by the device that no other field gives (23). -/
  pin : PinSt
  /-- The 32 pans (04) and message content held (05). -/
  pans : PanSt
  /-- The banked registers of class host-non-secure (spec/08 R207, R221, spec/09 R227). -/
  ns : ClsBank
  /-- The banked registers of class host-secure (spec/08 R207, R221, spec/09 R227). -/
  sec : ClsBank
  /-- The banked registers of class debug (spec/08 R207, R221, spec/09 R227). -/
  dbgc : ClsBank
  /-- The banked registers of class TRK (spec/08 R207, R221, spec/09 R227). -/
  trkc : ClsBank
  /-- The banked registers of class SVC (spec/08 R207, R221, spec/09 R227). -/
  svcc : ClsBank
  /-- The banked registers of class mirror (spec/08 R207, R221, spec/09 R227). -/
  mirc : ClsBank
  /-- Galros TRK (spec/12). -/
  trk : Core
  /-- Galros SVC (spec/12). -/
  svc : Core
  /-- The parameters that differ from their reset values, by key page * 256 + index, rising (spec/09 R231). -/
  params : List (Nat × Int)
  /-- The model's own counter that the free values are applied to (log entry 9). -/
  free : Nat
  /-- The commands that wait, first in, first out (log entry 10). -/
  pending : List Instr
deriving DecidableEq, Repr

/-- The machine right after VDDIN power-on (spec/20 R467; log entry 3). -/
def State.reset : State where
  time := .reset
  pace := .reset
  samp := .reset
  acq := .reset
  integ := .reset
  tp := .reset
  wcs := .reset
  evs := .reset
  bus := .reset
  slu := .reset
  bank := .reset
  cp := .reset
  vreg := .reset
  ant := .reset
  pwr := .reset
  rtc := .reset
  gau := .reset
  mir := .reset
  dbg := .reset
  pin := .reset
  pans := .reset
  ns := .reset
  sec := .reset
  dbgc := .reset
  trkc := .reset
  svcc := .reset
  mirc := .reset
  trk := .reset
  svc := .reset
  params := []
  free := 0
  pending := []

end Sys2Proof.Machine
end

