-- ==== Sys2Proof/Machine/Ops.lean ====
section
/-! DEFINITION. The named operations over maps, memory, registers, cores, requester classes and parameters. -/

namespace Sys2Proof.Machine

/-! ### Sparse maps: lists of pairs with strictly rising keys -/

/-- The value at a key. -/
def mget {α : Type} : List (Nat × α) → Nat → Option α
  | [], _ => none
  | (k, v) :: m, i => if k = i then some v else mget m i

/-- Sets the value at a key. -/
def mput {α : Type} : List (Nat × α) → Nat → α → List (Nat × α)
  | [], i, x => [(i, x)]
  | (k, v) :: m, i, x =>
    if i < k then (i, x) :: (k, v) :: m
    else if k = i then (i, x) :: m
    else (k, v) :: mput m i x

/-- Removes a key. -/
def mdel {α : Type} : List (Nat × α) → Nat → List (Nat × α)
  | [], _ => []
  | (k, v) :: m, i => if k = i then mdel m i else (k, v) :: mdel m i

/-- Keys strictly rising, each at least `lo`. -/
def mrisingFrom {α : Type} : Nat → List (Nat × α) → Bool
  | _, [] => true
  | lo, (k, _) :: m => decide (lo ≤ k) && mrisingFrom (k + 1) m

/-- The canonical form of a sparse map's keys. -/
def mrising {α : Type} (m : List (Nat × α)) : Bool := mrisingFrom 0 m

/-! ### Byte memories (the banks and the program RAM): unlisted bytes read 0 -/

/-- One byte; an unlisted byte reads 0 (spec/11 R296; log entry 11). -/
def cellGet (m : List Host.Cell) (a : Nat) : BitVec 8 := (mget m a).getD 0

/-- Writes one byte and keeps the canonical form. -/
def cellSet (m : List Host.Cell) (a : Nat) (v : BitVec 8) : List Host.Cell :=
  if v = 0 then mdel m a else mput m a v

/-- The canonical form of a memory: addresses strictly rising and no entry equal to what an unlisted byte reads. -/
def Memory.wf (m : List Host.Cell) : Bool := mrising m && m.all (fun c => c.2 != 0)

/-- The 16-bit word `a` of a memory: byte 2a is its lower half (log entry 11). -/
def wordGet (m : List Host.Cell) (a : Nat) : Word := cellGet m (2 * a + 1) ++ cellGet m (2 * a)

/-- Writes the 16-bit word `a`. -/
def wordSet (m : List Host.Cell) (a : Nat) (w : Word) : List Host.Cell :=
  cellSet (cellSet m (2 * a) (w.extractLsb' 0 8)) (2 * a + 1) (w.extractLsb' 8 8)

/-- Words `a` to `a + n - 1`. -/
def wordsGet (m : List Host.Cell) : Nat → Nat → List Word
  | _, 0 => []
  | a, n + 1 => wordGet m a :: wordsGet m (a + 1) n

/-! ### Requester classes and cores -/

/-- Code of a class in notices and records (spec/07 R173). -/
def clsCode : Cls → Nat
  | .ns => 0 | .sec => 1 | .trk => 2 | .svc => 3 | .dbg => 4 | .mir => 5

/-- Class of a code. -/
def clsOf : Nat → Cls
  | 0 => .ns | 1 => .sec | 2 => .trk | 3 => .svc | 4 => .dbg | _ => .mir

/-- The class a core posts as. -/
def coreCls : CoreId → Cls
  | .trk => .trk | .svc => .svc

/-- The other core. -/
def peer : CoreId → CoreId
  | .trk => .svc | .svc => .trk

/-- Core number: 0 TRK, 1 SVC (spec/09 R233). -/
def coreNum : CoreId → Nat
  | .trk => 0 | .svc => 1

/-- Core of a number. -/
def coreOf (n : Nat) : CoreId := if n = 0 then .trk else .svc

/-- The banked registers of a class. -/
def State.cls (s : State) : Cls → ClsBank
  | .ns => s.ns | .sec => s.sec | .dbg => s.dbgc | .trk => s.trkc | .svc => s.svcc | .mir => s.mirc

/-- Replaces the banked registers of a class. -/
def State.setCls (s : State) (c : Cls) (b : ClsBank) : State :=
  match c with
  | .ns => { s with ns := b } | .sec => { s with sec := b } | .dbg => { s with dbgc := b }
  | .trk => { s with trkc := b } | .svc => { s with svcc := b } | .mir => { s with mirc := b }

/-- Changes the banked registers of a class. -/
def State.modCls (s : State) (c : Cls) (f : ClsBank → ClsBank) : State := s.setCls c (f (s.cls c))

/-- A core. -/
def State.core (s : State) : CoreId → Core
  | .trk => s.trk | .svc => s.svc

/-- Replaces a core. -/
def State.setCore (s : State) (k : CoreId) (c : Core) : State :=
  match k with
  | .trk => { s with trk := c } | .svc => { s with svc := c }

/-- Changes a core. -/
def State.modCore (s : State) (k : CoreId) (f : Core → Core) : State := s.setCore k (f (s.core k))

/-- Changes both cores. -/
def State.modCores (s : State) (f : Core → Core) : State := { s with trk := f s.trk, svc := f s.svc }

/-! ### Parameters -/

/-- A parameter's value, as carried (spec/08 R212). -/
def State.par (s : State) (k : Nat) : Int := (mget s.params k).getD (paramReset k)

/-- A parameter as a natural number. -/
def State.parN (s : State) (k : Nat) : Nat := (s.par k).toNat

/-- A one-bit parameter. -/
def State.parB (s : State) (k : Nat) : Bool := s.par k != 0

/-- Bit `i` of a parameter. -/
def State.parBit (s : State) (k i : Nat) : Bool := (s.parN k).testBit i

/-- Sets a parameter and keeps the canonical form: no entry equal to its reset value. -/
def State.setPar (s : State) (k : Nat) (v : Int) : State :=
  { s with params := if v = paramReset k then mdel s.params k else mput s.params k v }

/-- Width of a parameter in bits. -/
def paramWidth (k : Nat) : Nat := match paramRow k with | some r => r.width | none => 0

/-- Advances a saturating counter held in a parameter. -/
def State.bumpPar (s : State) (k : Nat) : State :=
  s.setPar k (if s.par k < 2 ^ paramWidth k - 1 then s.par k + 1 else s.par k)

/-- Advances a wrapping counter held in a parameter. -/
def State.incPar (s : State) (k : Nat) : State := s.setPar k ((s.par k + 1) % 2 ^ paramWidth k)

/-- Sets or clears bit `i` of a parameter used as a bit map. -/
def State.setParBit (s : State) (k i : Nat) (b : Bool) : State :=
  if s.parBit k i = b then s else s.setPar k (if b then s.par k + 2 ^ i else s.par k - 2 ^ i)

/-- Canonical form of the parameter map: keys rising, each the key of a parameter, none at its reset value. -/
def paramsWf (m : List (Nat × Int)) : Bool :=
  mrising m && m.all (fun p => (paramRow p.1).isSome && p.2 != paramReset p.1)

/-! ### The model's counter for free values -/

/-- Takes a fresh number for a free value (log entry 9). -/
def State.nextFree (s : State) : State := { s with free := s.free + 1 }

/-! ### Bits and lists -/

/-- Sets bit `i` of a vector to `b`. -/
def setBit {w : Nat} (v : BitVec w) (i : Nat) (b : Bool) : BitVec w :=
  if b then v ||| BitVec.twoPow w i else v &&& ~~~ BitVec.twoPow w i

/-- A field of a 32-bit register. -/
def field (v : BitVec 32) (lo n : Nat) : Nat := (v.toNat >>> lo) % 2 ^ n

/-- A 32-bit register made of (position, value) fields. -/
def pack : List (Nat × Nat) → BitVec 32
  | [] => 0
  | (p, v) :: fs => BitVec.ofNat 32 (v <<< p) ||| pack fs

/-- The 16-bit words of a number, lowest first. -/
def wordsOf : Nat → Nat → List Word
  | 0, _ => []
  | n + 1, v => BitVec.ofNat 16 v :: wordsOf n (v / 65536)

/-- The number whose 16-bit words, lowest first, are given. -/
def natOf : List Word → Nat
  | [] => 0
  | w :: ws => w.toNat + 65536 * natOf ws

/-- Two's-complement reading of the low `w` bits. -/
def signedOf (w : Nat) (v : Nat) : Int :=
  let u := v % 2 ^ w
  if u < 2 ^ (w - 1) then u else (u : Int) - 2 ^ w

/-- Word `i` of a list, 0 beyond its end. -/
def wordAt (ws : List Word) (i : Nat) : Word := ws.getD i 0

/-- The least index below `n` that satisfies `p`. -/
def leastBelow (p : Nat → Bool) (n : Nat) : Option Nat := (List.range n).find? p

/-- Indices below `n` that satisfy `p`, rising. -/
def indicesBelow (p : Nat → Bool) : Nat → List Nat
  | 0 => []
  | n + 1 => indicesBelow p n ++ (if p n then [n] else [])

/-- The number of set bits of `v` below position `n`. -/
def popCount (v : Nat) : Nat → Nat
  | 0 => 0
  | n + 1 => popCount v n + bit (v.testBit n)

/-- Ceiling division. -/
def ceilDiv (a b : Nat) : Nat := (a + b - 1) / b

end Sys2Proof.Machine
end

