-- ==== Sys2Proof/Machine/Clock.lean ====
section
/-! DEFINITION. The Device Time Counter, GNSS time, uncertainty and the time stamp block (spec/01). -/

namespace Sys2Proof.Machine

/-- Ticks in one second: 64 per REFIN period (spec/01, R16). -/
abbrev ticksPerSec : Int := 1047552000
/-- Ticks in one GPS week. -/
abbrev ticksPerWeek : Int := 604800 * 1047552000
/-- REFIN periods in one second. -/
abbrev countsPerSec : Nat := 16368000
/-- REFIN periods in one 1 ms epoch (spec/02 R61). -/
abbrev countsPerMs : Nat := 16368

/-- Code of a time quality (spec/01 R22). -/
def tqCode : TimeQ → Nat
  | .unknown => 0 | .hostSet => 1 | .rtcBridged => 2 | .gnssCoarse => 3 | .gnssFine => 4 | .holdover => 5

/-- GNSS-COARSE or GNSS-FINE. -/
def tqGnss : TimeQ → Bool
  | .gnssCoarse | .gnssFine => true
  | _ => false

/-- DTC counts since the cold start, wraps included (spec/01 R14, R16). -/
def dtcNow (s : State) : Nat := s.time.wraps * 2 ^ 52 + s.time.dtc.toNat

/-- Carries the DTC forward to a count, in commands that name an instant (log entry 1); it never moves back, and it
does not move while the DTC does not run. -/
def carryDtc (s : State) (n : Nat) : State :=
  if s.time.running ∧ dtcNow s ≤ n then
    { s with time := { s.time with dtc := BitVec.ofNat 52 n, wraps := n / 2 ^ 52 } }
  else s

/-- The fractional frequency error in force: 0 in UNKNOWN (spec/06 R160). -/
def epsNow (s : State) : Int := if s.time.tq = .unknown then 0 else s.time.eps

/-- The part of the correction already slewed in after `d` ticks (spec/01 R19): no more than the slew rate. -/
def slewed (s : State) (d : Int) : Int :=
  let lim := max 0 (d * s.time.slewRate / 1000000000)
  clip (-lim) lim s.time.slewLeft

/-- GNSS time, in ticks since week 0, at a DTC time in ticks (spec/01 R18, R19). In UNKNOWN it is the DTC time since
the cold start (R38). -/
def gnssAt (s : State) (n : Int) : Int :=
  if s.time.tq = .unknown then n
  else
    let d := n - s.time.anchorD * 64
    s.time.anchorT + d * (1000000000000 + epsNow s) / 1000000000000 + slewed s d

/-- GNSS time now. -/
def gnssNow (s : State) : Int := gnssAt s ((dtcNow s : Int) * 64)

/-- The correction delta of a mirrored pair's output lattice, in picoseconds (spec/19 R452). -/
def deltaPs (s : State) : Int := s.par pMirDelta

/-- Inverts R18 for a target GNSS time given in ticks times `den`: the exact DTC time in ticks is the quotient of the
two numbers answered (spec/06 R149). -/
def invGnss (s : State) (num den : Int) : Int × Int :=
  let r := num - s.time.anchorT * den
  let c := s.time.slewLeft
  let rate : Int := if c < 0 then -(s.time.slewRate : Int) else s.time.slewRate
  -- DTC ticks after which the whole correction is slewed in
  let dEnd := if s.time.slewRate = 0 then 0 else (c.natAbs : Int) * 1000000000 / s.time.slewRate
  let k := 1000000000000 + epsNow s
  if s.time.tq = .unknown then (num, den)
  else if c ≠ 0 ∧ r ≤ (dEnd * (k + rate * 1000) / 1000000000000) * den then
    (r * 1000000000000 + s.time.anchorD * 64 * den * (k + rate * 1000), den * (k + rate * 1000))
  else ((r - c * den) * 1000000000000 + s.time.anchorD * 64 * den * k, den * k)

/-- Nearest tick of the DTC at which a GNSS target of `num / den` ticks is placed, with the residual q in picoseconds:
placed time less target time (spec/06 R149). `ps` is what is added to the target before it is placed (out_delay, delta, a
path trim). -/
def placeFrac (s : State) (num den ps : Int) : Int × Int :=
  let e := invGnss s (num * 1000000000000 + ps * 1047552000 * den) (den * 1000000000000)
  let n := divNearest e.1 e.2
  (n, divNearest ((n * e.2 - e.1) * 1000000000000) (e.2 * 1047552000))

/-- The same for a target in whole ticks. -/
def placeAt (s : State) (target ps : Int) : Int × Int := placeFrac s target 1 ps

/-- A GNSS time in ticks as DTC counts, rounded up: the REFIN period by which it has been reached. -/
def countAt (s : State) (target : Int) : Nat :=
  let e := invGnss s target 1
  ((-((-e.1) / e.2) + 63) / 64).toNat

/-- Carries the DTC forward to a GNSS time (log entry 1). -/
def carryGnss (s : State) (target : Int) : State := carryDtc s (countAt s target)

/-- Carries the DTC forward to the REFIN period in which a tick lies (log entry 1). -/
def carryTick (s : State) (n : Int) : State := carryDtc s (-((-n) / 64)).toNat

/-- A time in picoseconds as ticks. -/
def psTicks (ps : Int) : Int := ps * 1047552 / 1000000000

/-- The trim of cal word 0x02 + `k` in force, in ps: a positive trim means that the path is late by that amount, and the
device places or stamps earlier to match (spec/21 R498, R500). -/
def trimPs (s : State) (k : Nat) : Int := (s.dbg.trims[k]?).getD 0

/-! ### Uncertainty -/

/-- The uncertainty now, in ns; none when unbounded (spec/01 R27, R29). It grows in HOLDOVER and HOST-SET. -/
def uncNow (s : State) : Option Nat :=
  if s.time.unbounded then none
  else if s.time.tq = .holdover ∨ s.time.tq = .hostSet then
    let d := dtcNow s - s.time.uAt
    let f := 16368000
    some (s.time.u0 + ceilDiv (2 * 1000 * f * 10 * s.time.sigF * d + 1000 * d * d * s.parN pSysTcxoDrift)
      (2 * 1000 * f * f * 1000))
  else some s.time.u0

/-- The least exponent from `e` on that carries `u`, with fuel. -/
def uncEnc : Nat → Nat → Nat → BitVec 16
  | 0, _, _ => 0xFFFF
  | n + 1, e, u => if ceilDiv u (4 ^ e) ≤ 4095 then BitVec.ofNat 16 (e * 4096 + ceilDiv u (4 ^ e)) else uncEnc n (e + 1) u

/-- The 16-bit uncertainty code (spec/01 R29). -/
def uncCode : Option Nat → BitVec 16
  | none => 0xFFFF
  | some u => if u > 4094 * 4 ^ 15 then 0xFFFF else uncEnc 16 0 u

/-- The value of an uncertainty code in ns; none for unbounded (spec/01 R29). -/
def uncDecode (c : BitVec 16) : Option Nat :=
  if c = 0xFFFF then none else some (c.toNat % 4096 * 4 ^ (c.toNat / 4096))

/-- Time elapsed since the cold start in ticks: the DTC and every DEEP SLEEP gap by its T_gap (spec/01 R30, R37). -/
def elapsed (s : State) : Nat := dtcNow s * 64 + s.time.gapTicks

/-- The DTC count at which a given elapsed time is reached. -/
def elapsedCount (s : State) (t : Nat) : Nat := ceilDiv (t - s.time.gapTicks) 64

/-- age_s before saturation (spec/01 R37). RTC-BRIDGED is left to be reached from HOST-SET with no solution ever accepted:
the spec names no origin for its age then, and the model counts from the host set (log entry 66). -/
def ageNow (s : State) : Nat :=
  let since (t : Nat) : Nat := (elapsed s - t) / 1047552000
  match s.time.tq with
  | .hostSet => since s.time.hostAt
  | .holdover | .rtcBridged => since (s.time.acceptAt.getD s.time.hostAt)
  | _ => 0

/-- The 7-word time stamp block for a GNSS time, with the present quality, uncertainty and age (spec/01 R37, R38). -/
def tsbAt (s : State) (t : Int) : List Word :=
  let unk := s.time.tq = .unknown
  let week := if unk then 0 else (t / ticksPerWeek).toNat
  let tow := (t % ticksPerWeek / ticksPerSec).toNat
  let sub := (t % ticksPerSec).toNat
  [BitVec.ofNat 16 week, BitVec.ofNat 16 tow,
   BitVec.ofNat 16 (tow / 65536 % 16 + tqCode s.time.tq * 16 + bit s.time.utcValid * 128),
   BitVec.ofNat 16 sub, BitVec.ofNat 16 (sub / 65536 % 16384),
   uncCode (uncNow s), BitVec.ofNat 16 (min 65535 (ageNow s))]

/-- The time of a TSB in ticks, for the TAKE frame (spec/19 R446). -/
def tsbTime (ws : List Word) : Int :=
  ((wordAt ws 0).toNat * 604800 + (wordAt ws 1).toNat + (wordAt ws 2).toNat % 16 * 65536 : Nat) * ticksPerSec +
    ((wordAt ws 3).toNat + (wordAt ws 4).toNat % 16384 * 65536 : Nat)

/-- SYS_TIMEQ as it stands (spec/01 R39). -/
def timeqLive (s : State) : BitVec 32 :=
  pack [(0, tqCode s.time.tq), (3, bit s.time.utcValid), (4, (uncCode (uncNow s)).toNat), (20, min 4095 (ageNow s))]

/-- What SYS_TIMEQ reads: its reset value until the cores start (spec/09 R228, spec/20 R470), also on a wake from DEEP
SLEEP, for it has no RW field. -/
def timeqShown (s : State) : BitVec 32 := if s.pwr.coresUp then timeqLive s else 0x000FFFF0

/-- SYS_DTC_HI as it stands (spec/01 R39). -/
def dtcHiLive (s : State) : BitVec 32 := pack [(0, s.time.dtc.toNat >>> 32), (31, bit s.time.bridged)]

/-- The leap-second count in use (spec/01 R36). -/
def leapNow (s : State) : Int := if s.time.utcValid then s.time.leap else s.par pSysLeapDefault

end Sys2Proof.Machine
end

