-- ==== Sys2Proof/Machine/Signal.lean ====
section
/-! DEFINITION. Signal arithmetic: sample rates, NCO words, decibels by exact powers, and the peak of a search (spec/03
R67, spec/04 R87-R95, R100, R109). -/

namespace Sys2Proof.Machine

/-! ### Roots and roundings -/

/-- The square root rounded down, by bits from position `n` (spec/14 R354). -/
def isqrt (a : Nat) : Nat → Nat → Nat
  | 0, r => r
  | n + 1, r => if (r + 2 ^ n) * (r + 2 ^ n) ≤ a then isqrt a n (r + 2 ^ n) else isqrt a n r

/-- The square root of a number below 2^128, rounded down. -/
def root (a : Nat) : Nat := isqrt a 64 0

/-- A quotient as a whole number where the spec states no rounding: either neighbour of an inexact one (log entry 67). -/
def roundOpen (site : Nat) (num den : Int) : Int :=
  if num % den ≠ 0 ∧ Config.roundUp site (num / den) then num / den + 1 else num / den

/-! ### Sample rate and NCO words (spec/03 R67, spec/04 R95, R100) -/

/-- The sample rate in Hz (spec/03 R67). -/
def sampleHz (s : State) : Nat := if s.par pSmpMode = 1 then 16368000 else 8184000

/-- The centre frequency in Hz (spec/03 R67): a real IF of 4.092 MHz, or baseband. -/
def ifHz (s : State) : Int := if s.par pSmpMode = 1 then 4092000 else 0

/-- The L1 carrier in Hz. -/
abbrev l1Hz : Int := 1575420000

/-- The carrier NCO word of a Doppler in Hz: frequency over sample rate, in units of 2^-32 (log entry 68). -/
def carWord (s : State) (dop : Int) : BitVec 32 := BitVec.ofInt 32 (roundOpen 0 ((ifHz s + dop) * 2 ^ 32) (sampleHz s))

/-- The code NCO word under Doppler-aided code rate (spec/04 R95). -/
def codeWord (s : State) (dop : Int) : BitVec 32 :=
  BitVec.ofInt 32 (roundOpen 1 (1023000 * (l1Hz + dop) * 2 ^ 32) (l1Hz * sampleHz s))

/-- The Doppler in Hz of a carrier NCO word. -/
def dopOf (s : State) (w : BitVec 32) : Int := divNearest (w.toInt * sampleHz s) (2 ^ 32) - ifHz s

/-- A code phase in 1/32 chip after `d` REFIN periods at a Doppler, as chips times 2^32 (spec/04 R92, R95). -/
def codeAfter (code : Nat) (dop : Int) (d : Nat) : Nat :=
  ((code * 2 ^ 27 + roundOpen 2 (d * (l1Hz + dop) * 2 ^ 28) l1Hz) % (1023 * 2 ^ 32)).toNat

/-- A pan's NCOs and code generator at a later DTC count (spec/02 R54, spec/04 R100, R113): they run on at their rates. -/
def advancePan (s : State) (x : Pan) (till : Nat) : Pan :=
  let n := (till - x.posAt) * sampleHz s / countsPerSec
  let pos := (x.chip * 2 ^ 32 + x.codePh.toNat + x.codeNco.toNat * n) % (1023 * 2 ^ 32)
  { x with chip := pos / 2 ^ 32, codePh := BitVec.ofNat 32 pos, carPh := BitVec.ofNat 32 (x.carPh.toNat + x.carNco.toNat * n),
           posAt := max x.posAt till }

/-- A pan's Doppler in Hz. -/
def panDop (s : State) (x : Pan) : Int := dopOf s x.carNco

/-- A pan's code phase in 1/32 chip. -/
def panCode (x : Pan) : Nat := x.chip * 32 + x.codePh.toNat / 2 ^ 27

/-- Sets a pan to a code phase and Doppler that held at DTC count `at_`, propagated to count `till` (spec/04 R95). -/
def aimPan (s : State) (x : Pan) (code : Nat) (dop : Int) (at_ till : Nat) : Pan :=
  let pos := codeAfter code dop (till - at_)
  { x with carNco := carWord s dop, codeNco := codeWord s dop, chip := pos / 2 ^ 32, codePh := BitVec.ofNat 32 pos,
           posAt := till, pendRate := none }

/-- The next 1 ms epoch boundary of the DTC. -/
def nextBoundary (s : State) : Nat := (dtcNow s / countsPerMs + 1) * countsPerMs

/-! ### Decibels -/

/-- 10 log10 (num / den) is at least `t` tenths of a decibel. -/
def dbAtLeast (num den t : Nat) : Bool := decide (10 ^ t * den ^ 100 ≤ num ^ 100)

/-- The greatest number of tenths, by bits from position `n`. -/
def dbBits (num den : Nat) : Nat → Nat → Nat
  | 0, r => r
  | n + 1, r => if dbAtLeast num den (r + 2 ^ n) then dbBits num den n (r + 2 ^ n) else dbBits num den n r

/-- 10 log10 (num / den) in 0.1 dB: 0 below 0 dB, open where the spec states no rounding (log entry 67). -/
def dbTenths (num den : Nat) : Nat :=
  if den = 0 then Config.dbInfinite num
  else
    let t := dbBits num den 12 0
    if 10 ^ t * den ^ 100 < num ^ 100 ∧ Config.roundUp 3 t then t + 1 else t

/-! ### The peak of a search (spec/04 R91) -/

/-- What R91 takes from the cells: the peak and its power, the largest power outside its neighbourhood, and the sum of all
powers outside it. -/
structure Peak where
  key  : Nat
  pow  : Nat
  next : Nat
  rest : Nat
deriving DecidableEq, Repr

/-- The first largest of the cells listed. -/
def largest : List (Nat × Nat) → Nat × Nat
  | [] => (0, 0)
  | c :: cs => cs.foldl (fun b x => if b.2 < x.2 then x else b) c

/-- The peak over cells, where `near` says that a cell lies in another's neighbourhood. -/
def peakOf (near : Nat → Nat → Bool) (cells : List (Nat × Nat)) : Peak :=
  let p := largest cells
  let far := cells.filter (fun c => !near p.1 c.1)
  ⟨p.1, p.2, (largest far).2, (far.map (·.2)).sum⟩

/-- The detection metric M reaches a threshold in 0.1 dB (spec/04 R91), over `n` cells outside the neighbourhood. -/
def Peak.detects (p : Peak) (n thr : Nat) : Bool := decide (0 < p.pow) && dbAtLeast (p.pow * n) p.rest thr

/-- Cells of the Crystallizer within ±1 phase and ±1 bin (spec/04 R91): phases close on themselves, bins do not. -/
def nearCell (a b : Nat) : Bool :=
  let d := (a % 2046 + 2046 - b % 2046) % 2046
  (d == 0 || d == 1 || d == 2045) && decide (a / 2046 ≤ b / 2046 + 1) && decide (b / 2046 ≤ a / 2046 + 1)

/-- The number of cells outside a cell's neighbourhood, of all 65,472 (spec/04 R91). -/
def farCells (k : Nat) : Nat := if k / 2046 = 0 ∨ k / 2046 = 31 then 65466 else 65463

/-- Adds powers to sums, cell by cell; only the 65,472 cells count (spec/04 R87). -/
def addCells (sums cells : List (Nat × Nat)) : List (Nat × Nat) :=
  cells.foldl (fun m c => if c.1 < 65472 ∧ c.2 ≠ 0 then mput m c.1 ((mget m c.1).getD 0 + c.2) else m) sums

end Sys2Proof.Machine
end

