-- ==== Sys2Proof/Machine/Post.lean ====
section
/-! DEFINITION. Bank words, the rings of Sluice, device notices and the interrupt events of HB_IRQ (spec/08 R210,
spec/10, spec/11). -/

namespace Sys2Proof.Machine

/-! ### Banks -/

/-- Linear word number of word `w` of bank `b`. -/
def lin (b w : Nat) : Nat := (b % 8) * 16384 + w % 16384

/-- Bank `b` is mapped out by fuse or withdrawn (spec/09 R234, spec/11 R294). -/
def bankOut (s : State) (b : Nat) : Bool := s.pwr.bnkOut.getLsbD b

/-- The owner of a bank (spec/09 R236). -/
def ownerOf (s : State) (b : Nat) : BankOwner := s.bank.owners.getD b .host

/-- HOST owns bank `b`, and it is neither mapped out nor withdrawn. -/
def hostBank (s : State) (b : Nat) : Bool := decide (b < 8) && ownerOf s b == .host && !bankOut s b

/-- The stored data of a word, as a read returns it: an error leaves the stored data as found (spec/11 R289). -/
def bankWord (s : State) (b w : Nat) : Word := wordGet s.bank.mem (lin b w)

/-- How a word's check bits fail to decode, if they do. -/
def bankErr (s : State) (b w : Nat) : Option Upset := mget s.bank.errs (lin b w)

/-- Stores a word with good check bits, which clears its poison (spec/11 R276, R292). -/
def putWord (s : State) (b w : Nat) (v : Word) : State :=
  { s with bank := { s.bank with mem := wordSet s.bank.mem (lin b w) v, errs := mdel s.bank.errs (lin b w) } }

/-- Stores words from word `w` on. -/
def putWords (s : State) (b w : Nat) : List Word → State
  | [] => s
  | v :: vs => putWords (putWord s b w v) b (w + 1) vs

/-- Reads `n` words from word `w` on. -/
def getWords (s : State) (b w : Nat) : Nat → List Word
  | 0 => []
  | n + 1 => bankWord s b w :: getWords s b (w + 1) n

/-- Whether one of `n` words from `w` on is poisoned or found uncorrectable. -/
def anyPoison (s : State) (b w : Nat) : Nat → Bool
  | 0 => false
  | n + 1 => (match bankErr s b w with | some .double | some .poison => true | _ => false) || anyPoison s b (w + 1) n

/-! ### Interrupt events -/

/-- HB_IRQ.core is set in both host copies (spec/08 R210). -/
def irqCore (s : State) : State := { s with ns := { s.ns with irqCore := true }, sec := { s.sec with irqCore := true } }

/-- HB_IRQ.wake is set in both host copies. -/
def irqWake (s : State) : State := { s with ns := { s.ns with irqWake := true }, sec := { s.sec with irqWake := true } }

/-! ### NTC -/

/-- Appends a notice to NTC. -/
def pushNtc (s : State) (n : Notice) : State := { s with slu := { s.slu with ntc := s.slu.ntc ++ [n] } }

/-- The NTC entry number that the next notice takes (spec/10 R253). -/
def nextEntry (s : State) : Nat := (s.slu.ntcHead + s.slu.ntc.length) % 512

/-- An IMM notice of class and client with a 17-bit immediate (spec/10 R243). -/
def immNotice (cls : BitVec 3) (client : BitVec 10) (v : Nat) : Notice :=
  ⟨BitVec.ofNat 3 (v / 16384), BitVec.ofNat 14 v, cls, client, 1⟩

/-- The 17-bit immediate of a notice. -/
def immOf (n : Notice) : Nat := n.bank.toNat * 16384 + n.offset.toNat

/-- The notice word (spec/10 R242). -/
def noticeWord (n : Notice) : BitVec 32 :=
  pack [(0, n.kind.toNat), (2, n.client.toNat), (12, n.cls.toNat), (15, n.offset.toNat), (29, n.bank.toNat)]

/-- Increments the count of a coalesced type, saturating at 127. -/
def coalBump (s : State) (t : Nat) : State :=
  { s with slu := { s.slu with coal := mput s.slu.coal t (satInc 127 ((mget s.slu.coal t).getD 0)),
                               ntcOvf := satIncBv s.slu.ntcOvf } }

/-- A device notice of type `t` is coalesced and discarded (spec/10 R258). -/
def coalesce (s : State) (t : Nat) : State := (coalBump s t).setParBit pNtcCoalPend t true

/-- Posts an IMM device notice: type and 12 data bits, class SVC, client 0 (spec/10 R270, R271). NTC is in CORE. -/
def postImm (s : State) (t data : Nat) : State :=
  if s.pwr.coreUp then
    if s.slu.ntc.length < 496 then pushNtc s (immNotice 3 0 (t * 4096 + data % 4096)) else coalesce s t
  else s

/-- Whether the mail bank can take bodies (spec/10 R254). -/
def mailOk (s : State) : Bool := hostBank s (s.parN pNtcMailBank)

/-- Posts a MSG device notice with its 8-word body (spec/10 R253, R270, R272). -/
def postMsg (s : State) (t : Nat) (body : List Word) : State :=
  if s.pwr.coreUp then
    if s.slu.ntc.length < 496 ∧ mailOk s then
      let b := s.parN pNtcMailBank
      let w := 0x3000 + 8 * nextEntry s
      pushNtc (putWords s b w ((BitVec.ofNat 16 t :: body ++ List.replicate 7 0).take 8))
        ⟨BitVec.ofNat 3 b, BitVec.ofNat 14 w, 3, 0, 0⟩
    else coalesce s t
  else s

/-- The lowest type whose count waits (spec/10 R258). -/
def nextCoal (s : State) : Option Nat := leastBelow (s.parBit pNtcCoalPend) 32

/-- COALESCE notices while room remains below 496 entries, lowest type first (spec/10 R258). -/
def postCoalesced : Nat → State → State
  | 0, s => s
  | n + 1, s =>
    if s.slu.ntc.length < 496 then
      match nextCoal s with
      | none => s
      | some t =>
        let c := (mget s.slu.coal t).getD 0
        let s := pushNtc s (immNotice 3 0 (t * 128 + c))
        postCoalesced n ({ s with slu := { s.slu with coal := mdel s.slu.coal t } }.setParBit pNtcCoalPend t false)
    else s

/-- Removes the oldest NTC notice. -/
def popNtc (s : State) : State :=
  postCoalesced 32 { s with slu := { s.slu with ntc := s.slu.ntc.drop 1, ntcHead := (s.slu.ntcHead + 1) % 512 } }

/-! ### The device notices by name (spec/10 R271, R272) -/

def noteTimeq (s : State) (new old : TimeQ) : State := postImm s 0x01 (tqCode new + 8 * tqCode old)
def noteTstep (s : State) (step : Int) : State :=
  postMsg s 0x02 (wordsOf 3 (step % 2 ^ 48).toNat ++ [BitVec.ofNat 16 (tqCode s.time.tq)])
def notePace (s : State) (event : Nat) : State := postImm s 0x03 (s.pace.level + 64 * event)
def noteIntf (s : State) (event idx jst : Nat) : State := postImm s 0x04 (event + 8 * idx + 32 * jst)
def noteAcqHit (s : State) (h : Hit) (pan : Nat) : State :=
  postMsg s 0x05 [BitVec.ofNat 16 h.prn, BitVec.ofNat 16 h.code, BitVec.ofInt 16 h.dop, BitVec.ofNat 16 h.metric,
    BitVec.ofNat 16 h.ratio, BitVec.ofNat 16 h.cn0, BitVec.ofNat 16 pan]
def noteAcqEnd (s : State) (reason : Nat) : State :=
  postMsg s 0x06 (BitVec.ofNat 16 s.acq.hitsNow :: wordsOf 2 s.acq.notSearched.toNat ++ [BitVec.ofNat 16 reason])
def wcsStateCode : WcsState → Nat
  | .off => 0 | .start => 1 | .slew => 2 | .locked => 3
def noteWcs (s : State) : State := postImm s 0x07 (1 + 2 * wcsStateCode s.wcs.state)
def noteInteg (s : State) (set : Bool) (cause : Nat) : State := postImm s 0x08 (bit set + 2 * cause)
def notePoison (s : State) (b w : Nat) : State := postMsg s 0x09 [BitVec.ofNat 16 b, BitVec.ofNat 16 w]
def noteCancelled (s : State) (n : Nat) : State := postImm s 0x0A n

/-! ### Record rings -/

/-- Whether a ring's bank is placed and takes records (spec/10 R254). -/
def ringOk (s : State) (key : Nat) (susp : Bool) : Bool := !susp && hostBank s (s.parN key)

/-- Fill of the EVT ring (spec/10 R255). -/
def evtFill (s : State) : Nat := (s.parN pNtcEvtWr + 2048 - s.parN pNtcEvtRd) % 2048
/-- Fill of the MSR ring. -/
def msrFill (s : State) : Nat := (s.parN pNtcMsrWr + 128 - s.parN pNtcMsrRd) % 128

/-- Posts an EVT record, whose word 1 is the sequence number, or counts it as not posted (spec/10 R255, R256, R261).
A ring that is not placed takes no record and counts none (log entry 14). -/
def postEvt (s : State) (rec : List Word) : State :=
  let seq := s.evs.seq
  let s := { s with evs := { s.evs with seq := seq + 1 } }
  if s.parN pNtcEvtBank = 8 then s
  else if ringOk s pNtcEvtBank s.slu.evtSusp ∧ evtFill s < 1024 then
    let wr := s.parN pNtcEvtWr
    (putWords s (s.parN pNtcEvtBank) (16 * (wr % 1024)) (rec.set 1 seq)).setPar pNtcEvtWr ((wr + 1) % 2048 : Nat)
  else { s with slu := { s.slu with evtHeld := satIncBv s.slu.evtHeld } }

/-- Writes an MSR record at the write index, which then advances. -/
def putMsr (s : State) (rec : List Word) : State :=
  let wr := s.parN pNtcMsrWr
  (putWords s (s.parN pNtcMsrBank) (256 * (wr % 64)) rec).setPar pNtcMsrWr ((wr + 1) % 128 : Nat)

/-- Counts an MSR record held back or overwritten. -/
def msrHeldBump (s : State) : State := { s with slu := { s.slu with msrHeld := satIncBv s.slu.msrHeld } }

/-- Posts an MSR record, or holds it back or overwrites the oldest (spec/10 R254, R260; log entry 14). -/
def postMsr (s : State) (rec : List Word) : State :=
  if s.parN pNtcMsrBank = 8 then s
  else if ringOk s pNtcMsrBank s.slu.msrSusp then
    if msrFill s < 64 then putMsr s rec
    else if s.parB pNtcMsrOvw then
      msrHeldBump ((putMsr s rec).setPar pNtcMsrRd ((s.parN pNtcMsrRd + 1) % 128 : Nat))
    else msrHeldBump s
  else msrHeldBump s

end Sys2Proof.Machine
end

