-- ==== Sys2Proof/Machine/Pulse.lean ====
section
/-! DEFINITION. TPOUT and the Word Clock Synthesizer (spec/06). -/

namespace Sys2Proof.Machine

/-! ### TPOUT: operations -/

/-- A time in microseconds to the nearest tick. -/
def usTicks (us : Int) : Int := divNearest (us * 1047552) 1000

/-- A time in nanoseconds as ticks. -/
def nsTicks (ns : Int) : Int := ns * 1047552 / 1000000

/-- Pulses per second of a tp.rate code (spec/06 R147, R170). -/
def tpHz : Nat → Int
  | 0 => 1 | 1 => 2 | 2 => 5 | 3 => 10 | 4 => 100 | _ => 1000

/-- The pulse period in force, in ticks. -/
def tpPeriod (s : State) : Int := ticksPerSec / tpHz s.tp.rate

/-- The time-quality code is admitted by a mask (spec/06 R148, spec/07 R179). -/
def tqAdmits (s : State) (mask : Nat) : Bool := mask.testBit (tqCode s.time.tq)

/-- TPOUT is emitted: CORE runs and the mask admits the time quality (spec/06 R148); in SLEEP only with wcs.sleep_run 1
(spec/16 R393). -/
def tpEmits (s : State) : Bool :=
  s.time.running && tqAdmits s (s.parN pTpTqMask) && (s.pwr.state != .sleep || s.parB pWcsSleepRun)

/-- The first pulse time at or after `t`, as a number of periods (spec/06 R147). -/
def pulseIndex (s : State) (t : Int) : Int := -((-(t - nsTicks s.tp.userOff)) / tpPeriod s)

/-- The pulse time of an index. -/
def pulseTime (s : State) (k : Int) : Int := k * tpPeriod s + nsTicks s.tp.userOff

/-- What is added to a TPOUT target before it is placed, in ps, apart from the user offset: output delay, delta, path trim
(spec/06 R146, spec/19 R452, spec/21 R500). -/
def tpShiftPs (s : State) : Int := deltaPs s - s.tp.outDly * 100 - trimPs s 4

/-- The present time of TPOUT's targets: GNSS time less that shift. -/
def tpTime (s : State) (t : Int) : Int := t - psTicks (tpShiftPs s)

/-- Where the pulse of an index is placed, with q in ps (spec/06 R149). -/
def tpPlace (s : State) (k : Int) : Int × Int := placeAt s (k * tpPeriod s) (s.tp.userOff * 1000 + tpShiftPs s)

/-- The index of the next pulse: the first pulse time at or after now that lies after every pulse time already
emitted (spec/06 R152). -/
def nextPulse (s : State) : Int :=
  let k := pulseIndex s (tpTime s (gnssNow s))
  match s.tp.lastTarget with
  | none => k
  | some l => max k (pulseIndex s (l + 1))

/-- TP_QERR takes the residual and second of the next pulse (spec/06 R150). -/
def updateQerr (s : State) : State :=
  let k := nextPulse s
  { s with tp := { s.tp with qerr := BitVec.ofInt 16 (tpPlace s k).2,
                             towLo := BitVec.ofInt 16 (pulseTime s k % ticksPerWeek / ticksPerSec) } }

/-- A pulse begins: its active edge is placed at DTC tick `n` for the instant `e`, a GNSS tick and picoseconds after it, and
it stands for the pulse time `target` (spec/06 R147, R149, R150). -/
def emitPulse (s : State) (n : Int) (e : Int × Int) (target : Int) : State :=
  updateQerr { s with tp := { s.tp with level := true, pulseCnt := s.tp.pulseCnt + 1, placed := n,
                                        endsAt := some (e.1, e.2 + s.tp.width * 1000000), lastTarget := some target } }

/-- A pulse falls due: emitted, or deferred to 1 us after the pulse in progress (spec/06 R152). -/
def pulseDue (s : State) (n : Int) (e : Int × Int) (target : Int) : State :=
  match s.tp.level, s.tp.endsAt with
  | true, some u =>
    { s with tp := { s.tp with deferred := some (u.1, u.2 + 1000000), late := true, lastTarget := some target } }
  | _, _ => emitPulse s n e target

/-- A step of GNSS time has moved it from `old` to `new`: TPOUT's part (spec/06 R152). Of the pulse times passed by a
forward step, one that falls on the step boundary included (spec/06 R166), only the latest is emitted, at the boundary, when
tp.late_en is 1. -/
def stepTpout (s : State) (old new : Int) : State :=
  let s := { s with tp := { s.tp with step := true } }
  let k := pulseIndex s (tpTime s new + 1) - 1
  let t := pulseTime s k
  let fresh : Bool := match s.tp.lastTarget with | none => true | some l => decide (l < t)
  if old < new ∧ tpTime s old ≤ t ∧ fresh ∧ s.parB pTpLateEn ∧ tpEmits s then
    let s := pulseDue s ((dtcNow s : Int) * 64) (tpTime s new, 0) t
    { s with tp := { s.tp with late := true } }
  else updateQerr s

/-- Where an instant of TPOUT is placed: a GNSS tick and picoseconds after it. -/
def tpEdge (s : State) (e : Int × Int) : Int := (placeAt s e.1 (e.2 + tpShiftPs s)).1

/-! ### TPOUT: events -/

/-- TPOUT_ACTIVE_EDGE: the next pulse of the lattice, at the tick where it is placed (spec/06 R147-R150, R152). -/
def execTpoutActiveEdge (s : State) : Host.Outcome State Fault Refusal :=
  if tpEmits s then
    let k := nextPulse s
    let n := (tpPlace s k).1
    .next (pulseDue (carryTick s n) n (k * tpPeriod s, s.tp.userOff * 1000) (pulseTime s k))
  else .next s

/-- TPOUT_INACTIVE_EDGE: the pulse in progress completes its width (spec/06 R147-R149). -/
def execTpoutInactiveEdge (s : State) : Host.Outcome State Fault Refusal :=
  match s.tp.level, s.tp.endsAt with
  | true, some e =>
    let n := tpEdge s e
    let s := carryTick s n
    .next { s with tp := { s.tp with level := false, endsAt := none, placed := n } }
  | _, _ => .next s

/-- TPOUT_DEFERRED_PULSE: the deferred pulse begins 1 us after the pulse in progress ended (spec/06 R152). -/
def execTpoutDeferredPulse (s : State) : Host.Outcome State Fault Refusal :=
  match s.tp.level, s.tp.deferred with
  | false, some e =>
    let n := tpEdge s e
    let s := carryTick s n
    let s := { s with tp := { s.tp with deferred := none } }
    if tpEmits s then
      let s := emitPulse s n e (s.tp.lastTarget.getD e.1)
      .next { s with tp := { s.tp with late := true } }
    else .next s
  | _, _ => .next s

/-- TP_SETTINGS_APPLY: rate, width, polarity, user offset and output delay take effect at the next whole GNSS second
(spec/06 R147, spec/23, worked case). -/
def execTpSettingsApply (s : State) : Host.Outcome State Fault Refusal :=
  if s.time.running then
    let s := carryGnss s (-((-(gnssNow s)) / ticksPerSec) * ticksPerSec)
    .next (updateQerr { s with tp := { s.tp with rate := s.parN pTpRate, width := s.parN pTpWidth, pol := s.parB pTpPol,
                                                 userOff := s.par pTpUserOff, outDly := s.par pTpOutDelay } })
  else .next s

/-! ### WCS: operations -/

/-- WALIGN rate of the family in use (spec/06 R153). -/
def wcsFs (s : State) : Int := if s.wcs.famUse then 44100 else 48000

/-- MCLK periods per WALIGN period (spec/06 R153). -/
def mclkPer (s : State) : Int := if s.wcs.x2 then 512 else 256

/-- The first lattice point at or after `t`, in ticks (spec/06 R154). -/
def latticeAt (s : State) (t : Int) : Int := -((-(t * wcsFs s)) / ticksPerSec) * ticksPerSec / wcsFs s

/-- The index of the first lattice point at or after a time of `num / den` ticks (spec/06 R154). -/
def latticeIndex (s : State) (num den : Int) : Int := -((-(num * wcsFs s)) / (den * ticksPerSec))

/-- What is added to a lattice point before its WCLK_OUT edge is placed, in ps (spec/06 R146, spec/19 R452, spec/21
R500). -/
def wcsShiftPs (s : State) : Int := deltaPs s - s.par pWcsOutDelay * 100 - trimPs s 9

/-- The present time of the output lattice: GNSS time less that shift. -/
def wcsTime (s : State) : Int := gnssNow s - psTicks (wcsShiftPs s)

/-- The tick at which the edge of lattice point `n` is placed, `off` 1/16 ticks late. -/
def latticePlace (s : State) (n off : Int) : Int :=
  (placeFrac s (16 * n * ticksPerSec + off * wcsFs s) (16 * wcsFs s) (wcsShiftPs s)).1

/-- A phase in 1/16 tick lies within `k` times wcs.lock_ns (spec/06 R156). -/
def nearPhase (s : State) (phi : Int) (k : Nat) : Bool :=
  decide ((phi.natAbs : Int) * 1000000000 ≤ k * s.par pWcsLockNs * 16 * ticksPerSec)

/-- `phi_a` lies within `k` times wcs.lock_ns (spec/06 R156). -/
def phaseWithin (s : State) (k : Nat) : Bool := nearPhase s s.wcs.phiA k

/-- WCS_STAT.phase_err: phi_a in ns, saturating at 32,767 either way (spec/06 R169). -/
def phaseErrNs (s : State) : Word := BitVec.ofInt 16 (clip (-32767) 32767 (s.wcs.phiA * 1000000000 / (16 * ticksPerSec)))

/-- A phase in 1/16 tick taken to the nearest lattice point. -/
def wrapPhase (s : State) (phi : Int) : Int :=
  let m := 16 * ticksPerSec
  ((phi * wcsFs s + m / 2) % m - m / 2) / wcsFs s

/-- The ratio N that the steering law commands: f_VCO (1 + y) / (16,368,000 Hz (1 + eps)), with y = phi_a / wcs.tc clipped
to wcs.dev_max, as numerator and denominator (spec/06 R153, R155). -/
def wcsRatio (s : State) : Int × Int :=
  let d := 16 * ticksPerSec * s.par pWcsTc
  let lim := s.par pWcsDevMax * d
  let y := clip (-lim) lim (s.wcs.phiA * 1000000)
  (160 * 256 * wcsFs s * (d * 1000000 + y) * 1000000000000, d * 1000000 * 16368000 * (1000000000000 + epsNow s))

/-- The WCS enters START (spec/06 R156): outputs held, the PLL locking to a ratio without steering. -/
def wcsRestart (s : State) : State :=
  let s := { s with wcs := { s.wcs with state := .start, pllLk := false, running := false, stopped := false,
                                        sleepStop := false, phi := 0, phiA := 0 } }
  { s with wcs := { s.wcs with ratio := wcsRatio s } }

/-- A WCS start: an enable, a wake from DEEP SLEEP, or a restart after loss of PLL lock (spec/06 R158, R160, R162). -/
def wcsStart (s : State) : State :=
  wcsRestart { s with wcs := { s.wcs with jumpDone := false, gnssBased := tqGnss s.time.tq, holdover := false } }

/-- WCS_CTRL.en is written 1 (spec/06 R156). -/
def wcsEnable (s : State) (fam x2 : Bool) : State :=
  wcsStart { s with wcs := { s.wcs with en := true, fam := fam, x2 := x2, famUse := fam } }

/-- WCS_CTRL.en is written 0 (spec/06 R156, R166): OFF, outputs inactive. -/
def wcsDisable (s : State) : State :=
  { s with wcs := { s.wcs with en := false, state := .off, running := false, stopped := false, pend := false,
                               pllLk := false, sleepStop := false, gnssBased := false, holdover := false } }

/-- A re-align is requested (spec/06 R157, R159), with a step of GNSS time by `d` ticks made now or still to be made, which
counts against `phi_a` (log entry 15). -/
def realignRequest (s : State) (d : Int) : State :=
  match s.wcs.state with
  | .off => s
  | .start => { s with wcs := { s.wcs with pend := true } }
  | .slew | .locked =>
    if nearPhase s (wrapPhase s (s.wcs.phiA + 16 * d)) 1 then s else { s with wcs := { s.wcs with pend := true } }

/-- The step of GNSS time that waits for its epoch boundary, in ticks. -/
def stepWaits (s : State) : Int := s.time.stepPend.getD 0

/-- The first entry into GNSS-COARSE after a WCS start requests a re-align when auto_jump is 1 (spec/06 R158). -/
def autoJump (s : State) : State :=
  if s.wcs.state ≠ .off ∧ ¬ s.wcs.jumpDone then
    let s := { s with wcs := { s.wcs with jumpDone := true } }
    if s.wcs.autoJump then realignRequest s (stepWaits s) else s
  else s

/-- WCS_STAT.holdover follows the time quality (spec/06 R160; log entry 92). -/
def wcsFollowTq (s : State) : State :=
  if tqGnss s.time.tq then { s with wcs := { s.wcs with holdover := false, gnssBased := s.wcs.state != .off || s.wcs.gnssBased } }
  else { s with wcs := { s.wcs with holdover := s.wcs.gnssBased && s.wcs.state != .off } }

/-- The lattice point at which the outputs stop: the next one of the present output phase (spec/06 R157, R161). -/
def stopIndex (s : State) : Int := latticeIndex s (16 * wcsTime s - s.wcs.phi) 16

/-- The tick of that point. -/
def stopTick (s : State) : Int := latticePlace s (stopIndex s) s.wcs.phi

/-- GNSS time of that point, in 1/16 tick divided by fs. -/
def stopTime (s : State) : Int := 16 * stopIndex s * ticksPerSec + s.wcs.phi * wcsFs s

/-- The outputs stop for a sleep state at the next lattice point (spec/06 R161). -/
def stopWcs (s : State) : State :=
  let t := stopTime s
  let s := carryTick s (stopTick s)
  { s with wcs := { s.wcs with running := false, stopped := false, sleepStop := true, stoppedAt := t } }

/-! ### WCS: events -/

/-- PLL_LOCK_ACQUIRED: pll_lk is set (spec/06 R156, R165). -/
def execPllLockAcquired (s : State) : Host.Outcome State Fault Refusal :=
  if s.wcs.state = .start ∧ ¬ s.wcs.pllLk then
    .next { s with wcs := { s.wcs with pllLk := true, lockedAt := wcsTime s } }
  else .next s

/-- WCS_OUTPUT_START: the outputs begin, in phase, at the first lattice point at least 20 us after pll_lk was set;
a request made in START is satisfied (spec/06 R156, R159). -/
def execWcsOutputStart (s : State) : Host.Outcome State Fault Refusal :=
  if s.wcs.state = .start ∧ s.wcs.pllLk then
    let s := carryTick s (latticePlace s (latticeIndex s (25 * s.wcs.lockedAt + 523776) 25) 0)
    .next { s with wcs := { s.wcs with state := .locked, running := true, phi := 0, phiA := 0, pend := false } }
  else .next s

/-- After a takeover the new primary removes delta at no more than mir.slew (spec/19 R461), here for 10 ms. -/
def slewDelta (s : State) : State :=
  if s.mir.slewOut then
    let d := s.par pMirDelta
    let lim := s.par pMirSlew * 10
    let d' := if d < -lim then d + lim else if d > lim then d - lim else 0
    let s := s.setPar pMirDelta d'
    { s with mir := { s.mir with slewOut := d' != 0 } }
  else s

/-- WCS_PHASE_MEASURE: the phase, in ticks, at the next lattice point that is a whole multiple of 10 ms: phi_a, the ratio N
and the state follow (spec/06 R155, R156). -/
def execWcsPhaseMeasure (phi : Int) (s : State) : Host.Outcome State Fault Refusal :=
  if s.wcs.running ∧ (s.wcs.state = .slew ∨ s.wcs.state = .locked) then
    let p := ticksPerSec / 100
    let s := carryTick s (placeAt s ((wcsTime s / p + 1) * p) (wcsShiftPs s)).1
    let s := { s with wcs := { s.wcs with phi := phi * 16, phiA := s.wcs.phiA + (phi * 16 - s.wcs.phiA) / 16 } }
    let st := match s.wcs.state with
      | .slew => if phaseWithin s 1 then WcsState.locked else .slew
      | .locked => if phaseWithin s 2 then .locked else .slew
      | x => x
    .next (slewDelta { s with wcs := { s.wcs with state := st, ratio := wcsRatio s } })
  else .next s

/-- REALIGN_STOP: the outputs stop at the next lattice point of the present output phase (spec/06 R157). -/
def execRealignStop (s : State) : Host.Outcome State Fault Refusal :=
  if s.wcs.pend ∧ s.wcs.running ∧ (s.wcs.state = .slew ∨ s.wcs.state = .locked) then
    let t := stopTime s
    let s := carryTick s (stopTick s)
    .next { s with wcs := { s.wcs with running := false, stopped := true, stoppedAt := t, state := .slew } }
  else .next s

/-- The first target lattice point at least one WALIGN period after the stop (spec/06 R157). -/
def restartIndex (s : State) : Int := -((-(s.wcs.stoppedAt + 16 * ticksPerSec)) / (16 * ticksPerSec))

/-- REALIGN_RESTART: the outputs restart at that point, in phase (spec/06 R157, R166). -/
def execRealignRestart (s : State) : Host.Outcome State Fault Refusal :=
  if s.wcs.stopped then
    let s := carryTick s (latticePlace s (restartIndex s) 0)
    let s := { s with wcs := { s.wcs with running := true, stopped := false, pend := false, cnt := satInc 255 s.wcs.cnt,
                                          phi := 0, phiA := 0, state := .locked } }
    .next { s with wcs := { s.wcs with ratio := wcsRatio s } }
  else .next s

/-- PLL_LOCK_LOSS: outputs forced inactive, START again, a WCS notice (spec/06 R162). -/
def execPllLockLoss (s : State) : Host.Outcome State Fault Refusal :=
  if s.wcs.pllLk then
    let s := wcsStart s
    .next (noteWcs { s with wcs := { s.wcs with unlock := true } })
  else .next s

/-- The entry asked for stops the WCS (spec/06 R161, spec/16 R388). -/
def stopsWcs (s : State) : Bool := (decide (3 ≤ s.pwr.tried) || !s.parB pWcsSleepRun) && s.wcs.running

/-- WCS_SLEEP_STOP: asked for an entry into SLEEP with wcs.sleep_run 0, or into a deeper state, the outputs stop at the
next lattice point (spec/06 R161, spec/16 R388). -/
def execWcsSleepStop (s : State) : Host.Outcome State Fault Refusal :=
  if s.pwr.asked ∧ stopsWcs s then .next (stopWcs s) else .next s

end Sys2Proof.Machine
end

