-- ==== Sys2Proof/Machine/Chan.lean ====
section
/-! DEFINITION. Doorbell channels, CMD and the completion of coprocessor operations (spec/10 R244-R258,
spec/14 R350-R361). -/

namespace Sys2Proof.Machine

/-! ### Coprocessor tags -/

/-- A tag of a core. -/
def tagOf (s : State) (k : CoreId) (t : Fin 4) : Tag := (s.core k).tag.get t

/-- Replaces a tag. -/
def setTag (s : State) (k : CoreId) (t : Fin 4) (x : Tag) : State :=
  s.modCore k (fun c => { c with tag := c.tag.set t x })

/-- An operation completes with a code, its detail and its result words (spec/14 R347, R351): a code other than OK
leaves no result words. -/
def completeTag (s : State) (k : CoreId) (t : Fin 4) (code detail : Nat) (words : List Word) : State :=
  setTag s k t ⟨false, code, detail, if code = 0 then words else [], none⟩

/-! ### Channels -/

/-- A channel's configured receiver: 0 host, 1 TRK, 2 SVC, 3 none (spec/10 R244). -/
def rcvOf (s : State) (ch : Nat) : Nat := s.parN (pChCfg ch) % 4

/-- The channel is a ring port (spec/10 R252). -/
def isPort (ch : Nat) : Bool := ch == 30 || ch == 31 || ch == 62 || ch == 63

/-- The notice a channel holds. -/
def chanFull (s : State) (ch : Nat) : Option ChanSt := mget s.slu.chans ch

/-- The receiver cannot take the ring: no receiver, or a core that is held at boot (spec/10 R245, R248). -/
def rcvDown (s : State) (ch : Nat) : Bool :=
  match rcvOf s ch with
  | 0 => false
  | 1 => s.trk.held
  | 2 => s.svc.held
  | _ => true

/-- A ring reaches a channel: the state and SLU_DB.res (spec/10 R245). -/
def ringChan (s : State) (ch : Nat) (n : Notice) : State × Nat :=
  if rcvDown s ch then (s, 4)
  else if (chanFull s ch).isSome then (s, 2)
  else ({ s with slu := { s.slu with chans := mput s.slu.chans ch ⟨n, n.cls, false, dtcNow s⟩ } }, 1)

/-- A notice reaches CMD (spec/10 R252, R257). -/
def pushCmd (s : State) (n : Notice) : State × Nat :=
  if s.slu.cmd.length < 256 then ({ s with slu := { s.slu with cmd := s.slu.cmd ++ [n] } }, 1)
  else ({ s with slu := { s.slu with cmdRef := satIncBv s.slu.cmdRef } }, 2)

/-- Empties a channel. -/
def emptyChan (s : State) (ch : Nat) : State := { s with slu := { s.slu with chans := mdel s.slu.chans ch } }

/-- The empty event for the sender of a notice taken from a channel (spec/10 R246). -/
def emptyEvent (s : State) (ch : Nat) (sender : BitVec 3) : State :=
  match clsOf sender.toNat with
  | .ns | .sec => if ch < 32 then s.setParBit pNtcEmptNs ch true else s.setParBit pNtcEmptS (ch - 32) true
  | .trk => s.modCore .trk (fun c => { c with empties := setBit c.empties ch true })
  | .svc => s.modCore .svc (fun c => { c with empties := setBit c.empties ch true })
  | _ => s

/-! ### CP3 (spec/14 R355-R361) -/

/-- The CP3 channel: that of the operation in service, or the one sys.cp3_chan names (spec/14 R357, R362). -/
def cp3Chan (s : State) : Nat := match s.cp.serving with | some _ => s.cp.chan | none => s.parN pSysCp3Chan

/-- The operation in service ends. -/
def endService (s : State) : State := { s with cp := { s.cp with serving := none } }

/-- What an answer does to the operation in service (spec/14 R360): none when Sluice refuses it. -/
def cp3Answer (s : State) (n : Notice) : Option State :=
  match s.cp.serving with
  | none => none
  | some op =>
    if n.kind = 1 then
      let v := immOf n
      if v % 256 = op.seq.toNat then
        let st := v / 256 % 128
        some (completeTag (endService s) op.core op.tag (if st = 0 then 0 else 6) st [])
      else none
    else if n.kind = 0 then
      let b := n.bank.toNat
      let w := n.offset.toNat
      let w0 := (bankWord s b w).toNat
      let m := (bankWord s b (w + 1)).toNat % 32
      let done (code detail : Nat) (ws : List Word) := some (completeTag (endService s) op.core op.tag code detail ws)
      if w0 % 256 ≠ op.seq.toNat then none
      else if w0 / 256 % 128 ≠ 0 then done 6 (w0 / 256 % 128) []
      else if ¬ hostBank s b ∨ 16383 ≤ w then done 9 0 []
      else if anyPoison s b w 2 then done 7 0 []
      else if m > 16 ∨ 16384 < w + 2 + m then done 9 0 []
      else if anyPoison s b (w + 2) m then done 7 0 []
      else done 0 0 (getWords s b (w + 2) m)
    else none

/-! ### Ring and take through SLU_NOTICE and SLU_DB -/

/-- The notice that a class sends: its SLU_NOTICE with class and client stamped (spec/10 R242, spec/08 R215). -/
def stampNotice (s : State) (c : Cls) : Notice :=
  let b := s.cls c
  ⟨b.nBank, b.nOff, BitVec.ofNat 3 (clsCode c), (match c with | .ns | .sec => b.client | _ => b.nClient), b.nKind⟩

/-- Sets SLU_DB.res of a class. -/
def setRes (s : State) (c : Cls) (r : Nat) : State := s.modCls c (fun b => { b with dbRes := r })

/-- Host classes. -/
def isHost : Cls → Bool
  | .ns | .sec => true
  | _ => false

/-- A ring by a host class, a core or the SDP: the state with res set, and whether it was refused with SLUICE
(spec/10 R243, R245, R247, R252, spec/14 R358, R360). CMD takes the notices of a host class and of the SDP (spec/10 R251,
spec/21 R493; log entry 93). -/
def doRing (s : State) (c : Cls) : State × Bool :=
  let ch := (s.cls c).dbChan.toNat
  let n := stampNotice s c
  if n.kind = 3 ∨ (c = .ns ∧ 32 ≤ ch) then (setRes s c 0, true)
  else if ch = 30 ∨ ch = 62 then (setRes s c 0, true)
  else if ch = 31 ∨ ch = 63 then
    if isHost c ∨ c = .dbg then
      let r := pushCmd s n
      (setRes r.1 c r.2, r.2 != 1)
    else (setRes s c 0, true)
  else if ch = cp3Chan s then
    if c = .sec then
      match cp3Answer s n with
      | some s' => (setRes (emptyChan s' ch) c 1, false)
      | none => (s, true)
    else (setRes s c 0, true)
  else
    let r := ringChan s ch n
    (setRes r.1 c r.2, r.2 != 1)

/-- Puts a notice into a class's SLU_NOTICE (spec/09 R235). -/
def loadNotice (s : State) (c : Cls) (n : Notice) : State :=
  s.modCls c (fun b => { b with nKind := n.kind, nClient := n.client, nCls := n.cls, nOff := n.offset, nBank := n.bank })

/-- A class may take from a channel: its receiver, host-secure also for host-non-secure (spec/08 R193, spec/10 R244, R246),
and the SDP, which no receiver binds (spec/21 R493; log entry 16). -/
def isReceiver (s : State) (c : Cls) (ch : Nat) : Bool :=
  match c with
  | .ns => rcvOf s ch == 0 && decide (ch < 32)
  | .sec => rcvOf s ch == 0
  | .trk => rcvOf s ch == 1
  | .svc => rcvOf s ch == 2
  | .dbg => true
  | .mir => false

/-- A take by a host class or a core (spec/10 R246, R247, R252). -/
def doTake (s : State) (c : Cls) : State × Bool :=
  let ch := (s.cls c).dbChan.toNat
  if c = .ns ∧ 32 ≤ ch then (setRes s c 0, true)
  else if ch = 31 ∨ ch = 63 then (setRes s c 0, true)
  else if ch = 30 ∨ ch = 62 then
    if (ch = 30 ∧ ¬ s.parB pNtcNtcSec ∧ (isHost c ∨ c = .dbg)) ∨ (ch = 62 ∧ s.parB pNtcNtcSec ∧ (c = .sec ∨ c = .dbg)) then
      match s.slu.ntc with
      | [] => (setRes s c 3, true)
      | n :: _ => (setRes (popNtc (loadNotice s c n)) c 1, false)
    else (setRes s c 0, true)
  else if ¬ isReceiver s c ch then (setRes s c 0, true)
  else match chanFull s ch with
    | none => (setRes s c 3, true)
    | some x =>
      let s := emptyChan (loadNotice s c x.notice) ch
      let s := if s.parBit (pChCfg ch) 2 then s else emptyEvent s ch x.sender
      (setRes s c 1, false)

/-- A slot's ring (spec/10 R269, spec/07 R179): true when it was stored. Ports and the CP3 channel refuse it
(spec/14 R358; log entry 17). -/
def slotRing (s : State) (ch : Nat) (n : Notice) : State × Bool :=
  if isPort ch ∨ ch = cp3Chan s then (s, false)
  else
    let r := ringChan s ch n
    (r.1, r.2 == 1)

/-- Whether a channel's notice waits for a host class with rirq set (spec/10 R262). -/
def chanIrq (s : State) (lo hi : Nat) : Bool :=
  s.slu.chans.any (fun x => decide (lo ≤ x.1 ∧ x.1 < hi) && rcvOf s x.1 == 0 && s.parBit (pChCfg x.1) 3)

/-- The sources of HB_IRQ.slu for a host class, one bit each (spec/10 R262). -/
def sluSources (s : State) (c : Cls) : Nat :=
  let sec := c == .sec
  bit (!s.slu.ntc.isEmpty && (s.parB pNtcNtcSec == sec)) + 2 * bit (msrFill s != 0) + 4 * bit (evtFill s != 0) +
    8 * bit (if sec then chanIrq s 32 64 || s.par pNtcEmptS != 0 else chanIrq s 0 32 || s.par pNtcEmptNs != 0)

/-- HB_IRQ.slu of a host class (spec/08 R210, spec/10 R262). CORE holds the sources. -/
def sluIrq (s : State) (c : Cls) : Bool :=
  s.pwr.coreUp && (sluSources s c &&& s.parN (if c == .sec then pNtcIrqS else pNtcIrqNs)) != 0

/-- SLU_PEND of a class (spec/09 R235): the half selected by bit 5 of SLU_DB.chan; always 0-31 for non-secure. -/
def sluPend (s : State) (c : Cls) : BitVec 32 :=
  let base := if c == .ns then 0 else if (s.cls c).dbChan.getLsbD 5 then 32 else 0
  let hit (x : Nat × ChanSt) : Bool :=
    decide (base ≤ x.1 ∧ x.1 < base + 32) && isReceiver s c x.1
  s.slu.chans.foldl (fun v x => if hit x then v ||| BitVec.twoPow 32 (x.1 - base) else v) 0

end Sys2Proof.Machine
end

