-- ==== Sys2Proof/Machine/Slots.lean ====
section
/-! DEFINITION. The Event Scheduler's slots and the timemark inputs: operations (spec/07). -/

namespace Sys2Proof.Machine

/-! ### Frames queued for the partner (spec/19 R445) -/

/-- Queues a frame; its sequence number is given when it is sent. -/
def queueFrame (s : State) (type : BitVec 4) (payload : List Word) : State :=
  if s.mir.linkRun then { s with mir := { s.mir with out := s.mir.out ++ [⟨type, 0, payload, true⟩] } } else s

/-! ### Slot images (spec/07 R172, spec/10 R269) -/

/-- The fields of slot image words 0-12. -/
def imgOf (ws : List Word) : SlotImg :=
  let w1 := (wordAt ws 1).toNat
  { actions := BitVec.ofNat 4 w1, pin := Fin.ofNat 4 (w1 / 16), op := BitVec.ofNat 2 (w1 / 64),
    chan := Fin.ofNat 64 (w1 / 256), lateOk := w1.testBit 14, tqMask := BitVec.ofNat 6 (wordAt ws 2).toNat,
    target := (((wordAt ws 3).toNat * 604800 + (wordAt ws 4).toNat + (wordAt ws 5).toNat % 16 * 65536 : Nat) : Int) *
      ticksPerSec + (((wordAt ws 6).toNat + (wordAt ws 7).toNat % 16384 * 65536 : Nat) : Int),
    period := natOf [wordAt ws 8, wordAt ws 9, wordAt ws 10], count := (wordAt ws 11).toNat,
    pulse := (wordAt ws 12).toNat }

/-- tow_s and sub of image words lie in their ranges (spec/01 R37). -/
def imgTimeOk (ws : List Word) : Bool :=
  decide ((wordAt ws 4).toNat + (wordAt ws 5).toNat % 16 * 65536 < 604800) &&
  decide (((wordAt ws 6).toNat + (wordAt ws 7).toNat % 16384 * 65536 : Nat) < (1047552000 : Nat))

/-- Image words 1-12 of a slot. -/
def imgWords (m : SlotImg) : List Word :=
  let week := (m.target / ticksPerWeek).toNat
  let tow := (m.target % ticksPerWeek / ticksPerSec).toNat
  let sub := (m.target % ticksPerSec).toNat
  [BitVec.ofNat 16 (m.actions.toNat + 16 * m.pin.val + 64 * m.op.toNat + 256 * m.chan.val + 16384 * bit m.lateOk),
   BitVec.ofNat 16 m.tqMask.toNat, BitVec.ofNat 16 week, BitVec.ofNat 16 tow, BitVec.ofNat 16 (tow / 65536),
   BitVec.ofNat 16 sub, BitVec.ofNat 16 (sub / 65536)] ++ wordsOf 3 m.period ++
  [BitVec.ofNat 16 m.count, BitVec.ofNat 16 m.pulse]

/-- A field is outside R172, or no action is set (spec/07 R172, R176). -/
def imgBad (m : SlotImg) : Bool :=
  m.actions == 0 || (m.period != 0 && decide (m.period < 104756)) || (m.period == 0 && m.count != 0) ||
  (m.actions.getLsbD 0 && m.op == 3 &&
    (m.pulse == 0 || (m.period != 0 && decide (m.period * 1000 ≤ m.pulse * 1047552))))

/-- A host-non-secure owner may not use these actions (spec/07 R176). -/
def imgSecure (s : State) (m : SlotImg) : Bool :=
  (m.actions.getLsbD 1 && decide (32 ≤ m.chan.val)) || (m.actions.getLsbD 0 && s.parBit pEvsEvoutSec m.pin.val) ||
  (m.actions.getLsbD 3 && !s.parB pEvsRealignNs)

/-- 20 us in ticks, rounded up (spec/07 R177, R178). -/
abbrev ticks20us : Int := 20952

/-- A target less than 20 us ahead (spec/07 R178). -/
def tooLate (s : State) (t : Int) : Bool := decide (t - gnssNow s < ticks20us)

/-- The ARMED slot of an index. -/
def slotAt (s : State) (i : Nat) : Option Slot := mget s.evs.slots i

/-- Stores an ARMED slot. -/
def putSlot (s : State) (i : Nat) (x : Slot) : State := { s with evs := { s.evs with slots := mput s.evs.slots i x } }

/-- A slot becomes FREE; its fields are cleared (log entry 18). -/
def freeSlot (s : State) (i : Nat) : State := { s with evs := { s.evs with slots := mdel s.evs.slots i } }

/-- The image frame of slot `i`, sent by a primary after a change (spec/19 R446, R448); a FREE slot is sent with
actions 0 (log entry 19). -/
def mirrorSlot (s : State) (i : Nat) : State :=
  if s.mir.role = 1 then
    match slotAt s i with
    | some x => queueFrame s 3 (BitVec.ofNat 16 i :: imgWords x.img ++
        [BitVec.ofNat 16 (clsCode x.cls + 8 * x.client.toNat)])
    | none => queueFrame s 3 (BitVec.ofNat 16 i :: List.replicate 13 0)
  else s

/-! ### Operations (spec/07 R175-R178): a refusal is answered by its status code of spec/10 R267 -/

/-- Writes to slots are refused to a mirror-class request on a device that is no standby, and on a standby to every
class but mirror and debug (spec/07 R175, R176, spec/19 R444). -/
def slotGate (s : State) (c : Cls) : Option Nat :=
  if c = .mir then (if s.mir.role = 2 then none else some 0x10)
  else if s.mir.role = 2 ∧ c ≠ .dbg then some 0x12
  else none

/-- The requester may change the slot: its owner, host-secure or debug (spec/07 R175). -/
def slotMine (x : Slot) (c : Cls) (client : BitVec 10) : Bool :=
  c == .sec || c == .dbg || c == .mir || (x.cls == c && x.client == client)

/-- Number of slots owned by host-non-secure. -/
def nsSlots (s : State) : Nat := (s.evs.slots.filter (fun x => x.2.cls == .ns)).length

/-- The late firing of a slot whose target can take no commit point any more: it is committed now (spec/07 R178,
R182). -/
def armLate (s : State) (x : Slot) : Slot :=
  if tooLate s x.img.target then { x with late := some (gnssNow s + ticks20us), com := some x.img } else x

/-- SLOT_ARM (spec/07 R175, R176, R178): `i` is none for the lowest free slot. -/
def slotArm (s : State) (c : Cls) (client : BitVec 10) (i : Option Nat) (ws : List Word) : State × Nat × Nat :=
  let m := imgOf ws
  let free (k : Nat) : Bool := (slotAt s k).isNone
  match slotGate s c with
  | some r => (s, r, 0)
  | none =>
    match (match i with | some k => if k < 1024 ∧ free k then some k else none | none => leastBelow free 1024) with
    | none => (s, 0x11, 0)
    | some k =>
      if c = .ns ∧ s.parN pEvsNsQuota ≤ nsSlots s then (s, 0x14, 0)
      else if c = .ns ∧ imgSecure s m then (s, 0x15, 0)
      else if imgBad m ∨ ¬ imgTimeOk ws then (s, 0x16, 0)
      else if tooLate s m.target ∧ ¬ m.lateOk then (s, 0x17, 0)
      else (mirrorSlot (putSlot s k (armLate s ⟨c, client, m, none, none, false⟩)) k, 0, k)

/-- The image with the fields that a SLOT_MODIFY mask selects taken from `n` (spec/10 R269). -/
def imgMerge (o n : SlotImg) (mask : Nat) : SlotImg :=
  let o := if mask.testBit 0 then { o with actions := n.actions, pin := n.pin, op := n.op, chan := n.chan, lateOk := n.lateOk } else o
  let o := if mask.testBit 1 then { o with tqMask := n.tqMask } else o
  let o := if mask.testBit 2 then { o with target := n.target } else o
  let o := if mask.testBit 3 then { o with period := n.period } else o
  let o := if mask.testBit 4 then { o with count := n.count } else o
  if mask.testBit 5 then { o with pulse := n.pulse } else o

/-- A one-shot slot after its commit point (spec/07 R177). -/
def slotFiring (x : Slot) : Bool := x.img.period == 0 && (x.com.isSome || x.late.isSome)

/-- SLOT_MODIFY (spec/07 R175-R177). A committed occurrence keeps its image. -/
def slotModify (s : State) (c : Cls) (client : BitVec 10) (i : Nat) (ws : List Word) : State × Nat :=
  let mask := (wordAt ws 13).toNat
  match slotGate s c with
  | some r => (s, r)
  | none =>
    match slotAt s i with
    | none => (s, 0x11)
    | some x =>
      let m := imgMerge x.img (imgOf ws) mask
      if ¬ slotMine x c client then (s, 0x12)
      else if x.cls = .ns ∧ mask.testBit 0 ∧ imgSecure s m then (s, 0x15)
      else if imgBad m ∨ (mask.testBit 2 ∧ ¬ imgTimeOk ws) then (s, 0x16)
      else if mask.testBit 2 ∧ tooLate s m.target ∧ ¬ m.lateOk then (s, 0x17)
      else if slotFiring x then (s, 0x18)
      else
        let y := { x with img := m, cntMod := x.cntMod || (x.com.isSome && mask.testBit 4) }
        (mirrorSlot (putSlot s i (if x.com.isNone ∧ mask.testBit 2 then armLate s { y with late := none } else y)) i, 0)

/-- Removes a slot, or lets its committed occurrence be the last (spec/07 R177). -/
def slotDrop (s : State) (i : Nat) (x : Slot) : State :=
  if x.com.isSome ∨ x.late.isSome then
    mirrorSlot (putSlot s i { x with img := { x.img with period := 0, count := 0 } }) i
  else mirrorSlot (freeSlot s i) i

/-- SLOT_CANCEL (spec/07 R175-R177). -/
def slotCancel (s : State) (c : Cls) (client : BitVec 10) (i : Nat) : State × Nat :=
  match slotGate s c with
  | some r => (s, r)
  | none =>
    match slotAt s i with
    | none => (s, 0x11)
    | some x =>
      if ¬ slotMine x c client then (s, 0x12)
      else if slotFiring x then (s, 0x18)
      else (slotDrop s i x, 0)

/-- Cancels the listed slots of a class and client; a committed one-shot is left to fire and is not counted. -/
def cancelList (s : State) (c : Cls) (client : BitVec 10) : List (Nat × Slot) → State × Nat
  | [] => (s, 0)
  | (i, x) :: xs =>
    if x.cls = c ∧ x.client = client ∧ ¬ slotFiring x then
      let r := cancelList (slotDrop s i x) c client xs
      (r.1, r.2 + 1)
    else cancelList s c client xs

/-- SLOT_QUERY (spec/07 R175): status code and result words. -/
def slotQuery (s : State) (c : Cls) (i : Nat) : Nat × List Word :=
  if 1024 ≤ i then (0x11, [])
  else match slotAt s i with
    | some x =>
      if c = .ns ∧ x.cls ≠ .ns then (0x13, [])
      else (0, BitVec.ofNat 16 i :: imgWords x.img ++
        [BitVec.ofNat 16 (1 + 2 * clsCode x.cls + 16 * x.client.toNat)])
    | none => (0, BitVec.ofNat 16 i :: List.replicate 13 0)

/-! ### EVOUT pins (spec/07 R179-R181) -/

/-- An EVOUT pin. -/
def pinAt (s : State) (p : Fin 4) : EvPin := s.evs.ev.get p

/-- Replaces an EVOUT pin. -/
def setPin (s : State) (p : Fin 4) (x : EvPin) : State := { s with evs := { s.evs with ev := s.evs.ev.set p x } }

/-- Inserts a trailing edge, earliest first. -/
def insertEnd (t : Int) : List Int → List Int
  | [] => [t]
  | u :: us => if t < u then t :: u :: us else u :: insertEnd t us

/-- The tick at which an edge of EVOUT pin `p` with GNSS target `t` is placed (spec/07 R179, spec/19 R452, spec/21
R500). -/
def evEdge (s : State) (p : Nat) (t : Int) : Int := (placeAt s t (deltaPs s - trimPs s (5 + p))).1

/-- An EVOUT action at GNSS time `t`, placed at DTC tick `n` (spec/07 R172, R179). -/
def pinAct (x : EvPin) (m : SlotImg) (t n : Int) : EvPin :=
  let x := { x with lastAt := some t, placed := n }
  match m.op.toNat with
  | 0 => { x with active := true }
  | 1 => { x with active := false }
  | 2 => { x with active := !x.active }
  | _ => { x with active := true, ends := insertEnd (t + usTicks m.pulse) x.ends }

/-! ### Firing (spec/07 R179, R180, R182, R188) -/

/-- The words of an EVT record (spec/07 R188); word 1, the sequence number, is given when it is posted. -/
def evtRec (s : State) (type : Nat) (late gap collide lost dbErr : Bool) (idx acts client cls : Nat)
    (tsb : List Word) (count : Nat) (ticks : Nat) : List Word :=
  [BitVec.ofNat 16 (type + 256 * bit late + 512 * bit gap + 1024 * bit collide + 2048 * bit lost + 4096 * bit dbErr), s.evs.seq,
   BitVec.ofNat 16 (idx + 1024 * acts), BitVec.ofNat 16 (client + 1024 * cls)] ++ tsb ++
  [BitVec.ofNat 16 (min 65535 count)] ++ wordsOf 4 (ticks % 2 ^ 58)

/-- The doorbell and the record of a firing (spec/07 R179, R180, R188, spec/10 R269). -/
def deliver (s : State) (r : FireRec) : State :=
  let a := if r.skip then 0 else r.img.actions
  let ring := if a.getLsbD 1 then
      slotRing s r.img.chan.val (immNotice (BitVec.ofNat 3 (clsCode r.cls)) r.client r.idx) else (s, false)
  let dbErr := a.getLsbD 1 && !ring.2
  let s := ring.1
  if r.skip ∨ a.getLsbD 2 then
    let acts := bit (a.getLsbD 0 && !r.collide) + 2 * bit (a.getLsbD 1 && ring.2) + 4 * bit (a.getLsbD 2) + 8 * bit r.realign
    postEvt s (evtRec s (if r.skip then 0x11 else 0x10) r.late r.gap r.collide false dbErr r.idx acts r.client.toNat
      (clsCode r.cls) (tsbAt s r.img.target) r.passed r.ticks.toNat)
  else s

/-- Delivers the firings held in SLEEP, oldest first (spec/07 R189). -/
def deliverAll (s : State) : List FireRec → State
  | [] => s
  | r :: rs => deliverAll (deliver s r) rs

/-- The actions of slot `i` at GNSS time `t` for the occurrence `m` (its target is the occurrence's own time): EVOUT and
re-align act at once, ring and record follow, after the wake when the device is in SLEEP (spec/07 R179, R180, R184,
R189, spec/19 R449, R462). -/
def fireActs (s : State) (i : Nat) (x : Slot) (m : SlotImg) (t : Int) (late : Bool) (passed : Nat) : State :=
  let skip := !tqAdmits s m.tqMask.toNat
  let a := if skip then 0 else m.actions
  let pin := pinAt s m.pin
  let collide := a.getLsbD 0 && pin.lastAt == some t
  let drives := a.getLsbD 0 && !collide
  let n := if drives then evEdge s m.pin.val t else (placeAt s t (deltaPs s)).1
  let s := if drives then setPin s m.pin (pinAct pin m t n) else s
  let realign := a.getLsbD 3 && s.wcs.state != .off
  let s := if a.getLsbD 3 then realignRequest s (stepWaits s) else s
  let s := { s with evs := { s.evs with fired := setBit s.evs.fired i true, fireCnt := s.evs.fireCnt + 1,
                                        skip := s.evs.skip || skip, late := s.evs.late || late,
                                        collide := s.evs.collide || collide } }
  let r : FireRec := ⟨i, x.cls, x.client, m, skip, late, s.pace.gapSinceAnchor, collide, realign, passed, n⟩
  if s.mir.role = 2 then { s with evs := { s.evs with shadow := s.evs.shadow ++ [r] } }
  else if s.pwr.state = .sleep then { s with evs := { s.evs with held := s.evs.held ++ [r] } }
  else deliver s r

/-- The target after the occurrence at `occ` of the committed image `m`, which itself asks for `next`: what was modified
after the commit point applies from the next occurrence (spec/07 R177, R189). -/
def nextTarget (x : Slot) (m : SlotImg) (occ next : Int) : Int :=
  if x.img.target ≠ m.target then x.img.target else if x.img.period ≠ m.period then occ + x.img.period else next

/-- After an occurrence that used up `used` of the count, a periodic slot takes its next target and a one-shot slot
becomes FREE; a count modified after the commit point is that from the next occurrence on (spec/07 R177, R179, R182). -/
def advanceSlot (s : State) (i : Nat) (x : Slot) (next : Int) (used : Nat) : State :=
  let m := x.img
  let used := if x.cntMod then 0 else used
  if m.period = 0 ∨ (m.count ≠ 0 ∧ m.count ≤ used) then freeSlot s i
  else putSlot s i (armLate s { x with img := { m with target := next, count := m.count - used }, com := none, late := none,
                                       cntMod := false })

/-- An occurrence fires at its target, and the next target is the occurrence plus the period (spec/07 R179). -/
def fireOnTime (s : State) (i : Nat) (x : Slot) : State :=
  let m := x.com.getD x.img
  let s := carryGnss s m.target
  let s := fireActs s i x m m.target false 0
  advanceSlot s i x (nextTarget x m m.target (m.target + m.period)) 1

/-- A late firing at `t` stands for the latest occurrence passed; the next target is the first later one at least
20 us after it, and the occurrences in between are passed over (spec/07 R178, R182). -/
def fireLate (s : State) (i : Nat) (x : Slot) (t : Int) : State :=
  let m := x.com.getD x.img
  let p := (m.period : Int)
  let lim : Int := if m.count = 0 then 2 ^ 64 else (m.count : Int) - 1
  let k := if p = 0 then 0 else min lim (max 0 ((t - m.target) / p))
  let j := if p = 0 then 1 else max 1 (-((-(t + ticks20us - m.target)) / p))
  let passed := (min lim (j - 1)).toNat
  let s := carryGnss s t
  let s := fireActs s i x { m with target := m.target + k * p } t true passed
  advanceSlot s i x (nextTarget x m (m.target + k * p) (m.target + j * p)) (passed + 1)

/-- Whether an ARMED slot below `i` falls due at the same time `t` (spec/07 R180: ascending slot order). -/
def lowerDue (s : State) (i : Nat) (t : Int) : Bool :=
  s.evs.slots.any (fun y => decide (y.1 < i) && (y.2.late.getD (y.2.com.getD y.2.img).target == t))

/-- A step of GNSS time from `old` to `new` and the slots: a target inside a forward step is due at the step, one
that can take no commit point before it is committed and fires 20 us after; a committed occurrence keeps its time
(spec/01 R20, spec/07 R182, R183). -/
def stepSlot (old new : Int) (x : Slot) : Slot :=
  let t := (x.com.getD x.img).target
  if x.late.isSome then { x with late := x.late.map (· + (new - old)) }
  else if old < t ∧ t ≤ new then { x with late := some new, com := some (x.com.getD x.img) }
  else if x.com.isNone ∧ old < new ∧ t - new < ticks20us then { x with late := some (new + ticks20us), com := some x.img }
  else x

/-- The Event Scheduler's part of a step (spec/01 R20). -/
def stepSlots (s : State) (old new : Int) : State :=
  { s with evs := { s.evs with slots := s.evs.slots.map (fun y => (y.1, stepSlot old new y.2)) } }

/-! ### Timemarks (spec/07 R185-R188) -/

/-- A timemark input. -/
def tmAt (s : State) (k : Fin 2) : TmSt := s.evs.tm.get k

/-- Replaces a timemark input. -/
def setTm (s : State) (k : Fin 2) (x : TmSt) : State := { s with evs := { s.evs with tm := s.evs.tm.set k x } }

/-- The edge is of the kind that evs.tmK_edge selects. -/
def edgeSelected (s : State) (k : Fin 2) (rising : Bool) : Bool :=
  (s.parN (pEvsTm0Edge + k.val)).testBit (if rising then 0 else 1)

/-- A selected edge is stamped, earlier by the trim of its capture path, or counted as lost (spec/07 R185, R186, spec/21
R498). -/
def stampEdge (s : State) (k : Fin 2) (step : Nat) : State :=
  let x := tmAt s k
  let n := (((dtcNow s * 64 + step : Nat) : Int) - divNearest (trimPs s (11 + k.val) * 1047552) 1000000000).toNat
  let close : Bool := match x.lastEdge with | some l => decide (n ≤ l + 128) | none => false
  if x.buf.length ≥ 4 ∨ close then
    let s := setTm s k { x with lost := satIncBv x.lost, lostRep := x.lostRep + 1 }
    { s with evs := { s.evs with tmLost := true } }
  else setTm s k { x with buf := x.buf ++ [⟨n, tsbAt s (gnssAt s n), s.pace.gapSinceAnchor⟩], lastEdge := some n }

/-- Posts the oldest stamp of an input (spec/07 R186, R188). -/
def postStamp (s : State) (k : Fin 2) : State :=
  match (tmAt s k).buf with
  | [] => s
  | st :: rest =>
    let x := tmAt s k
    let s := setTm s k { x with buf := rest, lostRep := 0 }
    postEvt s (evtRec s (0x20 + k.val) false st.gap false (x.lostRep != 0) false 0 0
      (s.parN (pEvsTm0Client + k.val)) 7 st.tsb x.lostRep st.ticks)

end Sys2Proof.Machine
end

