-- ==== Sys2Proof/Machine/Level.lean ====
section
/-! DEFINITION. Service levels, poisoned words and the withdrawal of banks and units (spec/11 R286-R294, spec/20
R477-R483). -/

namespace Sys2Proof.Machine

/-- A core runs: not held at boot, not halted, not stopped (spec/20 R477). -/
def coreRuns (s : State) (k : CoreId) : Bool :=
  let c := s.core k
  s.pwr.coresUp && !c.held && !c.halted && !c.stopped

/-- A unit is available: its bits in unit_out and unit_flt are clear (spec/20 R477). -/
def unitOk (s : State) (u : Nat) : Bool := !s.pwr.unitOut.getLsbD u && !s.pwr.unitFlt.getLsbD u

/-- The highest level whose needs are all met (spec/20 R477, R478). -/
def levelNow (s : State) : Nat :=
  if ¬ (s.pwr.aonUp ∧ s.pwr.coreUp ∧ s.pwr.coresUp) then 0
  else if ¬ ((unitOk s 1 || unitOk s 2 || unitOk s 3 || unitOk s 4) && coreRuns s .trk && coreRuns s .svc &&
      !bankOut s 0 && !bankOut s 1) then 1
  else if s.pwr.unitOut = 0 ∧ s.pwr.unitFlt = 0 ∧ s.pwr.bnkOut = 0 then 3
  else 2

/-- Posts a LEVEL notice (spec/20 R479). -/
def noteLevel (s : State) (new old cause idx : Nat) : State := postImm s 0x0B (new + 4 * old + 16 * cause + 256 * idx)

/-- The level is brought up to date. A change sets chg; a change, and every fault or recovery of a unit or bank
(`always`), posts a LEVEL notice while SVC runs (spec/20 R478, R482). -/
def relevel (s : State) (always : Bool) (cause idx : Nat) : State :=
  let old := s.pwr.level
  let new := levelNow s
  let s := if new = old then s else { s with pwr := { s.pwr with level := new, chg := true } }
  if coreRuns s .svc ∧ (always ∨ new ≠ old) then noteLevel s new old cause idx else s

/-- A unit is withdrawn after a run-time fault (spec/20 R482). -/
def unitFault (s : State) (u : Nat) : State :=
  relevel { s with pwr := { s.pwr with unitFlt := setBit s.pwr.unitFlt u true } } true 2 u

/-- A unit's fault ends (spec/20 R482). -/
def unitRecover (s : State) (u : Nat) : State :=
  relevel { s with pwr := { s.pwr with unitFlt := setBit s.pwr.unitFlt u false } } true 3 u

/-- A ring whose bank leaves HOST or is withdrawn is suspended (spec/10 R254). -/
def suspendRings (s : State) (b : Nat) : State :=
  { s with slu := { s.slu with msrSusp := s.slu.msrSusp || s.parN pNtcMsrBank == b,
                               evtSusp := s.slu.evtSusp || s.parN pNtcEvtBank == b } }

/-- A bank is withdrawn (spec/11 R294, spec/20 R482); without B4 ephemeris of at most 4 satellites and no almanac is held
(spec/20 R480; log entry 59). -/
def withdrawBank (s : State) (b : Nat) : State :=
  let flt := if b = 2 then setBit s.pwr.unitFlt 0 true else if b = 5 then setBit s.pwr.unitFlt 5 true else s.pwr.unitFlt
  let s := suspendRings { s with pwr := { s.pwr with bnkOut := setBit s.pwr.bnkOut b true, unitFlt := flt, chg := true } } b
  let s := if b = 4 then { s with pans := { s.pans with almPrn := [], eph := s.pans.eph.take 4, ephNew := [] } } else s
  relevel s true 1 b

/-- Adds an entry to BNK_LOG (spec/11 R290). -/
def logPoison (s : State) (b w : Nat) : State :=
  if s.bank.log.length < 8 then { s with bank := { s.bank with log := s.bank.log ++ [(b, w)] } }
  else { s with bank := { s.bank with logOvf := true } }

/-- Counts a word poisoned; the 16th withdraws the bank (spec/11 R294). -/
def countPoison (s : State) (b : Nat) : State :=
  let n := s.bank.poisonN.getD b 0 + 1
  let s := { s with bank := { s.bank with poisonN := s.bank.poisonN.setIfInBounds b n } }
  if n = 16 ∧ ¬ bankOut s b then withdrawBank s b else s

/-- Marks a word poisoned, logs and counts it; a word already poisoned is left alone (spec/11 R286, R288-R290). -/
def poisonWord (s : State) (b w : Nat) : State :=
  match bankErr s b w with
  | some .poison => s
  | _ =>
    let s := { s with bank := { s.bank with errs := mput s.bank.errs (lin b w) .poison } }
    countPoison (logPoison s b (w % 16384)) b

/-- An upset that the word has suffered: a poisoned word stays poisoned (log entry 20). -/
def inject (s : State) (b w : Nat) (u : Option Upset) : State :=
  match u, bankErr s b w with
  | some _, some .poison => s
  | some x, _ => { s with bank := { s.bank with errs := mput s.bank.errs (lin b w) x } }
  | none, _ => s

/-- A read on demand: the data, and whether it met a poisoned or uncorrectable word, which it then poisons
(spec/11 R286). -/
def demandRead (s : State) (b w : Nat) : State × Word × Bool :=
  match bankErr s b w with
  | some .double => (poisonWord s b w, bankWord s b w, true)
  | some .poison => (s, bankWord s b w, true)
  | _ => (s, bankWord s b w, false)

/-- The Crystallizer is unavailable: mapped out, withdrawn, or B2 not owned by CRYST (spec/11 R281, spec/20 R482). -/
def cryOff (s : State) : Bool := !unitOk s 0 || ownerOf s 2 != .cryst || bankOut s 2

/-- A pan group is available (spec/20 R477). -/
def groupOk (s : State) (g : Nat) : Bool := unitOk s (1 + g)

end Sys2Proof.Machine
end

