-- ==== Sys2Proof/Machine/Quality.lean ====
section
/-! DEFINITION. Time quality, steps of GNSS time and the start of a takeover (spec/01 R19-R31, spec/06 R158,
spec/19 R456, R457). -/

namespace Sys2Proof.Machine

/-! ### Start of a takeover (spec/19 R456, R457) -/

/-- The words of a time in ticks, 0 for none. -/
def endWords : Option Int → List Word
  | none => wordsOf 4 0
  | some t => wordsOf 4 t.toNat

/-- EVOUT levels and pulse ends as a TAKE frame carries them (spec/19 R446; log entry 19). -/
def evoutWords (s : State) : List Word :=
  let lv := bit (pinAt s 0).active + 2 * bit (pinAt s 1).active + 4 * bit (pinAt s 2).active + 8 * bit (pinAt s 3).active
  BitVec.ofNat 16 lv :: (endWords (pinAt s 0).ends.head? ++ endWords (pinAt s 1).ends.head? ++
    endWords (pinAt s 2).ends.head? ++ endWords (pinAt s 3).ends.head?)

/-- The PCU is healthy for takeover (spec/19 R454). -/
def takeHealthy (s : State) : Bool := s.mir.pcu == 1 && s.parBit pMirStat 0 && s.parBit pMirStat 1

/-- A device starts a takeover: it sends TAKE with the handover point, the first lattice point at least mir.ho_lead
later; a primary holds slot requests from then on (spec/19 R457). -/
def startTake (s : State) (trig : Nat) : State :=
  let h := latticeAt s (gnssNow s + usTicks (s.par pMirHoLead))
  let prim := s.mir.role == 1
  let s := queueFrame s 4 (tsbAt s h ++ [BitVec.ofNat 16 trig] ++ (if prim then evoutWords s else []))
  { s with mir := { s.mir with take := some ⟨h, trig, none⟩, holdSlots := s.mir.holdSlots || prim } }

/-- A primary whose time quality is neither GNSS-COARSE nor GNSS-FINE while the standby shows GNSS-FINE, locked and
sync starts a takeover (spec/19 R456). -/
def checkDegraded (s : State) : State :=
  match s.mir.partner with
  | some p =>
    if s.mir.role = 1 ∧ s.mir.linkOk ∧ s.mir.take = none ∧ ¬ tqGnss s.time.tq ∧ p.tq = 4 ∧ p.locked ∧ p.sync ∧
        s.parBit pMirAutoTake 2 then startTake s 3
    else s
  | none => s

/-! ### Time quality -/

/-- The time quality takes a new value, with its notice and consequences (spec/01 R23, R26, R34, spec/06 R158, R160,
spec/19 R456). -/
def setTq (s : State) (q : TimeQ) : State :=
  let old := s.time.tq
  if q = old then s
  else
    let s := noteTimeq { s with time := { s.time with tq := q, calDue := s.time.calDue || q == .gnssFine } } q old
    let s := wcsFollowTq s
    let s := if q = .gnssCoarse then autoJump s else s
    checkDegraded s

/-- The uncertainty takes a value now, with sigma_f in 0.01 ppb (spec/01 R27). -/
def setUnc (s : State) (u sigF : Nat) : State :=
  { s with time := { s.time with u0 := u, unbounded := false, sigF := sigF, uAt := dtcNow s } }

/-- Entry into HOLDOVER: the uncertainty grows from its present value, with the larger of the loop's frequency
uncertainty (held in sigF) and sys.tcxo_floor (spec/01 R27). -/
def enterHoldover (s : State) : State :=
  let u := (uncNow s).getD 0
  let s := setUnc s u (max s.time.sigF (s.parN pSysTcxoFloor))
  setTq { s with time := { s.time with fineSince := none } } .holdover

/-- GNSS-COARSE or GNSS-FINE pass to HOLDOVER (spec/01 R23). -/
def toHoldover (s : State) : State := if tqGnss s.time.tq then enterHoldover s else s

/-! ### Steps -/

/-- Adds to mir.delta, in ps, within its 32 bits. -/
def addDelta (s : State) (ps : Int) : State := s.setPar pMirDelta (clip (-2147483648) 2147483647 (s.par pMirDelta + ps))

/-- Shifts the ends of pulses in progress, which keep their width across a step (spec/06 R152), the instants kept in GNSS
time, and the output phase, which is then measured from the new lattice (spec/06 R166). -/
def shiftPulses (s : State) (d : Int) : State :=
  { s with
    tp := { s.tp with endsAt := s.tp.endsAt.map (fun e => (e.1 + d, e.2)),
                      deferred := s.tp.deferred.map (fun e => (e.1 + d, e.2)) }
    evs := { s.evs with ev := s.evs.ev.map (fun p => { p with ends := p.ends.map (· + d), lastAt := p.lastAt.map (· + d) }) }
    wcs := { s.wcs with lockedAt := s.wcs.lockedAt + d, stoppedAt := s.wcs.stoppedAt + 16 * d * wcsFs s,
                        phi := wrapPhase s (s.wcs.phi + 16 * d) } }

/-- GNSS time has moved from `old` by `d` ticks at this instant: the edge placer, the WCS and the Event Scheduler follow
together (spec/01 R20, spec/06 R152, spec/07 R183). On a standby delta absorbs it (spec/19 R465). -/
def timeMoved (s : State) (old d : Int) : State :=
  let s := if s.mir.role = 2 then addDelta s (d * 1000000000000 / ticksPerSec) else s
  let s := shiftPulses s d
  stepSlots (stepTpout s old (old + d)) old (old + d)

/-- GNSS time moves by `d` ticks at this instant. -/
def moveTime (s : State) (d : Int) : State :=
  timeMoved { s with time := { s.time with anchorT := s.time.anchorT + d } } (gnssNow s) d

/-- GNSS time is `t` ticks from now on, under a time quality that may be new (spec/01 R23); the move is a step for what the
time quality brings (spec/06 R158, R160). -/
def setTime (s : State) (t : Int) (q : TimeQ) : State :=
  let old := gnssNow s
  let s := setTq { s with time := { s.time with anchorT := t, anchorD := dtcNow s, slewLeft := 0,
                                                stepPend := some (t - old) } } q
  timeMoved { s with time := { s.time with stepPend := none } } old (t - old)

/-- A step under R19 is applied: the reference anchor moves with it (spec/05 R131), a TSTEP notice is posted
and wcs.step_jump may request a re-align (spec/06 R158). -/
def applyStep (s : State) (d : Int) : State :=
  let s := moveTime { s with time := { s.time with stepPend := none } } d
  let s := { s with integ := { s.integ with ref := s.integ.ref.map (fun r => { r with t := r.t + d }) } }
  let s := noteTstep s d
  if s.parB pWcsStepJump then realignRequest s d else s

end Sys2Proof.Machine
end

