-- ==== Sys2Proof/Machine/Supply.lean ====
section
/-! DEFINITION. The core regulator's commands and the antenna supply (spec/15). -/

namespace Sys2Proof.Machine

/-! ### The SUPPLY notice (spec/15 R378) -/

/-- The Runtime can post: CORE is up, SVC has been started and the device is in RUN or IDLE. -/
def canPost (s : State) : Bool :=
  s.pwr.coreUp && s.pwr.coresUp && !s.svc.held && (s.pwr.state == .run || s.pwr.state == .idle)

/-- A SUPPLY event: posted, or kept with its latest data until the next return to RUN (spec/15 R378). -/
def noteSupply (s : State) (event data : Nat) : State :=
  if canPost s then postImm s 0x0D (event + 16 * data)
  else { s with pwr := { s.pwr with supplyHeld := mput s.pwr.supplyHeld event data } }

/-- Posts the SUPPLY events kept, lowest event first. -/
def postSupplyHeld (s : State) : State :=
  s.pwr.supplyHeld.foldl (fun s p => postImm s 0x0D (p.1 + 16 * p.2)) { s with pwr := { s.pwr with supplyHeld := [] } }

/-! ### The core regulator (spec/15 R364-R371) -/

/-- A voltage code clipped to vreg.floor-vreg.ceil (spec/15 R364). -/
def clipCode (s : State) (n : Int) : Nat := (clip (s.par pVregFloor) (s.par pVregCeil) n).toNat

/-- A code as an output in 5 mV / 16,368: at 10 mV/µs the output moves 2,000 of these in a REFIN period (spec/15 R363,
R365). -/
def fineOut (n : Nat) : Nat := n * 16368

/-- The present output: on its way to the target at 10 mV/µs (spec/15 R365). -/
def outNow (s : State) : Nat :=
  let t := fineOut s.vreg.target
  let d := (dtcNow s - s.vreg.slewAt) * 2000
  if ¬ s.vreg.slewing then s.vreg.out
  else if s.vreg.out ≤ t then min t (s.vreg.out + d) else max t (s.vreg.out - d)

/-- The output is on its way (spec/15 R365). -/
def slewing (s : State) : Bool := s.vreg.slewing && outNow s != fineOut s.vreg.target

/-- The DTC count at which the slew reaches its target. -/
def slewEnd (s : State) : Nat :=
  s.vreg.slewAt + ceilDiv ((fineOut s.vreg.target : Int) - s.vreg.out).natAbs 2000

/-- The output has reached its target. -/
def slewDone (s : State) : State :=
  { s with vreg := { s.vreg with out := fineOut s.vreg.target, slewing := false } }

/-- A command reaches the regulator. During soft start it waits; with the regulator off it is lost (spec/15 R364,
R365, R368). -/
def cmdVcore (s : State) (n : Int) : State :=
  let t := clipCode s n
  if s.vreg.softst then { s with vreg := { s.vreg with late := some t } }
  else if s.pwr.coreUp then
    let now := outNow s
    { s with vreg := { s.vreg with target := t, out := now, slewAt := dtcNow s, slewing := fineOut t != now } }
  else s

/-- A pace command: the present target plus `d`; a clip that changes it is counted
(spec/15 R364, spec/02 R49). -/
def paceCmd (s : State) (d : Int) : State :=
  let n : Int := s.vreg.target + d
  let t := clipCode s n
  let s := { s with pace := { s.pace with atCeil := decide ((t : Int) = s.par pVregCeil) } }
  let s := if (t : Int) = n then s else { s with vreg := { s.vreg with clipCnt := satIncBv s.vreg.clipCnt } }
  cmdVcore s n

/-- A new floor or ceiling re-clips a target outside it, and during soft start the command that waits for its end (spec/15
R367, R368). -/
def reclip (s : State) : State :=
  if s.vreg.softst then { s with vreg := { s.vreg with late := s.vreg.late.map (fun t => clipCode s t) } }
  else if clipCode s s.vreg.target = s.vreg.target then s else cmdVcore s s.vreg.target

/-- A soft start begins (spec/15 R368). -/
def startSoft (s : State) : State :=
  { s with vreg := { s.vreg with softst := true, out := 0, slewing := false, late := none } }

/-- A soft start ends well: vreg.set is reached, and the last command that arrived meanwhile becomes the target
(spec/15 R364, R368). -/
def softDone (s : State) : State :=
  let n := clipCode s (s.par pVregSet)
  let t := s.vreg.late.getD n
  { s with vreg := { s.vreg with softst := false, out := fineOut n, slewAt := dtcNow s, target := t, slewing := t != n,
                                 late := none } }

/-- A core-rail failure: the regulator is off and FAULT_N asserted (spec/15 R369, R377). -/
def railFail (s : State) : State :=
  ({ s with vreg := { s.vreg with softst := false, short := true, failed := true, out := 0, slewing := false,
                                  late := none, failsSince := satInc 255 s.vreg.failsSince } }).bumpPar pVregShortCnt

/-- FAULT_N is asserted (spec/15 R377); in OFF it is not driven. -/
def faultN (s : State) : Bool :=
  s.pwr.aonUp && (s.vreg.failed || (s.ant.state == 4 && s.parB pAntFaultEn))

/-- REGULATOR_TARGET_REACHED: at the instant that the slew rate gives (spec/15 R365). -/
def execRegulatorTargetReached (s : State) : Host.Outcome State Fault Refusal :=
  if s.vreg.slewing then .next (slewDone (carryDtc s (slewEnd s))) else .next s

/-- CORE_RAIL_RETRY: a new soft start 100 ms after a failure (spec/15 R369). -/
def execCoreRailRetry (s : State) : Host.Outcome State Fault Refusal :=
  if s.vreg.failed ∧ ¬ s.vreg.softst ∧ ¬ s.pwr.coreUp ∧ s.pwr.aonUp then .next (startSoft s) else .next s

/-- VDDIN_MEASURE (spec/15 R371). -/
def execVddinMeasure (mv : Nat) (s : State) : Host.Outcome State Fault Refusal :=
  if s.pwr.aonUp then
    let v := min 6000 mv
    let s := s.setPar pVregVin v
    let warn := s.parN pVregVinWarn * 50
    if ¬ s.vreg.vinLow ∧ v < warn then .next (noteSupply { s with vreg := { s.vreg with vinLow := true } } 0 0)
    else if s.vreg.vinLow ∧ warn + 100 < v then
      .next (noteSupply { s with vreg := { s.vreg with vinLow := false } } 1 0)
    else .next s
  else .next s

/-! ### The antenna supply (spec/15 R372-R376) -/

/-- ANTOUT is wanted (spec/15 R372). -/
def antWanted (s : State) : Bool :=
  s.pwr.aonUp && match s.parN pAntMode with
    | 0 => false
    | 1 => s.samp.feEn
    | _ => true

/-- ANTOUT is off in the given state. -/
def antOff (s : State) (st : Nat) : State := { s with ant := { s.ant with state := st, ima := 0, hiNoted := false } }

/-- ANT_SHORT is declared (spec/15 R374). -/
def antShort (s : State) : State :=
  let s := s.bumpPar pAntShortCnt
  let s := { s with ant := { s.ant with short := true } }
  if s.ant.tries < s.parN pAntRetries then noteSupply (antOff s 3) 2 s.ant.tries
  else unitFault (noteSupply (antOff s 4) 3 s.ant.tries) 7

/-- The measured current; at the running limit of 70 mA ilim is set (spec/09 R237, spec/15 R375, R376). -/
def antMeas (s : State) (ma : Nat) : State :=
  { s with ant := { s.ant with ilim := s.ant.ilim || decide (70 ≤ ma),
                               ima := min 255 ma, hiNoted := s.ant.hiNoted && decide (s.parN pAntImaHi ≤ ma + 5) } }

/-- 1 is written to ANT_STAT.unlatch (spec/15 R374, R380). -/
def antUnlatch (s : State) : State :=
  if s.ant.state = 4 then
    let s := { s with ant := { s.ant with tries := 0, state := if antWanted s then 1 else 0 } }
    unitRecover s 7
  else s

/-- ANTOUT_WANTED_CHANGE (spec/15 R372, R373, R380). -/
def execAntoutWantedChange (s : State) : Host.Outcome State Fault Refusal :=
  if antWanted s then
    if s.ant.state = 0 then .next { s with ant := { s.ant with state := 1 } } else .next s
  else if s.ant.state = 1 ∨ s.ant.state = 2 ∨ s.ant.state = 3 then .next (antOff s 0)
  else .next s

/-- ANT_SOFT_START_PASS (spec/15 R373). -/
def execAntSoftStartPass (ma : Nat) (s : State) : Host.Outcome State Fault Refusal :=
  if s.ant.state = 1 then
    .next (noteSupply (antMeas { s with ant := { s.ant with state := 2, tries := 0 } } ma) 4 0)
  else .next s

/-- ANT_SHORT: not at the threshold 2 ms into the soft start (spec/15 R374). -/
def execAntShort (s : State) : Host.Outcome State Fault Refusal :=
  if s.ant.state = 1 then .next (antShort s) else .next s

/-- ANT_RETRY (spec/15 R374, R380). -/
def execAntRetry (s : State) : Host.Outcome State Fault Refusal :=
  if s.ant.state = 3 then
    if antWanted s then .next { s with ant := { s.ant with state := 1, tries := s.ant.tries + 1 } }
    else .next (antOff s 0)
  else .next s

/-- ANT_CURRENT_LIMIT_EXPIRY (spec/15 R375). -/
def execAntCurrentLimitExpiry (s : State) : Host.Outcome State Fault Refusal :=
  if s.ant.state = 2 then .next (antShort { s with ant := { s.ant with ilim := true } }) else .next s

/-- ANT_OPEN_DETECT (spec/15 R376). -/
def execAntOpenDetect (ma : Nat) (s : State) : Host.Outcome State Fault Refusal :=
  if s.ant.state = 2 ∧ ¬ s.ant.isOpen ∧ ma < s.parN pAntOpenMa then
    let s := antMeas { s with ant := { s.ant with isOpen := true } } ma
    .next (noteSupply (s.bumpPar pAntOpenCnt) 5 0)
  else .next s

/-- ANT_OPEN_CLEAR (spec/15 R376). -/
def execAntOpenClear (ma : Nat) (s : State) : Host.Outcome State Fault Refusal :=
  if s.ant.state = 2 ∧ s.ant.isOpen ∧ s.parN pAntOpenMa ≤ ma then
    .next (noteSupply (antMeas { s with ant := { s.ant with isOpen := false } } ma) 6 0)
  else .next s

/-- ANT_CURRENT_HIGH: a measurement of the current; above ant.ima_hi it is noted once (spec/15 R376). -/
def execAntCurrentHigh (ma : Nat) (s : State) : Host.Outcome State Fault Refusal :=
  if s.ant.state = 2 then
    let s := antMeas s ma
    if s.parN pAntImaHi < ma ∧ ¬ s.ant.hiNoted then
      .next (noteSupply { s with ant := { s.ant with hiNoted := true } } 7 0)
    else .next s
  else .next s

end Sys2Proof.Machine
end

