-- ==== Sys2Proof/Machine/Power.lean ====
section
/-! DEFINITION. Entry attempts and wake sources: operations (spec/16 R385-R391, R396). -/

namespace Sys2Proof.Machine

/-- Code of a power state (spec/09 R237). -/
def pwrCode : PwrState → Nat
  | .run => 0 | .idle => 1 | .sleep => 2 | .deep => 3 | .off => 4

/-- Power state of a request of 2-4. -/
def pwrOf : Nat → PwrState
  | 2 => .sleep | 3 => .deep | _ => .off

/-- The POWER device notice (spec/16 R391). -/
def notePower (s : State) (st kind code : Nat) : State := postImm s 0x0C (st + 8 * kind + 32 * code)

/-- A core has replied: it is parked at WAIT with a request of 2-4 (spec/16 R386). -/
def replied (s : State) (k : CoreId) : Bool := (s.core k).waiting && decide (2 ≤ (s.core k).req)

/-- A wake source is enabled for a state (spec/16 R396). The enables of alarms and timemarks are checked where those
events arise. -/
def wakeEnabled (s : State) (code : Nat) (st : PwrState) : Bool :=
  match st with
  | .sleep => code == 1 || code == 9 || code == 10 || s.parBit pPwrWakeEn code
  | .deep => code == 1 || code == 9 || code == 10 ||
      ((code == 3 || code == 4 || code == 5 || code == 6 || code == 8) && s.parBit pPwrWakeEn code)
  | .off => code == 4 || code == 5 || code == 6
  | _ => false

/-- Both cores are released from WAIT without vectoring, with their requests and ip_power cleared (spec/16 R390). -/
def releaseCores (s : State) : State :=
  s.modCores (fun c => { c with waiting := false, req := 0, ipPower := false })

/-- The attempt ends; a WCS already stopped for it restarts as after a re-align (spec/16 R390). -/
def endAttempt (s : State) : State :=
  let s := releaseCores { s with pwr := { s.pwr with attempt := false, asked := false } }
  if s.wcs.sleepStop then
    { s with wcs := { s.wcs with sleepStop := false, stopped := true, state := .slew } }
  else s

/-- The attempt is refused by a block; `blks` is the map of every block that refused (spec/16 R387, R390). -/
def refuse (s : State) (blk blks : Nat) : State :=
  let st := s.pwr.tried
  let s := endAttempt { s with pwr := { s.pwr with outcome := 2, block := blk } }
  notePower ((s.bumpPar pPwrRefuseCnt).setPar pPwrRefuseBlk blks) st 2 blk

/-- The attempt is abandoned for a wake source (spec/16 R390). -/
def abandon (s : State) (code : Nat) : State :=
  let st := s.pwr.tried
  let s := endAttempt { s with pwr := { s.pwr with outcome := 3, wake := code } }
  notePower ((s.bumpPar pPwrAbandonCnt).setParBit pPwrWakeSeen code true) st 3 code

/-- A wake source arrives: it abandons an attempt towards a state it ends, or is held and ends the state the device is
in (spec/16 R390, R396). -/
def wakeEvent (s : State) (code : Nat) : State :=
  if s.pwr.attempt then
    if wakeEnabled s code (pwrOf s.pwr.tried) then abandon s code else s
  else if wakeEnabled s code s.pwr.state then
    let s := { s with pwr := { s.pwr with heldWakes := if s.pwr.heldWakes.contains code then s.pwr.heldWakes
                                                       else s.pwr.heldWakes ++ [code] } }
    s.setParBit pPwrWakeSeen code true
  else s

/-- A tag of the core is busy. -/
def anyBusy (s : State) (k : CoreId) : Bool :=
  (tagOf s k 0).busy || (tagOf s k 1).busy || (tagOf s k 2).busy || (tagOf s k 3).busy

/-- An ARMED slot has a target within pwr.slot_guard (spec/16 R389). -/
def slotGuarded (s : State) : Bool :=
  let lim := gnssNow s + usTicks (s.pwr.att.guard * 1000)
  s.evs.slots.any (fun y => decide (y.2.late.getD (y.2.com.getD y.2.img).target ≤ lim))

/-- Whether the block of a code refuses the attempt's state (spec/16 R388). -/
def blockRefuses (s : State) (st : Nat) : Nat → Bool
  | 3 => decide (3 ≤ st) && (!s.slu.cmd.isEmpty || !s.mir.heldOps.isEmpty)
  | 4 => anyBusy s .trk || anyBusy s .svc
  | 5 => if st = 2 then slotGuarded s else !s.evs.slots.isEmpty && !s.parB pEvsDeepCancel
  | 11 => if st = 2 then s.mir.role == 1 else s.mir.role != 0
  | 15 => decide (st = 4) && s.pwr.att.offEn == 0
  | _ => false

/-- The map of blocks that refuse. -/
def refusals (s : State) (st : Nat) : Nat :=
  (indicesBelow (blockRefuses s st) 16).foldl (fun m k => m + 2 ^ k) 0

/-- Both cores have replied, and every block is asked (spec/16 R386-R388). Without a refusal the attempt waits for the
blocks that delay: it commits at ENTRY_COMMIT. -/
def askBlocks (s : State) : State :=
  let st := min s.trk.req s.svc.req
  let s := { s with pwr := { s.pwr with tried := st } }
  match leastBelow (blockRefuses s st) 16 with
  | some b => refuse s b (refusals s st)
  | none => { s with pwr := { s.pwr with asked := true, askedAt := dtcNow s } }

/-- The blocks are asked once both cores have replied. -/
def checkReplies (s : State) : State :=
  if s.pwr.attempt ∧ ¬ s.pwr.asked ∧ replied s .trk ∧ replied s .svc then askBlocks s else s

/-- Block code of a core (spec/16 R388). -/
def coreBlk : CoreId → Nat
  | .trk => 1 | .svc => 2

/-- A core refuses the attempt in progress, by a request of 0 or by leaving WAIT (spec/16 R386). -/
def coreRefuses (s : State) (k : CoreId) : State :=
  if s.pwr.attempt then refuse s (coreBlk k) (2 ^ coreBlk k) else s

/-- The pwr parameters that govern an attempt: a later write applies from the next one (spec/16 R405). -/
def attNow (s : State) : AttPars :=
  ⟨s.parN pPwrCoreLim, s.parN pPwrSlotGuard, s.parN pPwrOffEn, s.parN pPwrRetain, s.parN pPwrSleepVcore, s.parN pPwrMlPatN⟩

/-- A core writes its request field in PWR_MODE (spec/16 R385, R386). -/
def writeReq (s : State) (k : CoreId) (v : Nat) : State :=
  let s := s.modCore k (fun c => { c with req := v })
  if s.pwr.attempt then
    if v = 0 then coreRefuses s k else checkReplies s
  else if 2 ≤ v ∧ v ≤ 4 ∧ (s.pwr.state = .run ∨ s.pwr.state = .idle) then
    let s := { s with pwr := { s.pwr with attempt := true, asked := false, tried := v, outcome := 0, att := attNow s,
                                          attAt := dtcNow s } }
    let s := s.modCore .trk (fun c => { c with ipPower := !replied s .trk })
    let s := s.modCore .svc (fun c => { c with ipPower := !replied s .svc })
    checkReplies s
  else s

/-- The device is in IDLE whenever both cores are parked at WAIT and no deeper state holds (spec/16 R384). -/
def idleNow (s : State) : State :=
  if s.pwr.state = .run ∧ s.trk.waiting ∧ s.svc.waiting then { s with pwr := { s.pwr with state := .idle } }
  else if s.pwr.state = .idle ∧ ¬ (s.trk.waiting ∧ s.svc.waiting) then { s with pwr := { s.pwr with state := .run } }
  else s

/-- A core parks at WAIT (spec/12 R321, spec/16 R384-R386). -/
def parkCore (s : State) (k : CoreId) : State :=
  let s := s.modCore k (fun c => { c with waiting := true })
  let s := if s.pwr.attempt ∧ replied s k then s.modCore k (fun c => { c with ipPower := false }) else s
  idleNow (checkReplies s)

/-- A core leaves WAIT, which refuses an attempt it had replied to (spec/12 R321, spec/16 R384, R386). -/
def leaveWait (s : State) (k : CoreId) : State :=
  let was := replied s k
  let s := s.modCore k (fun c => { c with waiting := false })
  idleNow (if was then coreRefuses s k else s)

/-- PWR_MODE_REQUEST: a core writes its PWR_MODE request (spec/16 R385). -/
def execPwrModeRequest (k : CoreId) (v : BitVec 3) (s : State) : Host.Outcome State Fault Refusal :=
  if coreRuns s k ∧ ¬ (s.core k).waiting then .next (idleNow (writeReq s k v.toNat)) else .next s

/-- CORE_REPLY_TIMEOUT: a core has not replied within pwr.core_lim of the start of the attempt (spec/16 R386). -/
def execCoreReplyTimeout (k : CoreId) (s : State) : Host.Outcome State Fault Refusal :=
  if s.pwr.attempt ∧ ¬ replied s k then
    let s := carryDtc s (s.pwr.attAt + s.pwr.att.lim * countsPerMs)
    .next (idleNow (refuse s (coreBlk k) (2 ^ coreBlk k)))
  else .next s

/-- AUTO_SLEEP_TIMEOUT: SVC requests SLEEP after pwr.auto_sleep seconds without pans, search or commands
(spec/16 R401; log entry 99). Its WAIT is a command of its own. -/
def execAutoSleepTimeout (s : State) : Host.Outcome State Fault Refusal :=
  if s.par pPwrAutoSleep ≠ 0 ∧ coreRuns s .svc ∧ ¬ s.pwr.attempt ∧ s.pans.act = [] ∧ ¬ s.acq.searching ∧
      s.slu.cmd = [] then
    .next (idleNow (writeReq (carryDtc s (s.pwr.busyAt + s.parN pPwrAutoSleep * 1000 * countsPerMs)) .svc 2))
  else .next s

/-- WAKE_PATTERN: the wake pattern repeated without a gap on MLRX (spec/16 R396). -/
def execWakePattern (n : Nat) (s : State) : Host.Outcome State Fault Refusal :=
  if (if s.pwr.attempt then s.pwr.att.pat else s.parN pPwrMlPatN) ≤ n then .next (idleNow (wakeEvent s 3)) else .next s

/-- MIRROR_LINK_ACTIVITY: an edge on MLRX (spec/16 R396). -/
def execMirrorLinkActivity (s : State) : Host.Outcome State Fault Refusal := .next (idleNow (wakeEvent s 2))

end Sys2Proof.Machine
end

