-- ==== Sys2Proof/Machine/Gauge.lean ====
section
/-! DEFINITION. The battery gauge (spec/18). Charge is kept in uA*us: 1 mAh is 3.6 * 10^12 of them. -/

namespace Sys2Proof.Machine

/-- The gauge measures: enabled, not mapped out and without a fault (spec/18 R436). -/
def gauRuns (s : State) : Bool :=
  s.pwr.aonUp && s.parB pGauEn && !s.pwr.unitOut.getLsbD 6 && !s.gau.fault

/-- A GAUGE event's notice: posted, or kept with its latest data until the next return to RUN (spec/18 R434). -/
def noteGauge (s : State) (event data : Nat) : State :=
  if canPost s then postImm s 0x0E (event + 16 * data)
  else { s with pwr := { s.pwr with gaugeHeld := mput s.pwr.gaugeHeld event data } }

/-- Posts the GAUGE events kept, lowest event first. -/
def postGaugeHeld (s : State) : State :=
  s.pwr.gaugeHeld.foldl (fun s p => postImm s 0x0E (p.1 + 16 * p.2)) { s with pwr := { s.pwr with gaugeHeld := [] } }

/-- Full charge, gau.cap_mah, in uA*us. -/
def gauFull (s : State) : Int := s.par pGauCapMah * 3600000000000

/-- The table search of R428 from index `k` on, with fuel: `v` in mV * 10^6. -/
def ocvFrom (s : State) (v : Int) : Nat → Nat → Nat
  | 0, _ => 10000
  | n + 1, k =>
    let a := s.par (pGauOcv0 + k) * 1000000
    let b := s.par (pGauOcv0 + k + 1) * 1000000
    if v < b then (1000 * k + 1000 * (v - a) / (b - a)).toNat else ocvFrom s v n (k + 1)

/-- The open-circuit SOC of a cell voltage given in mV * 10^6, in 0.01 % (spec/18 R428). -/
def ocvSoc (s : State) (v : Int) : Nat :=
  if v ≤ s.par pGauOcv0 * 1000000 then 0
  else if s.par pGauOcv10 * 1000000 ≤ v then 10000
  else ocvFrom s v 10 0

/-- Raw SOC and gau.q_rem follow the charge (spec/18 R427). -/
def setCharge (s : State) (q : Int) : State :=
  let q := clip 0 (gauFull s) q
  let s := { s with gau := { s.gau with q := q, raw := (q / (s.par pGauCapMah * 360000000)).toNat } }
  s.setPar pGauQRem (q / 360000000000)

/-- The charge that a SOC stands for. -/
def socCharge (s : State) (soc : Nat) : Int := soc * (s.par pGauCapMah * 360000000)

/-- The target of Displayed SOC (spec/18 R431). -/
def gauTarget (s : State) : Nat :=
  let sd := s.parN pGauSocSd
  if s.gau.raw ≤ sd then 0 else (s.gau.raw - sd) * 10000 / (10000 - sd)

/-- A bit of gau.stat. -/
def setStat (s : State) (i : Nat) (b : Bool) : State := s.setParBit pGauStat i b

/-- Gauge event `k` is raised: its bit in gau.evt, and, when enabled, a wake source and a notice (spec/18 R433). -/
def gauEvent (s : State) (k : Nat) : State :=
  let s := s.setParBit pGauEvt k true
  let s := { s with gau := { s.gau with disarmed := setBit s.gau.disarmed k true } }
  if s.parBit pGauEvtEn k then noteGauge (idleNow (wakeEvent s 8)) k (s.gau.disp / 100) else s

/-- Event `k` under its conditions: raised when armed, re-armed when `rearm` (spec/18 R433). -/
def gauCheck (s : State) (k : Nat) (raise rearm : Bool) : State :=
  if s.gau.disarmed.getLsbD k then
    if rearm then { s with gau := { s.gau with disarmed := setBit s.gau.disarmed k false } } else s
  else if raise then gauEvent s k else s

/-- The samples whose length together makes up the last `us` microseconds. -/
def takeSpan : Nat → List (Int × Nat) → List (Int × Nat)
  | _, [] => []
  | us, (i, t) :: xs => if t < us then (i, t) :: takeSpan (us - t) xs else [(i, us)]

/-- Adds a stretch of `us` at current `ua` to the charge and the current history (spec/18 R423, R425, R430). -/
def addCharge (s : State) (ua : Int) (us : Nat) : State :=
  let s := { s with gau := { s.gau with iHist := takeSpan 60000000 ((ua, us) :: s.gau.iHist) } }
  setCharge s (s.gau.q + ua * us)

/-- Displayed SOC moves towards its target over `us` (spec/18 R431, R432). -/
def moveDisp (s : State) (ua : Int) (us : Nat) : State :=
  let t := gauTarget s
  let hold := s.gau.zeroHold && !(decide (100 < t) && decide (0 < ua))
  let acc := s.gau.frac + s.parN pGauDispRate * us
  let steps := acc / 6000000
  let d := s.gau.disp
  let d' := if d < t then (if ua < 0 then d else min t (d + steps))
            else if t < d then (if 0 < ua then d else max t (d - steps)) else d
  let d' := if hold then 0 else d'
  { s with gau := { s.gau with disp := d', dispOk := d' == t, zeroHold := hold,
                               frac := if d' = t then 0 else acc % 6000000 } }

/-- The consecutive shut-down samples; at gau.sd_n of them Displayed SOC is 0 at once (spec/18 R432). -/
def shutdownZero (s : State) (cell : Nat) (ua : Int) : State :=
  let n := if cell ≤ s.parN pGauVSd ∧ ua < 0 then s.gau.sdRun + 1 else 0
  let s := { s with gau := { s.gau with sdRun := n } }
  if s.parN pGauSdN ≤ n then
    { s with gau := { s.gau with disp := 0, zeroHold := true, dispOk := gauTarget s == 0, frac := 0 } }
  else s

/-- The sampling mode, and the rest and full conditions that follow it (spec/18 R424, R430). -/
def gauMode (s : State) (ua : Int) (cell us : Nat) : State :=
  let mag : Int := ua.natAbs
  let th := s.par pGauStretchMa * 1000
  let str := s.parBit pGauStat 0
  let run := if mag < th then s.gau.stretchRun + 1 else 0
  let go := !str && decide (s.parN pGauStretchN ≤ run)
  let back := str && decide (th + s.par pGauStretchHyst * 1000 ≤ mag)
  let rest := if str ∧ ¬ back then s.gau.restUs + us else 0
  let full := if s.parN pGauVFull ≤ cell ∧ 0 < ua ∧ ua ≤ s.par pGauTaperMa * 1000 then s.gau.fullUs + us else 0
  let s := { s with gau := { s.gau with stretchRun := if str ∨ go then 0 else run, restUs := rest, fullUs := full,
                                        restDone := s.gau.restDone && decide (rest ≠ 0) } }
  let s := setStat (setStat s 0 ((str && !back) || go)) 1 (decide (s.par pGauRestS * 1000000 ≤ rest))
  if ua < -th then setStat s 2 false else s

/-- The thresholds of R433 after a sample. -/
def gauEvents (s : State) (ua : Int) (cell : Nat) : State :=
  let lo := s.parN pGauSocLo
  let s := gauCheck s 0 (lo != 0 && decide (s.gau.disp < lo)) (decide (lo + 100 ≤ s.gau.disp))
  let vlo := s.parN pGauVLo
  let n := if cell < vlo then s.gau.vloRun + 1 else 0
  let s := { s with gau := { s.gau with vloRun := n } }
  let s := gauCheck s 1 (vlo != 0 && decide (s.parN pGauSdN ≤ n)) (decide (vlo + 50 ≤ cell))
  let hi := s.par pGauIHi * 1000
  let mag : Int := ua.natAbs
  gauCheck s 2 (hi != 0 && decide (hi < mag)) (decide (mag ≤ hi - 10000))

/-- The gauge fault (spec/18 R436). -/
def gauFault (s : State) : State :=
  unitFault (gauEvent { s with gau := { s.gau with fault := true, absentRun := 0 } } 3) 6

/-- gau.en is written 0: a fault ends (spec/18 R436). -/
def gauDisable (s : State) : State :=
  if s.gau.fault then
    let s := { s with gau := { s.gau with fault := false, absentRun := 0, disarmed := setBit s.gau.disarmed 3 false } }
    let s := unitRecover s 6
    { s with pwr := { s.pwr with chg := true } }
  else s

/-- The gauge starts at its next sample (spec/18 R429). -/
def gauStart (s : State) : State := { s with gau := { s.gau with starting := true } }

/-- The first sample after a start sets the charge from the open-circuit voltage and Displayed SOC to its target
(spec/18 R429). `ua` mA*10^-3 times mOhm is mV*10^-6. -/
def gauFirst (s : State) (cell : Nat) (ua : Int) : State :=
  let v := (cell : Int) * 1000000 - ua * s.par pGauRMohm
  let s := setCharge s (socCharge s (ocvSoc s v))
  { s with gau := { s.gau with starting := false, disp := gauTarget s, dispOk := true, frac := 0, zeroHold := false } }

/-- A reading under its gain, 1 + n * 2^-16, and offset trims (spec/18 R422, R439; log entries 67, 101). -/
def trimmed (site : Nat) (x n off : Int) : Int :=
  if Config.offsetFirst then roundOpen site ((x + off) * (65536 + n)) 65536 else roundOpen site (x * (65536 + n)) 65536 + off

/-- GAUGE_SAMPLE: VBAT in mV and the mean current in uA, as converted: the trims make of them the gauge's figures
(spec/18 R420-R433, R436; an offset code of the current is 305 uA). The sample is one of 250 ms, or one that stands for 4 s
in stretched mode. -/
def execGaugeSample (vbatMv : Nat) (ua : Int) (s : State) : Host.Outcome State Fault Refusal :=
  if gauRuns s then
    let vbatMv := (trimmed 6 vbatMv (s.par pGauVGain) (s.par pGauVOff)).toNat
    let ua := trimmed 7 ua (s.par pGauIGain) (s.par pGauIOff * 305)
    let run := if vbatMv < 1000 then s.gau.absentRun + 1 else 0
    if 8 ≤ run then .next (gauFault s)
    else
      let i := clip (-10000000) 10000000 ua
      let mv := min 65535 (vbatMv * s.parN pGauDiv / 1000)
      let cell := mv / (s.parN pGauCells + 1)
      let us := if s.parBit pGauStat 0 then 4000000 else 250000
      let s := { s with gau := { s.gau with absentRun := run } }
      let s := setStat (setStat s 4 (i != ua)) 3 (decide (0 < i))
      let s := (s.setPar pGauVMv mv).setPar pGauIMa (Int.tdiv i 1000)
      let span := us + s.gau.sinceUs
      let s := { s with gau := { s.gau with lastI := i, lastV := cell, sinceUs := 0 } }
      let s := if s.gau.starting then
          gauFirst { s with gau := { s.gau with iHist := takeSpan 60000000 ((i, us) :: s.gau.iHist) } } cell i
        else shutdownZero (moveDisp (addCharge s i us) i span) cell i
      .next (gauEvents (gauMode s i cell us) i cell)
  else .next s

/-- COMPARATOR_TRIP: `us` after the latest sample the current comparator trips; the charge since then is counted at
that sample's value and normal sampling starts (spec/18 R424, R425). -/
def execComparatorTrip (us : Nat) (s : State) : Host.Outcome State Fault Refusal :=
  if gauRuns s ∧ s.parBit pGauStat 0 then
    let s := if s.gau.starting then s else addCharge s s.gau.lastI us
    let s := { s with gau := { s.gau with sinceUs := s.gau.sinceUs + us, stretchRun := 0, restUs := 0,
                                          restDone := false } }
    .next (setStat (setStat s 0 false) 1 false)
  else .next s

/-- The mean current of the last 60 s in uA (spec/18 R430). -/
def meanI (s : State) : Int :=
  let t : Int := (s.gau.iHist.map (fun x => (x.2 : Int))).sum
  if t = 0 then 0 else (s.gau.iHist.map (fun x => x.1 * (x.2 : Int))).sum / t

/-- gau.soc_sd of R430. -/
def socSd (s : State) : Nat :=
  min 5000 (ocvSoc s (s.par pGauVSd * 1000000 - min 0 (meanI s) * s.par pGauRMohm))

/-- GAUGE_SECOND_TASKS: SVC's corrections, once per second in RUN and IDLE (spec/18 R430, R437). -/
def execGaugeSecondTasks (s : State) : Host.Outcome State Fault Refusal :=
  if gauRuns s ∧ coreRuns s .svc ∧ (s.pwr.state = .run ∨ s.pwr.state = .idle) then
    let s := s.setPar pGauSocSd (socSd s)
    let full := decide (s.parN pGauFullS * 1000000 ≤ s.gau.fullUs) && !s.parBit pGauStat 2
    let rest := s.parBit pGauStat 1 && !s.gau.restDone
    let s := if full then noteGauge (setStat (setCharge s (gauFull s)) 2 true) 4 100 else s
    if rest then
      let s := { s with gau := { s.gau with restDone := true } }
      if full then .next s
      else
        let s := setCharge s (socCharge s (ocvSoc s (s.gau.lastV * 1000000)))
        .next (noteGauge s 5 (s.gau.raw / 100))
    else .next s
  else .next s

/-- gau.cap_mah is written: the charge is scaled so that Raw SOC is unchanged (spec/18 R427). -/
def gauRescale (s : State) (old : Int) : State :=
  let raw := s.gau.raw
  let q := s.gau.q * s.par pGauCapMah / old
  let s := { s with gau := { s.gau with q := q, raw := raw } }
  s.setPar pGauQRem (q / 360000000000)

end Sys2Proof.Machine
end

