-- ==== Sys2Proof/Machine/Start.lean ====
section
/-! DEFINITION. The start of the cores and of the Runtime, and the front-end enable (spec/20 R470-R475, R483,
spec/12 R319, spec/03 R74). -/

namespace Sys2Proof.Machine

/-! ### Check codes -/

/-- One bit of the CRC-16 with polynomial 0x1021 (spec/09 R233, spec/21 R499). -/
def crcBit (c : Nat) (b : Bool) : Nat :=
  let x := c * 2 % 65536
  if c.testBit 15 != b then x ^^^ 0x1021 else x

/-- The bits of a number below position `n`, most significant first. -/
def crcBits (v : Nat) : Nat → Nat → Nat
  | 0, c => c
  | n + 1, c => crcBits v n (crcBit c (v.testBit n))

/-- The CRC-16 over words, each taken most significant bit first. -/
def crcWords (ws : List Word) : Nat := ws.foldl (fun c w => crcBits w.toNat 16 c) 0xFFFF

/-! ### Program memory (spec/12 R304, spec/08 R213) -/

/-- Where the program RAM word of a core and address is kept. -/
def pramIdx (k : CoreId) (a : Nat) : Nat := coreNum k * 8192 + a % 8192

/-- The program word of a core at an address: ROM below 0x2000, whose contents no file of the spec gives (log entry
21), program RAM above. -/
def progWord (s : State) (k : CoreId) (a : BitVec 14) : BitVec 14 :=
  if a.toNat < 0x2000 then Config.romWord (coreNum k) a.toNat
  else (wordGet s.cp.pram (pramIdx k a.toNat)).extractLsb' 0 14

/-- Stores a word of program RAM. -/
def putProg (s : State) (k : CoreId) (a : BitVec 14) (v : BitVec 14) : State :=
  { s with cp := { s.cp with pram := wordSet s.cp.pram (pramIdx k a.toNat) (v.setWidth 16) } }

/-- The CRC of a core's program RAM (spec/09 R233). -/
def pramCrc (s : State) (k : CoreId) : Nat :=
  crcWords ((List.range 8192).map (fun i => wordGet s.cp.pram (pramIdx k i)))

/-- sys.pram_crc takes the CRC of one core. -/
def takeCrc (s : State) (k : CoreId) : State :=
  let v := s.parN pSysPramCrc
  s.setPar pSysPramCrc (match k with
    | .trk => (v / 65536 * 65536 + pramCrc s k : Nat)
    | .svc => (v % 65536 + 65536 * pramCrc s k : Nat))

/-- A core is stopped in the sense of R213: held at boot, halted, or parked for program load (log entry 95). -/
def prgStopped (s : State) (k : CoreId) : Bool :=
  let c := s.core k
  c.held || c.halted || c.parked

/-! ### Starting cores -/

/-- A core as it enters vector 0 (spec/12 R319, R301): run level 7 with ie 0; the return stack's slots and the working
registers are left as they are. -/
def atVector0 (c : Core) : Core :=
  { c with pc := 0, z := false, c := false, n := false, v := false, t := false, sg := Vector.replicate 4 .reset,
           rsTop := 0, rsCount := 0, ie := false, level := 7, base := 0, delay := none, waiting := false, held := false,
           parked := false, frameHalt := false, ieBits := 0, req := 0, hook := none, trapVec := none, stepReq := false }

/-- Starts a core that is not stopped under R483 (spec/20 R470, R474, R484). -/
def startCore (s : State) (k : CoreId) : State := s.modCore k (fun c => if c.stopped then c else atVector0 c)

/-- The use of the RTC calendar (spec/17 R414). -/
def rtcUse (s : State) : Nat :=
  if s.rtc.halt ∨ ¬ s.pwr.prescOk then 0 else if s.rtc.r34 ∧ ¬ s.rtc.stamp.getLsbD 7 then 2 else 1

/-- The BOOT device notice (spec/20 R475). -/
def noteBoot (s : State) (cause core vec : Nat) : State :=
  postImm s 0x10 (cause + 8 * core + 16 * vec + 256 * bit s.pwr.calFail + 512 * rtcUse s + 2048 * bit s.pwr.bootHold)

/-- The fault rules for every unit and bank that is absent at the start (spec/20 R473, R482, spec/11 R281). -/
def absentRules (s : State) : State :=
  let f := if bankOut s 2 then setBit s.pwr.unitFlt 0 true else s.pwr.unitFlt
  let f := if bankOut s 5 then setBit f 5 true else f
  { s with pwr := { s.pwr with unitFlt := f } }

/-- The Runtime starts on both cores: BOOT, or the POWER notice of a wake, then LEVEL with cause 0 and what was kept
for it (spec/20 R473, spec/16 R391, R394, spec/15 R378, spec/18 R434). -/
def runtimeStart (s : State) : State :=
  let s := absentRules { s with pwr := { s.pwr with busyAt := dtcNow s } }
  if coreRuns s .svc then
    let s := if s.pwr.wakeDeep then notePower s 3 1 s.pwr.wake else noteBoot s s.pwr.bootCause 0 0
    let s := relevel s true 0 0
    let s := if s.pwr.cancelled = 0 then s else
      { (noteCancelled s s.pwr.cancelled) with pwr := { (noteCancelled s s.pwr.cancelled).pwr with cancelled := 0 } }
    postGaugeHeld (postSupplyHeld s)
  else relevel s true 0 0

/-- Both cores held at boot are released (spec/20 R474). -/
def releaseBoot (s : State) : State :=
  let s := takeCrc (takeCrc s .trk) .svc
  let s := startCore (startCore { s with pwr := { s.pwr with bootHold := true } } .trk) .svc
  runtimeStart s

/-- The core halted at a breakpoint on the address that its PC still holds. -/
def atBreakpoint (x : Core) : Bool :=
  decide (4 ≤ x.reason) && (match x.bp.toList[x.reason - 4]? with
    | some b => b.addr == x.pc
    | none => false)

/-- A halted core runs again (spec/21 R494, R495, spec/20 R483): a breakpoint is not hit again at the address it
halted on. -/
def resumeCore (s : State) (k : CoreId) : State :=
  if (s.core k).halted then
    let bp := atBreakpoint (s.core k)
    let s := if (s.core k).waiting then leaveWait s k else s
    let s := s.modCore k (fun c => { c with halted := false, reason := 0, frameHalt := false, bpSkip := bp,
                                            waiting := false })
    relevel (idleNow s) false 5 (coreNum k)
  else s

/-! ### The front-end enable (spec/03 R74) -/

/-- FE_EN is asserted; it is low until the cores start (spec/23 R532). -/
def feWanted (s : State) : Bool :=
  match s.parN pSmpFeEnMode with
  | 0 => s.pwr.coresUp && (s.pwr.state == .run || s.pwr.state == .idle) && s.par pSmpMode != 0
  | 1 => s.pwr.coresUp
  | _ => false

/-- FE_EN and the sample path follow smp.fe_en_mode, smp.mode and the power state (spec/03 R74, R83): when FE_EN rises
smp.fe_settle runs; when the path stops, admission ends and sclk_ok reads 0 without a fault. -/
def updateFe (s : State) : State :=
  let up := feWanted s
  let live := up && s.pwr.coreUp && (s.pwr.state == .run || s.pwr.state == .idle) && s.par pSmpMode != 0
  let p := s.samp
  let p := if up ∧ ¬ p.feEn then { p with feEn := true, settling := true, feRose := dtcNow s, admitting := false }
           else if ¬ up then { p with feEn := false, settling := false, admitting := false } else p
  let p := if live then { p with live := true }
           else { p with live := false, admitting := false, sclkOk := false, faulted := false, goodRun := 0 }
  { s with samp := p }

end Sys2Proof.Machine
end

