-- ==== Sys2Proof/Machine/Acq.lean ====
section
/-! DEFINITION. The Crystallizer's search and the start and release of pans (spec/04 R87-R99, R113-R116, spec/20
R482). -/

namespace Sys2Proof.Machine

/-! ### Pans -/

/-- An active pan. -/
def panAt (s : State) (p : Nat) : Option Pan := mget s.pans.act p

/-- Stores a pan. -/
def putPan (s : State) (p : Nat) (x : Pan) : State := { s with pans := { s.pans with act := mput s.pans.act p x } }

/-- Changes a pan, if it is active. -/
def modPan (s : State) (p : Nat) (f : Pan → Pan) : State :=
  match panAt s p with
  | some x => putPan s p (f x)
  | none => s

/-- The numbers of the pans that hold a PRN. -/
def pansOf (s : State) (prn : Nat) : List Nat := (s.pans.act.filter (fun y => y.2.prn == prn)).map (·.1)

/-- A PRN may be searched and tracked at all (spec/04 R102, R119). -/
def prnOk (s : State) (prn : Nat) : Bool :=
  decide (1 ≤ prn ∧ prn ≤ 63) && prn != s.parN pTrkNfPrn && (decide (prn ≤ 32) || s.parB pAcqTestPrnEn)

/-- A pan is free for use (spec/04 R95, spec/20 R481, R482). -/
def panFree (s : State) (p : Nat) : Bool := s.parBit pTrkPanMask p && groupOk s (p / 8) && (panAt s p).isNone

/-- The lowest-numbered free pan, outside the group given where there is one (spec/04 R95, R115). -/
def freePan (s : State) (avoid : Option Nat) : Option Nat :=
  match avoid with
  | none => leastBelow (panFree s) 32
  | some g =>
    match leastBelow (fun p => panFree s p && p / 8 != g) 32 with
    | some p => some p
    | none => leastBelow (panFree s) 32

/-- A roaming tap's position when its mode starts (spec/04 R101). -/
def tapStart (s : State) (mode off : Nat) : Int :=
  if s.parN mode = 2 then -s.par pTrkSweepSpan else s.par off

/-- A pan as it starts at the next 1 ms epoch boundary (spec/04 R95, R100, R115, spec/02 R63): at shed level 5 or above
suspended. Code phase and Doppler are those of DTC count `at_`, propagated to the start. -/
def newPan (s : State) (prn code : Nat) (dop : Int) (at_ : Nat) (lead : Bool) : Pan :=
  let b := nextBoundary s
  aimPan s { Pan.reset with
    prn := prn, starting := true, lead := lead, susp := decide (5 ≤ s.pace.level), since := b,
    elSp := s.parN (if lead then pTrkElSp else pTrkTwinElSp), velSp := s.parN pTrkVelSp,
    xaOff := tapStart s pTrkXaMode pTrkXaOff, xbOff := tapStart s pTrkXbMode pTrkXbOff } code dop at_ b

/-- Puts a new pan to work; one that starts suspended stands last in restore order (spec/02 R63). -/
def placePan (s : State) (p : Nat) (x : Pan) : State :=
  let s := putPan s p x
  if x.susp then { s with pace := { s.pace with suspOrder := s.pace.suspOrder ++ [p] } } else s

/-- Starts a pan at the next 1 ms epoch boundary (spec/04 R95, R100, R115). -/
def startPan (s : State) (p prn code : Nat) (dop : Int) (at_ : Nat) (lead : Bool) : State :=
  placePan s p (newPan s prn code dop at_ lead)

/-- A pan search begins (spec/04 R113, R114). -/
def searchPan (s : State) (x : Pan) : Pan :=
  { x with reacq := some ⟨0, 0, List.replicate 7 0, []⟩, since := max x.since (dtcNow s) }

/-- Serves the pending hits, oldest first, while a pan is free (spec/04 R95, R96). -/
def servePending (s : State) : List Hit → State
  | [] => { s with acq := { s.acq with pendHits := [] } }
  | h :: hs =>
    let ok := decide (32 < h.prn) || s.parBit pAcqPrnMask (h.prn - 1)
    match freePan s none with
    | some p =>
      if ok then servePending (if pansOf s h.prn = [] then startPan s p h.prn h.code h.dop h.dtc true else s) hs
      else { s with acq := { s.acq with pendHits := h :: hs } }
    | none => { s with acq := { s.acq with pendHits := h :: hs } }

/-- Releases a pan: the other pan on its PRN becomes the lead, and the pending hits are served (spec/04 R95, R116). With
the last pan of a PRN its twin request ends (log entry 69). -/
def releasePan (s : State) (p : Nat) : State :=
  match panAt s p with
  | none => s
  | some x =>
    let act := mdel s.pans.act p
    let act := if x.lead then act.map (fun y => if y.2.prn = x.prn then (y.1, { y.2 with lead := true }) else y) else act
    let s := { s with pans := { s.pans with act := act },
                      pace := { s.pace with suspOrder := s.pace.suspOrder.filter (· != p) },
                      pwr := { s.pwr with busyAt := dtcNow s } }
    let s := if pansOf s x.prn = [] then { s with acq := { s.acq with twinReq := s.acq.twinReq.filter (· != x.prn) } } else s
    servePending s s.acq.pendHits

/-- A twin request (spec/04 R115, R116): the pan started, if there is one, at the first pan's phases and rates. -/
def requestTwin (s : State) (prn : Nat) : Option (State × Nat) :=
  match s.pans.act.filter (fun y => y.2.prn == prn) with
  | [(q, x)] =>
    match freePan s (some (q / 8)) with
    | some p =>
      let y := advancePan s x (nextBoundary s)
      let z := newPan s prn 0 0 0 false
      let s := { s with acq := { s.acq with twinReq := if s.acq.twinReq.contains prn then s.acq.twinReq
                                                       else s.acq.twinReq ++ [prn] } }
      some (placePan s p { z with carNco := y.carNco, codeNco := y.codeNco, chip := y.chip, codePh := y.codePh,
                                  carPh := y.carPh }, p)
    | none => none
  | _ => none

/-! ### The search plan (spec/04 R88, R97, R98) -/

/-- Half the offset, in windows, of the j-th window from the centre: nearest first, of two equally near the lower one
first (log entry 22). -/
def winOffset (w j : Nat) : Int :=
  if w % 2 = 1 then (if j % 2 = 1 then -((j : Int) + 1) else j)
  else (if j % 2 = 1 then (j : Int) else -((j : Int) + 1))

/-- The Doppler windows that cover a half-span of `span` (in 1/2520 Hz) about a centre, in order (spec/04 R88): each is
16 / acq.dwell kHz wide. -/
def windows (s : State) (centre : Int) (span : Nat) : List (Int × Nat) :=
  let dwell := s.parN pAcqDwell
  let w := max 1 (ceilDiv (2 * span * dwell) (16000 * 2520))
  (List.range w).map (fun j => (centre + winOffset w j * (8000 * 2520 / dwell), dwell))

/-- The windows still to be searched under the present acq.dwell: one laid out for another dwell is covered anew
(spec/04 R88, R119). -/
def recover (s : State) (ws : List (Int × Nat)) : List (Int × Nat) :=
  match ws with
  | [] => []
  | w :: ws => if w.2 = s.parN pAcqDwell then w :: ws else windows s w.1 (8000 * 2520 / w.2) ++ ws

/-- Frequency is known (spec/04 R97). -/
def freqKnown (s : State) : Bool := s.time.freqKnown || tqGnss s.time.tq

/-- Time is known to a bound in ns (spec/04 R97). -/
def timeWithin (s : State) (ns : Nat) : Bool :=
  match uncNow s with
  | some u => decide (u ≤ ns)
  | none => false

/-- Time is known: to 2 s, or from the RTC alone, when its calendar was written under R34 and no switch-over has occurred
since (spec/01 R33, spec/04 R97, R98). -/
def timeKnown (s : State) : Bool := timeWithin s 2000000000 || rtcUse s == 2

/-- Position is known to a bound in dm (spec/04 R97). -/
def posWithin (s : State) (dm : Nat) : Bool :=
  match s.time.pos with
  | some p => decide (p.hSigma ≤ dm)
  | none => false

/-- Valid ephemeris of a PRN at a GNSS time in ticks: within its 4 h fit interval, which is taken to lie about toe
(spec/05 R128; log entry 70). -/
def ephAt (s : State) (prn : Nat) (t : Int) : Option Eph :=
  match mget s.pans.eph prn with
  | some e =>
    let d := (t / ticksPerSec - (e.toe : Int)) % 604800
    if d ≤ 7200 ∨ 604800 - 7200 ≤ d then some e else none
  | none => none

/-- Valid ephemeris of a PRN now. -/
def ephNow (s : State) (prn : Nat) : Option Eph := if s.time.tq = .unknown then none else ephAt s prn (gnssNow s)

/-- The fourth row of R97 holds for a PRN: ephemeris, time to 10 ms, position to 10 km, frequency known. -/
def panHot (s : State) (prn : Nat) : Bool :=
  (ephNow s prn).isSome && freqKnown s && timeWithin s 10000000 && posWithin s 100000

/-- The half-span of a PRN whose Doppler is predicted (spec/04 R97). -/
def aidSpan (s : State) (known : Bool) : Nat :=
  s.parN pAcqDopSpanAid + (if known then 0 else ceilDiv (s.parN pSysTcxoStab * 157542) 10000)

/-- The half-span of a predicted code phase, in chips: the time uncertainty and the position's sigma (log entry 71). -/
def codeSpan (s : State) : Nat :=
  ceilDiv ((uncNow s).getD 0 * 1023) 1000000 + ceilDiv ((s.time.pos.map (·.hSigma)).getD 0) 2930

/-- Inserts a prediction by elevation, highest first. -/
def insertPred (v : Pred) : List Pred → List Pred
  | [] => [v]
  | u :: us => if u.elev < v.elev then v :: u :: us else u :: insertPred v us

/-- The plan of R97 over the PRNs of `mask`; `aided` is false when assistance is to be ignored. What the Runtime holds
decides the row: `a` only predicts elevation, Doppler and code phase. With B4 unavailable every search follows the first
row (spec/20 R480). -/
def planFor (s : State) (a : Assist) (mask : Nat) (aided : Bool) : List PlanItem :=
  let on (prn : Nat) : Bool := prnOk s prn && (decide (32 < prn) || mask.testBit (prn - 1))
  let use := aided && !bankOut s 4
  let alm := use && s.pans.almPrn != [] && timeKnown s && posWithin s 1000000
  let hot (prn : Nat) : Bool := use && panHot s prn
  let now := dtcNow s
  let seen := (a.filter (fun v => on v.prn && decide (0 < v.elev) &&
    (hot v.prn || (alm && s.pans.almPrn.contains v.prn)))).foldl (fun l v => insertPred v l) []
  let first := seen.map (fun v => if hot v.prn
    then ⟨v.prn, v.doppler, s.parN pAcqDopSpanAid, none, some (v.code, codeSpan s), true, now⟩
    else ⟨v.prn, v.doppler, aidSpan s (freqKnown s), none,
      if (uncNow s).isSome then some (v.code, codeSpan s) else none, false, now⟩)
  if alm then first
  else first ++ (indicesBelow (fun i => on (i + 1) && !hot (i + 1)) 32).map (fun i =>
    ⟨i + 1, 0, s.parN pAcqDopSpan, none, none, false, now⟩)

/-- The search ends with an ACQ_END notice (spec/04 R94, R96). -/
def endSearch (s : State) (reason : Nat) : State :=
  noteAcqEnd { s with acq := { s.acq with searching := false, plan := [], newPlan := none, cell := none },
                      pwr := { s.pwr with busyAt := dtcNow s } } reason

/-- A confirmed hit, or a direct start, is kept until a pan frees (spec/04 R95). The oldest of nine is displaced and
answered, so that its PRN can be queued again. -/
def addPending (s : State) (h : Hit) : State × Option Hit :=
  let l := s.acq.pendHits ++ [h]
  if 8 < l.length then ({ s with acq := { s.acq with pendHits := l.drop 1 } }, l.head?)
  else ({ s with acq := { s.acq with pendHits := l } }, none)

/-- A cell search begins: its first dwell epoch starts at an epoch boundary (spec/04 R87, R89). -/
def newCell (s : State) (prn : Nat) (win : Int) (dwell ncoh : Nat) (align : Bool) (conf : Nat) (first : Option FirstHit)
    (op : Option (CoreId × Fin 4)) : State :=
  { s with acq := { s.acq with cell := some ⟨prn, win, dwell, ncoh, align, conf, first, op, 0, none, [], dtcNow s⟩ } }

/-- A PRN of the plan starts a pan without the Crystallizer: at its predicted state, or by pan search where that covers
the plan (spec/04 R97, R114). -/
def startPlanned (s : State) (i : PlanItem) (code : Nat) : State :=
  if pansOf s i.prn = [] then
    match freePan s none with
    | some p =>
      let s := startPan s p i.prn code i.centre i.at_ true
      modPan s p (fun x => if i.direct then { x with direct := true } else searchPan s x)
    | none => s
  else s

/-- Starts the first cell search that the plan has left, or ends the search (spec/04 R87, R88, R96, R97, R114). A PRN of
the fourth row of R97 starts directly; without the Crystallizer pan search serves the plans within trk.ps_chips and
trk.ps_hz, and every other PRN is left out and named. -/
def nextCell (s : State) : List PlanItem → State
  | [] => endSearch s 0
  | i :: is =>
    match i.direct, i.code with
    | true, some c => nextCell (startPlanned s i c.1) is
    | _, _ =>
      if cryOff s then
        match i.code with
        | some c =>
          if c.2 ≤ s.parN pTrkPsChips ∧ i.span ≤ s.parN pTrkPsHz then nextCell (startPlanned s i c.1) is
          else nextCell { s with acq := { s.acq with notSearched := if i.prn ≤ 32 then setBit s.acq.notSearched (i.prn - 1) true
                                                                   else s.acq.notSearched } } is
        | none =>
          nextCell { s with acq := { s.acq with notSearched := if i.prn ≤ 32 then setBit s.acq.notSearched (i.prn - 1) true
                                                               else s.acq.notSearched } } is
      else
        match recover s (i.wins.getD (windows s (i.centre * 2520) (i.span * 2520))) with
        | [] => nextCell s is
        | w :: ws =>
          newCell { s with acq := { s.acq with plan := { i with wins := some ws } :: is } } i.prn w.1 (s.parN pAcqDwell)
            (s.parN pAcqNcoh) true 0 none none

/-- The next DWELL operation that waits, or the next cell search of the plan (spec/14 R353). -/
def advanceSearch (s : State) : State :=
  let s := { s with acq := { s.acq with cell := none } }
  match s.acq.dwellQ with
  | (k, t) :: q =>
    match (tagOf s k t).op with
    | some op =>
      newCell { s with acq := { s.acq with dwellQ := q } } (wordAt op.args 0).toNat ((wordAt op.args 1).toInt * 2520)
        (wordAt op.args 3).toNat (wordAt op.args 4).toNat ((wordAt op.args 2).getLsbD 0) 0 none (some (k, t))
    | none => { s with acq := { s.acq with dwellQ := q } }
  | [] => if s.acq.searching then nextCell s s.acq.plan else s

/-- Starts a search with a plan (spec/04 R96, R97). -/
def beginSearch (s : State) (plan : List PlanItem) : State :=
  let s := { s with acq := { s.acq with searching := true, plan := plan, newPlan := none, hitsNow := 0, notSearched := 0,
                                        freqFound := freqKnown s } }
  match s.acq.cell with
  | some _ => s
  | none => advanceSearch s

/-- Queues a PRN for the Crystallizer again (spec/04 R95, R113; log entry 22): about its last Doppler when frequency is
known. Only a search in progress, or acq.mode 0, takes it. -/
def queuePrn (s : State) (prn : Nat) (dop : Int) : State :=
  if ¬ prnOk s prn ∨ ¬ (s.acq.searching ∨ s.par pAcqMode = 0) then s
  else
    let known := freqKnown s || (s.acq.searching && s.acq.freqFound)
    let i : PlanItem := if known then ⟨prn, dop, s.parN pAcqDopSpanAid, none, none, false, dtcNow s⟩
      else ⟨prn, 0, s.parN pAcqDopSpan, none, none, false, dtcNow s⟩
    if s.acq.searching then { s with acq := { s.acq with plan := s.acq.plan ++ [i] } }
    else beginSearch s [i]

/-- Releases a pan and queues its PRN (spec/04 R113, spec/20 R482). -/
def releaseAndQueue (s : State) (p : Nat) : State :=
  match panAt s p with
  | none => s
  | some x =>
    let s := releasePan s p
    if pansOf s x.prn = [] then queuePrn s x.prn (panDop s x) else s

/-- Releases and queues the pans listed. -/
def releaseAll (s : State) (ps : List Nat) : State := ps.foldl releaseAndQueue s

/-- The Crystallizer becomes unavailable (spec/11 R283, spec/14 R353, spec/20 R482): the cell search in progress is
abandoned, to be repeated, and every DWELL completes with UNAVAIL. -/
def cryLost (s : State) : State :=
  let done (s : State) (x : CoreId × Fin 4) : State := completeTag s x.1 x.2 8 0 []
  let s := match s.acq.cell with
    | some c => match c.op with
      | some x => done s x
      | none => s
    | none => s
  let s := s.acq.dwellQ.foldl done s
  { s with acq := { s.acq with cell := none, dwellQ := [],
                               plan := match s.acq.plan with
                                 | i :: is => { i with wins := none } :: is
                                 | [] => [] } }

/-- The Crystallizer is available again: the search goes on (spec/11 R281, R283). -/
def cryBack (s : State) : State :=
  if s.acq.searching ∧ s.acq.cell = none ∧ ¬ cryOff s then advanceSearch s else s

/-! ### Dwell epochs (spec/04 R87, R89, R90, R99) -/

/-- L of R89: the shed level up to 3. -/
def dwellLevel (s : State) : Nat := min 3 s.pace.level

/-- The idle interval after the last dwell epoch is over, at the level that stands now (spec/04 R89; log entry 98). -/
def idleOver (s : State) : Bool :=
  match s.acq.idle with
  | some (n, d) => decide ((2 ^ dwellLevel s - 1) * d ≤ n)
  | none => true

/-- The dwell epochs of a cell search are placed between predicted data-bit edges (spec/04 R90). -/
def aligns (s : State) (c : Cell) : Bool :=
  c.align && decide (2 ≤ c.dwell) && timeWithin s 1000000 &&
    ((ephNow s c.prn).isSome || s.pans.almPrn.contains c.prn)

/-- A dwell epoch starts at this epoch boundary, where one may (spec/04 R89, R90); `aligned` says that it would hold no
predicted data-bit edge. -/
def startDwell (s : State) (aligned : Bool) : State :=
  match s.acq.cell with
  | some c =>
    if c.run = none ∧ c.done < c.ncoh ∧ idleOver s ∧ ¬ cryOff s ∧ (aligns s c → aligned) then
      { s with acq := { s.acq with cell := some { c with run := some (0, false) }, idle := none } }
    else s
  | none => s

/-- The dwell epoch that runs takes in the 1 ms epoch that ends: at its end its powers are added, or it is discarded,
to be repeated, where one of its epochs was a gap epoch (spec/04 R87, R99). -/
def runDwell (s : State) (c : Cell) (n : Nat) (spoilt : Bool) (cells : List (Nat × Nat)) : State :=
  if n + 1 < c.dwell then { s with acq := { s.acq with cell := some { c with run := some (n + 1, spoilt) } } }
  else
    let c := { c with run := none }
    let c := if spoilt then c else { c with done := c.done + 1, sums := addCells c.sums cells }
    { s with acq := { s.acq with cell := some c, idle := some (0, c.dwell) } }

/-- The Crystallizer at an epoch boundary (spec/04 R87, R89, R90); `gap` says that the epoch that ends was a gap epoch. -/
def stepDwell (s : State) (gap : Bool) (cells : List (Nat × Nat)) (aligned : Bool) : State :=
  let s := { s with acq := { s.acq with idle := s.acq.idle.map (fun (i : Nat × Nat) => (i.1 + 1, i.2)) } }
  let s := match s.acq.cell with
    | some c => match c.run with
      | some (n, g) => runDwell s c n (g || gap) cells
      | none => s
    | none => s
  startDwell s aligned

/-- A dwell epoch in progress is abandoned and repeated later (spec/02 R55). -/
def dropDwell (s : State) : State :=
  match s.acq.cell with
  | some c =>
    if c.run = none then s
    else { s with acq := { s.acq with cell := some { c with run := none }, idle := some (0, c.dwell) } }
  | none => s

/-! ### The end of a cell search (spec/04 R91-R96, R98) -/

/-- The result words of a cell search (spec/14 R353). -/
def cellWords (hit : Bool) (h : Hit) : List Word :=
  [BitVec.ofNat 16 (bit hit), BitVec.ofNat 16 h.prn, BitVec.ofNat 16 h.code, BitVec.ofInt 16 h.dop,
   BitVec.ofNat 16 h.metric, BitVec.ofNat 16 h.ratio, BitVec.ofNat 16 h.cn0]

/-- A Doppler difference is a multiple of 1 kHz to within one bin spacing at `dwell` ms (spec/04 R88, R93). -/
def xcorrDop (d : Int) (dwell : Nat) : Bool :=
  let r := d % 1000
  decide (min r (1000 - r) * dwell ≤ 500)

/-- A hit looks like a cross-correlation of a satellite that another pan tracks (spec/04 R93). -/
def isXcorr (s : State) (h : Hit) (dwell : Nat) : Bool :=
  s.pans.act.any (fun y => y.2.codeLk && y.2.prn != h.prn && decide (h.cn0 + 10 * s.parN pAcqXcorrDb < y.2.cn0) &&
    xcorrDop (panDop s y.2 - h.dop) dwell)

/-- After the first confirmed hit, frequency is known for the rest of the search (spec/04 R98): every PRN whose search
has not started moves by the residual Doppler to the narrower span. -/
def narrow (s : State) (h : Hit) : State :=
  if s.acq.freqFound then s
  else
    let off := match s.acq.plan with
      | i :: _ => h.dop - i.centre
      | [] => h.dop
    let f (i : PlanItem) : PlanItem :=
      match i.wins with
      | none => { i with centre := i.centre + off, span := s.parN pAcqDopSpanAid }
      | some _ => i
    { s with acq := { s.acq with freqFound := true, plan := s.acq.plan.map f } }

/-- A pan reacquiring the PRN takes the hit (spec/04 R119): its pan search ends and it enters PULL from the hit. -/
def takeHit (s : State) (x : Pan) (h : Hit) : Pan :=
  aimPan s { x with reacq := none, phase := .pull, starting := true, direct := false, since := nextBoundary s } h.code h.dop
    h.dtc (nextBoundary s)

/-- Counts a confirmed hit. -/
def countHit (s : State) : State :=
  { (s.bumpPar pAcqHits) with acq := { (s.bumpPar pAcqHits).acq with hitsNow := s.acq.hitsNow + 1 } }

/-- A confirmed hit on a PRN that no pan holds: a pan starts, or the hit waits (spec/04 R95). -/
def hitNew (s : State) (h : Hit) : State :=
  let ok := decide (32 < h.prn) || s.parBit pAcqPrnMask (h.prn - 1)
  match (if ok then freePan s none else none) with
  | some p => noteAcqHit (startPan s p h.prn h.code h.dop h.dtc true) h p
  | none =>
    let r := addPending s h
    let s := noteAcqHit r.1 h 0xFFFF
    match r.2 with
    | some o => queuePrn s o.prn o.dop
    | none => s

/-- A confirmed hit on a PRN that pan `q` alone tracks: the twin that has been requested starts, else the hit is discarded
(spec/04 R96). -/
def hitTwin (s : State) (q : Nat) (h : Hit) : State :=
  match (if s.acq.twinReq.contains h.prn then freePan s (some (q / 8)) else none) with
  | some p => noteAcqHit (startPan s p h.prn h.code h.dop h.dtc false) h p
  | none => noteAcqHit s h 0xFFFF

/-- A confirmed hit that passed R93 (spec/04 R94-R96, R119): a notice is posted whatever becomes of it. -/
def useHit (s : State) (h : Hit) : State :=
  let s := countHit s
  let l := s.pans.act.filter (fun y => y.2.prn == h.prn)
  match l.find? (fun y => y.2.reacq.isSome) with
  | some (p, x) => noteAcqHit (putPan s p (takeHit s x h)) h p
  | none =>
    match l with
    | [] => hitNew s h
    | [(q, _)] => hitTwin s q h
    | _ => noteAcqHit s h 0xFFFF

/-- The plan's present PRN is done: its search ends (spec/04 R96). -/
def dropItem (s : State) : State := { s with acq := { s.acq with plan := s.acq.plan.drop 1 } }

/-- What follows a cell search of the plan: a SEARCH command's plan, or the next cell (spec/10 R268). -/
def afterCell (s : State) : State :=
  match s.acq.newPlan with
  | some p => beginSearch (endSearch s 2) p
  | none => advanceSearch s

/-- A hit is confirmed: R93, then R95 and R96. -/
def confirmHit (s : State) (h : Hit) (dwell : Nat) : State :=
  if isXcorr s h dwell then afterCell (s.bumpPar pAcqRejects)
  else afterCell (dropItem (useHit (narrow s h) h))

/-- The centre of the bin of a cell, in 1/2520 Hz (spec/04 R88). -/
def binFreq (c : Cell) (k : Nat) : Int := c.win + (2 * (k / 2046 : Nat) - 31 : Int) * (630000 / c.dwell : Nat)

/-- The sum of a cell. -/
def sumAt (c : Cell) (k : Nat) : Nat := (mget c.sums k).getD 0

/-- The fields of R94 for the peak of a cell search: code phase and Doppler are interpolated from the peak and its
neighbours, within half a cell. -/
def hitOf (s : State) (c : Cell) (p : Peak) : Hit :=
  let bin := p.key / 2046
  let ph := p.key % 2046
  let below := sumAt c (bin * 2046 + (ph + 2045) % 2046)
  let above := sumAt c (bin * 2046 + (ph + 1) % 2046)
  let low := if bin = 0 then 0 else sumAt c (p.key - 2046)
  let high := sumAt c (p.key + 2046)
  let code := ((ph * 16 : Nat) + clip (-8) 8 (Config.interpolate below p.pow above)) % 32736
  let half : Int := (250 / c.dwell : Nat)
  let dop := roundOpen 4 (binFreq c p.key) 2520 + clip (-half) half (Config.interpolate low p.pow high)
  ⟨c.prn, code.toNat, dop, dbTenths (p.pow * farCells p.key) p.rest, dbTenths p.pow p.next,
    Config.hitCn0 p.pow p.rest (farCells p.key) (c.dwell * c.ncoh), dtcNow s⟩

/-- The threshold of R91, in 0.1 dB. -/
def hitThr (s : State) (c : Cell) : Nat := if s.par pAcqDetThr = 0 then Config.noiseThr c.ncoh else s.parN pAcqDetThr

/-- The peak lies within ±1 half-chip phase and ±1 bin of the first hit, propagated for the time that has passed
(spec/04 R92). -/
def nearFirst (s : State) (c : Cell) (p : Peak) (f : FirstHit) : Bool :=
  let pos := codeAfter (f.phase * 16) f.hit.dop (dtcNow s - f.hit.dtc)
  let want := (pos + 2 ^ 30) / 2 ^ 31 % 2046
  let d := (p.key % 2046 + 2046 - want) % 2046
  (d == 0 || d == 1 || d == 2045) && decide ((binFreq c p.key - f.freq).natAbs ≤ 1260000 / c.dwell)

/-- A cell search of the plan has ended (spec/04 R91, R92): `hit` says whether its peak is one. -/
def cellDone (s : State) (c : Cell) (p : Peak) (h : Hit) (hit : Bool) : State :=
  match c.first with
  | none =>
    if ¬ hit then afterCell s
    else if s.parN pAcqConfirm = 0 then confirmHit s h c.dwell
    else if s.acq.newPlan.isSome then afterCell s
    else newCell s c.prn (binFreq c p.key) (s.parN pAcqDwell) (s.parN pAcqNcoh) true (s.parN pAcqConfirm)
      (some ⟨h, p.key % 2046, binFreq c p.key⟩) none
  | some f =>
    if ¬ (hit ∧ nearFirst s c p f) then afterCell (s.bumpPar pAcqRejects)
    else if c.conf ≤ 1 then confirmHit s f.hit c.dwell
    else if s.acq.newPlan.isSome then afterCell s
    else newCell s c.prn c.win (s.parN pAcqDwell) (s.parN pAcqNcoh) true (c.conf - 1) c.first none

/-- A poisoned word of B2, the Crystallizer's accumulators (spec/11 R280, R291). -/
def poisonB2 (e : Nat × Upset) : Bool := e.1 / 16384 == 2 && e.2 == .poison

/-- CELL_SEARCH_END: after acq.ncoh dwell epochs the peak is found and tested (spec/04 R91, R92), for the plan or for a
DWELL operation. A search that met a poisoned word of B2 is repeated, and its next accumulator writes clear the poison
(spec/11 R291). The next cell search starts
at once where the DTC stands at an epoch boundary (spec/04 R89). -/
def execCellSearchEnd (o : CellObs) (s : State) : Host.Outcome State Fault Refusal :=
  match s.acq.cell with
  | none => .next s
  | some c =>
    if cryOff s ∨ c.done < c.ncoh ∨ ¬ (s.pwr.state = .run ∨ s.pwr.state = .idle) then .next s
    else if o.poisoned ∨ s.bank.errs.any poisonB2 then
      .next { s with acq := { s.acq with cell := some { c with done := 0, sums := [] } },
                     bank := { s.bank with errs := s.bank.errs.filter (fun e => !poisonB2 e) } }
    else
      let p := peakOf nearCell c.sums
      let h := hitOf s c p
      let hit := p.detects (farCells p.key) (hitThr s c)
      let s := { s with acq := { s.acq with lastRes := cellWords hit h, lastHit := hit, dwellDone := true } }
      let s := match c.op with
        | some (k, t) => advanceSearch (completeTag s k t 0 0 (cellWords hit h))
        | none => cellDone s c p h hit
      .next (if dtcNow s % countsPerMs = 0 then startDwell s o.aligned else s)

/-- PENDING_HIT_EXPIRY: the oldest pending hit reaches acq.pend_age (spec/04 R95). -/
def execPendingHitExpiry (s : State) : Host.Outcome State Fault Refusal :=
  match s.acq.pendHits with
  | [] => .next s
  | h :: hs =>
    let s := carryDtc s (h.dtc + s.parN pAcqPendAge * countsPerMs)
    .next (queuePrn { s with acq := { s.acq with pendHits := hs } } h.prn h.dop)

/-! ### Stalls (spec/20 R482) -/

/-- The DTC counts at which the running pans of a group last set their ready bits, or started. -/
def readyTimes (s : State) (g : Nat) : List Nat :=
  (s.pans.act.filter (fun y => y.1 / 8 == g && !y.2.susp)).map (·.2.posAt)

/-- PAN_GROUP_STALL: a pan of the group that is active and not suspended sets no ready bit for 100 ms. -/
def execPanGroupStall (g : Fin 4) (s : State) : Host.Outcome State Fault Refusal :=
  let ps := (s.pans.act.filter (fun y => y.1 / 8 == g.val)).map (·.1)
  match readyTimes s g.val with
  | t :: ts =>
    if groupOk s g.val then
      let s := carryDtc s (ts.foldl min t + 100 * countsPerMs)
      .next (releaseAll (unitFault s (1 + g.val)) ps)
    else .next s
  | [] => .next s

/-- CRYSTALLIZER_STALL: a cell search runs for more than 4 times acq.ncoh * acq.dwell * 2^L ms (spec/04 R89). -/
def execCrystallizerStall (s : State) : Host.Outcome State Fault Refusal :=
  match s.acq.cell with
  | some c =>
    if unitOk s 0 then
      let s := carryDtc s (c.at_ + 4 * (c.ncoh * c.dwell * 2 ^ dwellLevel s) * countsPerMs + 1)
      .next (cryLost { (unitFault s 0) with acq := { (unitFault s 0).acq with stalled := true } })
    else .next s
  | none => .next s

end Sys2Proof.Machine
end

