-- ==== Sys2Proof/Machine/Track.lean ====
section
/-! DEFINITION. The pans: integrations, lock indicators, message content, loss and reacquisition (spec/04 R100-R116,
spec/05 R128). -/

namespace Sys2Proof.Machine

/-! ### Taps and rates at an integration boundary -/

/-- A roaming tap runs: its mode is not OFF and the shed level is below 4 (spec/04 R101). -/
def tapRuns (s : State) (mode : Nat) : Bool := s.parN mode != 0 && decide (s.pace.level < 4)

/-- A roaming tap after an integration boundary (spec/04 R101): SWEEP steps and starts again beyond its span; at shed
level 4 and above it stops, to resume from its start. -/
def roam (s : State) (mode : Nat) (x : Int) : Int :=
  if s.parN mode = 2 then
    let span := s.par pTrkSweepSpan
    if 4 ≤ s.pace.level ∨ span < x + s.par pTrkSweepStep then -span else x + s.par pTrkSweepStep
  else x

/-- The present integration boundary is a data-bit edge (spec/04 R104). -/
def atBitEdge (x : Pan) : Bool := x.bitSync && x.ms % 20 == x.bitPos

/-- The integration length changes: the windows of the lock indicators begin anew (log entry 72). -/
def setCoh (x : Pan) (c : Nat) : Pan :=
  { x with coh := c, pendCoh := none, cnWin := if x.coh = c then x.cnWin else (0, 0, 0),
           pliWin := if x.coh = c then x.pliWin else (0, 0, 0) }

/-- What applies at an integration boundary whatever the integration's fate: the phases run on, tap settings, rates and
the roaming taps (spec/04 R100, R101, spec/14 R352). `till` is the DTC count of the boundary. -/
def panBoundary (s : State) (x : Pan) (till : Nat) : Pan :=
  let x := { advancePan s x till with ms := x.ms + x.coh }
  let x := match x.pendTaps with
    | some (el, vel, xa, xb) => { x with elSp := el, velSp := vel, xaOff := xa, xbOff := xb, pendTaps := none }
    | none => { x with xaOff := roam s pTrkXaMode x.xaOff, xbOff := roam s pTrkXbMode x.xbOff }
  let x := match x.pendRate with
    | some (car, code) => { x with carNco := car, codeNco := code, pendRate := none }
    | none => x
  match x.pendCoh with
  | some c => if atBitEdge x then setCoh x c else x
  | none => x

/-- The result words of an integration (spec/04 R101, R102, spec/14 R352): a roaming tap that does not run has
accumulated nothing, and N is taken with the code of PRN trk.nf_prn (log entry 73). -/
def panResult (s : State) (o : IntegObs) : List (BitVec 16) :=
  let w (i : Nat) : BitVec 16 := o.result.getD i 0
  let t (mode i : Nat) : BitVec 16 := if tapRuns s mode then w i else 0
  let n := o.noise.getD (s.parN pTrkNfPrn - 33) (0, 0)
  [w 0, w 1, w 2, w 3, w 4, w 5, w 6, w 7, w 8, w 9, t pTrkXaMode 10, t pTrkXaMode 11, t pTrkXbMode 12, t pTrkXbMode 13,
   n.1, n.2]

/-- I and Q of tap `i` of a result: P, E, L, VE, VL, XA, XB, N. -/
def tapIQ (r : List (BitVec 16)) (i : Nat) : Int × Int := ((r.getD (2 * i) 0).toInt, (r.getD (2 * i + 1) 0).toInt)

/-- |z|^2 of a complex correlator result. -/
def power (z : Int × Int) : Nat := (z.1 * z.1 + z.2 * z.2).toNat

/-! ### Lock indicators (spec/04 R109, R110, R112) -/

/-- bit_sync is cleared: 1 ms integrations again, and frm_sync clears (spec/04 R104, R110). -/
def dropBits (x : Pan) : Pan :=
  { setCoh x 1 with bitSync := false, frmSync := false, preamble := none, parityRun := 0, signs := (List.replicate 20 0, 0),
                    lastP := none }

/-- All four lock indicators clear (spec/04 R112). -/
def unlock (x : Pan) : Pan :=
  { dropBits x with codeLk := false, carLk := false, pliRun := 0, lossMs := none, cnWin := (0, 0, 0), pliWin := (0, 0, 0),
                    direct := false }

/-- C/N0 at the end of a window with the sums `p2` of |P|^2 and `n2` of |N|^2 (spec/04 R109), and code_lk and the loss
timer on it (spec/04 R110): C/N0 is (p2 - n2) / (n2 T), compared exactly. -/
def closeCn0 (s : State) (x : Pan) (p2 n2 : Nat) : Pan :=
  let num := (p2 - n2) * 1000
  let den := n2 * x.coh
  let atLeast (db : Nat) : Bool := decide (0 < num) && dbAtLeast num den (10 * db)
  { x with cn0 := if num = 0 then 0 else dbTenths num den, codeLk := x.codeLk || atLeast (s.parN pTrkCn0Lock),
           lossMs := if atLeast (s.parN pTrkCn0Loss) then none else some (x.lossMs.getD 0), cnWin := (0, 0, 0) }

/-- C/N0 takes in an integration (spec/04 R109). -/
def stepCn0 (s : State) (x : Pan) : Pan :=
  let w := x.cnWin
  let w := (w.1 + power (tapIQ x.result 0), w.2.1 + power (tapIQ x.result 7), w.2.2 + x.coh)
  let x := { x with lossMs := x.lossMs.map (· + x.coh) }
  if s.parN pTrkCn0Win ≤ w.2.2 then closeCn0 s x w.1 w.2.1 else { x with cnWin := w }

/-- car_lk at the end of a PLI window with the sums of I^2 and Q^2, and the carrier state that follows it (spec/04 R107,
R110): PLI is (i2 - q2) / (i2 + q2), compared exactly. -/
def closePli (s : State) (x : Pan) (i2 q2 : Nat) : Pan :=
  let thr := s.par pTrkPliThr
  let atLeast (t : Int) : Bool :=
    if i2 + q2 = 0 then decide (t ≤ Config.pliZero) else decide (t * (i2 + q2 : Nat) ≤ 100 * ((i2 : Int) - q2))
  let run := if atLeast thr then x.pliRun + 1 else 0
  let lk := if 2 ≤ run then true else if atLeast (thr - 15) then x.carLk else false
  let ph := match x.phase with
    | .lock => if lk then Carrier.lock else .fll
    | .fll => if lk then .lock else .fll
    | .pull => .pull
  { x with pliRun := min 2 run, carLk := lk, phase := ph, pliWin := (0, 0, 0) }

/-- PLI takes in an integration (spec/04 R110). -/
def stepPli (s : State) (x : Pan) : Pan :=
  let w := x.pliWin
  let p := tapIQ x.result 0
  let w := (w.1 + (p.1 * p.1).toNat, w.2.1 + (p.2 * p.2).toNat, w.2.2 + x.coh)
  if s.parN pTrkLockWin ≤ w.2.2 then closePli s x w.1 w.2.1 else { x with pliWin := w }

/-- The predicted bit phase is known (spec/04 R105). -/
def bitPredicted (s : State) (x : Pan) : Bool :=
  (ephNow s x.prn).isSome && s.time.pos.isSome && timeWithin s 500000

/-- The first position of the largest of the counts. -/
def bestSign (l : List Nat) : Nat × Nat := largest ((List.range 20).map (fun i => (i, l.getD i 0)))

/-- Bit sync is declared at a position; trk.coh applies from the next bit edge (spec/04 R104, R105). -/
def setBits (s : State) (x : Pan) (pos : Nat) : Pan :=
  { x with bitSync := true, bitPos := pos % 20, pendCoh := some (s.parN pTrkCoh), signs := (List.replicate 20 0, 0) }

/-- The signs of the 1 ms prompts take in an integration, and the second condition of R105 is tested at the end of a
window of trk.bs_win ms (log entry 72). -/
def countSigns (s : State) (x : Pan) : Pan :=
  let at_ := (x.ms - x.coh) % 20
  let change : Bool := match x.lastP with
    | some p => decide (p.1 < 0) != decide ((tapIQ x.result 0).1 < 0)
    | none => false
  let l := if change then x.signs.1.set at_ (x.signs.1.getD at_ 0 + 1) else x.signs.1
  let n := x.signs.2 + x.coh
  if n < s.parN pTrkBsWin then { x with signs := (l, n) }
  else
    let b := bestSign l
    if 6 * l.sum ≤ 10 * b.2 ∧ 8 ≤ b.2 then setBits s x b.1 else { x with signs := (List.replicate 20 0, 0) }

/-- Bit sync on its two conditions (spec/04 R104, R105). -/
def stepBits (s : State) (x : Pan) (o : IntegObs) : Pan :=
  if x.bitSync then x
  else if bitPredicted s x then setBits s x o.predEdge
  else countSigns s x

/-- Frame sync (spec/04 R105, R110): two preambles 6 s apart, with good TLM and HOW words. -/
def stepFrame (x : Pan) : LnavItem → Pan
  | .preamble ok =>
    if ¬ x.bitSync ∨ x.frmSync then x
    else if x.preamble.map (· + 6000) = some x.ms ∧ ok then { x with frmSync := true, preamble := none, parityRun := 0 }
    else { x with preamble := some x.ms }
  | .subframeFail =>
    if ¬ x.frmSync then x
    else if 1 ≤ x.parityRun then { x with frmSync := false, parityRun := 0 } else { x with parityRun := 1 }
  | .subframeOk => { x with parityRun := 0 }
  | .clock iodc ura healthy => if x.frmSync then { x with sf1 := some (iodc, ura, healthy) } else x
  | .orbitA iode toe => if x.frmSync then { x with sf2 := some (iode, toe) } else x
  | .orbitB iode => if x.frmSync then { x with sf3 := some iode } else x
  | _ => x

/-! ### Message content (spec/05 R128) -/

/-- Adds a PRN to a set. -/
def addPrn (l : List Nat) (prn : Nat) : List Nat := if l.contains prn then l else l ++ [prn]

/-- The ephemeris set that subframes 1-3 make up, once IODE and IODC match (spec/05 R128). -/
def ephSet (x : Pan) : Option Eph :=
  match x.sf1, x.sf2, x.sf3 with
  | some (iodc, ura, ok), some (a, toe), some b => if iodc % 256 = a ∧ a = b then some ⟨iodc, ura, ok, toe⟩ else none
  | _, _, _ => none

/-- The satellite whose almanac a page carries (spec/05 R128): pages 1-24 of subframe 5, pages 2-5 and 7-10 of
subframe 4. -/
def pageSv (five : Bool) (n : Nat) : Option Nat :=
  if five then (if 1 ≤ n ∧ n ≤ 24 then some n else none)
  else if 2 ≤ n ∧ n ≤ 5 then some (n + 23)
  else if 7 ≤ n ∧ n ≤ 10 then some (n + 22)
  else none

/-- A new set of a PRN waits for the next solution epoch; with B4 unavailable sets of at most 4 satellites are held
(spec/05 R128, spec/20 R480). -/
def holdEph (s : State) (prn : Nat) (e : Eph) : State :=
  let held := s.pans.ephNew.foldl (fun l y => addPrn l y.1) (s.pans.eph.map (·.1))
  if bankOut s 4 ∧ ¬ held.contains prn ∧ 4 ≤ held.length then s
  else { s with pans := { s.pans with ephNew := mput s.pans.ephNew prn e } }

/-- The use of decoded message content after frame sync (spec/05 R128, spec/01 R36). With B4 unavailable no almanac is
held (spec/20 R480). -/
def useLnav (s : State) (x : Pan) (i : LnavItem) : State :=
  if ¬ x.frmSync then s
  else match i with
    | .clock _ _ _ | .orbitA _ _ | .orbitB _ =>
      match ephSet x with
      | some e => holdEph s x.prn e
      | none => s
    | .page five n =>
      match pageSv five n with
      | some sv => if bankOut s 4 then s else { s with pans := { s.pans with almPrn := addPrn s.pans.almPrn sv } }
      | none => s
    | .almHealth five bad toa wna =>
      if bankOut s 4 then s
      else if five then { s with pans := { s.pans with
        almBad := (s.pans.almBad &&& 0xFF000000) ||| bad.setWidth 32, almToa := toa, almWn := wna } }
      else { s with pans := { s.pans with almBad := (s.pans.almBad &&& 0x00FFFFFF) ||| (bad.setWidth 32 <<< 24) } }
    | .ionoUtc leap next =>
      { s with pans := { s.pans with iono := true },
               time := { s.time with utcValid := true, leap := leap,
                                     leapNext := next.map (fun n => ⟨n.1, n.2.1, n.2.2⟩) } }
    | _ => s

/-! ### Pan search (spec/04 R114) -/

/-- Code settings of a pan search: seven taps 1/2 chip apart cover 3.5 chips each. -/
def psCodes (s : State) : Nat := ceilDiv (4 * s.parN pTrkPsChips + 1) 7
/-- Doppler steps of 500 Hz to either side: 1 / (2T) at 1 ms. -/
def psSide (s : State) : Nat := ceilDiv (s.parN pTrkPsHz) 500

/-- Cells of a pan search within ±1 phase and ±1 Doppler step; a cell is numbered step x 1,024 + phase. -/
def nearPs (a b : Nat) : Bool :=
  decide (a % 1024 ≤ b % 1024 + 1) && decide (b % 1024 ≤ a % 1024 + 1) && decide (a / 1024 ≤ b / 1024 + 1) &&
    decide (b / 1024 ≤ a / 1024 + 1)

/-- The pan has found the signal at a cell: it enters PULL there (spec/04 R113). -/
def psFound (s : State) (x : Pan) (k : Nat) : Pan :=
  let c := psCodes s
  let off : Int := (2 * (k % 1024 : Nat) - (7 * c - 1 : Nat) : Int) * 8
  let dop := panDop s x + ((k / 1024 : Nat) - (psSide s : Int)) * 500
  let code := ((panCode x : Int) + off) % 32736
  { aimPan s x code.toNat dop x.posAt x.posAt with reacq := none, phase := .pull, direct := false, since := dtcNow s }

/-- A pan search takes in a 1 ms integration: 20 sums at each setting, the code settings within each Doppler step (log
entry 74); over all settings R91 decides with a threshold of 13.0 dB (spec/04 R114). -/
def stepSearch (s : State) (x : Pan) (q : PanSrch) : Pan :=
  let taps := [3, 1, 0, 2, 4, 5, 6].map (fun i => power (tapIQ x.result i))
  let acc := List.zipWith (· + ·) q.acc taps
  if q.n + 1 < 20 then { x with reacq := some { q with n := q.n + 1, acc := acc } }
  else
    let c := psCodes s
    let cells := q.cells ++ (List.range 7).map (fun t => (q.idx / c, 7 * (q.idx % c) + t, acc.getD t 0))
    if q.idx + 1 < c * (2 * psSide s + 1) then
      { x with reacq := some ⟨q.idx + 1, 0, List.replicate 7 0, cells⟩ }
    else
      let l := cells.map (fun y => (y.1 * 1024 + y.2.1, y.2.2))
      let p := peakOf nearPs l
      if p.detects (l.filter (fun y => !nearPs p.key y.1)).length 130 then psFound s x p.key
      else { x with reacq := some ⟨0, 0, List.replicate 7 0, []⟩ }

/-! ### Integrations -/

/-- A pan takes part in integrations: started and not suspended, with the fabric running. -/
def panRuns (s : State) (x : Pan) : Bool :=
  !x.starting && !x.susp && s.pwr.coreUp && (s.pwr.state == .run || s.pwr.state == .idle)

/-- A pan that started at its predicted state has not pulled in within trk.pull_ms, so that pan search serves its first
acquisition (spec/04 R114): car_lk, which LOCK asks for (R107), is not set. -/
def pullFailed (s : State) (x : Pan) : Bool :=
  x.direct && decide (x.since + s.parN pTrkPullMs * countsPerMs ≤ dtcNow s) && x.phase == .pull && !x.carLk

/-- A pan takes a new result (spec/04 R105-R110): the lock indicators, or the pan search, go on. -/
def takeResult (s : State) (x : Pan) (o : IntegObs) : Pan :=
  let x := { x with lastP := if x.result = [] then none else some (tapIQ x.result 0), result := panResult s o, ready := true }
  match x.reacq with
  | some q => stepSearch s x q
  | none =>
    if pullFailed s x then { searchPan s x with direct := false }
    else stepBits s (stepPli s (stepCn0 s x)) o

/-- INTEGRATION_END (spec/04 R101-R110, spec/02 R61): the integration that began at the pan's last boundary ends, at the
latest now; its result replaces one not yet serviced. An integration with a gap epoch is discarded, the loops hold and
the lock timers do not advance. -/
def execIntegrationEnd (p : Fin 32) (o : IntegObs) (s : State) : Host.Outcome State Fault Refusal :=
  match panAt s p.val with
  | none => .next s
  | some x =>
    if ¬ panRuns s x then .next s
    else
      let till := x.posAt + x.coh * countsPerMs
      let s := carryDtc s till
      let x := panBoundary s x till
      if x.gapHit then .next (putPan s p.val { x with gapHit := false, gapMeas := true })
      else
        let s := if x.ready then s.bumpPar pTrkLateCnt else s
        let x := takeResult s x o
        match o.lnav with
        | some i =>
          let y := stepFrame x i
          .next (useLnav (putPan s p.val y) y i)
        | none => .next (putPan s p.val x)

/-- TRK takes a result (spec/04 R106-R108): the discriminators are formed from it, and the loops of the pan's carrier
state give new rates for the next integration boundary. A pan search steps its own settings. -/
def trackPan (s : State) (x : Pan) : Pan :=
  if x.result = [] ∨ x.reacq.isSome then x
  else
    let p := tapIQ x.result 0
    let q := x.lastP.getD (0, 0)
    let pull := x.phase == .pull
    let a := power (tapIQ x.result (if pull then 3 else 1))
    let b := power (tapIQ x.result (if pull then 4 else 2))
    let pll := Config.arctan p.2 p.1
    let fll := (q.1 * p.2 - q.2 * p.1, q.1 * p.1 + q.2 * p.2)
    let dll : Int × Nat × Nat := ((a : Int) - b, a + b, a * b)
    let loop : List Int := match x.phase with
      | .pull => [0, s.par pTrkFllPullBw, s.par pTrkDllBw, x.coh]
      | .lock => [1, s.par pTrkPllOrder, s.par pTrkPllBw, s.par pTrkFllBw, s.par pTrkDllBw, x.coh]
      | .fll => [2, s.par pTrkFllBw, s.par pTrkDllBw, x.coh]
    let d := [pll, fll.1, fll.2, dll.1, dll.2.1, dll.2.2]
    { x with pll := pll, fll := fll, dll := dll,
             pendRate := some (Config.loopRate 0 loop d x.carNco, Config.loopRate 1 loop d x.codeNco) }

/-- PULL_COMPLETE: trk.pull_ms in PULL with car_lk set (spec/04 R107). -/
def execPullComplete (p : Fin 32) (s : State) : Host.Outcome State Fault Refusal :=
  match panAt s p.val with
  | some x =>
    if panRuns s x ∧ x.phase = .pull ∧ x.carLk ∧ x.reacq = none then
      .next (putPan (carryDtc s (x.since + s.parN pTrkPullMs * countsPerMs)) p.val { x with phase := .lock, direct := false })
    else .next s
  | none => .next s

/-- When the lead's code_lk clears while its twin's is set, the twin becomes the lead (spec/04 R116): the twin check then
skips the pair for one epoch (spec/05 R141). A twin that loses code_lk too does not become the lead (spec/04 R119). -/
def passLead (s : State) (p : Nat) (x : Pan) : State :=
  if ¬ x.lead then s
  else match s.pans.act.find? (fun y => y.1 != p && y.2.prn == x.prn && y.2.codeLk && y.2.lossMs.isNone) with
    | some (q, _) =>
      let s := modPan (modPan s p (fun z => { z with lead := false })) q (fun z => { z with lead := true })
      { s with integ := { s.integ with leadChg := addPrn s.integ.leadChg x.prn } }
    | none => s

/-- code_lk clears and pan search begins (spec/04 R110, R113). -/
def loseCode (s : State) (x : Pan) : Pan := searchPan s { dropBits x with codeLk := false, lossMs := none }

/-- CODE_LOCK_LOSS (spec/04 R110, R113, R116): C/N0 has been below trk.cn0_loss for trk.loss_ms; pan search begins, or
the pan is released at once. -/
def execCodeLockLoss (p : Fin 32) (s : State) : Host.Outcome State Fault Refusal :=
  match panAt s p.val with
  | some x =>
    match x.lossMs with
    | some m =>
      if panRuns s x ∧ x.codeLk then
        let s := carryDtc s (dtcNow s + (s.parN pTrkLossMs - m) * countsPerMs)
        let s := passLead s p.val x
        let s := modPan s p.val (loseCode s)
        if s.par pTrkReacqS = 0 then .next (releaseAndQueue s p.val) else .next s
      else .next s
    | none => .next s
  | none => .next s

/-- REACQ_TIMEOUT: pan search has failed for trk.reacq_s (spec/04 R113). -/
def execReacqTimeout (p : Fin 32) (s : State) : Host.Outcome State Fault Refusal :=
  match panAt s p.val with
  | some x =>
    if x.reacq.isSome ∧ panRuns s x then
      .next (releaseAndQueue (carryDtc s (x.since + s.parN pTrkReacqS * countsPerSec)) p.val)
    else .next s
  | none => .next s

/-! ### Suspension by the Pace Monitor (spec/02 R52, R57, spec/04 R112) -/

/-- The active pan that is suspended next: the lowest C/N0, of equals the highest number (spec/02 R52, R54). -/
def worstPan (s : State) : Option Nat :=
  (s.pans.act.filter (fun y => !y.2.susp)).foldl (fun b y =>
    match b with
    | none => some (y.1, y.2.cn0)
    | some (p, c) => if y.2.cn0 ≤ c then some (y.1, y.2.cn0) else some (p, c)) none |>.map (·.1)

/-- Suspends a pan. -/
def suspendPan (s : State) (p : Nat) : State :=
  match panAt s p with
  | none => s
  | some x =>
    let s := if x.codeLk then passLead s p x else s
    let s := modPan s p (fun z => { unlock (advancePan s z (dtcNow s)) with susp := true, reacq := none })
    { s with pace := { s.pace with suspOrder := p :: s.pace.suspOrder } }

/-- Restores the pan suspended last: it enters PULL from its propagated state (spec/04 R112). -/
def restorePan (s : State) : State :=
  match s.pace.suspOrder with
  | [] => s
  | p :: ps =>
    modPan { s with pace := { s.pace with suspOrder := ps } } p (fun z => { advancePan s z (dtcNow s) with susp := false, phase := .pull, since := dtcNow s })

/-- TRK propagates a suspended pan from its last Doppler (spec/02 R54): at every epoch boundary. -/
def coast (s : State) (x : Pan) : Pan := if x.susp ∧ ¬ x.starting then advancePan s x (dtcNow s) else x

/-- The number of pans tracking, that is active and not suspended (spec/02 R52). -/
def tracking (s : State) : Nat := (s.pans.act.filter (fun y => !y.2.susp)).length

end Sys2Proof.Machine
end

