-- ==== Sys2Proof/Machine/Solve.lean ====
section
/-! DEFINITION. The solution epoch, the consistency checks, SPOOF_SUSPECT and the time quality that follows them
(spec/05, spec/01 R19-R26, R35). -/

namespace Sys2Proof.Machine

/-! ### Measurements (spec/05 R124, R125) -/

/-- What was measured for a pan. -/
def obsOf (o : SolObs) (p : Nat) : Option SatObs := o.sats.find? (fun m => m.pan.val == p)

/-- The full week of a solution's time: the smallest at or above sys.week_min that is congruent to its 10-bit week
(spec/01 R35). -/
def fullWeek (s : State) (t : Int) : Int :=
  let w := t / ticksPerWeek
  let m := s.par pSysWeekMin
  (m + (w - m) % 1024) * ticksPerWeek + t % ticksPerWeek

/-- The group delay of the engaged notches, in ticks (spec/03 R78). -/
def notchDelay (s : State) : Int :=
  ([0, 1, 2, 3].map (fun (k : Fin 4) =>
    let x := s.samp.notch.get k
    if x.engaged then Config.notchDelay (s.parN pSmpMode) x.freq (s.parN (pSmpN0Bw + k.val)) else 0)).sum

/-- The GNSS time of a solution at the present REFIN edge: corrected as msr.iono and msr.tropo say, with the stored SCLK
phase, tp.fe_delay and the notches' group delay removed from the time of the samples (spec/05 R126, spec/03 R70, R78,
spec/06 R145). -/
def solTime (s : State) (o : SolObs) : Int :=
  let iono := if s.parB pMsrIono ∧ s.pans.iono then o.iono else 0
  let tropo := if s.parB pMsrTropo then o.tropo else 0
  fullWeek s (o.tSol + iono + tropo - s.samp.phase64 / 64 + s.par pTpFeDelay * ticksPerSec / 1000000000 + notchDelay s)

/-- A lead pan's measurement is usable, but for the limits of missing banks (spec/05 R124). -/
def usable (s : State) (o : SolObs) (p : Nat) (x : Pan) : Bool :=
  let elev : Bool := match s.time.pos, (obsOf o p).bind (·.elev) with
    | none, _ => true
    | some _, some e => decide (s.parN pMsrElevMask ≤ e)
    | some _, none => false
  let eph : Bool := match ephAt s x.prn (solTime s o) with
    | some e => e.healthy
    | none => false
  x.lead && x.codeLk && !x.susp && !x.starting && !x.gapMeas && eph && elev && decide (10 * s.parN pMsrCn0Mask ≤ x.cn0)

/-- The usable pans: with B3 unavailable the lowest 8 (spec/20 R480). -/
def usables (s : State) (o : SolObs) : List Nat :=
  let l := (s.pans.act.filter (fun y => usable s o y.1 y.2)).map (·.1)
  if bankOut s 3 then l.take 8 else l

/-- A position is held with a horizontal sigma within msr.pos_unc_max (spec/05 R125). -/
def posGood (s : State) : Bool :=
  match s.time.pos with
  | some p => decide (p.hSigma ≤ 10 * s.parN pMsrPosUncMax)
  | none => false

/-- The solution mode for `n` usable measurements: 0 None, 1 time-only, 2 PVT (spec/05 R125). After a survey mode 0 solves
time-only. -/
def solMode (s : State) (n : Nat) : Nat :=
  let tOnly := if posGood s then 1 else 0
  if n = 0 then 0
  else match s.parN pMsrMode with
    | 0 => if s.time.surveyHeld ∧ s.time.pos.isSome then 1 else if 4 ≤ n then 2 else tOnly
    | 1 => if 4 ≤ n then 2 else 0
    | _ => tOnly

/-- The time uncertainty of a solution in ns (spec/05 R126): in time-only mode with the held position's sigma over c, as
the root of the sum of squares, rounded up (log entry 77). -/
def solSigma (s : State) (o : SolObs) (mode : Nat) : Nat :=
  if mode = 1 then
    let h := (s.time.pos.map (·.hSigma)).getD 0
    let v := o.sigma * o.sigma + ceilDiv (h * h * 10 ^ 18) (2997924580 * 2997924580)
    if root v * root v = v then root v else root v + 1
  else o.sigma

/-- Solutions per second of msr.rate (spec/05 R143). -/
def msrHz (s : State) : Nat :=
  match s.parN pMsrRate with
  | 0 => 1 | 1 => 2 | 2 => 5 | _ => 10

/-- The interval between solution epochs, in 0.1 s. -/
def msrTenths (s : State) : Nat := 10 / msrHz s

/-- The DTC count of the next solution epoch, not before now and after the last one (spec/05 R123): whole multiples of the
interval, of GNSS time in GNSS-COARSE and GNSS-FINE, else of DTC time since the cold start. -/
def solveDue (s : State) : Nat :=
  let lo : Nat := match s.integ.solvedAt with
    | some n => max (n + 1) (dtcNow s)
    | none => dtcNow s
  if tqGnss s.time.tq then
    let iv := ticksPerSec / msrHz s
    countAt s ((gnssAt s (((lo : Int) - 1) * 64) / iv + 1) * iv)
  else
    let iv := countsPerSec / msrHz s
    ceilDiv lo iv * iv

/-! ### Checks (spec/05 R129-R132) -/

/-- The outcome of the checks on one solution. -/
structure Checks where
  mode    : Nat
  n       : Nat
  resNa   : Bool
  resFail : Bool
  /-- the first test failed, which also requests a twin -/
  resHit  : Bool
  excl    : Bool
  /-- the pan with the largest normalised residual -/
  worst   : Nat
  /-- RMS residual, 0.1 m -/
  rms     : Nat
  flat    : Bool
  /-- standard deviation of C/N0, 0.1 dB-Hz -/
  cn0Sd   : Nat
  dopNa   : Bool
  dopFail : Bool
  /-- RMS Doppler difference, 0.25 Hz -/
  dopRms  : Nat
  twins   : List (Nat × Nat)
  twinFail : Bool
  clkNa   : Bool
  clkFail : Bool
  /-- clock difference in ticks -/
  delta   : Int
deriving DecidableEq, Repr

/-- Sum of squares. -/
def sumSq (l : List Int) : Nat := (l.map (fun x => (x * x).toNat)).sum

/-- The RMS of a list, truncated (log entry 78). -/
def rmsOf (l : List Int) : Nat := root (sumSq l / max 1 l.length)

/-- The RMS of a list exceeds a limit. -/
def rmsOver (l : List Int) (lim : Nat) : Bool := decide (lim * lim * l.length < sumSq l)

/-- The pan among those listed whose residual, normalised by its weight (spec/05 R126, R130), is largest: the lowest of
equal ones. -/
def worstOf (s : State) (o : SolObs) (ps : List Nat) : Nat :=
  (largest (ps.map (fun p =>
    (p, match panAt s p, obsOf o p with
      | some x, some m => Config.normResid x.cn0 ((ephAt s x.prn (solTime s o)).map (·.ura) |>.getD 0) m.resid
      | _, _ => 0)))).1

/-- The pseudorange or Doppler of two pans differs beyond int.twin_m or int.twin_hz (spec/05 R129). -/
def twinDiffers (s : State) (o : SolObs) (p q : Nat) : Bool :=
  match obsOf o p, obsOf o q with
  | some a, some b =>
    decide (64 * s.parN pIntTwinM < ((a.range.toNat : Int) - b.range.toNat).natAbs) ||
      decide (2 * s.parN pIntTwinHz < 5 * (a.doppler - b.doppler).natAbs)
  | _, _ => false

/-- The twin pairs: PRN, lead and twin. -/
def twinPairs (s : State) : List (Nat × Nat × Nat) :=
  s.pans.act.filterMap (fun y =>
    if y.2.lead then (s.pans.act.find? (fun z => z.1 != y.1 && z.2.prn == y.2.prn)).map (fun z => (y.2.prn, y.1, z.1))
    else none)

/-- The run of disagreements of a pair (spec/05 R129): it ends where one pan has no code lock, and stands still in the
epoch after a lead change (spec/05 R141; log entry 78). -/
def twinRun (s : State) (o : SolObs) (y : Nat × Nat × Nat) : Nat :=
  let old := (mget s.integ.twins y.1).getD 0
  let lk (p : Nat) : Bool := (panAt s p).map (·.codeLk) |>.getD false
  if ¬ (lk y.2.1 && lk y.2.2) then 0
  else if s.integ.leadChg.contains y.1 then old
  else if twinDiffers s o y.2.1 y.2.2 then old + 1
  else 0

/-- The time that the reference anchor predicts for now, in ticks (spec/05 R132). -/
def refPredict (s : State) (r : RefAnchor) : Int :=
  r.t + ((dtcNow s : Int) - r.d) * 64 * (1000000000000 + r.eps) / 1000000000000

/-- The uncertainty u_p of that prediction in ns, from the anchor under R27 (spec/05 R132). -/
def refUnc (s : State) (r : RefAnchor) : Nat :=
  let d := dtcNow s - r.d.toNat
  let f := 16368000
  r.u + ceilDiv (2 * 1000 * f * 10 * max r.sigF (s.parN pSysTcxoFloor) * d + 1000 * d * d * s.parN pSysTcxoDrift)
    (2 * 1000 * f * f * 1000)

/-- A time difference in ticks exceeds a limit in ns. -/
def beyondNs (d : Int) (ns : Nat) : Bool := decide ((ns : Int) * ticksPerSec < (d.natAbs : Int) * 1000000000)

/-- Evaluates the checks (spec/05 R129-R132). -/
def runChecks (s : State) (o : SolObs) : Checks :=
  let ps := usables s o
  let n := ps.length
  let mode := solMode s n
  let obs := ps.filterMap (obsOf o)
  let resNa := !((mode == 2 && decide (5 ≤ n)) || (mode == 1 && decide (2 ≤ n)))
  let lim := 10 * s.parN pIntResThr
  let hit := !resNa && rmsOver (obs.map (·.resid)) lim
  let worst := worstOf s o ps
  let again := (ps.filter (· != worst)).filterMap (obsOf o) |>.map (·.residX)
  let excl := hit && s.parB pIntExclEn && ((mode == 2 && decide (6 ≤ n)) || (mode == 1 && decide (3 ≤ n))) &&
    !rmsOver again lim
  let cn := ps.filterMap (fun p => (panAt s p).map (·.cn0))
  let spread := n * (cn.map (fun x => x * x)).sum - cn.sum * cn.sum
  let flat := decide (s.parN pIntCn0uMin ≤ n) && decide (spread < n * n * (s.parN pIntCn0uSd * s.parN pIntCn0uSd)) &&
    decide (10 * s.parN pIntCn0uHi * n < cn.sum)
  let dop := obs.map (fun m => m.doppler - m.predicted)
  let dopNa := !((s.time.pos.isSome || mode == 2) && decide (2 ≤ n))
  let runs := (twinPairs s).map (fun y => (y.1, twinRun s o y))
  let twinFail := runs.any (fun r => decide (s.parN pIntTwinN ≤ r.2) && !s.integ.leadChg.contains r.1)
  let d : Int := match s.integ.ref with | some r => solTime s o - refPredict s r | none => 0
  let clkNa := mode == 0 || s.integ.ref.isNone
  let clk : Bool := match s.integ.ref with
    | some r => beyondNs d (max (s.parN pIntClkK * refUnc s r) (s.parN pIntClkMin)) ||
        decide (s.parN pIntFreqPpb * 1000 < (o.eps - r.eps).natAbs)
    | none => false
  { mode := mode, n := n, resNa := resNa, resFail := hit && !excl, resHit := hit, excl := excl, worst := worst,
    rms := if excl then rmsOf again else rmsOf (obs.map (·.resid)), flat := flat, cn0Sd := root (spread / max 1 (n * n)),
    dopNa := dopNa, dopFail := !dopNa && rmsOver dop (4 * s.parN pIntDopThr), dopRms := rmsOf dop,
    twins := runs.foldl (fun m r => if r.2 = 0 then m else mput m r.1 r.2) [],
    twinFail := twinFail, clkNa := clkNa, clkFail := !clkNa && clk, delta := d }

/-- Every signal check passed (spec/05 R134). -/
def sigPass (c : Checks) : Bool := !c.resFail && !c.flat && !c.dopFail && !c.twinFail

/-- Every check passed. -/
def allPass (c : Checks) : Bool := sigPass c && !c.clkFail

/-- The lowest-coded cause of SPOOF_SUSPECT that holds, 0 for none (spec/05 R133). -/
def spoofCause (s : State) (c : Checks) (clkRun : Nat) (jam : Bool) : Nat :=
  if c.clkFail ∧ s.parN pIntSpClkN ≤ clkRun then 1
  else if c.flat ∧ (c.resFail ∨ c.dopFail) then 2
  else if c.twinFail then 3
  else if c.clkFail ∧ jam then 4
  else 0

/-- Either path is in jamming state 2 (spec/05 R133). -/
def jamNow (s : State) : Bool := s.samp.jamA.state == 2 || s.samp.jamB.state == 2

/-- The passing solutions so far, in 0.1 s of solution epochs from the first of them (spec/05 R134). -/
def passRun (s : State) : Nat :=
  match s.integ.passT with
  | some t => t + msrTenths s
  | none => 0

/-- SPOOF_SUSPECT and the counts behind it after a solution (spec/05 R133, R134): it clears at a solution that has a
mode and completes int.sp_clear_s of passing solutions in consecutive solution epochs. -/
def stepSpoof (s : State) (c : Checks) : State :=
  let run := if c.clkFail then s.integ.clkRun + 1 else 0
  let jam := s.integ.jamAlarm || jamNow s
  let t := passRun s
  let s := { s with integ := { s.integ with clkRun := run, twins := c.twins, cn0Flat := c.flat, jamAlarm := false } }
  if s.integ.spoof then
    if allPass c then
      if 10 * s.parN pIntSpClearS ≤ t ∧ c.mode ≠ 0 then
        noteInteg { s with integ := { s.integ with spoof := false, cause := 0, passT := none } } false s.integ.cause
      else { s with integ := { s.integ with passT := some t } }
    else { s with integ := { s.integ with passT := none } }
  else
    let cause := spoofCause s c run jam
    if cause = 0 then s
    else noteInteg ({ s with integ := { s.integ with spoof := true, cause := cause, passT := none } }.bumpPar
      pIntSpoofCnt) true cause

/-! ### An accepted solution (spec/01 R19-R23, spec/05 R125, R127, R131) -/

/-- (D0, T0, epsilon) take a solution, with a correction left to slew (spec/01 R18, R19). -/
def rebase (s : State) (o : SolObs) (left : Int) : State :=
  { s with time := { s.time with anchorT := gnssNow s, anchorD := dtcNow s, eps := o.eps, slewLeft := left,
                                 slewRate := s.parN pSysSlewMax, stepPend := none } }

/-- GNSS time takes a correction of `d` ticks (spec/01 R19): slewed within sys.step_thr, or stepped at the next epoch
boundary. -/
def correct (s : State) (o : SolObs) (d : Int) : State :=
  if beyondNs d (s.parN pSysStepThr) then
    let s := rebase s o 0
    { s with time := { s.time with stepPend := some d } }
  else rebase s o d

/-- The run of solutions at or below sys.fine_enter takes in one of uncertainty `u` ns (spec/01 R23). -/
def stepFine (s : State) (u : Nat) : State :=
  if u ≤ s.parN pSysFineEnter then
    { s with time := { s.time with fineSince := some (s.time.fineSince.getD (dtcNow s)) } }
  else { s with time := { s.time with fineSince := none } }

/-- The time quality after an accepted solution of uncertainty `u` ns (spec/01 R21, R23): GNSS-COARSE needs u within
sys.coarse_max, and GNSS-FINE is left before a step, and not entered while one waits. -/
def tqAccept (s : State) (u : Nat) : State :=
  match s.time.tq with
  | .gnssFine =>
    if s.parN pSysFineExit < u ∨ s.time.stepPend.isSome then
      setTq (stepFine { s with time := { s.time with fineSince := none } } u) .gnssCoarse
    else s
  | .gnssCoarse =>
    let s := stepFine s u
    match s.time.fineSince with
    | some t =>
      if t + s.parN pSysFineHold * countsPerSec ≤ dtcNow s ∧ s.time.stepPend = none then setTq s .gnssFine else s
    | none => s
  | _ => if u ≤ 1000 * s.parN pSysCoarseMax then setTq (stepFine s u) .gnssCoarse else s

/-- The time of an accepted solution: in UNKNOWN, which it leaves, GNSS time is set at once (log entry 23); else it takes
a correction, and the time quality follows. -/
def acceptTime (s : State) (o : SolObs) (u : Nat) : State :=
  let t := solTime s o
  if s.time.tq = .unknown then
    if u ≤ 1000 * s.parN pSysCoarseMax then
      setTime (stepFine (rebase (setUnc s u o.freqSigma) o 0) u) t .gnssCoarse
    else { s with time := { s.time with anchorT := t, anchorD := dtcNow s, eps := o.eps } }
  else tqAccept (setUnc (correct s o (t - gnssNow s)) u o.freqSigma) u

/-- Adds a position to the survey's sum (spec/05 R125). -/
def addPos (a b : Position) : Position :=
  ⟨a.lat + b.lat, a.lon + b.lon, a.height + b.height, a.hSigma + b.hSigma, a.vSigma + b.vSigma⟩

/-- The held position after a solution: the last PVT solution's, until a survey is complete (spec/05 R125). -/
def stepPos (s : State) (o : SolObs) (mode : Nat) : State :=
  if mode = 2 ∧ ¬ s.time.surveyHeld then { s with time := { s.time with pos := some o.pos } } else s

/-- The survey takes in an accepted PVT solution and the interval it stands for (spec/05 R125). -/
def stepSurvey (s : State) (o : SolObs) (mode : Nat) : State :=
  if mode = 2 ∧ s.par pMsrSurveyS ≠ 0 ∧ ¬ s.time.surveyHeld then
    { s with time := { s.time with surveyN := s.time.surveyN + 1, surveyT := s.time.surveyT + msrTenths s,
                                   surveySum := addPos s.time.surveySum o.pos } }
  else s

/-- The reference anchor is taken now (spec/05 R131). -/
def takeRef (s : State) (o : SolObs) (u : Nat) : State :=
  { s with integ := { s.integ with
      ref := some ⟨dtcNow s, gnssNow s, s.time.eps, u, o.freqSigma, elapsed s⟩ } }

/-- Whether a new reference anchor is due (spec/05 R131, R134): int.clk_ref_s of elapsed time, gaps included, since the
last. In UNKNOWN and HOST-SET none is held. -/
def refDue (s : State) : Bool :=
  s.time.tq != .unknown && s.time.tq != .hostSet && match s.integ.ref with
  | none => true
  | some r => decide (r.at_ + s.parN pIntClkRefS * 1047552000 ≤ elapsed s)

/-- Everything an accepted solution updates; the answer says whether the anchor was taken. -/
def accept (s : State) (o : SolObs) (c : Checks) : State × Bool :=
  let u := solSigma s o c.mode
  let s := { s with time := { s.time with lastAccept := dtcNow s, acceptAt := some (elapsed s), freqKnown := true } }
  let s := stepSurvey (acceptTime s o u) o c.mode
  let s := { s with pace := { s.pace with gapSinceAnchor := false } }
  if allPass c ∧ refDue s then (takeRef s o u, true) else (s, false)

/-! ### The MSR record (spec/05 R138-R140) -/

/-- The integrity word (spec/05 R139). -/
def integWord (s : State) (c : Checks) (gap rej new : Bool) : Word :=
  let warn := decide (1 ≤ s.samp.jamA.state) || decide (1 ≤ s.samp.jamB.state)
  BitVec.ofNat 16 (bit c.resFail + 2 * bit c.excl + 4 * bit c.resNa + 8 * bit c.flat + 16 * bit c.dopFail +
    32 * bit c.dopNa + 64 * bit c.twinFail + 128 * bit c.clkFail + 256 * bit c.clkNa + 512 * bit warn +
    1024 * bit (jamNow s) + 2048 * bit s.integ.spoof + 4096 * bit gap + 8192 * bit rej + 16384 * bit new)

/-- Saturates a number at 16 bits. -/
def sat16 (n : Nat) : Word := BitVec.ofNat 16 (min 65535 n)

/-- A signed number in `n` words. -/
def intWords (n : Nat) (x : Int) : List Word := wordsOf n (x % 2 ^ (16 * n)).toNat

/-- The block of one pan (spec/05 R140). -/
def panBlock (s : State) (o : SolObs) (c : Checks) (used : List Nat) (p : Nat) : List Word :=
  match panAt s p with
  | none => List.replicate 7 0
  | some x =>
    let m := obsOf o p
    let ex := c.excl && c.worst == p
    let us := c.mode != 0 && used.contains p && !ex
    [BitVec.ofNat 16 (x.prn + 64 * bit x.lead + 128 * bit us + 256 * bit x.codeLk + 512 * bit x.carLk +
        1024 * bit x.susp + 2048 * bit x.gapMeas + 4096 * bit ex + 8192 * bit (ephAt s x.prn (solTime s o)).isNone), BitVec.ofNat 16 x.cn0] ++
      (match m with
       | some m => wordsOf 2 m.range.toNat ++ [satWord m.doppler, if us then satWord (if c.excl then m.residX else m.resid) else 0x8000]
       | none => [0, 0, 0, 0x8000]) ++
      [BitVec.ofNat 16 ((m.bind (·.elev)).getD 255 + 256 * (m.bind (·.az)).getD 255)]

/-- notch_eng of SYS_SMPSTAT (spec/03 R85). -/
def notchEng (s : State) : Nat :=
  bit (s.samp.notch.get 0).engaged + 2 * bit (s.samp.notch.get 1).engaged + 4 * bit (s.samp.notch.get 2).engaged +
    8 * bit (s.samp.notch.get 3).engaged

/-- The MSR record of the epoch (spec/05 R138); `s0` is the state the measurements were taken in. -/
def msrRec (s0 s : State) (o : SolObs) (c : Checks) (rej new : Bool) : List Word :=
  let used := usables s0 o
  let gap := s0.pace.gapSinceSol != 0
  let pos := if c.mode = 2 then some o.pos else s.time.pos
  let p : Position := pos.getD ⟨0, 0, 0, 0, 0⟩
  [BitVec.ofNat 16 (1 + 256 * s0.pans.act.length + 16384 * bit gap + 32768 * bit rej), s0.integ.seq] ++
  tsbAt s (gnssNow s) ++
  [BitVec.ofNat 16 (c.mode + 4 * (if c.mode = 0 then 0 else c.n - bit c.excl))] ++
  intWords 2 p.lat ++ intWords 2 p.lon ++ intWords 2 p.height ++
  (if c.mode = 2 then [satWord o.velE, satWord o.velN, satWord o.velU] else [0, 0, 0]) ++
  [sat16 p.hSigma, sat16 p.vSigma] ++ intWords 2 (if c.mode = 0 then s.time.eps else o.eps) ++
  [if c.mode = 0 then 0xFFFF else sat16 o.tdop, integWord s c gap rej new, sat16 c.rms,
   if c.clkNa then 0x8000 else BitVec.ofInt 16 (clip (-32767) 32767 (Int.tdiv (c.delta * 1000000000) ticksPerSec)),
   BitVec.ofNat 16 (min 255 c.cn0Sd + 256 * min 255 (c.dopRms / 2)),
   BitVec.ofNat 16 (s.pace.level + 64 * s.samp.jamA.state + 256 * s.samp.jamB.state + 1024 * notchEng s),
   sat16 s0.pace.gapSinceSol, 0, 0] ++
  (List.range 32).flatMap (panBlock s0 o c used)

/-! ### The solution epoch -/

/-- New ephemeris sets take effect (spec/05 R128). -/
def newEphemeris (s : State) : State :=
  { s with pans := { s.pans with eph := s.pans.ephNew.foldl (fun m y => mput m y.1 y.2) s.pans.eph, ephNew := [] } }

/-- SVC forms solutions: it runs, with the fabric (spec/05 R123, R136). -/
def svcSolves (s : State) : Bool :=
  s.time.running && s.pwr.coreUp && coreRuns s .svc && (s.pwr.state == .run || s.pwr.state == .idle)

/-- The solution record that a primary sends its partner: anchor, frequency error, time quality and position
(spec/19 R446, R448; log entry 19). -/
def mirrorSolution (s : State) : State :=
  if s.mir.role = 1 then
    let p : Position := s.time.pos.getD ⟨0, 0, 0, 0, 0⟩
    queueFrame s 1 (32 :: (tsbAt s (gnssNow s) ++ intWords 2 s.time.eps ++ intWords 2 p.lat ++ intWords 2 p.lon ++
      intWords 2 p.height))
  else s

/-- SVC's counts go on after a solution epoch. -/
def endEpoch (s : State) : State :=
  { s with integ := { s.integ with seq := s.integ.seq + 1, leadChg := [], solvedAt := some (dtcNow s) },
           pace := { s.pace with gapSinceSol := 0 },
           pans := { s.pans with act := s.pans.act.map (fun y => (y.1, { y.2 with gapMeas := false })) } }

/-- What a rejected solution leaves (spec/05 R127): it is counted, ends a run of fine solutions (log entry 43), and R23
tests sys.ho_wait. -/
def rejectSol (s : State) : State :=
  let s := s.bumpPar pIntRejCnt
  let s := { s with time := { s.time with fineSince := none } }
  if tqGnss s.time.tq ∧ s.time.lastAccept + s.parN pSysHoWait * countsPerMs ≤ dtcNow s then enterHoldover s else s

/-- A residual failure requests a twin for the satellite with the largest normalised residual (spec/05 R130). -/
def autoTwin (s : State) (c : Checks) : State :=
  if c.resHit ∧ s.parB pIntTwinAuto then
    match (panAt s c.worst).bind (fun x => requestTwin s x.prn) with
    | some r => r.1
    | none => s
  else s

/-- A solution is accepted (spec/05 R127). -/
def accepts (s : State) (c : Checks) : Bool := c.mode != 0 && !c.resFail && !c.clkFail && !s.integ.spoof

/-- One solution: checks, SPOOF_SUSPECT, acceptance or rejection, and the record (spec/05 R123-R141). -/
def solve (s : State) (o : SolObs) : State :=
  let s0 := newEphemeris s
  let c := runChecks s0 o
  let s := autoTwin s0 c
  let s := if c.excl then s.bumpPar pIntExclCnt else s
  let s := stepSpoof s c
  let ok := accepts s c
  let r := if ok then accept s o c else (rejectSol s, false)
  let s := stepPos r.1 o c.mode
  let rec' := msrRec s0 s o c (!ok) r.2
  let s := if s.parB pMsrPost ∧ ¬ ok then s else postMsr s rec'
  endEpoch (mirrorSolution s)

/-- SOLUTION_EPOCH: the next solution epoch (spec/05 R123). -/
def execSolutionEpoch (o : SolObs) (s : State) : Host.Outcome State Fault Refusal :=
  if svcSolves s then .next (solve (carryDtc s (solveDue s)) o) else .next s

/-- SPOOF_SUSPECT_CLEAR: the solution epoch that completes int.sp_clear_s of passing solutions (spec/05 R134). -/
def execSpoofSuspectClear (o : SolObs) (s : State) : Host.Outcome State Fault Refusal :=
  if s.integ.spoof ∧ s.integ.passT.isSome ∧ 10 * s.parN pIntSpClearS ≤ passRun s ∧ svcSolves s then
    .next (solve (carryDtc s (solveDue s)) o)
  else .next s

/-- The DTC count by which the next solution follows the last accepted one. -/
def nextAccept (s : State) : Nat := s.time.lastAccept + countsPerSec / msrHz s

/-- GNSS_FINE_ENTRY (spec/01 R21, R23): sys.fine_hold after the first of the run of fine solutions, none of which has been
missed; not while a step waits. -/
def execGnssFineEntry (s : State) : Host.Outcome State Fault Refusal :=
  match s.time.tq, s.time.fineSince with
  | .gnssCoarse, some t =>
    let n := t + s.parN pSysFineHold * countsPerSec
    if svcSolves s ∧ s.time.stepPend = none ∧ max n (dtcNow s) ≤ nextAccept s then .next (setTq (carryDtc s n) .gnssFine)
    else .next s
  | _, _ => .next s

/-- HOLDOVER_ENTRY (spec/01 R23, spec/05 R135, R141): sys.ho_wait after the last accepted solution, while the DTC runs. -/
def execHoldoverEntry (s : State) : Host.Outcome State Fault Refusal :=
  if tqGnss s.time.tq ∧ s.time.running then
    .next (enterHoldover (carryDtc s (s.time.lastAccept + s.parN pSysHoWait * countsPerMs)))
  else .next s

/-- The mean of `n` positions from their sum, truncated; its sigmas are `h` and `v`. -/
def meanPos (p : Position) (n h v : Nat) : Position := ⟨p.lat / n, p.lon / n, p.height / n, h, v⟩

/-- SURVEY_COMPLETE: msr.survey_s of accepted PVT solutions have been averaged (spec/05 R125). The spec states no sigma for
the mean: both are free values (log entry 24). -/
def execSurveyComplete (s : State) : Host.Outcome State Fault Refusal :=
  if s.par pMsrSurveyS ≠ 0 ∧ ¬ s.time.surveyHeld ∧ 0 < s.time.surveyN ∧ 10 * s.parN pMsrSurveyS ≤ s.time.surveyT then
    .next { s.nextFree.nextFree with time := { s.time with
      surveyHeld := true
      pos := some (meanPos s.time.surveySum s.time.surveyN (Config.analogue s.free) (Config.analogue (s.free + 1))) } }
  else .next s

/-- The survey restarts (spec/05 R125). -/
def restartSurvey (s : State) : State :=
  { s with time := { s.time with surveyHeld := false, surveyN := 0, surveyT := 0, surveySum := ⟨0, 0, 0, 0, 0⟩ } }

/-- INT_REBASE (spec/05 R134, R141): SPOOF_SUSPECT clears and the anchor is dropped. -/
def rebaseInteg (s : State) : State :=
  let old := s.integ.cause
  let was := s.integ.spoof
  let s := { s with integ := { s.integ with spoof := false, cause := 0, clkRun := 0, passT := none, twins := [],
                                            ref := none } }
  if was then noteInteg s false old else s

end Sys2Proof.Machine
end

