-- ==== Sys2Proof/Machine/Write.lean ====
section
/-! DEFINITION. Parameter accesses, their rules and consequences, and transactions (spec/08 R204-R206, R211, R212,
R216-R222). -/

namespace Sys2Proof.Machine

/-- The error causes, in the order of spec/08 R205. -/
inductive Cause where
  | unmapped | secure | coreDown | noIndex | pending | range | txnFull | rule | txn | notOwner | poison | prgBusy
  | rom | sluice | withdrawn
deriving DecidableEq, Repr

/-- Code of an error cause (spec/08 R205). -/
def causeCode : Cause → Nat
  | .unmapped => 1 | .secure => 2 | .coreDown => 3 | .noIndex => 4 | .pending => 5 | .range => 6 | .txnFull => 7
  | .rule => 8 | .txn => 9 | .notOwner => 10 | .poison => 11 | .prgBusy => 12 | .rom => 13 | .sluice => 14
  | .withdrawn => 15

/-! ### What a key allows -/

/-- Secure-only parameters: the cal page, and of the ntc page the rows of channels 32-63, ntc.irq_s and ntc.empt_s
(spec/08 R208, spec/10 R275). -/
def nsBlocked (key : Nat) : Bool :=
  let p := key / 256
  let i := key % 256
  p == 15 || (p == 2 && (decide (32 ≤ i ∧ i < 64) || decide (96 ≤ i ∧ i < 128) || i == 0x86 || i == 0x8F))

/-- The first access error of a key for a class (spec/08 R205). -/
def paramAccess (s : State) (c : Cls) (key : Nat) : Option Cause :=
  if c = .ns ∧ nsBlocked key then some .secure
  else if coreP (key / 256) ∧ ¬ s.pwr.coreUp then some .coreDown
  else if (paramRow key).isNone then some .noIndex
  else none

/-- The value that a written word carries; none when it breaks the parameter's width or range (spec/08 R211). -/
def paramDecode (key : Nat) (r : PRow) (v : BitVec 32) : Option Int :=
  let x : Int := if r.signed then v.toInt else v.toNat
  let fits := if r.signed then decide (-(2 ^ (r.width - 1)) ≤ x ∧ x < 2 ^ (r.width - 1)) else decide (x < 2 ^ r.width)
  let listed :=
    if key = pAcqDetThr then decide (x = 0 ∨ 60 ≤ x)
    else if key = pTrkCoh then [1, 2, 4, 5, 10, 20].contains x
    else if key = pGauVLo then decide (x = 0 ∨ 2500 ≤ x)
    else true
  if fits ∧ r.lo ≤ x ∧ x ≤ r.hi ∧ listed then some x else none

/-- Bits that a write of pwr.wake_en cannot change (spec/16 R406). -/
def paramForce (key : Nat) (x : Int) : Int :=
  if key = pPwrWakeEn then (x / 4) * 4 + 2 else x

/-- A bank may be named as mail or ring bank: owned by HOST, present, and distinct from the other two (spec/10 R254). -/
def placeOk (s : State) (key : Nat) (b : Int) : Bool :=
  let free (k : Nat) : Bool := k == key || s.par k != b
  (key != pNtcMailBank && b == 8) ||
    (hostBank s b.toNat && free pNtcMailBank && free pNtcMsrBank && free pNtcEvtBank)

/-- A Crystallizer search or a pan is active (spec/03 R69). -/
def pathBusy (s : State) : Bool := s.pans.act != [] || s.acq.searching || s.acq.cell.isSome

/-- The rules that relate parameters to one another or to device activity, for a write of `key` that would leave the
parameters at `g` (spec/08 R205, cause RULE). -/
def ruleOk (s : State) (g : Nat → Int) (key : Nat) : Bool :=
  if key = pSysFineEnter ∨ key = pSysFineExit then decide (g pSysFineEnter < g pSysFineExit)
  else if key = pSmpMode ∨ key = pSmpSclkEdge ∨ key = pSmpSpecInv then !pathBusy s
  else if key = pSmpJamWarn ∨ key = pSmpJamAlarm then decide (g pSmpJamWarn < g pSmpJamAlarm)
  else if key = pSmpNotchOn ∨ key = pSmpNotchOff then decide (g pSmpNotchOff < g pSmpNotchOn)
  else if key = pSmpN0Freq ∨ key = pSmpN1Freq ∨ key = pSmpN2Freq ∨ key = pSmpN3Freq then
    decide (g pSmpMode ≠ 1 ∨ g key ≤ 32767)
  else if key = pPwrPaceLo ∨ key = pPwrPaceHi ∨ key = pPwrShedJump then
    decide (g pPwrPaceLo < g pPwrPaceHi ∧ g pPwrPaceHi < g pPwrShedJump)
  else if key = pTrkElSp ∨ key = pTrkVelSp then decide (g pTrkElSp < g pTrkVelSp)
  else if key = pTrkCn0Lock ∨ key = pTrkCn0Loss then decide (g pTrkCn0Loss < g pTrkCn0Lock)
  else if key = pTrkNfPrn then pansOf s (g key).toNat == []
  else if key = pTpRate ∨ key = pTpWidth ∨ key = pTpUserOff then
    decide (2 * g pTpWidth * tpHz (g pTpRate).toNat < 1000000 ∧
      2 * (g pTpUserOff).natAbs * tpHz (g pTpRate).toNat < 1000000000)
  else if key = pNtcMailBank ∨ key = pNtcMsrBank ∨ key = pNtcEvtBank then placeOk s key (g key)
  else if key = pNtcMsrRd then decide ((s.parN pNtcMsrWr + 128 - (g key).toNat) % 128 ≤ 64)
  else if key = pNtcEvtRd then decide ((s.parN pNtcEvtWr + 2048 - (g key).toNat) % 2048 ≤ 1024)
  else if key = pChCfg 30 ∨ key = pChCfg 31 ∨ key = pChCfg 62 ∨ key = pChCfg 63 then false
  else if key = pVregFloor ∨ key = pVregCeil then decide (g pVregFloor ≤ g pVregCeil)
  else if key = pGauEn then !(g key == 1 && s.pwr.unitOut.getLsbD 6)
  else if pGauOcv0 ≤ key ∧ key ≤ pGauOcv10 then
    (List.range 10).all (fun i => decide (g (pGauOcv0 + i) < g (pGauOcv0 + i + 1)))
  else if key = pGauVFull ∨ key = pGauVSd then decide (g pGauVSd < g pGauVFull)
  else if key = pGauDiv ∨ key = pGauCells then decide (g pGauDiv = 1000 ∨ g pGauCells ≠ 0)
  else true

/-! ### Consequences of a live value -/

/-- A delay-compensation copy with its parity bit (spec/19 R451). -/
def dlyCopy (x : Int) : DlyCopy :=
  let v := BitVec.ofInt 16 x
  ⟨v, popCount v.toNat 16 % 2 == 1⟩

/-- What each pan applies at its next integration boundary after a write of a tap parameter (spec/04 R119). -/
def tapWrite (s : State) (key : Nat) (x : Pan) : Pan :=
  let t := x.pendTaps.getD (x.elSp, x.velSp, x.xaOff, x.xbOff)
  let el := if key = pTrkElSp ∧ x.lead then s.parN pTrkElSp
    else if key = pTrkTwinElSp ∧ ¬ x.lead then s.parN pTrkTwinElSp else t.1
  let vel := if key = pTrkVelSp then s.parN pTrkVelSp else t.2.1
  let xa := if key = pTrkXaMode ∨ key = pTrkXaOff then tapStart s pTrkXaMode pTrkXaOff else t.2.2.1
  let xb := if key = pTrkXbMode ∨ key = pTrkXbOff then tapStart s pTrkXbMode pTrkXbOff else t.2.2.2
  { x with pendTaps := some (el, vel, xa, xb) }

/-- Changes every pan. -/
def mapPans (s : State) (f : Pan → Pan) : State :=
  { s with pans := { s.pans with act := s.pans.act.map (fun y => (y.1, f y.2)) } }

/-- A ring or the mail area is placed: its indices restart and it takes records again (spec/10 R254). -/
def placeRing (s : State) (key : Nat) : State :=
  if key = pNtcMsrBank then
    let s := (s.setPar pNtcMsrWr 0).setPar pNtcMsrRd 0
    { s with slu := { s.slu with msrSusp := false } }
  else if key = pNtcEvtBank then
    let s := (s.setPar pNtcEvtWr 0).setPar pNtcEvtRd 0
    { s with slu := { s.slu with evtSusp := false } }
  else s

/-- The Pace Monitor runs: in RUN and IDLE with CORE up (spec/02 R63). -/
def paceRuns (s : State) : Bool := s.time.running && s.pwr.coreUp && (s.pwr.state == .run || s.pwr.state == .idle)

/-- The parameters that govern pace control (spec/02 R66). -/
def paceKey (key : Nat) : Bool := decide (pPwrPaceEn ≤ key ∧ key ≤ pPwrBackoffMax)

/-- A pace parameter written while the Pace Monitor runs applies from the next pace period (spec/02 R63): the value in
force till then is kept. A write of pwr.pace_en to 0 commands the regulator at once (spec/15 R364, R380). -/
def keepPace (s : State) (key : Nat) (old : Int) : State :=
  if paceKey key ∧ paceRuns s ∧ (mget s.pace.old key).isNone then
    { s with pace := { s.pace with old := mput s.pace.old key old } }
  else s

/-- A pace parameter as it applies in the present pace period. -/
def pacePar (s : State) (key : Nat) : Int := (mget s.pace.old key).getD (s.par key)

/-- A pace parameter as a natural number. -/
def paceParN (s : State) (key : Nat) : Nat := (pacePar s key).toNat

/-- The Pace Monitor issues voltage commands (spec/02 R50). -/
def paceEn (s : State) : Bool := pacePar s pPwrPaceEn != 0

/-- What follows at once from parameter `key` having become live, its value having been `old`. A change of smp.mode with
FE_EN high ends admission until the next epoch boundary, without a new settling time (log entry 79). -/
def paramHook (s : State) (key : Nat) (old : Int) : State :=
  let p := key / 256
  if key = pSysBoot then
    if s.par key = 0 ∧ s.pwr.coresUp ∧ (s.trk.held ∨ s.svc.held) then releaseBoot s else s
  else if key = pSmpMode then
    updateFe (if s.par key = old then s else { s with samp := { s.samp with admitting := false, sclkOk := false } })
  else if key = pSmpFeEnMode then updateFe s
  else if key = pVregFloor ∨ key = pVregCeil then reclip s
  else if key = pVregSet then if s.parB pPwrPaceEn then s else cmdVcore s (s.par pVregSet)
  else if key = pPwrPaceEn ∧ ¬ s.parB pPwrPaceEn then
    cmdVcore { s with pace := { s.pace with old := mdel s.pace.old key } } (s.par pVregSet)
  else if paceKey key then keepPace s key old
  else if key = pGauEn then
    if s.par key = 0 then gauDisable s else if old = 0 then gauStart s else s
  else if key = pGauCells ∨ key = pGauDiv then gauStart s
  else if key = pGauCapMah then gauRescale s old
  else if key = pGauStretchMa ∨ key = pGauStretchHyst ∨ key = pGauStretchN then
    { s with gau := { s.gau with stretchRun := 0 } }
  else if key = pMirDlyCmp then { s with mir := { s.mir with cmpA := dlyCopy (s.par key), cmpB := dlyCopy (s.par key) } }
  else if key = pMirDlyOut then { s with mir := { s.mir with outA := dlyCopy (s.par key), outB := dlyCopy (s.par key) } }
  else if key = pNtcMailBank ∨ key = pNtcMsrBank ∨ key = pNtcEvtBank then placeRing s key
  else if p = 6 then
    if s.integ.spoof then
      { s with integ := { s.integ with clkRun := 0, twins := [], passT := none } } else s
  else if p = 15 then
    if 2 ≤ key % 256 ∧ key % 256 ≤ 0x11 then { s with dbg := { s.dbg with trimPend := true } } else s
  else if key = pTrkElSp ∨ key = pTrkVelSp ∨ key = pTrkTwinElSp ∨ key = pTrkXaMode ∨ key = pTrkXaOff ∨
      key = pTrkXbMode ∨ key = pTrkXbOff then mapPans s (tapWrite s key)
  else if key = pTrkCoh then
    mapPans s (fun x => if x.bitSync then { x with pendCoh := some (s.parN pTrkCoh) } else x)
  else s

/-- Marks the shadows of other requesters that hold `key` as overtaken (spec/08 R218). -/
def markDirty (s : State) (key : Nat) : State :=
  let f (b : ClsBank) : ClsBank :=
    if b.txn.isOpen ∧ (mget b.txn.shadow key).isSome then { b with txn := { b.txn with dirty := true } } else b
  { s with ns := f s.ns, sec := f s.sec, dbgc := f s.dbgc, trkc := f s.trkc, svcc := f s.svcc, mirc := f s.mirc }

/-- Hardware puts a value into a parameter, which open transactions see as a live write (spec/08 R218). -/
def hardLive (s : State) (key : Nat) (x : Int) : State := markDirty (s.setPar key x) key

/-- A parameter value becomes live (spec/08 R212). -/
def paramLive (s : State) (key : Nat) (x : Int) : State :=
  let old := s.par key
  paramHook (markDirty (s.setPar key x) key) key old

/-- Values become live together, then their consequences follow (spec/08 R218). -/
def paramsLive (s : State) (l : List (Nat × Int)) : State :=
  let old := l.map (fun p => (p.1, s.par p.1))
  let s := l.foldl (fun s p => markDirty (s.setPar p.1 p.2) p.1) s
  old.foldl (fun s p => paramHook s p.1 p.2) s

/-! ### Writes and reads of parameters -/

/-- A class's transaction. -/
def txnOf (s : State) (c : Cls) : TxnSt := (s.cls c).txn

/-- Replaces a class's transaction. -/
def setTxn (s : State) (c : Cls) (t : TxnSt) : State := s.modCls c (fun b => { b with txn := t })

/-- A key awaits an epoch commit (spec/08 R219). -/
def keyPending (s : State) (key : Nat) : Bool :=
  let f (b : ClsBank) : Bool := b.txn.pend && (mget b.txn.shadow key).isSome
  f s.ns || f s.sec || f s.dbgc || f s.trkc || f s.svcc || f s.mirc

/-- Adds an entry to a shadow (spec/08 R216, R224). -/
def shadowPut (t : TxnSt) (key : Nat) (x : Int) : TxnSt :=
  let sh := mput t.shadow key x
  { t with shadow := sh, items := sh.length, pages := setBit t.pages (key / 256) true }

/-- A parameter write by a class: the state, or the cause of refusal (spec/08 R211, R216, R219, spec/00 R3). A live write is
checked against live values, also while an epoch commit of a related parameter is pending (spec/01 R41; log entry 80). -/
def paramWrite (s : State) (c : Cls) (key : Nat) (v : BitVec 32) : State × Option Cause :=
  match paramAccess s c key, paramRow key with
  | some e, _ => (s, some e)
  | none, none => (s, some .noIndex)
  | none, some r =>
    if r.acc = .ro then (s, none)
    else if keyPending s key then (s, some .pending)
    else match paramDecode key r v with
      | none => (s, some .range)
      | some x =>
        let x := paramForce key x
        let t := txnOf s c
        if r.acc = .w1c then
          (s.setPar key ((s.parN key &&& (2 ^ 32 - 1 - x.toNat) : Nat)), none)
        else if r.acc = .rwx ∧ t.isOpen then
          if (mget t.shadow key).isNone ∧ 64 ≤ t.shadow.length then (s, some .txnFull)
          else (setTxn s c (shadowPut t key x), none)
        else if ruleOk s (fun k => if k = key then x else s.par k) key then (paramLive s key x, none)
        else (s, some .rule)

/-- int.stat (spec/05 R144). -/
def intStat (s : State) : Nat := bit s.integ.spoof + 2 * bit s.integ.ref.isSome + 4 * s.integ.cause

/-- A parameter's value as hardware reports it: status words are formed from the state (spec/03 R80, spec/05 R144,
spec/10 R275, spec/18 R436). Until the Runtime runs again int.stat is the word held (spec/09 R231). -/
def paramView (s : State) (key : Nat) : Int :=
  if key = pNtcCmdStat then s.slu.cmd.length
  else if key = pNtcNtcStat then s.slu.ntc.length
  else if key = pIntStat then (if s.pwr.coresUp ∧ ¬ s.svc.held then intStat s else s.par key)
  else if key / 256 = 13 ∧ s.pwr.unitOut.getLsbD 6 then paramReset key
  else s.par key

/-- A parameter read by a class: the value in 32 bits, or the cause of refusal (spec/08 R211, R216). -/
def paramRead (s : State) (c : Cls) (key : Nat) : BitVec 32 × Option Cause :=
  match paramAccess s c key with
  | some e => (0, some e)
  | none =>
    let t := txnOf s c
    let x := if t.isOpen then (mget t.shadow key).getD (paramView s key) else paramView s key
    (BitVec.ofInt 32 x, none)

/-! ### Transactions (spec/08 R217-R220) -/

/-- BEGIN. -/
def txnBegin (s : State) (c : Cls) : State × Option Cause :=
  let t := txnOf s c
  if ¬ s.pwr.coreUp then (s, some .coreDown)
  else if t.isOpen ∨ t.pend then (s, some .txn)
  else (setTxn s c { t with isOpen := true, shadow := [], items := 0, pages := 0, dirty := false, result := 0 }, none)

/-- Whether the rules hold on the values that a commit would leave (spec/08 R218). -/
def commitOk (s : State) (sh : List (Nat × Int)) : Bool :=
  sh.all (fun p => ruleOk s (fun k => (mget sh k).getD (s.par k)) p.1)

/-- COMMIT. -/
def txnCommit (s : State) (c : Cls) (atEpoch : Bool) : State × Option Cause :=
  let t := txnOf s c
  if ¬ s.pwr.coreUp then (s, some .coreDown)
  else if ¬ t.isOpen then (s, some .txn)
  else
    let closed (r : Nat) : TxnSt := { t with isOpen := false, shadow := [], dirty := false, result := r }
    if t.dirty then (setTxn s c (closed 2), none)
    else if ¬ commitOk s t.shadow then (setTxn s c (closed 3), none)
    else if atEpoch then (setTxn s c { t with isOpen := false, pend := true }, none)
    else (paramsLive (setTxn s c (closed 1)) t.shadow, none)

/-- ROLLBACK. -/
def txnRollback (s : State) (c : Cls) : State × Option Cause :=
  let t := txnOf s c
  if ¬ s.pwr.coreUp then (s, some .coreDown)
  else if ¬ t.isOpen then (s, some .txn)
  else (setTxn s c { t with isOpen := false, shadow := [], dirty := false, result := 4 }, none)

/-- A class's pending epoch commit is applied (spec/08 R219, R220). -/
def applyPending (s : State) (c : Cls) : State :=
  let t := txnOf s c
  if t.pend then
    let s := setTxn s c { t with pend := false, shadow := [], result := 1 }
    let s := s.modCls c (fun b => { b with irqTxn := true })
    paramsLive s t.shadow
  else s

/-- The classes, in code order. -/
def allCls : List Cls := [.ns, .sec, .trk, .svc, .dbg, .mir]

/-- Every pending epoch commit is applied. -/
def applyAllPending (s : State) : State := allCls.foldl applyPending s

/-- Every open transaction is discarded; to a host class it is reported (spec/08 R220). -/
def loseTxn (s : State) (c : Cls) : State :=
  let t := txnOf s c
  if t.isOpen then
    let s := setTxn s c { t with isOpen := false, shadow := [], dirty := false,
                                 result := if isHost c then 5 else t.result, lost := t.lost || isHost c }
    if isHost c then s.modCls c (fun b => { b with irqTxn := true }) else s
  else s

/-- Every open transaction of every class is discarded. -/
def loseAllTxn (s : State) : State := allCls.foldl loseTxn s

/-! ### Runtime calls of customer code (spec/07 R175, spec/08 R221, spec/12 R325) -/

/-- A slot call by a core; a primary that has sent TAKE holds it, and it completes without effect (spec/19 R457). -/
def slotCall (s : State) (f : State → State) : State := if s.mir.holdSlots then s else f s

/-- A call of the Runtime by customer code of a core, made in a hook that sys.pram_en enables; a refused call has no effect
(log entry 97). -/
def rtCall (s : State) (k : CoreId) (x : RtCall) : State :=
  let c := coreCls k
  if ¬ coreRuns s k ∨ ¬ s.parBit pSysPramEn (coreNum k) then s
  else match x with
    | .slotArm client ws =>
      slotCall s (fun s => (slotArm s c client (if wordAt ws 0 = 0xFFFF then none else some (wordAt ws 0).toNat) ws).1)
    | .slotModify client ws => slotCall s (fun s => (slotModify s c client (wordAt ws 0).toNat ws).1)
    | .slotCancel client i => slotCall s (fun s => (slotCancel s c client i.toNat).1)
    | .slotCancelClient client =>
      slotCall s (fun s => if (slotGate s c).isSome then s else (cancelList s c client s.evs.slots).1)
    | .txnBegin => (txnBegin s c).1
    | .txnCommit atEpoch => (txnCommit s c atEpoch).1
    | .txnRollback => (txnRollback s c).1
    | .paramWrite page index v => (paramWrite s c (page.toNat * 256 + index.toNat) v).1

/-- The calls of one hook, in the order made. -/
def rtCalls (s : State) (k : CoreId) (xs : List RtCall) : State := xs.foldl (fun s x => rtCall s k x) s

/-! ### Error responses (spec/08 R204, R206) -/

/-- A data phase receives an error response. -/
def errResponse (s : State) (c : Cls) (e : Cause) (off : Word) (wr : Bool) : State :=
  let s := s.modCls c (fun b =>
    let b := if b.errCnt = 0 then { b with errCause := causeCode e, errWr := wr, errOff := off } else b
    { b with errCnt := satInc 255 b.errCnt, irqErr := true })
  { s with bus := { s.bus with herr := true } }

end Sys2Proof.Machine
end

