-- ==== Sys2Proof/Machine/Calib.lean ====
section
/-! DEFINITION. The calibration block, the RTC registers' rules and the change of bank owners: operations shared by
the host bus, the cores and the SDP (spec/21 R498-R503, spec/17 R411-R416, spec/11 R279-R283). -/

namespace Sys2Proof.Machine

/-! ### The calibration block (spec/21 R498-R503) -/

/-- Word `k` of the calibration block in NVM: nominal where not listed (log entry 6). -/
def nvmWord (s : State) (k : Nat) : Word := (mget s.dbg.nvm k).getD (BitVec.ofInt 16 (paramReset (pCal k)))

/-- A 16-bit word as the value of a cal parameter. -/
def calValue (k : Nat) (w : Word) : Int :=
  match paramRow (pCal k) with
  | some r => if r.signed then w.toInt else w.toNat
  | none => w.toNat

/-- The parameters whose sources are cal words 0x12-0x19, in order (spec/21 R498). -/
def calTargets : List Nat := [pVregTrim, pAntIsenseTrim, pGauIGain, pGauIOff, pGauVGain, pGauVOff, pSmpNotchGain, pSysTcxoStab]

/-- Applies cal words 0x12-0x19 of the cal page to their parameters (spec/21 R500, R501); for a word outside its target's
range the spec states no value, and the target takes a free value of its range (log entry 60). -/
def calApply (s : State) : State :=
  (calTargets.zipIdx).foldl (fun s p =>
    let x := s.par (pCal (0x12 + p.2))
    hardLive s p.1 (match paramRow p.1 with
      | some r =>
        if r.lo ≤ x ∧ x ≤ r.hi then x else r.lo + (Config.calUnfit p.2 (BitVec.ofInt 16 x) : Int) % (r.hi - r.lo + 1)
      | none => x)) s

/-- The block in NVM passes its check (spec/21 R499). -/
def nvmPass (s : State) : Bool :=
  nvmWord s 0 == 1 && crcWords ((List.range 63).map (nvmWord s)) == (nvmWord s 63).toNat

/-- LOAD: the block is copied to the cal page and applied; when its check fails words 0x02-0x19 take their nominal
values. err tells of the last operation (spec/09 R240, spec/21 R501). A word loaded is written live for every open
transaction (spec/08 R218). -/
def calLoad (s : State) : State :=
  let pass := nvmPass s
  let s := (List.range 64).foldl (fun s k =>
    hardLive s (pCal k) (if ¬ pass ∧ 2 ≤ k ∧ k ≤ 0x19 then paramReset (pCal k) else calValue k (nvmWord s k))) s
  let s := calApply s
  { s with dbg := { s.dbg with calValid := pass, calErr := !pass, trimPend := true } }

/-- The block image that a STORE writes: the cal page with its check word (spec/21 R499, R501). -/
def calImage (s : State) : List (Nat × BitVec 16) :=
  let ws := (List.range 63).map (fun k => BitVec.ofInt 16 (s.par (pCal k)))
  let ws := ws ++ [BitVec.ofNat 16 (crcWords ws)]
  (ws.zipIdx.map (fun p => (p.2, p.1))).filter (fun p => p.2 != BitVec.ofInt 16 (paramReset (pCal p.1)))

/-- CAL_CTRL.op is written (spec/09 R240, spec/21 R501). -/
def calOp (s : State) (op : Nat) : State × Option Cause :=
  if op = 0 ∨ op = 3 then (s, none)
  else if s.dbg.calBusy then (s, some .rule)
  else if op = 1 then (calLoad s, none)
  else ({ s with dbg := { s.dbg with calBusy := true, storing := some (calImage s) } }, none)

/-- CAL_STORE_END: the erase and write end, the wear counter advances and a LOAD verifies; `ok` is false when a word
reads back differently, which the free value of the check word stands for (spec/21 R501). -/
def execCalStoreEnd (ok : Bool) (s : State) : Host.Outcome State Fault Refusal :=
  match s.dbg.storing with
  | none => .next s
  | some img =>
    let img := if ok then img else mput img 63 (Config.unitWord s.free)
    let s := s.nextFree
    let s := calLoad { s with dbg := { s.dbg with nvm := img, storing := none, calBusy := false,
                                                  cycles := satInc 16383 s.dbg.cycles } }
    .next { s with dbg := { s.dbg with calErr := s.dbg.calErr || !ok } }

/-- A STORE cut short by the loss of VDDIN leaves the block undefined: every word is a free value (spec/21 R503). -/
def storeCut (s : State) : State :=
  if s.dbg.storing.isNone then s
  else
    let ws := (List.range 64).map (fun k => (k, Config.unitWord (s.free + k)))
    { s with free := s.free + 64,
             dbg := { s.dbg with storing := none, calBusy := false,
                                 nvm := ws.filter (fun p => p.2 != BitVec.ofInt 16 (paramReset (pCal p.1))) } }

/-- A STORE in progress ends before AON is removed by the entry into OFF (spec/21 R503). -/
def storeEnds (s : State) : State :=
  match s.dbg.storing with
  | none => s
  | some img => { s with dbg := { s.dbg with nvm := img, storing := none, calBusy := false,
                                             cycles := satInc 16383 s.dbg.cycles } }

/-! ### The RTC registers (spec/09 R238, spec/17 R411-R416) -/

/-- The value of a packed BCD byte. -/
def bcdVal (v : Nat) : Nat := v / 16 * 10 + v % 16

/-- A packed BCD byte with digits 0-9 and a value in a range. -/
def bcdOk (v lo hi : Nat) : Bool := decide (v / 16 ≤ 9) && decide (v % 16 ≤ 9) && decide (lo ≤ bcdVal v) && decide (bcdVal v ≤ hi)

/-- A number below 100 in packed BCD. -/
def toBcd (n : Nat) : Nat := n / 10 * 16 + n % 10

/-- The length of a month (spec/17 R410). -/
def monthDays (month year : Nat) : Nat :=
  match month with
  | 2 => if year % 4 = 0 then 29 else 28
  | 4 | 6 | 9 | 11 => 30
  | _ => 31

/-- RTC_TIME (spec/09 R238). -/
def rtcTime (s : State) : BitVec 32 :=
  pack [(0, s.rtc.sec.toNat), (8, s.rtc.min.toNat), (16, s.rtc.hour.toNat), (24, s.rtc.wday.toNat)]

/-- RTC_DATE. -/
def rtcDate (s : State) : BitVec 32 :=
  pack [(0, s.rtc.day.toNat), (8, s.rtc.month.toNat), (16, s.rtc.year.toNat)]

/-- A calendar time is one that RTC_TIME may hold. -/
def timeOk (v : BitVec 32) : Bool :=
  bcdOk (field v 0 7) 0 59 && bcdOk (field v 8 7) 0 59 && bcdOk (field v 16 6) 0 23 &&
    decide (1 ≤ field v 24 3) && decide (field v 24 3 ≤ 7)

/-- A date is one that RTC_DATE may hold. -/
def dateOk (v : BitVec 32) : Bool :=
  bcdOk (field v 0 6) 1 31 && bcdOk (field v 8 5) 1 12 && bcdOk (field v 16 8) 0 99 &&
    decide (bcdVal (field v 0 6) ≤ monthDays (bcdVal (field v 8 5)) (bcdVal (field v 16 8)))

/-- An alarm's fields are in range. -/
def almOk (v : BitVec 32) : Bool :=
  bcdOk (field v 0 7) 0 59 && bcdOk (field v 8 7) 0 59 && bcdOk (field v 16 6) 0 23 && bcdOk (field v 24 6) 1 31

/-- The halves written of `new`, the others of `old`. -/
def mergeHalves (lo hi : Bool) (old new : BitVec 32) : BitVec 32 :=
  ofHalves (if hi then hiHalf new else hiHalf old) (if lo then loHalf new else loHalf old)

/-- A write of RTC_TIME (spec/17 R411, R414). -/
def writeRtcTime (s : State) (lo hi : Bool) (v : BitVec 32) : State × Option Cause :=
  let v := mergeHalves lo hi (rtcTime s) v
  if s.rtc.halt ∧ timeOk v then
    ({ s with rtc := { s.rtc with sec := v.extractLsb' 0 7, min := v.extractLsb' 8 7, hour := v.extractLsb' 16 6,
                                  wday := v.extractLsb' 24 3, r34 := false } }, none)
  else (s, some .rule)

/-- A write of RTC_DATE. -/
def writeRtcDate (s : State) (lo hi : Bool) (v : BitVec 32) : State × Option Cause :=
  let v := mergeHalves lo hi (rtcDate s) v
  if s.rtc.halt ∧ dateOk v then
    ({ s with rtc := { s.rtc with day := v.extractLsb' 0 6, month := v.extractLsb' 8 5, year := v.extractLsb' 16 8,
                                  r34 := false } }, none)
  else (s, some .rule)

/-- An alarm register after a write: flag is W1C (spec/09 R238). -/
def almMerge (lo hi : Bool) (old v : BitVec 32) : BitVec 32 :=
  let m := mergeHalves lo hi old v
  setBit m 31 (old.getLsbD 31 && !(hi && v.getLsbD 31))

/-- A write of RTC_ALM0 or RTC_ALM1. -/
def writeAlm (s : State) (n : Nat) (lo hi : Bool) (v : BitVec 32) : State × Option Cause :=
  let m := almMerge lo hi (if n = 0 then s.rtc.alm0 else s.rtc.alm1) v
  if almOk m then
    if n = 0 then ({ s with rtc := { s.rtc with alm0 := m } }, none)
    else ({ s with rtc := { s.rtc with alm1 := m } }, none)
  else (s, some .rule)

/-- RTC_HALT.presc (spec/09 R238, spec/17 R410-R412): 0 while halt reads 1 and where it was last set to 0; between, the
crystal's phase against the DTC is a free value (log entry 57). -/
def prescNow (s : State) : BitVec 15 :=
  if s.rtc.halt then 0
  else match s.rtc.prescAt with
    | none => 0
    | some n => if s.time.running ∧ n = dtcNow s then 0 else Config.prescaler (dtcNow s - n)

/-- A write of RTC_HALT.halt (spec/17 R411, R412). -/
def writeHalt (s : State) (h : Bool) : State :=
  if h = s.rtc.halt then s else { s with rtc := { s.rtc with halt := h, prescAt := some (dtcNow s) } }

/-! ### The change of bank owners (spec/11 R279, R281-R283) -/

/-- Code of an owner (spec/09 R236). -/
def ownCode : BankOwner → Nat
  | .trk => 0 | .svc => 1 | .host => 2 | .cryst => 3 | .mirror => 4

/-- Owner of a code. -/
def ownOf : Nat → BankOwner
  | 0 => .trk | 1 => .svc | 2 => .host | 3 => .cryst | _ => .mirror

/-- The fields own0-own7 of BNK_OWNER. -/
def ownerBits (s : State) : Nat :=
  ((List.range 8).map (fun b => ownCode (ownerOf s b) * 8 ^ b)).sum

/-- A change of one field is permitted to a class (spec/11 R279). -/
def ownerOk (s : State) (c : Cls) (b new : Nat) : Bool :=
  (match c with
   | .ns | .mir => false
   | .sec => decide (new ≤ 2) && (decide (5 ≤ b) || (s.trk.held && s.svc.held))
   | _ => true) &&
  (c == .dbg || (!s.bank.drain.getLsbD b && !(b == 5 && s.mir.role != 0) && !bankOut s b))

/-- The owner of a bank changes (spec/11 R281-R283, spec/10 R254): the drain bit stays set while the port holds accesses
of the old owner, which is a free value. -/
def setOwner (s : State) (b : Nat) (o : BankOwner) : State :=
  let old := ownerOf s b
  if o = old then s
  else
    let busy := (Config.portBusy s.free).getLsbD b
    let s := s.nextFree
    let s := { s with bank := { s.bank with owners := s.bank.owners.setIfInBounds b o,
                                            drain := setBit s.bank.drain b busy } }
    let s := if old = .host then suspendRings s b else s
    if b = 2 then (if old = .cryst then cryLost s else if o = .cryst then cryBack s else s) else s

/-- Sets every owner field. -/
def setOwners (s : State) (v : Nat) : State :=
  (List.range 8).foldl (fun s b => setOwner s b (ownOf (v / 8 ^ b % 8))) s

/-- A committed write of BNK_OWNER (spec/11 R279, R282). -/
def writeOwner (s : State) (c : Cls) (v : BitVec 32) : State × Option Cause :=
  let new (b : Nat) : Nat := v.toNat / 8 ^ b % 8
  if c = .ns then (s, some .secure)
  else if (List.range 8).any (fun b => decide (5 ≤ new b)) then (s, some .range)
  else if (List.range 8).all (fun b => new b == ownCode (ownerOf s b) || ownerOk s c b (new b)) then
    (setOwners s v.toNat, none)
  else (s, some .rule)

/-- HANDOVER_DRAIN_END: the old owner's accepted accesses have completed (spec/11 R282). -/
def execHandoverDrainEnd (b : Fin 8) (s : State) : Host.Outcome State Fault Refusal :=
  if s.bank.drain.getLsbD b.val then .next { s with bank := { s.bank with drain := setBit s.bank.drain b.val false } }
  else .next s

end Sys2Proof.Machine
end

