-- ==== Sys2Proof/Machine/Regs.lean ====
section
/-! DEFINITION. The direct registers: what a read returns, its side effects, and what a write does (spec/08
R201-R214, R223-R225, spec/09 R226-R240). Shared by the host bus and the SDP. -/

namespace Sys2Proof.Machine

/-! ### Access (spec/09 R226) -/

/-- Registers of the CORE domain. -/
def regCore (n : Nat) : Bool :=
  (2 ≤ n && n ≤ 5) || (12 ≤ n && n ≤ 19) || (26 ≤ n && n ≤ 31) || n == 39 || n == 40 || n == 42 || n == 43

/-- Registers of the BAK domain. -/
def regBak (n : Nat) : Bool := 32 ≤ n && n ≤ 37

/-- Paired registers. -/
def regPaired (n : Nat) : Bool := n == 2 || n == 3 || n == 4 || n == 8 || n == 12 || n == 16

/-- The first access error of a register for a class (spec/08 R205). -/
def regAccess (s : State) (c : Cls) (n : Nat) (wr : Bool) : Option Cause :=
  if 44 ≤ n then some .unmapped
  else if c = .ns ∧ (40 ≤ n ∨ (n = 16 ∧ wr)) then some .secure
  else if regCore n ∧ ¬ s.pwr.coreUp then some .coreDown
  else none

/-- The parameter that a class has selected (spec/08 R211). -/
def selKey (b : ClsBank) : Nat := b.ppage.toNat * 256 + b.pindex.toNat

/-- The item that a data phase reaches is in the CORE domain. -/
def regInCore (s : State) (c : Cls) (n : Nat) : Bool := regCore n || (n == 8 && coreP ((s.cls c).ppage.toNat))

/-- A data phase waits (spec/08 R198, R199, spec/11 R282, R296, R297; log entry 13): for the fabric in SLEEP, for a bank
being cleared or woken, or for a handover to the host to drain. -/
def regHeld (s : State) (c : Cls) (n : Nat) : Bool :=
  (s.pwr.state == .sleep && regInCore s c n) ||
  (n == 19 && s.pwr.coreUp &&
    (s.bank.clearing.getLsbD s.bank.wBank.toNat || s.bank.wakeWait.getLsbD s.bank.wBank.toNat ||
      (s.bank.drain.getLsbD s.bank.wBank.toNat && ownerOf s s.bank.wBank.toNat == .host)))

/-! ### Reads -/

/-- HB_IRQ.fault and the other status bits of a class (spec/08 R210). -/
def irqBits (s : State) (c : Cls) : Nat :=
  let b := s.cls c
  bit (sluIrq s c) + 2 * bit b.irqErr + 4 * bit b.irqTxn + 8 * bit b.irqCore + 16 * bit b.irqWake + 32 * bit (faultN s)

/-- The interrupt line of a class is asserted (spec/08 R209). -/
def irqLine (s : State) (c : Cls) : Bool := s.pwr.aonUp && (irqBits s c &&& (s.cls c).irqEn.toNat) != 0

/-- TXN_CTRL (spec/08 R224). -/
def txnView (t : TxnSt) : BitVec 32 :=
  pack [(3, bit t.isOpen), (4, bit t.pend), (5, bit t.lost), (6, t.result), (9, t.items), (16, t.pages.toNat)]

/-- SYS_SMPSTAT (spec/03 R85): path B reads 0 outside complex mode (spec/03 R81). -/
def smpView (s : State) : BitVec 32 :=
  let p := s.samp
  let two := s.par pSmpMode == 2
  pack [(0, p.jamA.jam8 / 256), (8, if two then p.jamB.jam8 / 256 else 0), (16, p.jamA.state),
    (18, if two then p.jamB.state else 0), (20, notchEng s),
    (24, bit p.sclkOk), (25, bit p.sclkFlt), (26, bit p.slip), (27, bit p.feEn)]

/-- BNK_LOG (spec/09 R236). -/
def logView (s : State) : BitVec 32 :=
  let o := bit s.bank.logOvf
  match s.bank.log with
  | [] => pack [(15, o)]
  | (b, w) :: _ => pack [(0, w), (14, 1), (15, o), (16, b), (20, s.bank.log.length)]

/-- PWR_STAT (spec/09 R237). -/
def pwrView (s : State) : BitVec 32 :=
  pack [(0, pwrCode s.pwr.state), (3, s.pwr.tried), (6, s.pwr.outcome), (8, s.pwr.block), (16, s.pwr.wake)]

/-- PWR_PACE (spec/02 R65): with pwr.pace_en 0 there is no later command, and at_ceil reads 1 (log entry 25). -/
def paceView (s : State) : BitVec 32 :=
  pack [(0, s.pace.level), (6, bit (s.pace.atCeil || !paceEn s)), (7, bit s.pace.jump), (8, bit s.pace.ovr),
    (9, s.pace.backoff), (16, s.samp.fifo.length)]

/-- VREG_STAT (spec/09 R237); out in whole codes, on the way from one to the next either of them (log entry 67). -/
def vregView (s : State) : BitVec 32 :=
  pack [(0, s.vreg.target), (8, (roundOpen 5 (outNow s) 16368).toNat), (15, bit (slewing s)), (16, bit s.vreg.softst), (17, bit s.vreg.short),
    (24, s.vreg.clipCnt.toNat)]

/-- ANT_STAT (spec/09 R237). -/
def antView (s : State) : BitVec 32 :=
  pack [(0, s.ant.state), (3, bit s.ant.isOpen), (4, bit s.ant.short), (5, bit s.ant.ilim), (8, s.ant.tries),
    (16, s.ant.ima)]

/-- WCS_CTRL (spec/06 R169). -/
def wcsCtrlView (s : State) : BitVec 32 :=
  pack [(0, bit s.wcs.en), (1, bit s.wcs.fam), (2, bit s.wcs.x2), (3, bit s.wcs.square), (4, bit s.wcs.lowAct),
    (5, bit s.wcs.autoJump)]

/-- WCS_STAT (spec/06 R169). -/
def wcsView (s : State) : BitVec 32 :=
  pack [(0, wcsStateCode s.wcs.state), (2, bit s.wcs.famUse), (3, bit s.wcs.holdover), (4, bit s.wcs.pend),
    (5, bit s.wcs.pllLk), (6, bit s.wcs.unlock), (8, s.wcs.cnt), (16, (phaseErrNs s).toNat)]

/-- EVS_STAT (spec/07 R190). -/
def evsView (s : State) : BitVec 32 :=
  pack [(0, s.evs.slots.length), (11, bit s.evs.collide), (12, bit s.evs.tmLost), (13, bit s.evs.skip),
    (14, bit s.evs.late), (16, s.evs.fireCnt.toNat)]

/-- EVS_TMARK (spec/07 R190). -/
def tmarkView (s : State) : BitVec 32 :=
  pack [(0, s.evs.tmWake.toNat), (16, (tmAt s 0).lost.toNat), (24, (tmAt s 1).lost.toNat)]

/-- MIR_STAT (spec/09 R239). -/
def mirView (s : State) : BitVec 32 :=
  let m := s.mir
  pack [(0, m.role), (2, bit m.linkOk), (3, m.pcu), (5, bit m.stFail), (6, bit m.dlyMis), (7, bit m.wlost),
    (8, m.wlBank.toNat), (11, bit m.takeover), (16, m.wlWord.toNat)]

/-- DBG_CTRL (spec/09 R240). -/
def dbgView (s : State) : BitVec 32 :=
  pack [(0, bit s.trk.haltReq), (1, bit s.svc.haltReq), (4, bit s.trk.halted), (5, bit s.svc.halted),
    (6, bit s.dbg.session), (7, bit s.dbg.seen)]

/-- CAL_CTRL (spec/09 R240). -/
def calView (s : State) : BitVec 32 :=
  pack [(2, bit s.dbg.calBusy), (3, bit s.dbg.calErr), (4, bit s.dbg.calValid), (16, s.dbg.cycles)]

/-- What a read of register `n` shows to a class, apart from the windows (spec/09 R226). -/
def regView (s : State) (c : Cls) (n : Nat) : BitVec 32 :=
  let b := s.cls c
  match n with
  | 0 => 0x01001024
  | 1 => pack [(0, s.pwr.level), (2, bit s.pwr.chg), (8, s.pwr.bnkOut.toNat), (16, s.pwr.unitOut.toNat),
      (24, s.pwr.unitFlt.toNat)]
  | 2 => s.time.dtc.extractLsb' 0 32
  | 3 => if b.latch.armed then b.latch.hi else dtcHiLive s
  | 4 => if b.latch.armed then b.latch.timeq else timeqShown s
  | 5 => smpView s
  | 6 => pack [(0, b.client.toNat)]
  | 7 => pack [(0, b.pindex.toNat), (8, b.ppage.toNat), (12, bit b.pinc)]
  | 9 => pack [(0, b.errCause), (5, bit b.errWr), (8, b.errCnt), (16, b.errOff.toNat)]
  | 10 => pack [(0, irqBits s c), (16, b.irqEn.toNat)]
  | 11 => txnView b.txn
  | 12 => pack [(0, b.nKind.toNat), (2, b.nClient.toNat), (12, b.nCls.toNat), (15, b.nOff.toNat), (29, b.nBank.toNat)]
  | 13 => pack [(0, b.dbChan.toNat), (8, b.dbRes), (11, bit b.dbTmo)]
  | 14 => sluPend s c
  | 15 => pack [(0, s.slu.cmdRef.toNat), (8, s.slu.ntcOvf.toNat), (16, s.slu.msrHeld.toNat), (24, s.slu.evtHeld.toNat)]
  | 16 => pack [(0, ownerBits s), (24, s.bank.drain.toNat)]
  | 17 => logView s
  | 18 => pack [(0, s.bank.wAddr.toNat), (15, bit s.bank.wInc), (16, s.bank.wBank.toNat)]
  | 20 => pack [(0, s.trk.req), (3, bit s.trk.waiting), (4, s.svc.req), (7, bit s.svc.waiting)]
  | 21 => pwrView s
  | 22 => paceView s
  | 23 => pack [(0, s.pace.shedCnt.toNat), (16, s.pace.gapEp.toNat)]
  | 24 => vregView s
  | 25 => antView s
  | 26 => pack [(0, bit (tpEmits s)), (1, bit (!tqAdmits s (s.parN pTpTqMask))), (2, bit s.tp.late), (3, bit s.tp.step),
      (16, s.tp.pulseCnt.toNat)]
  | 27 => ofHalves s.tp.towLo s.tp.qerr
  | 28 => wcsCtrlView s
  | 29 => wcsView s
  | 30 => evsView s
  | 31 => tmarkView s
  | 32 => pack [(0, bit s.rtc.halt), (16, (prescNow s).toNat)]
  | 33 => rtcTime s
  | 34 => rtcDate s
  | 35 => s.rtc.alm0
  | 36 => s.rtc.alm1
  | 37 => s.rtc.stamp
  | 38 => if s.pwr.unitOut.getLsbD 6 then 0 else pack [(0, s.gau.disp), (14, bit s.gau.dispOk), (16, s.gau.raw)]
  | 39 => mirView s
  | 40 => dbgView s
  | 41 => calView s
  | 42 => pack [(0, s.cp.pAddr.toNat), (14, bit s.cp.pInc), (15, bit s.cp.pCore)]
  | 43 => (progWord s (if s.cp.pCore then .svc else .trk) s.cp.pAddr).setWidth 32
  | _ => 0

/-- The bank window's read (spec/11 R278, R286, R291, R294), after the upset that the word has suffered. -/
def bankRead (s : State) (c : Cls) (u : Option Upset) : State × BitVec 32 × Option Cause :=
  let b := s.bank.wBank.toNat
  let w := s.bank.wAddr.toNat
  if c = .ns ∧ ownerOf s b ≠ .host then (s, 0, some .secure)
  else if bankOut s b then (s, 0, some .withdrawn)
  else
    let r := demandRead (inject s b w u) b w
    (r.1, r.2.1.setWidth 32, if r.2.2 then some .poison else none)

/-- The value that a read of a register returns, or the cause of refusal; the bank window may poison its word. -/
def regRead (s : State) (c : Cls) (n : Nat) (u : Option Upset) : State × BitVec 32 × Option Cause :=
  match regAccess s c n false with
  | some e => (s, 0, some e)
  | none =>
    if n = 8 then
      let r := paramRead s c (selKey (s.cls c))
      (s, r.1, r.2)
    else if n = 19 then bankRead s c u
    else (s, regView s c n, none)

/-- The time latch of a class is taken (spec/01 R17). -/
def takeLatch (s : State) (c : Cls) : State :=
  s.modCls c (fun b => { b with latch := ⟨true, dtcNow s, dtcHiLive s, timeqShown s⟩ })

/-- Removes the oldest log entry and clears ovf (spec/09 R236). -/
def popLog (s : State) : State := { s with bank := { s.bank with log := s.bank.log.drop 1, logOvf := false } }

/-- Side effects of a read of the lower word (spec/08 R203, spec/00 R4). -/
def readLo (s : State) (c : Cls) (n : Nat) : State :=
  match n with
  | 2 => takeLatch s c
  | 9 => s.modCls c (fun b => { b with errCause := 0, errWr := false, errCnt := 0, errOff := 0 })
  | 15 => { s with slu := { s.slu with cmdRef := 0, ntcOvf := 0, msrHeld := 0, evtHeld := 0 } }
  | 17 => popLog s
  | 23 => { s with pace := { s.pace with shedCnt := 0, gapEp := 0 } }
  | 24 => { s with vreg := { s.vreg with clipCnt := 0 } }
  | 31 => setTm (setTm s 0 { tmAt s 0 with lost := 0 }) 1 { (tmAt s 1) with lost := 0 }
  | _ => s

/-- Side effects of a read of the upper word that returns live bits (spec/08 R203); only the lower word of BNK_LOG
removes an entry (spec/09 R236). -/
def readHi (s : State) (c : Cls) (n : Nat) : State :=
  match n with
  | 9 => s.modCls c (fun b => { b with errOff := 0 })
  | 15 => { s with slu := { s.slu with msrHeld := 0, evtHeld := 0 } }
  | 23 => { s with pace := { s.pace with gapEp := 0 } }
  | 24 => { s with vreg := { s.vreg with clipCnt := 0 } }
  | 31 => setTm (setTm s 0 { tmAt s 0 with lost := 0 }) 1 { (tmAt s 1) with lost := 0 }
  | _ => s

/-- A read of the upper word of SYS_TIMEQ disarms the class's latch (spec/01 R17). -/
def disarm (s : State) (c : Cls) (n : Nat) : State :=
  if n = 4 then s.modCls c (fun b => { b with latch := { b.latch with armed := false } }) else s

/-! ### Writes -/

/-- A program-window write (spec/08 R213); of two causes the first of R205 is reported. -/
def progWrite (s : State) (k : CoreId) (a v : BitVec 14) : State × Option Cause :=
  if ¬ prgStopped s k then (s, some .prgBusy)
  else if a.toNat < 0x2000 then (s, some .rom)
  else (putProg s k a v, none)

/-- The bank window's write (spec/11 R278, R292, R294). -/
def bankWrite (s : State) (v : Word) : State × Option Cause :=
  let b := s.bank.wBank.toNat
  if hostBank s b then (putWord s b s.bank.wAddr.toNat v, none) else (s, some .notOwner)

/-- SLU_DB is written (spec/09 R235, spec/10 R245, R246, spec/08 R204): a refused request leaves everything but res. -/
def writeDb (s : State) (c : Cls) (v : BitVec 32) : State × Option Cause :=
  let ch : BitVec 6 := v.extractLsb' 0 6
  let ring := v.getLsbD 6
  let take := v.getLsbD 7
  let old := (s.cls c).dbChan
  if c = .ns ∧ 32 ≤ ch.toNat then (if ring ∨ take then setRes s c 0 else s, some .sluice)
  else
    let s1 := s.modCls c (fun b => { b with dbChan := ch, dbTmo := b.dbTmo && !v.getLsbD 11 })
    let keep (t : State) : State := s.setCls c { (s.cls c) with dbRes := (t.cls c).dbRes, dbChan := old }
    let keepSlu (t : State) : State := { (keep t) with slu := { s.slu with cmdRef := t.slu.cmdRef } }
    let r := if ring then doRing s1 c else (s1, false)
    if r.2 then (keepSlu r.1, some .sluice)
    else
      let t := if take then doTake r.1 c else (r.1, false)
      if t.2 then (if ring then t.1 else keepSlu t.1, some .sluice) else (t.1, none)

/-- WCS_CTRL is written (spec/06 R156, R157, R166, R167, R169). -/
def writeWcs (s : State) (v : BitVec 32) : State × Option Cause :=
  let en := v.getLsbD 0
  let fam := v.getLsbD 1
  let x2 := v.getLsbD 2
  if s.wcs.en ∧ (fam ≠ s.wcs.fam ∨ x2 ≠ s.wcs.x2) then (s, some .rule)
  else
    let s := { s with wcs := { s.wcs with fam := fam, x2 := x2, square := v.getLsbD 3, lowAct := v.getLsbD 4,
                                          autoJump := v.getLsbD 5 } }
    let s := if en ∧ ¬ s.wcs.en then wcsEnable s fam x2 else if ¬ en ∧ s.wcs.en then wcsDisable s else s
    (if v.getLsbD 6 then realignRequest s (stepWaits s) else s, none)

/-- TXN_CTRL is written (spec/08 R217, R224); a refused operation leaves lost as well. -/
def writeTxn (s : State) (c : Cls) (v : BitVec 32) : State × Option Cause :=
  let s1 := if v.getLsbD 5 then setTxn s c { txnOf s c with lost := false } else s
  let r := match field v 0 2 with
    | 0 => (s1, none)
    | 1 => txnBegin s1 c
    | 2 => txnCommit s1 c (v.getLsbD 2)
    | _ => txnRollback s1 c
  match r.2 with
  | some e => (s, some e)
  | none => r

/-- DBG_CTRL is written (spec/09 R240, spec/21 R495). -/
def writeDbg (s : State) (v : BitVec 32) : State :=
  let ask (s : State) (k : CoreId) : State := s.modCore k (fun c => { c with haltReq := c.haltReq || !c.halted })
  let s := if v.getLsbD 7 then { s with dbg := { s.dbg with seen := false } } else s
  let s := if v.getLsbD 0 then ask s .trk else s
  let s := if v.getLsbD 1 then ask s .svc else s
  let s := if v.getLsbD 2 then resumeCore s .trk else s
  if v.getLsbD 3 then resumeCore s .svc else s

/-- HB_IRQ is written (spec/08 R210, R223). -/
def writeIrq (s : State) (c : Cls) (lo hi : Bool) (v : BitVec 32) : State :=
  s.modCls c (fun b =>
    let b := if lo then { b with irqErr := b.irqErr && !v.getLsbD 1, irqTxn := b.irqTxn && !v.getLsbD 2,
                                 irqCore := b.irqCore && !v.getLsbD 3, irqWake := b.irqWake && !v.getLsbD 4 } else b
    if hi then { b with irqEn := v.extractLsb' 16 6 } else b)

/-- The W1C fields of the status registers (spec/00 R3, spec/09 R230). -/
def writeStat (s : State) (n : Nat) (lo hi : Bool) (v : BitVec 32) : State :=
  let m (i : Nat) : Bool := (if i < 16 then lo else hi) && v.getLsbD i
  match n with
  | 1 => { s with pwr := { s.pwr with chg := s.pwr.chg && !m 2 } }
  | 5 => { s with samp := { s.samp with sclkFlt := s.samp.sclkFlt && !m 25, slip := s.samp.slip && !m 26 } }
  | 22 => { s with pace := { s.pace with jump := s.pace.jump && !m 7, ovr := s.pace.ovr && !m 8 } }
  | 24 => { s with vreg := { s.vreg with short := s.vreg.short && !m 17 } }
  | 25 =>
    let s := { s with ant := { s.ant with short := s.ant.short && !m 4, ilim := s.ant.ilim && !m 5 } }
    if m 24 then antUnlatch s else s
  | 26 => { s with tp := { s.tp with late := s.tp.late && !m 2, step := s.tp.step && !m 3 } }
  | 29 => { s with wcs := { s.wcs with unlock := s.wcs.unlock && !m 6 } }
  | 30 => { s with evs := { s.evs with collide := s.evs.collide && !m 11, tmLost := s.evs.tmLost && !m 12,
                                       skip := s.evs.skip && !m 13, late := s.evs.late && !m 14 } }
  | 37 => if m 7 then { s with rtc := { s.rtc with stamp := 0 } } else s
  | 39 => { s with mir := { s.mir with stFail := s.mir.stFail && !m 5, dlyMis := s.mir.dlyMis && !m 6,
                                       wlost := s.mir.wlost && !m 7, takeover := s.mir.takeover && !m 11 } }
  | _ => s

/-- A write of the fields of the halves given of a register: the state, or the cause of refusal (spec/08 R201). -/
def regPut (s : State) (c : Cls) (n : Nat) (lo hi : Bool) (v : BitVec 32) : State × Option Cause :=
  match n with
  | 6 => (if lo then s.modCls c (fun b => { b with client := v.extractLsb' 0 10 }) else s, none)
  | 7 => (if lo then s.modCls c (fun b =>
      { b with pindex := v.extractLsb' 0 8, ppage := v.extractLsb' 8 4, pinc := v.getLsbD 12 }) else s, none)
  | 8 => paramWrite s c (selKey (s.cls c)) v
  | 10 => (writeIrq s c lo hi v, none)
  | 11 => if lo then writeTxn s c v else (s, none)
  | 12 => (s.modCls c (fun b =>
      { b with nKind := v.extractLsb' 0 2, nClient := if c = .dbg then v.extractLsb' 2 10 else b.nClient,
               nOff := v.extractLsb' 15 14, nBank := v.extractLsb' 29 3 }), none)
  | 13 => if lo then writeDb s c v else (s, none)
  | 16 => writeOwner s c v
  | 18 =>
    let s := if lo then { s with bank := { s.bank with wAddr := v.extractLsb' 0 14, wInc := v.getLsbD 15 } } else s
    (if hi then { s with bank := { s.bank with wBank := v.extractLsb' 16 3 } } else s, none)
  | 19 => if lo then bankWrite s (loHalf v) else (s, none)
  | 28 => if lo then writeWcs s v else (s, none)
  | 31 => (if lo then { s with evs := { s.evs with tmWake := v.extractLsb' 0 2 } } else s, none)
  | 32 => (if lo then writeHalt s (v.getLsbD 0) else s, none)
  | 33 => writeRtcTime s lo hi v
  | 34 => writeRtcDate s lo hi v
  | 35 => writeAlm s 0 lo hi v
  | 36 => writeAlm s 1 lo hi v
  | 40 => (if lo then writeDbg s v else s, none)
  | 41 =>
    if lo then
      let r := calOp { s with dbg := { s.dbg with calErr := s.dbg.calErr && !v.getLsbD 3 } } (field v 0 2)
      match r.2 with
      | some e => (s, some e)
      | none => r
    else (s, none)
  | 42 => (if lo then { s with cp := { s.cp with pAddr := v.extractLsb' 0 14, pInc := v.getLsbD 14, pCore := v.getLsbD 15 } }
           else s, none)
  | 43 => if lo then progWrite s (if s.cp.pCore then .svc else .trk) s.cp.pAddr (v.extractLsb' 0 14) else (s, none)
  | _ => (writeStat s n lo hi v, none)

/-- The windows' addresses advance after a data phase, also one that receives an error response (spec/08 R211, R213,
R214). -/
def autoInc (s : State) (c : Cls) (n : Nat) (lo hi : Bool) : State :=
  if n = 8 ∧ hi ∧ (s.cls c).pinc then s.modCls c (fun b => { b with pindex := b.pindex + 1 })
  else if n = 19 ∧ (lo ∨ hi) ∧ s.pwr.coreUp ∧ s.bank.wInc then { s with bank := { s.bank with wAddr := s.bank.wAddr + 1 } }
  else if n = 43 ∧ (lo ∨ hi) ∧ s.pwr.coreUp ∧ c ≠ .ns ∧ s.cp.pInc then { s with cp := { s.cp with pAddr := s.cp.pAddr + 1 } }
  else s

end Sys2Proof.Machine
end

