-- ==== Sys2Proof/Machine/Bus.lean ====
section
/-! DEFINITION. The host bus cycle and its data phases (spec/08 R192-R206). -/

namespace Sys2Proof.Machine

/-- The class of a cycle (spec/08 R193). -/
def cycCls (y : BusCyc) : Cls := if y.sec then .sec else .ns

/-- The bus answers: AON is up and RST_N is not recognised low (spec/08 R199). -/
def busOn (s : State) : Bool := s.pwr.aonUp && !s.pwr.rstLow

/-- The offset of the next data phase of the cycle (spec/08 R195). -/
def nextOff (off : Word) : Word := if off = 0x11 then 0x10 else if off = 0x56 ∨ off = 0x26 then off else off + 1

/-- BUS_ADDRESS_PHASE: offset and qualifiers are latched; the falling edge of HREQ_N is a wake source (spec/08 R194,
R195, R199, spec/16 R396). -/
def execBusAddressPhase (off : Word) (wr sec : Bool) (s : State) : Host.Outcome State Fault Refusal :=
  if busOn s then
    let s := idleNow (wakeEvent s 1)
    .next { s with bus := { s.bus with cyc := some ⟨off, wr, sec⟩, herr := false, held := false } }
  else .next s

/-- Drops the holding word of a class (spec/08 R202). -/
def dropHold (s : State) (c : Cls) : State := s.modCls c (fun b => { b with hold := none })

/-- The cycle moves on after a data phase. -/
def advance (s : State) (y : BusCyc) : State :=
  { s with bus := { s.bus with cyc := some { y with off := nextOff y.off }, held := false } }

/-- A data phase that writes `d` at an offset: the state, or the cause of the error response; a refused write leaves what is
staged as well (spec/08 R201, R204). -/
def busPut (s : State) (c : Cls) (off : Word) (d : Word) : State × Option Cause :=
  let n := off.toNat / 2
  let hi := off.toNat % 2 == 1
  match regAccess s c n true with
  | some e => (s, some e)
  | none =>
    if regPaired n then
      if hi then
        let b := s.cls c
        let lo := (mget b.stage n).getD (loHalf (regRead s c n none).2.1)
        let r := regPut (s.setCls c { b with stage := mdel b.stage n }) c n true true (ofHalves d lo)
        match r.2 with
        | some e => (s, some e)
        | none => r
      else (s.modCls c (fun b => { b with stage := mput b.stage n d }), none)
    else if hi then regPut s c n false true (ofHalves d 0)
    else regPut s c n true false (ofHalves 0 d)

/-- A write data phase (spec/08 R195, R198, R199, R201, R204; log entry 13). Every data phase is a wake source. -/
def hostWrite (s : State) (d : Word) : State :=
  match s.bus.cyc with
  | none => s
  | some y =>
    if ¬ busOn s ∨ ¬ y.wr then s
    else
      let c := cycCls y
      let n := y.off.toNat / 2
      let hi := y.off.toNat % 2 == 1
      let s := idleNow (wakeEvent s 1)
      if (regAccess s c n true).isNone ∧ regHeld s c n then { s with bus := { s.bus with held := true, herr := false } }
      else
        let s := dropHold { s with bus := { s.bus with herr := false } } c
        let r := busPut s c y.off d
        let s := match r.2 with
          | some e => errResponse r.1 c e y.off true
          | none => r.1
        advance (autoInc s c n (!hi) hi) y

/-- A read data phase (spec/08 R195, R198, R199, R202-R204; log entry 13); a read that returns data under POISON captures the
upper word as any other. `u` is the upset that a bank word reached has
suffered. -/
def hostRead (s : State) (u : Option Upset) : State :=
  match s.bus.cyc with
  | none => s
  | some y =>
    if ¬ busOn s ∨ y.wr then s
    else
      let c := cycCls y
      let n := y.off.toNat / 2
      let hi := y.off.toNat % 2 == 1
      let s := idleNow (wakeEvent s 1)
      if (regAccess s c n false).isNone ∧ regHeld s c n then { s with bus := { s.bus with held := true, herr := false } }
      else
        let hold := (s.cls c).hold
        let s := dropHold { s with bus := { s.bus with herr := false } } c
        let fin (s : State) (v : Word) : State :=
          advance (autoInc { s with bus := { s.bus with rdata := v } } c n (!hi) hi) y
        match hi, hold, regAccess s c n false with
        | true, some (m, v), none =>
          if m = n then fin (disarm s c n) v
          else
            let r := regRead s c n u
            match r.2.2 with
            | some e => fin (errResponse r.1 c e y.off false) (if e = .poison then hiHalf r.2.1 else 0)
            | none => fin (disarm (readHi r.1 c n) c n) (hiHalf r.2.1)
        | true, _, _ =>
          let r := regRead s c n (if n = 19 then none else u)
          match r.2.2 with
          | some e => fin (errResponse r.1 c e y.off false) (if e = .poison then hiHalf r.2.1 else 0)
          | none => fin (disarm (readHi r.1 c n) c n) (hiHalf r.2.1)
        | false, _, _ =>
          let r := regRead s c n u
          match r.2.2 with
          | some e =>
            if e = .poison then
              fin ((errResponse r.1 c e y.off false).modCls c (fun b => { b with hold := some (n, hiHalf r.2.1) })) (loHalf r.2.1)
            else fin (errResponse r.1 c e y.off false) 0
          | none =>
            let t := readLo r.1 c n
            fin (t.modCls c (fun b => { b with hold := some (n, hiHalf r.2.1) })) (loHalf r.2.1)

/-! ### The rows of the data phases -/

/-- The rows of the command table that are data phases of a write cycle. -/
inductive WRow where
  | wcsEnable | wcsDisable | realign | ringRead | ringPlace | bootRelease | param | prog | bank | txnBegin | txnCommit
  | txnRollback | owner | haltSet | haltClear | calendar | rearm | unlatch | calLoad | calStore | dbgHalt | dbgResume
  | ring | take | reg
deriving DecidableEq, Repr

/-- The row that a write data phase of `d` at the offset of the open cycle belongs to. -/
def writeRow (s : State) (y : BusCyc) (d : Word) : WRow :=
  let b := s.cls (cycCls y)
  match y.off.toNat with
  | 0x38 => if d.getLsbD 0 && !s.wcs.en then .wcsEnable else if !d.getLsbD 0 && s.wcs.en then .wcsDisable
      else if d.getLsbD 6 then .realign else .reg
  | 0x11 =>
    let k := selKey b
    if k = pNtcMsrRd ∨ k = pNtcEvtRd then .ringRead
    else if k = pNtcMailBank ∨ k = pNtcMsrBank ∨ k = pNtcEvtBank then .ringPlace
    else if k = pSysBoot ∧ d = 0 ∧ mget b.stage 8 = some 0 ∧ (s.trk.held ∨ s.svc.held) then .bootRelease
    else .param
  | 0x56 => .prog
  | 0x26 => .bank
  | 0x16 => match d.toNat % 4 with
    | 1 => .txnBegin | 2 => .txnCommit | 3 => .txnRollback | _ => .reg
  | 0x21 => .owner
  | 0x40 => if d.getLsbD 0 then .haltSet else .haltClear
  | 0x42 | 0x43 | 0x44 | 0x45 => .calendar
  | 0x4A => if d.getLsbD 7 then .rearm else .reg
  | 0x33 => if d.getLsbD 8 then .unlatch else .reg
  | 0x52 => match d.toNat % 4 with
    | 1 => .calLoad | 2 => .calStore | _ => .reg
  | 0x50 => if d.toNat % 4 ≠ 0 then .dbgHalt else if d.toNat / 4 % 4 ≠ 0 then .dbgResume else .reg
  | 0x1A => if d.getLsbD 6 then .ring else if d.getLsbD 7 then .take else .reg
  | _ => .reg

/-- A write data phase, when it belongs to the row given; a command of another row finds no such data phase, and
nothing happens (log entry 2). -/
def phaseWrite (r : WRow) (d : Word) (s : State) : Host.Outcome State Fault Refusal :=
  match s.bus.cyc with
  | some y => if y.wr ∧ writeRow s y d = r then .next (hostWrite s d) else .next s
  | none => .next s

/-- A read data phase at one of the offsets given. -/
def phaseRead (offs : List Nat) (u : Option Upset) (s : State) : Host.Outcome State Fault Refusal :=
  match s.bus.cyc with
  | some y => if ¬ y.wr ∧ offs.contains y.off.toNat then .next (hostRead s u) else .next s
  | none => .next s

/-- REGISTER_WRITE (spec/08 R201). -/
def execRegisterWrite (d : Word) (s : State) : Host.Outcome State Fault Refusal := phaseWrite .reg d s
/-- PARAMETER_WRITE (spec/08 R211). -/
def execParameterWrite (d : Word) (s : State) : Host.Outcome State Fault Refusal := phaseWrite .param d s
/-- PROGRAM_WINDOW_WRITE (spec/08 R213). -/
def execProgramWindowWrite (d : Word) (s : State) : Host.Outcome State Fault Refusal := phaseWrite .prog d s
/-- BANK_WINDOW_WRITE (spec/08 R214). -/
def execBankWindowWrite (d : Word) (s : State) : Host.Outcome State Fault Refusal := phaseWrite .bank d s
/-- TXN_BEGIN (spec/08 R217). -/
def execTxnBegin (d : Word) (s : State) : Host.Outcome State Fault Refusal := phaseWrite .txnBegin d s
/-- TXN_COMMIT (spec/08 R218). -/
def execTxnCommit (d : Word) (s : State) : Host.Outcome State Fault Refusal := phaseWrite .txnCommit d s
/-- TXN_ROLLBACK (spec/08 R217). -/
def execTxnRollback (d : Word) (s : State) : Host.Outcome State Fault Refusal := phaseWrite .txnRollback d s
/-- BNK_OWNER_WRITE (spec/11 R282). -/
def execBnkOwnerWrite (d : Word) (s : State) : Host.Outcome State Fault Refusal := phaseWrite .owner d s
/-- RTC_HALT_SET (spec/17 R411). -/
def execRtcHaltSet (d : Word) (s : State) : Host.Outcome State Fault Refusal := phaseWrite .haltSet d s
/-- RTC_HALT_CLEAR (spec/17 R412). -/
def execRtcHaltClear (d : Word) (s : State) : Host.Outcome State Fault Refusal := phaseWrite .haltClear d s
/-- RTC_CALENDAR_WRITE (spec/17 R411). -/
def execRtcCalendarWrite (d : Word) (s : State) : Host.Outcome State Fault Refusal := phaseWrite .calendar d s
/-- RTC_SWSTAMP_REARM (spec/17 R416). -/
def execRtcSwstampRearm (d : Word) (s : State) : Host.Outcome State Fault Refusal := phaseWrite .rearm d s
/-- ANT_UNLATCH (spec/15 R374). -/
def execAntUnlatch (d : Word) (s : State) : Host.Outcome State Fault Refusal := phaseWrite .unlatch d s
/-- CAL_LOAD (spec/21 R501). -/
def execCalLoad (d : Word) (s : State) : Host.Outcome State Fault Refusal := phaseWrite .calLoad d s
/-- CAL_STORE (spec/21 R501). -/
def execCalStore (d : Word) (s : State) : Host.Outcome State Fault Refusal := phaseWrite .calStore d s
/-- DBG_HALT_REQUEST (spec/09 R240). -/
def execDbgHaltRequest (d : Word) (s : State) : Host.Outcome State Fault Refusal := phaseWrite .dbgHalt d s
/-- DBG_RESUME_REQUEST (spec/09 R240). -/
def execDbgResumeRequest (d : Word) (s : State) : Host.Outcome State Fault Refusal := phaseWrite .dbgResume d s
/-- SYS_BOOT_RELEASE (spec/20 R474). -/
def execSysBootRelease (d : Word) (s : State) : Host.Outcome State Fault Refusal := phaseWrite .bootRelease d s
/-- RING_READ_INDEX_WRITE (spec/10 R255). -/
def execRingReadIndexWrite (d : Word) (s : State) : Host.Outcome State Fault Refusal := phaseWrite .ringRead d s
/-- RING_PLACE (spec/10 R254). -/
def execRingPlace (d : Word) (s : State) : Host.Outcome State Fault Refusal := phaseWrite .ringPlace d s
/-- DOORBELL_RING (spec/10 R245). -/
def execDoorbellRing (d : Word) (s : State) : Host.Outcome State Fault Refusal := phaseWrite .ring d s
/-- DOORBELL_TAKE (spec/10 R246). -/
def execDoorbellTake (d : Word) (s : State) : Host.Outcome State Fault Refusal := phaseWrite .take d s
/-- WCS_ENABLE (spec/06 R156). -/
def execWcsEnable (d : Word) (s : State) : Host.Outcome State Fault Refusal := phaseWrite .wcsEnable d s
/-- WCS_DISABLE (spec/06 R166). -/
def execWcsDisable (d : Word) (s : State) : Host.Outcome State Fault Refusal := phaseWrite .wcsDisable d s
/-- WCS_REALIGN_REQUEST (spec/06 R157). -/
def execWcsRealignRequest (d : Word) (s : State) : Host.Outcome State Fault Refusal := phaseWrite .realign d s

/-- DTC_LATCH_READ (spec/01 R17). -/
def execDtcLatchRead (s : State) : Host.Outcome State Fault Refusal := phaseRead [0x04] none s
/-- PARAMETER_READ (spec/08 R211): the upper word of HB_PDATA. -/
def execParameterRead (s : State) : Host.Outcome State Fault Refusal := phaseRead [0x11] none s
/-- HB_ERR_READ (spec/08 R206). -/
def execHbErrRead (s : State) : Host.Outcome State Fault Refusal := phaseRead [0x12] none s
/-- SLU_RING_READ (spec/09 R235). -/
def execSluRingRead (s : State) : Host.Outcome State Fault Refusal := phaseRead [0x1E] none s
/-- BNK_LOG_READ (spec/09 R236). -/
def execBnkLogRead (s : State) : Host.Outcome State Fault Refusal := phaseRead [0x22] none s
/-- BANK_WINDOW_READ (spec/11 R291). -/
def execBankWindowRead (u : Option Upset) (s : State) : Host.Outcome State Fault Refusal := phaseRead [0x26] u s
/-- PWR_PACE_CNT_READ (spec/02 R65). -/
def execPwrPaceCntRead (s : State) : Host.Outcome State Fault Refusal := phaseRead [0x2E] none s
/-- VREG_STAT_READ (spec/09 R237): either word clears clip_cnt, the upper one when it returns live bits. -/
def execVregStatRead (s : State) : Host.Outcome State Fault Refusal := phaseRead [0x30] none s
/-- EVS_TMARK_READ (spec/07 R190). -/
def execEvsTmarkRead (s : State) : Host.Outcome State Fault Refusal := phaseRead [0x3E] none s
/-- PROGRAM_WINDOW_READ (spec/08 R213). -/
def execProgramWindowRead (s : State) : Host.Outcome State Fault Refusal := phaseRead [0x56] none s
/-- REGISTER_READ (spec/08 R202): every other offset. -/
def execRegisterRead (s : State) : Host.Outcome State Fault Refusal :=
  match s.bus.cyc with
  | some y =>
    if ¬ y.wr ∧ ¬ [0x04, 0x11, 0x12, 0x1E, 0x22, 0x26, 0x2E, 0x30, 0x3E, 0x56].contains y.off.toNat then .next (hostRead s none)
    else .next s
  | none => .next s

/-- TIME_LATCH_EXPIRY: 1 ms of DTC time after it was taken (spec/01 R17). -/
def execTimeLatchExpiry (cls : Cls) (s : State) : Host.Outcome State Fault Refusal :=
  let l := (s.cls cls).latch
  if l.armed then
    let s := carryDtc s (l.takenAt + countsPerMs)
    .next (s.modCls cls (fun b => { b with latch := { b.latch with armed := false } }))
  else .next s

end Sys2Proof.Machine
end

