-- ==== Sys2Proof/Machine/Mirror.lean ====
section
/-! DEFINITION. The mirrored pair: roles, the Hexile link, the Pulse Comparison Unit and takeover (spec/19). -/

namespace Sys2Proof.Machine

/-- The MIRROR device notice (spec/19 R464): event and data from d4 on. -/
def noteMirror (s : State) (event data : Nat) : State := postImm s 0x0F (event + 16 * data)

/-- A bit of mir.stat. -/
def setMirStat (s : State) (i : Nat) (b : Bool) : State := s.setParBit pMirStat i b

/-- The link and the PCU work: CORE is up and the device is in RUN or IDLE (spec/19 R465). -/
def mirRuns (s : State) : Bool := s.pwr.coreUp && (s.pwr.state == .run || s.pwr.state == .idle)

/-! ### What a primary sends (spec/19 R446, R448; log entry 19) -/

/-- The record of one pan: PRN, code phase, Doppler, lock bits. -/
def panRec (s : State) (p : Nat) (x : Pan) : List Word :=
  [BitVec.ofNat 16 p, BitVec.ofNat 16 x.prn, BitVec.ofNat 16 (panCode x), BitVec.ofInt 16 (panDop s x),
   BitVec.ofNat 16 (bit x.codeLk + 2 * bit x.carLk + 4 * bit x.bitSync + 8 * bit x.frmSync)]

/-- Queues the state of every pan. -/
def mirrorPans (s : State) : State := s.pans.act.foldl (fun s y => queueFrame s 1 (panRec s y.1 y.2)) s

/-- Queues `n` words of a bank from word `w` on; a poisoned word is not sent (spec/11 R291). -/
def mirrorWords (s : State) (b w n : Nat) : State :=
  if anyPoison s b w n then
    (List.range n).foldl (fun s i => if anyPoison s b (w + i) 1 then s
      else queueFrame s 2 [BitVec.ofNat 16 b, BitVec.ofNat 16 (w + i), bankWord s b (w + i)]) s
  else queueFrame s 2 ([BitVec.ofNat 16 b, BitVec.ofNat 16 w] ++ getWords s b w n)

/-- Queues the words of B4, 30 in a frame. -/
def mirrorB4 (s : State) : State :=
  if bankOut s 4 then s
  else (List.range 547).foldl (fun s c => mirrorWords s 4 (30 * c) (min 30 (16384 - 30 * c))) s

/-- Queues the slot table. -/
def mirrorSlots (s : State) : State := s.evs.slots.foldl (fun s y => mirrorSlot s y.1) s

/-- A full pass of every item (spec/19 R448). -/
def mirrorPass (s : State) : State :=
  if s.mir.role = 1 then mirrorSlots (mirrorB4 (mirrorSolution (mirrorPans s))) else s

/-- What a primary sends on the time of the epoch: pan state every 100 ms, a full pass every mir.sync_ms
(spec/19 R448). -/
def mirrorEpoch (s : State) : State :=
  let ms := dtcNow s / countsPerMs
  if s.mir.role ≠ 1 ∨ ¬ s.mir.linkRun then s
  else if ms % s.parN pMirSyncMs = 0 then mirrorPass s
  else if ms % 100 = 0 then mirrorPans s
  else s

/-! ### Roles (spec/19 R442, R443, R457) -/

/-- A new nonce is drawn: a free value (spec/19 R443). -/
def drawNonce (s : State) : State :=
  { s.nextFree with mir := { s.mir with nonce := Config.nonce s.free, conflictRun := 0 } }

/-- The PCU is off (spec/19 R442, R454). -/
def pcuOff (s : State) : State :=
  let s := setMirStat (setMirStat (setMirStat s 0 false) 1 false) 2 false
  { s with mir := { s.mir with pcu := 0, pcuOn := false, tested := false, testDue := false, es := [], lockRun := 0,
                               looseRun := 0, accuseRun := 0, passDone := false, lossWait := false } }

/-- The PCU starts: its first test is made at its first comparison (spec/19 R453). -/
def pcuStart (s : State) : State :=
  let s := pcuOff s
  { s with mir := { s.mir with pcuOn := true, testDue := true } }

/-- The slot requests held complete with NOT_OWNER (spec/19 R457): their DONE notices, and the block status where the bank
is still HOST's and not withdrawn (spec/10 R253, R254; log entry 96). -/
def endHeldOps (s : State) : State :=
  let s := s.mir.heldOps.foldl (fun s n =>
    let s := if hostBank s n.bank.toNat then putWord s n.bank.toNat (n.offset.toNat + 1) 0x0112 else s
    pushNtc s { n with cls := 3, kind := 2 }) s
  { s with mir := { s.mir with heldOps := [], holdSlots := false } }

/-- The link starts, if it does not run yet. -/
def linkStart (s : State) : State :=
  if s.mir.linkRun then s
  else { s with mir := { s.mir with linkRun := true, linkOk := false, goodRun := 0, out := [], resend := [],
                                    partner := none } }

/-- The link stops; a change of link_ok is posted (spec/19 R442, R447). -/
def linkStop (s : State) : State :=
  let was := s.mir.linkOk
  let s := { s with mir := { s.mir with linkRun := false, linkOk := false, goodRun := 0, out := [], resend := [],
                                        partner := none, conflictRun := 0 } }
  if was then noteMirror s 1 0 else s

/-- A role set by MIR_ROLE or by a conflict (spec/19 R442, R443). -/
def setRole (s : State) (r : Nat) : State :=
  let s := endHeldOps (drawNonce { s with mir := { s.mir with role := r, take := none, wcsWait := false, slewOut := false } })
  match r with
  | 0 =>
    let s := pcuOff (linkStop s)
    setOwner { s with mir := { s.mir with hiZ := false, relWait := false } } 5 .svc
  | 1 =>
    let s := linkStart (pcuOff s)
    setOwner { s with mir := { s.mir with hiZ := false, relWait := false } } 5 .mirror
  | _ =>
    let s := pcuStart (linkStart s)
    setOwner { s with mir := { s.mir with relWait := true } } 5 .mirror

/-! ### Reception (spec/19 R445-R450) -/

/-- A role conflict: frames from another primary (spec/19 R443). -/
def stepConflict (s : State) (f : Frame) : State :=
  if s.mir.role ≠ 1 then s
  else
    let other := (f.type = 0 ∧ (wordAt f.payload 0).toNat % 4 = 1) ∨ f.type = 1 ∨ f.type = 2 ∨ f.type = 3
    let run := if other then s.mir.conflictRun + 1 else if f.type = 0 then 0 else s.mir.conflictRun
    let s := { s with mir := { s.mir with conflictRun := run } }
    match s.mir.partner with
    | some p =>
      if 16 ≤ run then
        if s.mir.nonce.toNat < p.nonce.toNat then noteMirror (setRole s 2) 8 2
        else if s.mir.nonce = p.nonce then drawNonce s
        else { s with mir := { s.mir with conflictRun := 0 } }
      else s
    | none => s

/-- A valid frame: the 16th in a row sets link_ok (spec/19 R447), and a primary begins its pass. -/
def goodFrame (s : State) : State :=
  let n := min 16 (s.mir.goodRun + 1)
  let s := { s with mir := { s.mir with goodRun := n } }
  if n = 16 ∧ ¬ s.mir.linkOk then
    mirrorPass (noteMirror { s with mir := { s.mir with linkOk := true, lossWait := false } } 0 0)
  else s

/-- Answers a frame with an ACK (spec/19 R446; log entry 30). -/
def ackOf (s : State) (f : Frame) : State := queueFrame s 5 [f.seq.setWidth 16]

/-- A frame arrives: one with a bad CRC, an unknown type or a length above 32 is discarded and counted
(spec/19 R445); a valid one of the row's type has the effect `k`. -/
def receive (type : BitVec 4) (f : Frame) (k : State → State) (s : State) : Host.Outcome State Fault Refusal :=
  if ¬ (s.mir.linkRun ∧ mirRuns s) then .next s
  else if ¬ f.crcOk ∨ 7 ≤ f.type.toNat ∨ 32 < f.payload.length then
    .next { (s.bumpPar pMirFrmErr) with mir := { s.mir with goodRun := 0 } }
  else if f.type ≠ type then .next s
  else .next (k (goodFrame s))

/-- The fire count of an IDLE frame: as many firings are known to have been performed (spec/19 R463; log entry 31). -/
def stepFireSeen (s : State) (c : BitVec 16) : State :=
  let n := (c - s.mir.fireSeen).toNat
  { s with mir := { s.mir with fireSeen := c }, evs := { s.evs with shadow := s.evs.shadow.drop n } }

/-- What an IDLE frame brings (spec/19 R446): the partner's state; on a standby that has received content since its last
pass it ends the pass (log entry 29). -/
def takeIdle (f : Frame) (s : State) : State :=
  let w := (wordAt f.payload 0).toNat
  let p : Partner := ⟨w % 4, w / 4 % 8, w.testBit 5, w.testBit 6, wordAt f.payload 1, wordAt f.payload 2⟩
  let s := { s with mir := { s.mir with partner := some p } }
  let s := s.setPar pMirStat ((s.parN pMirStat % 8 + 8 * p.tq : Nat) : Int)
  let s := if s.mir.role = 2 ∧ p.role = 1 then stepFireSeen s p.fire else s
  let s := if s.mir.role = 2 ∧ p.role = 1 ∧ s.mir.passDone ∧ ¬ s.parBit pMirStat 0 then
      noteMirror (setMirStat s 0 true) 2 0 else s
  checkDegraded (stepConflict s f)

/-- IDLE_FRAME (spec/19 R446). -/
def execIdleFrame (f : Frame) (s : State) : Host.Outcome State Fault Refusal := receive 0 f (takeIdle f) s

/-- Content has arrived from the primary. -/
def gotContent (s : State) : State := { s with mir := { s.mir with passDone := true } }

/-- A standby starts a pan of its own from mirrored pan state, under the fourth row of R97 (spec/19 R449). -/
def standbyPan (s : State) (ws : List Word) : State :=
  let prn := (wordAt ws 1).toNat % 64
  if prnOk s prn ∧ (wordAt ws 4).getLsbD 0 ∧ pansOf s prn = [] then
    match freePan s none with
    | some p => startPan s p prn (wordAt ws 2).toNat (wordAt ws 3).toInt (nextBoundary s) true
    | none => s
  else s

/-- A STATE frame on a standby: the record goes into B5, 32 words for each (log entry 19). -/
def takeState (f : Frame) (s : State) : State :=
  let s := ackOf (stepConflict s f) f
  if s.mir.role ≠ 2 then s
  else
    let r := (wordAt f.payload 0).toNat
    let s := gotContent (if bankOut s 5 then s else putWords s 5 (32 * r) f.payload)
    if r < 32 then standbyPan s f.payload else s

/-- STATE_FRAME (spec/19 R446, R448). -/
def execStateFrame (f : Frame) (s : State) : Host.Outcome State Fault Refusal := receive 1 f (takeState f) s

/-- Writes mirrored words from word `w` on; a write that loses to the owner's in one arbitration window is discarded and
reported, and the word is named in the next RESEND (spec/11 R285, spec/19 R450). -/
def putMirrored (s : State) (b : Nat) (lost : List (BitVec 14)) : Nat → List Word → State
  | _, [] => s
  | w, v :: vs =>
    let s := if lost.contains (BitVec.ofNat 14 w) then
        { s with mir := { s.mir with wlost := true, wlBank := BitVec.ofNat 3 b, wlWord := BitVec.ofNat 14 w,
                                     resend := s.mir.resend ++ [(b, w % 16384)] } }
      else putWord s b w v
    putMirrored s b lost (w + 1) vs

/-- A WORDS frame on a standby: the mirror engine writes banks owned by TRK, SVC or MIRROR (spec/11 R278). -/
def takeWords (f : Frame) (lost : List (BitVec 14)) (s : State) : State :=
  let s := ackOf (stepConflict s f) f
  let b := (wordAt f.payload 0).toNat % 8
  if s.mir.role ≠ 2 then s
  else
    let ok := !bankOut s b && (match ownerOf s b with | .trk | .svc | .mirror => true | _ => false)
    gotContent (if ok then putMirrored s b lost (wordAt f.payload 1).toNat (f.payload.drop 2) else s)

/-- WORDS_FRAME (spec/19 R446, R450). -/
def execWordsFrame (f : Frame) (lost : List (BitVec 14)) (s : State) : Host.Outcome State Fault Refusal :=
  receive 2 f (takeWords f lost) s

/-- A SLOT frame on a standby writes the image as mirror class, with the primary's owner fields (spec/19 R444, R446).
An occurrence that is committed keeps its image (spec/07 R177). -/
def takeSlot (f : Frame) (s : State) : State :=
  let s := ackOf (stepConflict s f) f
  if s.mir.role ≠ 2 then s
  else
    let ws := f.payload
    let i := (wordAt ws 0).toNat % 1024
    let m := imgOf ws
    let o := (wordAt ws 13).toNat
    let s := gotContent s
    if m.actions = 0 then freeSlot s i
    else if imgBad m ∨ ¬ imgTimeOk ws then s
    else match slotAt s i with
      | some x =>
        let y := { x with cls := clsOf (o % 8), client := BitVec.ofNat 10 (o / 8), img := m,
                          cntMod := x.cntMod || (x.com.isSome && x.img.count != m.count) }
        putSlot s i (if x.com.isNone ∧ x.img.target ≠ m.target then armLate s { y with late := none } else y)
      | none => putSlot s i (armLate s ⟨clsOf (o % 8), BitVec.ofNat 10 (o / 8), m, none, none, false⟩)

/-- SLOT_FRAME (spec/19 R444, R446). -/
def execSlotFrame (f : Frame) (s : State) : Host.Outcome State Fault Refusal := receive 3 f (takeSlot f) s

/-- The levels and pulse ends that a primary's TAKE carries, adopted by the standby (spec/19 R457). -/
def adoptLevels (s : State) (ws : List Word) : State :=
  let lv := (wordAt ws 0).toNat
  let one (s : State) (k : Fin 4) : State :=
    let e : Int := natOf ((ws.drop (1 + 4 * k.val)).take 4)
    setPin s k { (pinAt s k) with active := lv.testBit k.val, ends := if e = 0 then [] else [e] }
  one (one (one (one s 0) 1) 2) 3

/-- A TAKE frame (spec/19 R457, R465). A primary answers a standby's TAKE with its levels, unless it has sent its own,
which then governs; a standby takes H from the primary's. -/
def takeTake (f : Frame) (s : State) : State :=
  let s := ackOf s f
  let h := tsbTime f.payload
  let trig := (wordAt f.payload 7).toNat
  match s.mir.role with
  | 1 =>
    if s.mir.take.isSome then s
    else
      let s := queueFrame s 4 (tsbAt s h ++ [BitVec.ofNat 16 trig] ++ evoutWords s)
      { s with mir := { s.mir with take := some ⟨h, trig, none⟩, holdSlots := true } }
  | 2 =>
    let s := { s with mir := { s.mir with take := some ⟨h, trig, none⟩ } }
    adoptLevels s (f.payload.drop 8)
  | _ => s

/-- TAKE_FRAME (spec/19 R457). -/
def execTakeFrame (f : Frame) (s : State) : Host.Outcome State Fault Refusal := receive 4 f (takeTake f) s

/-- ACK_FRAME: the frame acknowledged needs no further action (spec/19 R446). -/
def execAckFrame (f : Frame) (s : State) : Host.Outcome State Fault Refusal := receive 5 f id s

/-- The pairs of a RESEND frame, each answered with the word's present value (spec/19 R450). -/
def sendPairs (s : State) : List Word → State
  | b :: w :: ws =>
    let s := if anyPoison s (b.toNat % 8) (w.toNat % 16384) 1 then s
      else mirrorWords s (b.toNat % 8) (w.toNat % 16384) 1
    sendPairs s ws
  | _ => s

/-- RESEND_FRAME (spec/19 R450). -/
def execResendFrame (f : Frame) (s : State) : Host.Outcome State Fault Refusal :=
  receive 6 f (fun s => if s.mir.role = 1 then sendPairs s (f.payload.take 16) else s) s

/-! ### Sending (spec/19 R445, R446, R450) -/

/-- The content of an IDLE frame. -/
def idleWords (s : State) : List Word :=
  [BitVec.ofNat 16 (s.mir.role + 4 * tqCode s.time.tq + 32 * bit (s.parBit pMirStat 1) + 64 * bit (s.parBit pMirStat 0)),
   s.evs.fireCnt, s.mir.nonce]

/-- Sends a frame on MLTX under the next sequence number. -/
def sendOut (s : State) (f : Frame) : State :=
  { s with mir := { s.mir with lastSent := some { f with seq := s.mir.txSeq }, txSeq := s.mir.txSeq + 1 } }

/-- FRAME_SEND: the oldest frame that waits, a RESEND for words lost, or an IDLE frame (spec/19 R445, R450). -/
def execFrameSend (s : State) : Host.Outcome State Fault Refusal :=
  if ¬ (s.mir.linkRun ∧ mirRuns s) then .next s
  else match s.mir.out, s.mir.resend with
    | f :: fs, _ => .next (sendOut { s with mir := { s.mir with out := fs } } f)
    | [], [] => .next (sendOut s ⟨0, 0, idleWords s, true⟩)
    | [], l =>
      let ws := (l.take 8).flatMap (fun p => [BitVec.ofNat 16 p.1, BitVec.ofNat 16 p.2])
      .next (sendOut { s with mir := { s.mir with resend := l.drop 8 } } ⟨6, 0, ws, true⟩)

/-! ### Loss of the link, takeover (spec/19 R447, R457-R463) -/

/-- LINK_LOSS: no valid frame for mir.loss_us (spec/19 R447); a standby then waits for its next TPOUT edge. -/
def execLinkLoss (s : State) : Host.Outcome State Fault Refusal :=
  if s.mir.linkOk ∧ s.mir.linkRun ∧ mirRuns s then
    let s := noteMirror { s with mir := { s.mir with linkOk := false, goodRun := 0 } } 1 0
    .next { s with mir := { s.mir with lossWait := s.mir.role == 2 && s.mir.take.isNone } }
  else .next s

/-- The standby becomes primary, with its notice (spec/19 R457, R459): trigger, and whether it was healthy. -/
def becomePrimary (s : State) (trig : Nat) (healthy : Bool) : State :=
  let s := drawNonce (s.bumpPar pMirTakeCnt)
  let s := pcuOff { s with mir := { s.mir with role := 1, takeover := true, hiZ := false, relWait := false, take := none,
                                               slewOut := s.par pMirDelta != 0 } }
  noteMirror s 3 (trig + 16 * bit (!healthy))

/-- The old primary becomes standby (spec/19 R457). -/
def becomeStandby (s : State) (trig : Nat) (healthy : Bool) : State :=
  let s := endHeldOps (drawNonce s)
  let s := pcuStart { s with mir := { s.mir with role := 2, hiZ := true, relWait := false, take := none, slewOut := false } }
  noteMirror s 4 (trig + 16 * bit (!healthy))

/-- The tick of the switch instant S, a quarter of an MCLK period after the handover point `h` of the output lattice
(spec/19 R452, R457, spec/06 R153). -/
def switchTick (s : State) (h : Int) : Int :=
  let d := 4 * wcsFs s * mclkPer s
  (placeFrac s (h * d + ticksPerSec) d (deltaPs s)).1

/-- Carries the DTC forward to the next point of the output lattice. -/
def carryLattice (s : State) : State := carryTick s (latticePlace s (latticeIndex s (wcsTime s) 1) 0)

/-- TAKEOVER_SWITCH: the switch instant S (spec/19 R457, R462, R465). -/
def execTakeoverSwitch (s : State) : Host.Outcome State Fault Refusal :=
  match s.mir.take with
  | none => .next s
  | some k =>
    if ¬ mirRuns s then .next s
    else
      let s := carryTick s (switchTick s k.h)
      match s.mir.role with
      | 2 => .next { (becomePrimary s k.trig (takeHealthy s)) with evs := { s.evs with shadow := [] } }
      | 1 =>
        if s.mir.linkOk then
          let ok : Bool := match s.mir.partner with
            | some p => p.locked && p.sync
            | none => false
          .next (becomeStandby s k.trig ok)
        else .next (endHeldOps { s with mir := { s.mir with hiZ := true, take := none } })
      | _ => .next { s with mir := { s.mir with take := none } }

/-- The doorbell and EVT actions of the occurrences that the old primary may not have performed, each flagged late
(spec/19 R463). -/
def performMissed (s : State) : State :=
  let l := s.evs.shadow
  let s := { s with evs := { s.evs with shadow := [], late := s.evs.late || !l.isEmpty } }
  deliverAll s (l.map (fun r => { r with late := true }))

/-- LINK_LOSS_EDGE_CHECK: the standby's first internal TPOUT edge after the loss; `seen` is that TPCMP shows the edge
within mir.win_ns (spec/19 R459). The bit of trigger 1 is bit 0 of mir.auto_take (spec/19 R466; log entry 32). -/
def execLinkLossEdgeCheck (seen : Bool) (s : State) : Host.Outcome State Fault Refusal :=
  if ¬ (s.mir.role = 2 ∧ s.mir.lossWait ∧ mirRuns s) then .next s
  else
    let s := { s with mir := { s.mir with lossWait := false } }
    if seen then .next (noteMirror s 9 0)
    else if s.parBit pMirAutoTake 0 then
      let s := becomePrimary s 1 (takeHealthy s)
      .next (performMissed { s with tp := { s.tp with late := true }, mir := { s.mir with wcsWait := true } })
    else .next s

/-- TAKEOVER_WCS_DRIVE: WCS and EVOUT pins are driven from the next lattice point (spec/19 R459). -/
def execTakeoverWcsDrive (s : State) : Host.Outcome State Fault Refusal :=
  if s.mir.wcsWait then
    let s := carryLattice s
    .next { s with mir := { s.mir with wcsWait := false } }
  else .next s

/-- STANDBY_OUTPUT_RELEASE: the shared-net outputs enter high impedance at the next lattice point (spec/19 R442). -/
def execStandbyOutputRelease (s : State) : Host.Outcome State Fault Refusal :=
  if s.mir.relWait then
    let s := carryLattice s
    .next { s with mir := { s.mir with relWait := false, hiZ := true } }
  else .next s

/-- MIRROR_SYNC_LOSS (spec/19 R448). -/
def execMirrorSyncLoss (s : State) : Host.Outcome State Fault Refusal :=
  if s.mir.role = 2 ∧ s.parBit pMirStat 0 then
    .next (setMirStat { s with mir := { s.mir with passDone := false } } 0 false)
  else .next s

/-! ### The Pulse Comparison Unit (spec/19 R451-R456) -/

/-- A copy's parity is right. -/
def copyOk (x : DlyCopy) : Bool := x.parity == (popCount x.value.toNat 16 % 2 == 1)

/-- Both copies of both registers are read: no parity error and no disagreement (spec/19 R451). -/
def copiesOk (s : State) : Bool :=
  copyOk s.mir.cmpA && copyOk s.mir.cmpB && copyOk s.mir.outA && copyOk s.mir.outB &&
    s.mir.cmpA.value == s.mir.cmpB.value && s.mir.outA.value == s.mir.outB.value

/-- Entry to COMPARE_UNAVAILABLE; `why` is 1 for a failed test, 2 for a disagreement (spec/19 R455). -/
def compareLost (s : State) (why : Nat) : State :=
  if s.mir.pcu = 2 then s
  else noteMirror { s with mir := { s.mir with pcu := 2, accuseRun := 0 } } 5 why

/-- The internal TPOUT edge that a TPCMP capture is compared with: the tick of the pulse nearest to it (spec/19 R452). -/
def internalEdge (s : State) (capture : Int) : Int :=
  (tpPlace s (divNearest (tpTime s (gnssAt s capture) - nsTicks s.tp.userOff) (tpPeriod s))).1

/-- The offset e in 0.1 ns of an internal edge and a capture, in ticks; the trim of the capture path counts against the
capture (spec/19 R452, spec/21 R498). -/
def offsetE (s : State) (edge capture : Int) : Int :=
  divNearest ((edge - capture) * 1000000000000 + trimPs s 14 * ticksPerSec) (ticksPerSec * 100) +
    (s.mir.outA.value.toNat : Int) + s.mir.cmpA.value.toNat

/-- The self-test's offset passes against the mean of the last ordinary comparisons, taken exactly; before the first one
the spec states none, and the mean is a free value (spec/19 R453; log entry 33). cal.pcu_st corrects the 12 ns (spec/21
R498). -/
def testPasses (s : State) (e : Int) : Bool :=
  let tol := s.par pMirStTol * 1000
  let x := e * 100 + 12000 + trimPs s 15
  let n : Int := s.mir.es.length
  if s.mir.es = [] then decide (((x - Config.analogue s.free * 100).natAbs : Int) ≤ tol)
  else decide (((x * n - s.mir.es.sum * 100).natAbs : Int) ≤ tol * n)

/-- A self-test: `e` is measured with the injected 12 ns (spec/19 R453-R455). -/
def selfTest (s : State) (e : Int) : State :=
  let asked := s.mir.testDue
  let pass := testPasses s e
  let s : State := { s.nextFree with mir := { s.mir with testDue := false, testBlk := gnssNow s / ticksPerSec / 16 } }
  if ¬ pass then
    let s := s.bumpPar pMirStFailCnt
    compareLost { s with mir := { s.mir with stFail := true } } 1
  else if s.mir.pcu ≠ 2 then { s with mir := { s.mir with pcu := 1, tested := true } }
  else if asked then noteMirror { s with mir := { s.mir with pcu := 1, tested := true } } 6 0
  else s

/-- mir.stat.locked over the comparisons (spec/19 R452). -/
def stepLocked (s : State) (e : Int) : State :=
  let near := decide ((e.natAbs : Int) ≤ s.par pMirLockNs * 10)
  let a := if near then min 4 (s.mir.lockRun + 1) else 0
  let b := if near then 0 else min 4 (s.mir.looseRun + 1)
  let s := { s with mir := { s.mir with lockRun := a, looseRun := b } }
  if a = 4 then setMirStat s 1 true else if b = 4 then setMirStat s 1 false else s

/-- Accusation after a comparison (spec/19 R456): event 7, and a takeover when its bit is set. -/
def stepAccuse (s : State) : State :=
  let d := (s.par pMirDelta).natAbs
  let on := takeHealthy s && s.time.tq == .gnssFine && decide (s.parN pMirAccuseNs * 1000 < d)
  let run := if on then s.mir.accuseRun + 1 else 0
  let s := { s with mir := { s.mir with accuseRun := run } }
  if run = s.parN pMirAccuseN ∧ on then
    let s := noteMirror s 7 (min 255 (d / 1000000))
    if s.parBit pMirAutoTake 1 ∧ s.mir.take.isNone then startTake s 2 else s
  else s

/-- An ordinary comparison (spec/19 R452, R455): delta is held in COMPARE_UNAVAILABLE. -/
def compareOnce (s : State) (e : Int) : State :=
  let s := s.setPar pMirOffset (clip (-32768) 32767 e)
  let s := stepLocked { s with mir := { s.mir with es := (e :: s.mir.es).take 4 } } e
  if s.mir.pcu = 2 then s else stepAccuse (addDelta s (-(e * 100 / 8)))

/-- TPCMP_EDGE: a capture, as a DTC tick, is compared with the internal TPOUT edge (spec/19 R451-R456); without one, while
TPOUT is masked, there is no comparison. A self-test takes `delayed`, what the PCU captures of the same edge through the injected
12 ns. -/
def execTpcmpEdge (delayed capture : Int) (s : State) : Host.Outcome State Fault Refusal :=
  let edge := internalEdge s capture
  if ¬ (s.mir.role = 2 ∧ s.mir.pcuOn ∧ mirRuns s ∧ tpEmits s) then .next s
  else if s.par pMirWinNs * ticksPerSec < ((edge - capture).natAbs : Int) * 1000000000 then .next s
  else
    let s := carryTick s (max edge capture)
    let s := if copiesOk s then s else compareLost { s with mir := { s.mir with dlyMis := true } } 2
    if s.mir.testDue ∨ (s.mir.pcu ≠ 2 ∧ s.mir.testBlk < gnssNow s / ticksPerSec / 16) then
      .next (selfTest s (offsetE s edge delayed))
    else .next (compareOnce s (offsetE s edge capture))

/-- MIR_COMPARE on a standby (spec/19 R455). -/
def mirCompare (s : State) (resume : Bool) : State :=
  if s.mir.role ≠ 2 then s
  else if ¬ resume then setMirStat s 2 true
  else
    let c := dlyCopy (s.par pMirDlyCmp)
    let o := dlyCopy (s.par pMirDlyOut)
    setMirStat { s with mir := { s.mir with cmpA := c, cmpB := c, outA := o, outB := o, testDue := true } } 2 false

end Sys2Proof.Machine
end

