-- ==== Sys2Proof/Machine/Epoch.lean ====
section
/-! DEFINITION. The 1 ms epoch boundary, the notches and the jamming indicator, the DTC wrap, UTC and the calendar load
(spec/01 R16, R34-R36, spec/02 R61, spec/03 R71-R83, spec/17 R413). -/

namespace Sys2Proof.Machine

/-! ### Notches (spec/03 R76-R80) -/

/-- A notch. -/
def notchAt (s : State) (k : Fin 4) : Notch := s.samp.notch.get k

/-- A notch's status word (spec/03 R80): INR clipped to its field (log entry 81). -/
def notchStat (x : Notch) : Nat := x.freq.toNat + 65536 * min 255 x.inr.toNat + 16777216 * bit x.engaged

/-- Replaces a notch, with its status word. -/
def setNotch (s : State) (k : Fin 4) (x : Notch) : State :=
  { s with samp := { s.samp with notch := s.samp.notch.set k x } }.setPar (pSmpN0Stat + k.val) (notchStat x)

/-- A notch engages or disengages, with its notice (spec/03 R80). -/
def notchTo (s : State) (k : Fin 4) (x : Notch) (on : Bool) : State :=
  let s := setNotch s k { x with engaged := on }
  if x.engaged = on then s else noteIntf s (if on then 2 else 3) k.val 0

/-- An AUTO notch at the end of an admitted epoch: it tracks, and engages or disengages on the INR run
(spec/03 R77). `q` holds the notch parameters as they stood before the boundary (spec/03 R78, spec/08 R222). -/
def notchObs (q : State) (s : State) (k : Fin 4) (o : NotchObs) : State :=
  let x := notchAt s k
  if x.mode ≠ 2 then s
  else
    let on := if q.par pSmpNotchOn ≤ o.inr then x.onRun + 1 else 0
    let off := if o.inr < q.par pSmpNotchOff then x.offRun + 1 else 0
    let x := { x with freq := o.freq, inr := o.inr, adapted := true, onRun := min 4 on, offRun := min 64 off }
    notchTo s k x (if x.engaged then decide (off < 64) else decide (4 ≤ on))

/-- The seed or FIXED frequency of a notch as written. -/
def notchSeed (s : State) (k : Fin 4) : BitVec 16 := BitVec.ofInt 16 (s.par (pSmpN0Freq + k.val))

/-- The mode, the FIXED frequency and a seed written before an AUTO notch has tracked take effect (spec/03 R77, R78). INR
keeps the figure of the notch's last AUTO time (spec/03 R80; log entry 81). -/
def notchMode (q : State) (s : State) (k : Fin 4) : State :=
  let x := notchAt s k
  let m := q.parN (pSmpN0Mode + k.val)
  let f := notchSeed q k
  if m = 1 then notchTo s k { x with mode := 1, fixed := f, freq := f, onRun := 0, offRun := 0, adapted := false } true
  else if m = x.mode then (if m = 2 ∧ ¬ x.adapted ∧ x.freq ≠ f then setNotch s k { x with freq := f } else s)
  else notchTo s k { x with mode := m, freq := f, onRun := 0, offRun := 0, adapted := false } false

/-- The width of a notch in Hz (spec/03 R86). -/
def notchWidth (s : State) (k : Fin 4) : Int :=
  match s.parN (pSmpN0Bw + k.val) with
  | 0 => 15000 | 1 => 30000 | 2 => 60000 | _ => 120000

/-- A frequency code in Hz times 65,536 (spec/03 R76): signed in complex mode. -/
def notchHz (s : State) (c : BitVec 16) : Int :=
  if s.par pSmpMode = 2 then c.toInt * 8184000 else c.toNat * 16368000

/-- An AUTO notch lies within twice its own width of an engaged lower-numbered notch or of a FIXED notch
(spec/03 R79). -/
def notchClose (q : State) (s : State) (k : Fin 4) : Bool :=
  [0, 1, 2, 3].any (fun (j : Fin 4) =>
    let y := notchAt s j
    j != k && (y.mode == 1 || (decide (j < k) && y.engaged)) &&
      decide (((notchHz s (notchAt s k).freq - notchHz s y.freq).natAbs : Int) ≤ 2 * notchWidth q k * 65536))

/-- R79 for one notch. -/
def notchApart (q : State) (s : State) (k : Fin 4) : State :=
  let x := notchAt s k
  if x.mode = 2 ∧ notchClose q s k then notchTo s k { x with freq := notchSeed q k, onRun := 0, offRun := 0, adapted := false } false else s

/-- INR counting restarts (spec/03 R83). -/
def notchRestart (s : State) : State :=
  { s with samp := { s.samp with notch := s.samp.notch.map (fun x => { x with onRun := 0, offRun := 0 }) } }

/-- The four notches at an epoch boundary, by the parameters of `q`; `seen` is that the epoch that ends was admitted. What an
epoch commit made live at this boundary applies from the next one (spec/08 R222). -/
def stepNotches (q : State) (s : State) (o : EpochObs) (seen : Bool) : State :=
  let s := if seen then notchObs q (notchObs q (notchObs q (notchObs q s 0 o.n0) 1 o.n1) 2 o.n2) 3 o.n3 else s
  let s := notchMode q (notchMode q (notchMode q (notchMode q s 0) 1) 2) 3
  notchApart q (notchApart q (notchApart q (notchApart q s 0) 1) 2) 3

/-! ### The jamming indicator (spec/03 R81, R82) -/

/-- Jraw of a path over `n` samples (spec/03 R81), truncated to a whole number. -/
def jamRaw (s : State) (x : JamPath) (n : Nat) : Nat :=
  let a : Nat := ((1024 * (x.nM3 + x.nP3) : Int) - (s.par pSmpMagTarget) * n).natAbs
  let h : Nat := 1024 * (((x.nP1 : Int) - x.nM1).natAbs + ((x.nP3 : Int) - x.nM3).natAbs)
  min 255 ((s.parN pSmpJamKa * a + s.parN pSmpJamKh * h) / (16 * n))

/-- JAM moves towards Jraw, held with 8 fractional bits (spec/03 R81): the step is rounded away from zero (log entry
26). -/
def jamMove (tc cur raw : Nat) : Nat :=
  let d := 2 ^ tc
  if cur ≤ raw * 256 then cur + ceilDiv (raw * 256 - cur) d else cur - ceilDiv (cur - raw * 256) d

/-- The jamming state that follows (spec/03 R82). -/
def jamState (s : State) (st jam8 : Nat) : Nat :=
  let warn := s.parN pSmpJamWarn
  let alarm := s.parN pSmpJamAlarm
  let hyst := s.parN pSmpJamHyst
  if alarm * 256 ≤ jam8 then 2
  else if st = 2 then (if jam8 + hyst * 256 < alarm * 256 then 1 else 2)
  else if warn * 256 ≤ jam8 then 1
  else if st = 1 then (if jam8 + hyst * 256 < warn * 256 then 0 else 1)
  else 0

/-- A path after an epoch. -/
def jamStep (s : State) (x : JamPath) (n : Nat) : JamPath :=
  let j := jamMove (s.parN pSmpJamTc) x.jam8 (jamRaw s x n)
  { JamPath.reset with jam8 := j, state := jamState s x.state j }

/-- The counts of an epoch that was not admitted are dropped. -/
def jamClear (x : JamPath) : JamPath := { x with nM3 := 0, nM1 := 0, nP1 := 0, nP3 := 0 }

/-- The notice of a change of state. -/
def jamNote (s : State) (path old new : Nat) : State := if new = old then s else noteIntf s 4 path new

/-- The jamming indicator at an epoch boundary: JAM of path B reads 0 in real mode (spec/03 R81, R82). -/
def stepJam (s : State) (seen : Bool) : State :=
  let a := s.samp.jamA
  let b := s.samp.jamB
  if ¬ seen then { s with samp := { s.samp with jamA := jamClear a, jamB := jamClear b } }
  else
    let real := decide (s.par pSmpMode = 1)
    let a' := jamStep s a (if real then 16368 else 8184)
    let b' := if real then JamPath.reset else jamStep s b 8184
    let s := { s with samp := { s.samp with jamA := a', jamB := b' },
                      integ := { s.integ with jamAlarm := s.integ.jamAlarm || a'.state == 2 || b'.state == 2 } }
    jamNote (jamNote s 0 a.state a'.state) 1 b.state b'.state

/-! ### The epoch boundary -/

/-- The epoch that ends held a discarded sample: counted, and every integration that includes it is lost
(spec/02 R61, R62, spec/03 R73). -/
def markGap (s : State) : State :=
  mapPans { s with pace := { s.pace with gapNow := false, gapEp := satIncBv s.pace.gapEp,
                                         gapSinceSol := s.pace.gapSinceSol + 1, gapSinceAnchor := true } }
    (fun x => if x.susp ∨ x.starting then x else { x with gapHit := true })

/-- Admission starts or resumes (spec/03 R71, R74), and with acq.mode 0 the first admission begins the search plan
(spec/20 R473). -/
def admitNow (s : State) (a : Assist) : State :=
  let p := s.samp
  if p.live ∧ ¬ p.settling ∧ ¬ p.admitting ∧ (¬ p.faulted ∨ 16 ≤ p.goodRun) then
    let was := p.faulted
    let s := notchRestart { s with samp := { p with admitting := true, faulted := false, sclkOk := true, phase64 := 0,
                                                    phaseN := 0 } }
    let s := if was then noteIntf s 1 0 0 else s
    if s.par pAcqMode = 0 ∧ ¬ s.acq.begun ∧ coreRuns s .svc then
      beginSearch { s with acq := { s.acq with begun := true } } (planFor s a (s.parN pAcqPrnMask) true)
    else s
  else s

/-- Trims written to the cal page take effect (spec/21 R500). -/
def useTrims (s : State) : State :=
  if s.dbg.trimPend then
    { s with dbg := { s.dbg with trimPend := false, trims := (List.range 16).map (fun k => s.par (pCal (2 + k))) } }
  else s

/-- Everything that a 1 ms epoch boundary brings, at the boundary: pending epoch commits first, then a step of GNSS
time, the gap mark, the notches and JAM, admission, the pans that start or are suspended, and the Crystallizer's dwell
epochs (spec/02 R54, R61, spec/08 R219, spec/01 R19, spec/04 R87-R90, R95, spec/12 R312), a primary's mirroring (spec/19 R448),
and the calls of the EPOCH hooks (spec/12 R325). -/
def boundary (s : State) (o : EpochObs) : State :=
  let q := s
  let s := useTrims (applyAllPending s)
  let s := match s.time.stepPend with
    | some d => applyStep s d
    | none => s
  let seen := s.samp.admitting
  let gap := s.pace.gapNow || (s.samp.live && !seen)
  let s := if gap then markGap s else s
  let s := stepJam (stepNotches q s o seen) seen
  let s := admitNow s o.assist
  let s := mapPans s (fun x => { coast s x with starting := false })
  let s := if s.pwr.state = .run ∨ s.pwr.state = .idle then stepDwell s gap o.cells o.aligned else s
  let s := { s with samp := { s.samp with epochMark := true } }
  let s := mirrorEpoch (s.modCores (fun c => { c with ipEpoch := true }))
  if s.pwr.state = .run ∨ s.pwr.state = .idle then o.calls.foldl (fun s x => rtCall s x.1 x.2) s else s

/-- EPOCH_BOUNDARY: the next 1 ms epoch boundary of the DTC (spec/02 R61). -/
def execEpochBoundary (o : EpochObs) (s : State) : Host.Outcome State Fault Refusal :=
  if s.time.running then
    .next (boundary (carryDtc s ((dtcNow s / countsPerMs + 1) * countsPerMs)) o)
  else .next s

/-- DTC_WRAP: the DTC reaches its next wrap; the anchor counts wraps, so that GNSS time goes on (spec/01 R16). -/
def execDtcWrap (s : State) : Host.Outcome State Fault Refusal :=
  .next (carryDtc s ((s.time.wraps + 1) * 2 ^ 52))

/-- FE_SETTLE_EXPIRY: smp.fe_settle after FE_EN rose; admission starts at the next epoch boundary (spec/03 R74). -/
def execFeSettleExpiry (s : State) : Host.Outcome State Fault Refusal :=
  if s.samp.settling then
    let s := carryDtc s (s.samp.feRose + s.parN pSmpFeSettle * countsPerMs)
    .next { s with samp := { s.samp with settling := false } }
  else .next s

/-! ### UTC and the calendar (spec/01 R34, R36, spec/17 R413) -/

/-- UTC in whole seconds since week 0 (spec/01 R36). -/
def utcSec (s : State) : Int := gnssNow s / ticksPerSec - leapNow s

/-- Year of a four-year cycle and day of that year, both from 0. -/
def yearOf (d : Nat) : Nat × Nat :=
  let r := d % 1461
  if r < 366 then (d / 1461 * 4, r) else (d / 1461 * 4 + 1 + (r - 366) / 365, (r - 366) % 365)

/-- Month from 1 and day from 1, of a day of the year from 0, with fuel. -/
def monthOf (year : Nat) : Nat → Nat → Nat → Nat × Nat
  | 0, m, d => (m, d + 1)
  | n + 1, m, d => if d < monthDays m year then (m, d + 1) else monthOf year n (m + 1) (d - monthDays m year)

/-- Writes a UTC second since week 0 into the calendar in one crossing; wday is not changed (spec/17 R413). Week 0 began
7,300 days before 1 January 2000. -/
def loadCalendar (s : State) (t : Int) : State :=
  let day := ((t / 86400 - 7300) % 36525).toNat
  let sec := (t % 86400).toNat
  let y := yearOf day
  let m := monthOf y.1 11 1 y.2
  { s with rtc := { s.rtc with
      sec := BitVec.ofNat 7 (toBcd (sec % 60)), min := BitVec.ofNat 7 (toBcd (sec / 60 % 60)),
      hour := BitVec.ofNat 6 (toBcd (sec / 3600)), day := BitVec.ofNat 6 (toBcd m.2), month := BitVec.ofNat 5 (toBcd m.1),
      year := BitVec.ofNat 8 (toBcd y.1), prescAt := some (dtcNow s), r34 := true } }

/-- The DTC count of the next R34 point (spec/01 R34): entry into GNSS-FINE, else one hour after the last point; the first
load in GNSS-COARSE is due at once (log entry 66). -/
def calendarDue (s : State) : Nat :=
  if s.time.calDue then dtcNow s
  else match s.time.calAt with
    | some t => elapsedCount s (t + 3600 * 1047552000)
    | none => dtcNow s

/-- CALENDAR_LOAD: at an R34 point UTC is written at the next whole UTC second (spec/01 R34, spec/17 R413); while
RTC_HALT.halt reads 1 the load is skipped until the next point. -/
def execCalendarLoad (s : State) : Host.Outcome State Fault Refusal :=
  if tqGnss s.time.tq ∧ s.time.utcValid ∧ s.time.running ∧ coreRuns s .svc then
    let s := carryDtc s (calendarDue s)
    let s := carryGnss s (-((-(gnssNow s)) / ticksPerSec) * ticksPerSec)
    let s := { s with time := { s.time with calAt := some (elapsed s), calDue := false } }
    .next (if s.rtc.halt then s else loadCalendar s (utcSec s))
  else .next s

/-- The GNSS time at which a scheduled leap-second change applies: the end of the stated day of UTC (spec/01 R36); days
of the week count from 1. -/
def leapAt (s : State) (l : LeapSched) : Int :=
  ((l.week * 604800 + l.day * 86400 : Nat) + s.time.leap) * ticksPerSec

/-- LEAP_SECOND_APPLY (spec/01 R36). -/
def execLeapSecondApply (s : State) : Host.Outcome State Fault Refusal :=
  match s.time.leapNext with
  | some l =>
    if s.time.utcValid ∧ s.time.running ∧ coreRuns s .svc then
      let s := carryGnss s (leapAt s l)
      .next { s with time := { s.time with leap := l.leap, leapNext := none } }
    else .next s
  | none => .next s

end Sys2Proof.Machine
end

