-- ==== Sys2Proof/Machine/Pace.lean ====
section
/-! DEFINITION. Sample arrival, the SCLK checks and the Pace Monitor (spec/02 R48-R65, spec/03 R67-R75). -/

namespace Sys2Proof.Machine

/-! ### Samples -/

/-- Counts one level of a path, from its magnitude and sign bits (spec/03 R67, R68, R81). -/
def countLevel (s : State) (x : JamPath) (mag sign : Bool) : JamPath :=
  let outer := mag == s.parB pSmpMagBig
  let pos := sign == s.parB pSmpSignPos
  match outer, pos with
  | true, true => { x with nP3 := x.nP3 + 1 }
  | true, false => { x with nM3 := x.nM3 + 1 }
  | false, true => { x with nP1 := x.nP1 + 1 }
  | false, false => { x with nM1 := x.nM1 + 1 }

/-- The input levels of both paths are counted, before the notches; path B only in complex mode (spec/03 R81; log entry
27). -/
def countSample (s : State) (d : BitVec 4) : State :=
  let a := countLevel s s.samp.jamA (d.getLsbD 1) (d.getLsbD 0)
  let b := if s.par pSmpMode = 2 then countLevel s s.samp.jamB (d.getLsbD 3) (d.getLsbD 2) else s.samp.jamB
  { s with samp := { s.samp with jamA := a, jamB := b } }

/-- A sample is discarded at a full FIFO (spec/02 R60, R62, R56). The epoch mark stays due: where the first sample of an
epoch is discarded the next admitted one carries it (log entry 82). -/
def overrunSample (s : State) : State :=
  let first := !s.pace.ovrNoted
  let s := { s with pace := { s.pace with ovr := true, overrun := true, ovrNoted := true, gapNow := true } }
  if first then notePace s 2 else s

/-- The level that a path's magnitude and sign bits stand for (spec/03 R68). -/
def levelOf (s : State) (mag sign : Bool) : Int :=
  let x : Int := if mag == s.parB pSmpMagBig then 3 else 1
  if sign == s.parB pSmpSignPos then x else -x

/-- A sample's values on paths A and B, with the spectrum inverted where smp.spec_inv says so (spec/03 R68): in real mode
every second sample is negated (of the two, those of odd index: log entry 83), in complex mode Q. -/
def sampleOf (s : State) (d : BitVec 4) : Int × Int :=
  let a := levelOf s (d.getLsbD 1) (d.getLsbD 0)
  let b := levelOf s (d.getLsbD 3) (d.getLsbD 2)
  let inv := s.parB pSmpSpecInv
  if s.par pSmpMode = 2 then (a, if inv then -b else b)
  else (if inv ∧ s.samp.phaseIdx = 1 then -a else a, 0)

/-- A Brine consumer is active (spec/03 R75, spec/04 R89, R103): pan group `i` with a pan that is not suspended, or, as
consumer 4, the Crystallizer in a dwell epoch. -/
def consumes (s : State) (i : Nat) : Bool :=
  if i = 4 then (match s.acq.cell with | some c => c.run.isSome | none => false)
  else s.pans.act.any (fun y => y.1 / 8 == i && !y.2.susp)

/-- The entries that each consumer has still to read, after `f`; an inactive one has none. -/
def setUnread (s : State) (f : Nat → Nat → Nat) : State :=
  { s with samp := { s.samp with unread := Vector.ofFn (fun i : Fin 5 =>
      if consumes s i.val then f i.val (s.samp.unread.get i) else 0) } }

/-- Entries that every active consumer has read leave the FIFO (spec/03 R75). -/
def releaseBrine (s : State) : State :=
  let keep := s.samp.unread.toList.foldl max 0
  { s with samp := { s.samp with fifo := s.samp.fifo.drop (s.samp.fifo.length - keep) } }

/-- A sample's time on the DTC scale, in 1/64 tick (spec/03 R70, spec/06 R145): the REFIN edge, corrected by the stored
SCLK phase, less tp.fe_delay. -/
def sampleTime (s : State) : Int :=
  (dtcNow s : Int) * 4096 + s.samp.phase64 - s.par pTpFeDelay * (64 * ticksPerSec) / 1000000000

/-- A sample enters the FIFO after the notches, whose output is a free value (spec/03 R75). -/
def pushSample (s : State) (d : BitVec 4) : State :=
  let x := sampleOf s d
  let b := if s.par pSmpMode = 2 then Config.notchOut s.free 1 x.1 x.2 else 0
  let e : BrineEntry := ⟨Config.notchOut s.free 0 x.1 x.2, b, s.samp.epochMark, sampleTime s⟩
  let s := s.nextFree
  let s := { s with samp := { s.samp with fifo := s.samp.fifo ++ [e], epochMark := false } }
  releaseBrine (setUnread s (fun _ n => n + 1))

/-! ### SCLK (spec/03 R70-R73) -/

/-- An SCLK fault is declared. -/
def sclkFault (s : State) : State :=
  let s := s.bumpPar pSmpSclkFltCnt
  noteIntf { s with samp := { s.samp with sclkOk := false, sclkFlt := true, faulted := true, admitting := false,
                                          goodRun := 0 } } 0 0 0

/-- The edge count of a pace period is wrong. -/
def sclkBad (s : State) (edges : Nat) : Bool :=
  let want : Int := if s.par pSmpMode = 1 then 1024 else 512
  decide (1 < ((edges : Int) - want).natAbs)

/-- The check of one pace period. While a fault lasts a further bad period declares no new one (log entry 84). -/
def checkSclk (s : State) (edges : Nat) : State :=
  if ¬ s.samp.live then s
  else if sclkBad s edges then
    if s.samp.faulted then { s with samp := { s.samp with goodRun := 0 } } else sclkFault s
  else if s.samp.faulted then { s with samp := { s.samp with goodRun := s.samp.goodRun + 1 } }
  else s

/-- A phase capture, in ticks: the first 16 make the mean, a later one moves the stored phase or is a slip
(spec/03 R70, R72). The capture path's trim counts against it (spec/21 R498). The phase is kept in 1/64 tick and the move
rounded down (log entry 85); SCLK's period is 64 ticks in real mode and 128 in complex mode. -/
def capturePhase (s : State) (c : Int) : State :=
  let p := s.samp
  let c := 64 * c - divNearest (trimPs s 13 * 67043328) 1000000000
  if p.phaseN < 16 then { s with samp := { p with phase64 := p.phase64 + c / 16, phaseN := p.phaseN + 1 } }
  else
    let per : Int := if s.par pSmpMode = 1 then 4096 else 8192
    let d := (c - p.phase64 + per / 2) % per - per / 2
    if s.par pSmpSclkPhTol * 64 < (d.natAbs : Int) then
      let s := s.bumpPar pSmpSlipCnt
      { s with samp := { s.samp with phase64 := c, slip := true }, pace := { s.pace with gapNow := true } }
    else { s with samp := { p with phase64 := p.phase64 + d / 64 } }

/-! ### Shedding (spec/02 R51-R58) -/

/-- The last shed level (spec/02 R52). -/
def exhausted (s : State) : Nat :=
  let n := s.pace.nAtFive.getD (tracking s)
  4 + (n - paceParN s pPwrPanKeep)

/-- The step to a level sheds work (spec/02 R53). -/
def sheds (s : State) (l : Nat) : Bool :=
  if l ≤ 3 then s.acq.cell.isSome
  else if l = 4 then s.par pTrkXaMode != 0 || s.par pTrkXbMode != 0
  else decide (paceParN s pPwrPanKeep < tracking s)

/-- Takes the level up by one, with its work. -/
def shedTo (s : State) : State :=
  let l := s.pace.level + 1
  let s := { s with pace := { s.pace with level := l } }
  if l < 5 then s
  else
    let s := if s.pace.nAtFive.isNone then { s with pace := { s.pace with nAtFive := some (tracking s) } } else s
    match worstPan s with
    | some p => if paceParN s pPwrPanKeep < tracking s then suspendPan s p else s
    | none => s

/-- The level moves up until a step has shed work, or to the exhausted level (spec/02 R53). -/
def shedOne : Nat → Nat → State → State
  | 0, _, s => s
  | n + 1, top, s =>
    if top ≤ s.pace.level then s
    else
      let did := sheds s (s.pace.level + 1)
      let s := shedTo s
      if did then s else shedOne n top s

/-- Every step up to the exhausted level (spec/02 R55). -/
def shedAll : Nat → Nat → State → State
  | 0, _, s => s
  | n + 1, top, s => if top ≤ s.pace.level then s else shedAll n top (shedTo s)

/-- Adds to PWR_PACE_CNT.shed_cnt, saturating. -/
def addShed (s : State) (n : Nat) : State :=
  { s with pace := { s.pace with shedCnt := BitVec.ofNat 16 (min 65535 (s.pace.shedCnt.toNat + n)) } }

/-- pwr.relapse_win in DTC counts. -/
def relapseWin (s : State) : Nat := paceParN s pPwrRelapseWin * countsPerMs

/-- Relapse windows that have passed close: b returns to 0 where no relapse has followed the restore (spec/02 R58). -/
def closeWindows (s : State) : State :=
  let past (r : Nat × Nat × Bool) : Bool := decide (r.2.1 + relapseWin s ≤ dtcNow s)
  let p := s.pace
  { s with pace := { p with restores := p.restores.filter (fun r => !past r),
                            backoff := if p.restores.any (fun r => past r && r.2.2) then 0 else p.backoff } }

/-- Levels above `old` have been shed again: each that was restored within the relapse window is a relapse (spec/02
R58). -/
def relapse (s : State) (old : Nat) : State :=
  let p := s.pace
  let again (r : Nat × Nat × Bool) : Bool := decide (old < r.1 ∧ r.1 ≤ p.level)
  let n := (p.restores.filter again).length
  if n = 0 then s
  else { s with pace := { p with backoff := min (p.backoff + n) (paceParN s pPwrBackoffMax),
                                 restores := (p.restores.filter (fun r => !again r)).map (fun r => (r.1, r.2.1, false)) } }

/-- What follows a shed step from level `old`: relapses count (spec/02 R58), the runs restart, and the level's leaving 0
is posted (spec/02 R56). -/
def afterShed (s : State) (old : Nat) : State :=
  let s := relapse (closeWindows s) old
  let s := { s with pace := { s.pace with hiRun := 0, quietRun := 0 } }
  if old = 0 ∧ s.pace.level ≠ 0 then notePace s 0 else s

/-- R55: a dwell epoch in progress is abandoned, to be repeated later. -/
def jumpShed (s : State) : State :=
  let old := s.pace.level
  let s := dropDwell (shedAll (exhausted s) (exhausted s) s)
  afterShed (addShed { s with pace := { s.pace with jump := true } } (s.pace.level - old)) old

/-- The fill has reached pwr.shed_jump: the Pace Monitor moves to the exhausted level at once (spec/02 R55). -/
def jumpCheck (s : State) : State :=
  if paceRuns s ∧ paceParN s pPwrShedJump ≤ s.samp.fifo.length ∧ s.pace.level < exhausted s then jumpShed s else s

/-- SAMPLE_ARRIVAL (spec/02 R55, R60, spec/03 R73-R75). -/
def execSampleArrival (sdata : BitVec 4) (s : State) : Host.Outcome State Fault Refusal :=
  if ¬ s.samp.live then .next s
  else
    let s := { s with samp := { s.samp with phaseIdx := 1 - s.samp.phaseIdx } }
    if ¬ s.samp.admitting then .next { s with pace := { s.pace with gapNow := true } }
    else
      let s := countSample s sdata
      if 4096 ≤ s.samp.fifo.length then .next (overrunSample s) else .next (jumpCheck (pushSample s sdata))

/-- R51. -/
def stepShed (s : State) : State :=
  let old := s.pace.level
  afterShed (addShed (shedOne (exhausted s) (exhausted s) s) 1) old

/-- Restores every suspended pan, in the reverse of their suspension. -/
def restoreAll : Nat → State → State
  | 0, s => s
  | n + 1, s => match s.pace.suspOrder with
    | [] => s
    | _ => restoreAll n (restorePan s)

/-- One step is restored (spec/02 R57): one level, also where a shed step passed several (log entry 86). -/
def restoreStep (s : State) : State :=
  let l := s.pace.level
  let s := if l = 5 then restoreAll 32 { s with pace := { s.pace with nAtFive := none } }
           else if 5 < l then restorePan s else s
  let s := { s with pace := { s.pace with level := l - 1, quietRun := 0, hiRun := 0,
                                          restores := s.pace.restores ++ [(l, dtcNow s, true)] } }
  if l = 1 then notePace s 1 else s

/-- The voltage command of a pace period (spec/02 R48-R50). The count of low periods goes on and restarts also while
pwr.pace_en is 0 (log entry 87). -/
def paceCommand (s : State) (fill : Nat) : State :=
  let low := if fill ≤ paceParN s pPwrPaceLo then s.pace.lowRun + 1 else 0
  let down := decide (fill < paceParN s pPwrPaceHi) && decide (paceParN s pPwrPaceDnHold ≤ low)
  let s := { s with pace := { s.pace with lowRun := if down then 0 else low } }
  if ¬ paceEn s then s
  else if paceParN s pPwrPaceHi ≤ fill then paceCmd s (pacePar s pPwrPaceStep)
  else if down then paceCmd s (-(pacePar s pPwrPaceStep))
  else s

/-- The pace period counts towards a restore (spec/02 R57), with VCORE as commanded before it ends; with pwr.pace_en 0 the
fill alone decides (spec/02 R50). -/
def isQuiet (s : State) (fill : Nat) : Bool :=
  decide (fill ≤ paceParN s pPwrPaceLo) && !s.pace.overrun &&
    (!paceEn s || decide ((s.vreg.target : Int) ≤ s.par pVregCeil - pacePar s pPwrUnshedMargin))

/-- The end of a pace period: parameters written in it apply from now on (spec/02 R63). An overrun ends with a whole pace
period without a discarded sample (log entry 88). -/
def endPeriod (s : State) : State :=
  { s with pace := { s.pace with overrun := false, ovrNoted := s.pace.ovrNoted && s.pace.overrun, old := [] } }

/-- The Pace Monitor at the end of a pace period (spec/02 R48-R58). -/
def pacePeriod (s : State) : State :=
  let s := closeWindows (releaseBrine (setUnread s (fun _ n => n)))
  let fill := s.samp.fifo.length
  let ceil := s.pace.atCeil || !paceEn s
  let hi := if ceil ∧ paceParN s pPwrPaceHi ≤ fill then s.pace.hiRun + 1 else 0
  let quiet := if isQuiet s fill then s.pace.quietRun + 1 else 0
  let s := paceCommand s fill
  let s := { s with pace := { s.pace with hiRun := hi, quietRun := quiet } }
  let s := if paceParN s pPwrShedJump ≤ fill ∧ s.pace.level < exhausted s then jumpShed s
    else if paceParN s pPwrShedWait ≤ hi ∧ s.pace.level < exhausted s then stepShed s
    else if paceParN s pPwrUnshedHold * 2 ^ s.pace.backoff ≤ quiet ∧ 0 < s.pace.level then restoreStep s
    else s
  endPeriod s

/-- PACE_PERIOD_END: the next end of a pace period of 1,024 REFIN periods (spec/02 R47, R48, spec/03 R70, R71): a DTC
multiple of 1,024 (log entry 89). -/
def execPacePeriodEnd (o : SclkObs) (s : State) : Host.Outcome State Fault Refusal :=
  if paceRuns s then
    let s := checkSclk (carryDtc s ((dtcNow s / 1024 + 1) * 1024)) o.edges
    let s := match o.capture with
      | some c => if s.samp.admitting then capturePhase s c else s
      | none => s
    .next (pacePeriod s)
  else .next s

/-- RELAPSE_WINDOW_EXPIRY: pwr.relapse_win after the oldest restore (spec/02 R58). -/
def execRelapseWindowExpiry (s : State) : Host.Outcome State Fault Refusal :=
  match s.pace.restores with
  | r :: _ => .next (closeWindows (carryDtc s (r.2.1 + relapseWin s)))
  | [] => .next s

/-- SCLK_ABSENCE: no SCLK edge for 64 REFIN periods (spec/03 R71). -/
def execSclkAbsence (s : State) : Host.Outcome State Fault Refusal :=
  if s.samp.live ∧ ¬ s.samp.faulted then .next (sclkFault s)
  else .next { s with samp := { s.samp with goodRun := 0 } }

end Sys2Proof.Machine
end

