-- ==== Sys2Proof/Machine/Fire.lean ====
section
/-! DEFINITION. The events of the Event Scheduler and of the timemark inputs (spec/07 R177-R189, spec/16 R389). -/

namespace Sys2Proof.Machine

/-- SLOT_COMMIT_POINT: 20 us of GNSS time before its target the occurrence is committed as its image then stands
(spec/07 R177). -/
def execSlotCommitPoint (i : Fin 1024) (s : State) : Host.Outcome State Fault Refusal :=
  match slotAt s i.val with
  | some x =>
    if s.time.running ∧ x.com.isNone ∧ x.late.isNone then
      let s := carryGnss s (x.img.target - ticks20us)
      .next (putSlot s i.val { x with com := some x.img })
    else .next s
  | none => .next s

/-- A slot that has fallen due is a wake source when it has a doorbell or an EVT action (spec/16 R389, R396). -/
def dueWake (s : State) (m : SlotImg) : State :=
  if m.actions.getLsbD 1 ∨ m.actions.getLsbD 2 then idleNow (wakeEvent s 7) else s

/-- SLOT_FIRE: the committed occurrence falls due (spec/07 R179). Of slots due at the same time the lowest is first
(spec/07 R180). -/
def execSlotFire (i : Fin 1024) (s : State) : Host.Outcome State Fault Refusal :=
  match slotAt s i.val with
  | some x =>
    match x.com, x.late with
    | some m, none =>
      if s.time.running ∧ ¬ lowerDue s i.val m.target then .next (dueWake (fireOnTime s i.val x) m) else .next s
    | _, _ => .next s
  | none => .next s

/-- SLOT_LATE_FIRE: the late firing falls due (spec/07 R178, R182). -/
def execSlotLateFire (i : Fin 1024) (s : State) : Host.Outcome State Fault Refusal :=
  match slotAt s i.val with
  | some x =>
    match x.late with
    | some t =>
      if s.time.running ∧ ¬ lowerDue s i.val t then .next (dueWake (fireLate s i.val x t) (x.com.getD x.img))
      else .next s
    | none => .next s
  | none => .next s

/-- EVOUT_PULSE_END: the next trailing edge of a pin (spec/07 R179, R180). At the tick of a slot's edge on the same pin
it runs ahead of that edge (log entry 28). -/
def execEvoutPulseEnd (pin : Fin 4) (s : State) : Host.Outcome State Fault Refusal :=
  let x := pinAt s pin
  match x.ends with
  | e :: es =>
    if s.time.running then
      let n := evEdge s pin.val e
      let s := carryTick s n
      .next (setPin s pin { x with ends := es, active := x.active && x.lastAt == some e, placed := n })
    else .next s
  | [] => .next s

/-- An edge on this input is a wake source: its tm_wake bit is set, as copied into AON at the commit of DEEP SLEEP
(spec/16 R396). -/
def tmWakes (s : State) (k : Fin 2) : Bool :=
  if s.pwr.state = .deep then s.pwr.tmWakeAon.getLsbD k.val else s.evs.tmWake.getLsbD k.val

/-- TMARK_EDGE: an edge at step `step` of the present REFIN period (spec/07 R185-R187, spec/16 R396). -/
def execTmarkEdge (k : Fin 2) (rising : Bool) (step : Fin 64) (s : State) : Host.Outcome State Fault Refusal :=
  if ¬ edgeSelected s k rising then .next s
  else
    let wake := tmWakes s k
    let s := if s.time.running ∧ s.pwr.coreUp ∧ (s.pwr.state ≠ .sleep ∨ wake) then stampEdge s k step.val else s
    if wake then .next (idleNow (wakeEvent s (9 + k.val))) else .next s

/-- TMARK_RECORD_POST: the fabric accepts the oldest stamp of an input; of stamps at the same tick TMARK0's is first
(spec/07 R186-R188). -/
def execTmarkRecordPost (k : Fin 2) (s : State) : Host.Outcome State Fault Refusal :=
  let first : Bool := match (tmAt s 0).buf, (tmAt s k).buf with
    | a :: _, b :: _ => k == 0 || a.ticks != b.ticks
    | _, _ => true
  if s.pwr.coreUp ∧ (s.pwr.state = .run ∨ s.pwr.state = .idle) ∧ first then .next (postStamp s k) else .next s

end Sys2Proof.Machine
end

