-- ==== Sys2Proof/Machine/Command.lean ====
section
/-! DEFINITION. Sluice's channel timeout and the Runtime commands (spec/10 R249, R257-R269, spec/20 R481). -/

namespace Sys2Proof.Machine

/-- CHANNEL_TIMEOUT: a channel is still full ntc.chN_tmo us of DTC time after the ring; the sender's flag is set once. The
notice of a CP3 operation has sys.cp3_tmo in place of it (CP3_TIMEOUT) (spec/10 R249). -/
def execChannelTimeout (ch : Fin 64) (s : State) : Host.Outcome State Fault Refusal :=
  match chanFull s ch.val with
  | some x =>
    if (s.cp.serving.isSome ∧ ch.val = s.cp.chan) ∨ x.timed ∨ s.par (pChTmo ch.val) = 0 ∨ ¬ s.time.running then .next s
    else
      let s := carryDtc s (x.rungAt + ceilDiv (s.parN (pChTmo ch.val) * countsPerMs) 1000)
      let s := { s with slu := { s.slu with chans := mput s.slu.chans ch.val { x with timed := true } } }
      match clsOf x.sender.toNat with
      | .trk => .next (s.modCore .trk (fun c => { c with tmos := setBit c.tmos ch.val true }))
      | .svc => .next (s.modCore .svc (fun c => { c with tmos := setBit c.tmos ch.val true }))
      | .ns => .next (s.modCls .ns (fun b => { b with dbTmo := true }))
      | .sec => .next (s.modCls .sec (fun b => { b with dbTmo := true }))
      | _ => .next s
  | none => .next s

/-! ### Taking and completing a command (spec/10 R259, R264-R267) -/

/-- A command as SVC has taken it: who posted it, whether it is a block command, the opcode, the immediate argument, and
the argument words. -/
structure Cmd where
  notice : Notice
  cls    : Cls
  block  : Bool
  op     : Nat
  arg    : Nat
  n      : Nat
  args   : List Word
deriving DecidableEq, Repr

/-- The answer of a command: the state, the status code, the result words. -/
abbrev Answer := State × Nat × List Word

/-- Completed with a status code and no effect (spec/10 R267). -/
def answer (s : State) (code : Nat) : Answer := (s, code, [])

/-- SVC takes commands: it runs, in RUN or IDLE, NTC holds fewer than 512 entries, and no command that it took waits for its
completion (spec/10 R259, spec/19 R457, spec/20 R473; log entry 96). -/
def takesCmd (s : State) : Bool :=
  coreRuns s .svc && s.pwr.coreUp && (s.pwr.state == .run || s.pwr.state == .idle) && decide (s.slu.ntc.length < 512) &&
    s.mir.heldOps.isEmpty

/-- A block's place fails R264; `len` is its length in words. With the mail bank lost every block fails
(spec/10 R254, R264). -/
def blockBad (s : State) (b w len : Nat) : Bool :=
  !mailOk s || !hostBank s b || w % 2 == 1 || decide (16384 < w + len) ||
    (b == s.parN pNtcMailBank && decide (0x3000 < w + len))

/-- A block is read word by word, each a read on demand (spec/11 R286, R291): the state, the words, and whether a word
was poisoned. -/
def readBlock (s : State) (b w : Nat) : Nat → State × List Word × Bool
  | 0 => (s, [], false)
  | n + 1 =>
    let r := demandRead s b w
    let t := readBlock r.1 b (w + 1) n
    (t.1, r.2.1 :: t.2.1, r.2.2 || t.2.2)

/-- The command of a notice, or the status code with which it fails, with its DONE in the form of an immediate command
where the block fails R264. -/
def readCmd (s : State) (n : Notice) : State × Cmd × Option Nat :=
  let cls := clsOf n.cls.toNat
  let imm (op : Nat) : Cmd := ⟨n, cls, false, op, immOf n % 512, 0, []⟩
  if n.kind = 1 then (s, imm (immOf n / 512), none)
  else if n.kind ≠ 0 then (s, imm 0xFF, some 1)
  else
    let b := n.bank.toNat
    let w := n.offset.toNat
    let bad (op : Nat) : Cmd := { imm op with arg := 0 }
    if blockBad s b w 3 then (s, bad 0xFF, some 3)
    else
      let h := demandRead s b w
      let len := h.2.1.toNat / 256
      let op := h.2.1.toNat % 256
      if h.2.2 then (h.1, ⟨n, cls, true, 0xFF, 0, 0, []⟩, some 6)
      else if blockBad s b w (3 + min 60 len) then (h.1, bad op, some 3)
      else
        let r := readBlock h.1 b (w + 1) (2 + min 60 len)
        (r.1, ⟨n, cls, true, op, 0, len, r.2.1.drop 2⟩, if r.2.2 then some 6 else none)

/-- The form of each opcode: none when unknown, whether it is a block command, its argument count, whether it is
secure-only (spec/10 R268). -/
def opForm : Nat → Option (Bool × Nat × Bool)
  | 0x01 => some (true, 10, false) | 0x02 => some (true, 8, false) | 0x03 => some (true, 3, false)
  | 0x04 => some (true, 3, false) | 0x05 => some (false, 0, false) | 0x06 => some (true, 4, false)
  | 0x07 => some (false, 0, false) | 0x08 => some (false, 0, false) | 0x09 => some (false, 0, true)
  | 0x0A => some (true, 13, false) | 0x0B => some (true, 14, false) | 0x0C => some (true, 1, false)
  | 0x0D => some (true, 2, false) | 0x0E => some (true, 14, false) | 0x0F => some (false, 0, true)
  | 0x10 => some (false, 0, false) | 0x11 => some (false, 0, false) | 0x12 => some (false, 0, false)
  | 0x13 => some (false, 0, true) | 0x14 => some (false, 0, true) | 0x15 => some (false, 0, true)
  | 0x16 => some (false, 0, false)
  | _ => none

/-- An opcode of the customer range (spec/10 R268, spec/12 R325). -/
def isCustom (op : Nat) : Bool := decide (0x80 ≤ op ∧ op ≤ 0xFE)

/-- The status code with which a command fails before its own rules are looked at, in the order of log entry 35. -/
def precheck (s : State) (c : Cmd) : Option Nat :=
  match opForm c.op with
  | none => if isCustom c.op ∧ c.block ∧ s.parBit pSysPramEn 1 ∧ ¬ s.svc.parked then none else some 1
  | some (blk, n, sec) =>
    if blk ≠ c.block then some 1
    else if sec ∧ c.cls = .ns then some 5
    else if (s.pwr.fuseBnk.getLsbD 0 ∨ s.pwr.fuseBnk.getLsbD 1) ∧ ¬ [0x10, 0x11, 0x12, 0x16].contains c.op then some 4
    else if blk ∧ c.n ≠ n then some 2
    else none

/-- The DONE notice, and the status word of a block; no Sluice delivery is written into a bank that is withdrawn or no
longer HOST's (spec/10 R253, R254, R264, R266). -/
def finish (s : State) (c : Cmd) (code : Nat) (res : List Word) : State :=
  let b := c.notice.bank.toNat
  let w := c.notice.offset.toNat
  if c.block then
    let s := if hostBank s b then putWord (putWords s b (w + 3) res) b (w + 1) (BitVec.ofNat 16 (0x0100 + code)) else s
    pushNtc s { c.notice with cls := 3, kind := 2 }
  else pushNtc s { immNotice 3 c.notice.client (c.op * 512 + code * 2 + 1) with kind := 2 }

/-- SVC leaves WAIT to take a command, which refuses an entry attempt that it had replied to (spec/16 R386). -/
def rouseSvc (s : State) : State := if s.pwr.attempt ∧ replied s .svc then idleNow (coreRefuses s .svc) else s

/-- A slot request that a primary holds from its TAKE on (spec/19 R457). -/
def holdsCmd (s : State) (c : Cmd) : Bool :=
  s.mir.holdSlots && (c.op == 0x0A || c.op == 0x0B || c.op == 0x0C || c.op == 0x0D)

/-- The command at the head of CMD is taken and completed in one step, when its opcode is one that `mine` accepts or when
it fails before its opcode matters (log entry 36). -/
def serve (mine : Nat → Bool) (run : Cmd → State → Answer) (s : State) : Host.Outcome State Fault Refusal :=
  match s.slu.cmd with
  | [] => .next s
  | n :: rest =>
    if ¬ takesCmd s then .next s
    else
      let r := readCmd s n
      let c := r.2.1
      let err := match r.2.2 with
        | some e => some e
        | none => precheck r.1 c
      if err.isNone ∧ ¬ mine c.op then .next s
      else
        let s := rouseSvc { r.1 with slu := { r.1.slu with cmd := rest }, pwr := { r.1.pwr with busyAt := dtcNow r.1 } }
        match err with
        | some e => .next (finish s c e [])
        | none =>
          if holdsCmd s c then .next { s with mir := { s.mir with heldOps := s.mir.heldOps ++ [c.notice] } }
          else
            let a := run c s
            .next (finish a.1 c a.2.1 (if a.2.1 = 0 then a.2.2 else []))

/-- Argument word `i`. -/
def Cmd.w (c : Cmd) (i : Nat) : Word := wordAt c.args i

/-- Two argument words as a signed number. -/
def Cmd.s32 (c : Cmd) (i : Nat) : Int := (ofHalves (c.w (i + 1)) (c.w i)).toInt

/-! ### Time, position, frequency (spec/01 R23, R24, R27, spec/05 R125, spec/04 R97) -/

/-- TIME_SET. In HOST-SET no reference anchor is held (spec/05 R131). -/
def runTimeSet (c : Cmd) (s : State) : Answer :=
  let d := natOf (c.args.take 4) % 2 ^ 52
  let age := (s.time.dtc.toNat + 2 ^ 52 - d) % 2 ^ 52
  let tow := natOf [c.w 5, c.w 6]
  let sub := natOf [c.w 7, c.w 8]
  match uncDecode (c.w 9) with
  | none => answer s 2
  | some u =>
    if 2 ^ 32 < age ∨ 604800 ≤ tow ∨ 1047552000 ≤ sub then answer s 2
    else if tqGnss s.time.tq then answer s 4
    else if s.time.tq != .unknown && (match uncNow s with | some v => decide (v ≤ u) | none => false) then answer s 4
    else
      let at_ : Int := ((c.w 4).toNat * 604800 + tow : Nat) * ticksPerSec + sub
      let now := at_ + (age : Int) * 64 * (1000000000000 + s.time.eps) / 1000000000000
      let s := { s with time := { s.time with hostAt := elapsed s }, integ := { s.integ with ref := none } }
      (setTime (setUnc s u (s.parN pSysTcxoStab * 1000)) now .hostSet, 0, [])

/-- POS_SET: latitude lies within 90 degrees. -/
def runPosSet (c : Cmd) (s : State) : Answer :=
  if 2 ^ 30 < (c.s32 0).natAbs then answer s 2
  else
    let p : Position := ⟨c.s32 0, c.s32 2, c.s32 4, (c.w 6).toNat, (c.w 7).toNat⟩
    let s := restartSurvey s
    ({ s with time := { s.time with pos := some p } }, 0, [])

/-- FREQ_AID. GNSS time is continuous across the new frequency error. -/
def runFreqAid (c : Cmd) (s : State) : Answer :=
  if c.w 2 = 0 then answer s 2
  else if tqGnss s.time.tq then answer s 4
  else
    let t := gnssNow s
    let left := s.time.slewLeft - slewed s ((dtcNow s - s.time.anchorD) * 64)
    let s := { s with time := { s.time with freqKnown := true, freqSigma := (c.w 2).toNat } }
    let s := if s.time.tq = .unknown then s
      else { s with time := { s.time with anchorT := t, anchorD := dtcNow s, slewLeft := left } }
    ({ s with time := { s.time with eps := c.s32 0 } }, 0, [])

/-! ### Search and pans (spec/04 R96-R102, R115, R119, spec/14 R353) -/

/-- SEARCH. -/
def runSearch (a : Assist) (c : Cmd) (s : State) : Answer :=
  if s.par pAcqMode = 2 then answer s 4
  else
    let mask := (natOf [c.w 0, c.w 1]) &&& s.parN pAcqPrnMask
    let plan := planFor s a mask (!(c.w 2).getLsbD 0)
    if s.acq.searching ∧ s.acq.cell.isSome then ({ s with acq := { s.acq with newPlan := some plan } }, 0, [])
    else if s.acq.searching then (beginSearch (endSearch s 2) plan, 0, [])
    else (beginSearch s plan, 0, [])

/-- SEARCH_STOP. A cell search that serves a DWELL goes on. -/
def runSearchStop (c : Cmd) (s : State) : Answer :=
  if c.arg ≠ 0 then answer s 2
  else if ¬ s.acq.searching then (s, 0, [])
  else
    let cell := s.acq.cell
    let t := endSearch s 1
    match cell with
    | some x => if x.op.isSome then ({ t with acq := { t.acq with cell := some x } }, 0, []) else (advanceSearch t, 0, [])
    | none => (t, 0, [])

/-- PAN_START: code phase and Doppler are those of the start (log entry 75). -/
def runPanStart (c : Cmd) (s : State) : Answer :=
  let p := (c.w 0).toNat
  let prn := (c.w 1).toNat
  let code := (c.w 2).toNat
  if (32 ≤ p ∧ p ≠ 0xFFFF) ∨ prn = 0 ∨ 64 ≤ prn ∨ 32736 ≤ code then answer s 2
  else if ¬ prnOk s prn ∨ pansOf s prn ≠ [] then answer s 4
  else
    let q := if p = 0xFFFF then freePan s none
      else if groupOk s (p / 8) ∧ (panAt s p).isNone then some p else none
    match q with
    | some k => (startPan s k prn code (c.w 3).toInt (nextBoundary s) true, 0, [BitVec.ofNat 16 k])
    | none => answer s 4

/-- PAN_STOP. -/
def runPanStop (c : Cmd) (s : State) : Answer :=
  if 32 ≤ c.arg then answer s 2
  else if (panAt s c.arg).isNone then answer s 4
  else (releasePan s c.arg, 0, [])

/-- TWIN. -/
def runTwin (c : Cmd) (s : State) : Answer :=
  if c.arg = 0 ∨ 64 ≤ c.arg then answer s 2
  else match requestTwin s c.arg with
    | some r => (r.1, 0, [])
    | none => answer s 4

/-- INT_REBASE. -/
def runIntRebase (c : Cmd) (s : State) : Answer :=
  if c.arg ≠ 0 then answer s 2 else (rebaseInteg s, 0, [])

/-! ### Slots (spec/07 R175-R178) -/

/-- SLOT_ARM. -/
def runSlotArm (c : Cmd) (s : State) : Answer :=
  let i := if c.w 0 = 0xFFFF then none else some (c.w 0).toNat
  let r := slotArm s c.cls c.notice.client i c.args
  (r.1, r.2.1, [BitVec.ofNat 16 r.2.2])

/-- SLOT_MODIFY. -/
def runSlotModify (c : Cmd) (s : State) : Answer :=
  let r := slotModify s c.cls c.notice.client (c.w 0).toNat c.args
  (r.1, r.2, [])

/-- SLOT_CANCEL. -/
def runSlotCancel (c : Cmd) (s : State) : Answer :=
  let r := slotCancel s c.cls c.notice.client (c.w 0).toNat
  (r.1, r.2, [])

/-- SLOT_CANCEL_CLIENT: the class and client given count only from host-secure. -/
def runSlotCancelClient (c : Cmd) (s : State) : Answer :=
  let sec := c.cls == .sec
  let k := (c.w 0).toNat % 8
  if sec ∧ (6 ≤ k ∨ 1024 ≤ (c.w 1).toNat) then answer s 2
  else match slotGate s c.cls with
    | some e => answer s e
    | none =>
      let r := cancelList s (if sec then clsOf k else c.cls)
        (if sec then BitVec.ofNat 10 (c.w 1).toNat else c.notice.client) s.evs.slots
      (r.1, 0, [BitVec.ofNat 16 r.2])

/-- SLOT_QUERY. -/
def runSlotQuery (c : Cmd) (s : State) : Answer :=
  let r := slotQuery s c.cls (c.w 0).toNat
  (s, r.1, r.2)

/-! ### Cores, power, banks, pair (spec/10 R268) -/

/-- PROG_LOAD. -/
def runProgLoad (c : Cmd) (s : State) : Answer :=
  let k := coreOf (c.arg % 2)
  if 4 ≤ c.arg then answer s 2
  else if (s.core k).held ∨ (s.core k).halted then answer s 4
  else if c.arg.testBit 1 then (s.modCore k (fun x => { x with parked := true }), 0, [])
  else (takeCrc (s.modCore k (fun x => { x with parked := false })) k, 0, [])

/-- POWER: a request of 2-4 starts or joins an attempt; 0 or 1 withdraws one that has not committed (spec/16 R385). -/
def runPower (c : Cmd) (s : State) : Answer :=
  if 5 ≤ c.arg then answer s 2
  else if 2 ≤ c.arg then (idleNow (writeReq s .svc c.arg), 0, [])
  else (idleNow (writeReq s .svc 0), 0, [])

/-- BANK_LEND. -/
def runBankLend (c : Cmd) (s : State) : Answer :=
  if c.arg ≠ 5 ∨ s.bank.lent ∨ s.mir.role ≠ 0 ∨ bankOut s 5 ∨ ownerOf s 5 ≠ .svc then answer s 4
  else
    let s := setOwner s 5 .host
    ({ s with bank := { s.bank with lent := true } }, 0, [])

/-- BANK_RECALL. -/
def runBankRecall (c : Cmd) (s : State) : Answer :=
  if c.arg ≠ 5 then answer s 2
  else if ¬ s.bank.lent ∨ s.par pNtcMailBank = 5 ∨ s.par pNtcMsrBank = 5 ∨ s.par pNtcEvtBank = 5 then answer s 4
  else
    let s := setOwner s 5 .svc
    ({ s with bank := { s.bank with lent := false } }, 0, [])

/-- MIR_ROLE (spec/19 R442). -/
def runMirRole (c : Cmd) (s : State) : Answer :=
  if 3 ≤ c.arg then answer s 2
  else if s.bank.lent ∨ (c.arg ≠ 0 ∧ ¬ unitOk s 5) then answer s 4
  else (setRole s c.arg, 0, [])

/-- MIR_TAKEOVER (spec/19 R456). -/
def runMirTakeover (c : Cmd) (s : State) : Answer :=
  if c.arg ≠ 0 then answer s 2
  else if s.mir.role ≠ 2 then answer s 4
  else if s.mir.take.isSome then (s, 0, [])
  else (startTake s 0, 0, [])

/-- MIR_COMPARE (spec/19 R455). -/
def runMirCompare (c : Cmd) (s : State) : Answer :=
  if 2 ≤ c.arg then answer s 2
  else if s.mir.role = 0 then answer s 4
  else (mirCompare s (c.arg == 1), 0, [])

/-! ### The rows -/

/-- TIME_SET, opcode 0x01 (spec/10 R268). -/
def execTimeSet (s : State) : Host.Outcome State Fault Refusal := serve (· == 0x01) runTimeSet s
/-- POS_SET, opcode 0x02. -/
def execPosSet (s : State) : Host.Outcome State Fault Refusal := serve (· == 0x02) runPosSet s
/-- FREQ_AID, opcode 0x03. -/
def execFreqAid (s : State) : Host.Outcome State Fault Refusal := serve (· == 0x03) runFreqAid s
/-- SEARCH, opcode 0x04. -/
def execSearch (a : Assist) (s : State) : Host.Outcome State Fault Refusal := serve (· == 0x04) (runSearch a) s
/-- SEARCH_STOP, opcode 0x05. -/
def execSearchStop (s : State) : Host.Outcome State Fault Refusal := serve (· == 0x05) runSearchStop s
/-- PAN_START, opcode 0x06. -/
def execPanStart (s : State) : Host.Outcome State Fault Refusal := serve (· == 0x06) runPanStart s
/-- PAN_STOP, opcode 0x07. -/
def execPanStop (s : State) : Host.Outcome State Fault Refusal := serve (· == 0x07) runPanStop s
/-- TWIN, opcode 0x08. -/
def execTwin (s : State) : Host.Outcome State Fault Refusal := serve (· == 0x08) runTwin s
/-- INT_REBASE, opcode 0x09. -/
def execIntRebase (s : State) : Host.Outcome State Fault Refusal := serve (· == 0x09) runIntRebase s
/-- SLOT_ARM, opcode 0x0A. -/
def execSlotArm (s : State) : Host.Outcome State Fault Refusal := serve (· == 0x0A) runSlotArm s
/-- SLOT_MODIFY, opcode 0x0B. -/
def execSlotModify (s : State) : Host.Outcome State Fault Refusal := serve (· == 0x0B) runSlotModify s
/-- SLOT_CANCEL, opcode 0x0C. -/
def execSlotCancel (s : State) : Host.Outcome State Fault Refusal := serve (· == 0x0C) runSlotCancel s
/-- SLOT_CANCEL_CLIENT, opcode 0x0D. -/
def execSlotCancelClient (s : State) : Host.Outcome State Fault Refusal := serve (· == 0x0D) runSlotCancelClient s
/-- SLOT_QUERY, opcode 0x0E. -/
def execSlotQuery (s : State) : Host.Outcome State Fault Refusal := serve (· == 0x0E) runSlotQuery s
/-- PROG_LOAD, opcode 0x0F. -/
def execProgLoad (s : State) : Host.Outcome State Fault Refusal := serve (· == 0x0F) runProgLoad s
/-- POWER, opcode 0x10. -/
def execPower (s : State) : Host.Outcome State Fault Refusal := serve (· == 0x10) runPower s
/-- BANK_LEND, opcode 0x11. -/
def execBankLend (s : State) : Host.Outcome State Fault Refusal := serve (· == 0x11) runBankLend s
/-- BANK_RECALL, opcode 0x12. -/
def execBankRecall (s : State) : Host.Outcome State Fault Refusal := serve (· == 0x12) runBankRecall s
/-- MIR_ROLE, opcode 0x13. -/
def execMirRole (s : State) : Host.Outcome State Fault Refusal := serve (· == 0x13) runMirRole s
/-- MIR_TAKEOVER, opcode 0x14. -/
def execMirTakeover (s : State) : Host.Outcome State Fault Refusal := serve (· == 0x14) runMirTakeover s
/-- MIR_COMPARE, opcode 0x15. -/
def execMirCompare (s : State) : Host.Outcome State Fault Refusal := serve (· == 0x15) runMirCompare s
/-- NOP, opcode 0x16. -/
def execNopCommand (s : State) : Host.Outcome State Fault Refusal := serve (· == 0x16) (fun _ s => answer s 0) s
/-- CUSTOMER_COMMAND, opcodes 0x80-0xFE: hook 2 makes its calls of the Runtime and returns the status code (spec/12 R325). -/
def execCustomerCommand (o : HookRun) (s : State) : Host.Outcome State Fault Refusal :=
  serve isCustom (fun _ s => answer (rtCalls s .svc o.calls) o.status.toNat) s

end Sys2Proof.Machine
end

