-- ==== Sys2Proof/Machine/Flags.lean ====
section
/-! DEFINITION. The results and flags of the Galros arithmetic, logic, shift and decimal operations (spec/12 R302,
spec/13 R333-R337). -/

namespace Sys2Proof.Machine

/-- What an operation gives: its value, and each flag it changes; `none` leaves a flag unchanged (spec/12 R302). -/
structure ARes where
  val : Word
  z   : Option Bool
  c   : Option Bool
  n   : Option Bool
  v   : Option Bool
deriving DecidableEq, Repr

/-- No flag changes. -/
def resOnly (r : Word) : ARes := ⟨r, none, none, none, none⟩

/-- Z and N follow the result. -/
def resZN (r : Word) : ARes := ⟨r, some (r == 0), none, some r.msb, none⟩

/-- Z, C and N. -/
def resZCN (r : Word) (c : Bool) : ARes := ⟨r, some (r == 0), some c, some r.msb, none⟩

/-- Z, C, N and V. -/
def resAll (r : Word) (c v : Bool) : ARes := ⟨r, some (r == 0), some c, some r.msb, some v⟩

/-- a + b + k: C is the carry out of bit 15, V the signed overflow (spec/12 R302). -/
def addRes (a b : Word) (k : Bool) : ARes :=
  let r := a + b + BitVec.ofNat 16 (bit k)
  resAll r (decide (65536 ≤ a.toNat + b.toNat + bit k)) (decide (a.toInt + b.toInt + bit k ≠ r.toInt))

/-- a - b - k: C is the borrow, V the signed overflow (spec/12 R302). -/
def subRes (a b : Word) (k : Bool) : ARes :=
  let r := a - b - BitVec.ofNat 16 (bit k)
  resAll r (decide (a.toNat < b.toNat + bit k)) (decide (a.toInt - b.toInt - bit k ≠ r.toInt))

/-- A two-register operation: carry in, first operand, second operand (spec/13 R333). -/
abbrev Alu2 := Bool → Word → Word → ARes

def aluMov : Alu2 := fun _ _ b => resOnly b
def aluAdd : Alu2 := fun _ a b => addRes a b false
def aluAdc : Alu2 := fun k a b => addRes a b k
def aluSub : Alu2 := fun _ a b => subRes a b false
def aluSbc : Alu2 := fun k a b => subRes a b k
def aluAnd : Alu2 := fun _ a b => resZN (a &&& b)
def aluOr : Alu2 := fun _ a b => resZN (a ||| b)
def aluXor : Alu2 := fun _ a b => resZN (a ^^^ b)

/-- Four decimal digits added from the lowest, with the carry (spec/13 R334). -/
def daddDigits (a b : Nat) : Nat → Bool → Nat × Bool
  | 0, k => (0, k)
  | n + 1, k =>
    let t := a % 16 + b % 16 + bit k
    let h := daddDigits (a / 16) (b / 16) n (decide (10 ≤ t))
    ((if 10 ≤ t then (t - 10) % 16 else t) + 16 * h.1, h.2)

/-- Four decimal digits subtracted from the lowest, with the borrow (spec/13 R334). -/
def dsubDigits (a b : Nat) : Nat → Bool → Nat × Bool
  | 0, k => (0, k)
  | n + 1, k =>
    let t : Int := (a % 16 : Nat) - (b % 16 : Nat) - (bit k : Nat)
    let h := dsubDigits (a / 16) (b / 16) n (decide (t < 0))
    ((if t < 0 then ((t + 10) % 16).toNat else t.toNat) + 16 * h.1, h.2)

/-- Z and C of a decimal result. -/
def resZC (r : Word) (c : Bool) : ARes := ⟨r, some (r == 0), some c, none, none⟩

def aluDadd : Alu2 := fun k a b => let h := daddDigits a.toNat b.toNat 4 k; resZC (BitVec.ofNat 16 h.1) h.2
def aluDsub : Alu2 := fun k a b => let h := dsubDigits a.toNat b.toNat 4 k; resZC (BitVec.ofNat 16 h.1) h.2

/-- A one-register operation: carry in, operand (spec/13 R337). -/
abbrev Alu1 := Bool → Word → ARes

def aluShl : Alu1 := fun _ r => resZCN (r <<< 1) (r.getLsbD 15)
def aluShr : Alu1 := fun _ r => resZCN (r >>> 1) (r.getLsbD 0)
def aluAsr : Alu1 := fun _ r => resZCN (r.sshiftRight 1) (r.getLsbD 0)
def aluRol : Alu1 := fun _ r => resZCN (r.rotateLeft 1) (r.getLsbD 15)
def aluRor : Alu1 := fun _ r => resZCN (r.rotateRight 1) (r.getLsbD 0)
def aluRlc : Alu1 := fun k r => resZCN (r <<< 1 ||| BitVec.ofNat 16 (bit k)) (r.getLsbD 15)
def aluRrc : Alu1 := fun k r => resZCN (r >>> 1 ||| BitVec.ofNat 16 (bit k * 32768)) (r.getLsbD 0)
def aluSwab : Alu1 := fun _ r => resZN (r.extractLsb' 0 8 ++ r.extractLsb' 8 8)
def aluNot : Alu1 := fun _ r => resZN (~~~ r)
def aluNeg : Alu1 := fun _ r => subRes 0 r false
def aluInc : Alu1 := fun _ r => { addRes r 1 false with c := none }
def aluDec : Alu1 := fun _ r => { subRes r 1 false with c := none }
def aluClr : Alu1 := fun _ _ => resOnly 0
def aluSexb : Alu1 := fun _ r => resZN ((r.extractLsb' 0 8).signExtend 16)

end Sys2Proof.Machine
end

