-- ==== Sys2Proof/Machine/Rake.lean ====
section
/-! DEFINITION. Rake, the rebuild of poisoned structures, and the banks after a power-up (spec/11 R286-R297). -/

namespace Sys2Proof.Machine

/-- A word that the Runtime uses: a word of B0-B4 outside the customer areas (spec/12 R324). -/
def rtWord (b w : Nat) : Bool := decide (b ≤ 4) && !(decide (b ≤ 1) && decide (0x3800 ≤ w % 16384))

/-- SVC's integrity state is cleared; its MSR sequence goes on (spec/05 R136). -/
def clearInteg (s : State) : State :=
  { s with integ := { IntegSt.reset with seq := s.integ.seq, solvedAt := s.integ.solvedAt } }

/-- The Runtime rebuilds the structure that holds a poisoned word, and the word is overwritten (spec/11 R293; log entry
37). Which structure holds it, and its start-up value, are free values. -/
def rebuild (s : State) (b w : Nat) : State :=
  if ¬ rtWord b w ∨ bankOut s b then s
  else
    let k := Config.holder (lin b w)
    let s := if k < 32 then releaseAndQueue s k
      else if k < 64 then { s with pans := { s.pans with eph := mdel s.pans.eph (k - 31),
                                                         ephNew := mdel s.pans.ephNew (k - 31) } }
      else if k < 96 then { s with pans := { s.pans with almPrn := s.pans.almPrn.filter (· != k - 63) } }
      else if k = 96 then { s with time := { s.time with utcValid := false, leap := 0, leapNext := none } }
      else if k = 97 then { s with pans := { s.pans with iono := false } }
      else if k = 98 then { s with time := { s.time with pos := none } }
      else if k = 99 then clearInteg s
      else s
    putWord s.nextFree b w (Config.unitWord s.free)

/-- The owner of a bank is notified of a word that Rake has poisoned (spec/11 R289), and the Runtime rebuilds
(spec/11 R293). -/
def notifyPoison (s : State) (b w : Nat) : State :=
  let flag (s : State) (k : CoreId) : State :=
    let s := s.modCore k (fun c => { c with ipPoison := true })
    if coreRuns s k then rebuild s b w else s
  match ownerOf s b with
  | .host => notePoison s b w
  | .trk => flag s .trk
  | _ => flag s .svc

/-- Rake checks word `w` of bank `b`, after the upset that it has suffered (spec/11 R287-R289). -/
def rakeBank (s : State) (b w : Nat) (u : Option Upset) : State :=
  if bankOut s b ∨ s.bank.clearing.getLsbD b ∨ s.bank.wakeWait.getLsbD b then s
  else
    let s := inject s b w u
    match bankErr s b w with
    | some .single =>
      { (s.bumpPar pSysRakeCorr) with bank := { s.bank with errs := mdel s.bank.errs (lin b w) } }
    | some .double => notifyPoison ((poisonWord s b w).bumpPar pSysRakePoison) b w
    | _ => s

/-- Words of each bank that Rake has checked in the present millisecond of the DTC (log entry 102). -/
def rakeDone (s : State) : Nat := if s.bank.rakeMs.1 = dtcNow s / countsPerMs then s.bank.rakeMs.2 else 0

/-- RAKE_CHECK: one word of every bank, in ascending word order, at no more than sys.rake_rate in a millisecond (spec/11
R287). -/
def execRakeCheck (u : List (Option Upset)) (s : State) : Host.Outcome State Fault Refusal :=
  if s.pwr.coreUp ∧ (s.pwr.state = .run ∨ s.pwr.state = .idle) ∧ rakeDone s < s.parN pSysRakeRate then
    let w := s.bank.rakeAt.toNat
    let s := { s with bank := { s.bank with rakeMs := (dtcNow s / countsPerMs, rakeDone s + 1) } }
    let s := (List.range 8).foldl (fun s b => rakeBank s b w ((u[b]?).getD none)) s
    let s := { s with bank := { s.bank with rakeAt := s.bank.rakeAt + 1 } }
    .next (if w = 0x3FFF then s.incPar pSysRakePasses else s)
  else .next s

/-- BANK_CLEAR_END: a bank that was not retained has been cleared (spec/11 R296). -/
def execBankClearEnd (b : Fin 8) (s : State) : Host.Outcome State Fault Refusal :=
  if s.bank.clearing.getLsbD b.val then
    .next { s with bank := { s.bank with clearing := setBit s.bank.clearing b.val false } }
  else .next s

/-- RETAINED_BANK_READY: 40 us after CORE is up, retained banks grant their first access (spec/11 R297). -/
def execRetainedBankReady (s : State) : Host.Outcome State Fault Refusal :=
  if s.pwr.coreUp then .next { s with bank := { s.bank with wakeWait := 0 } } else .next s

end Sys2Proof.Machine
end

