-- ==== Sys2Proof/Machine/Operands.lean ====
section
/-! DEFINITION. The operands of the Galros instructions: conditions, registers with the load delay, immediates, data
space with its segments, the core register page, the bit space and the special registers (spec/12 R301-R322, spec/13
R335-R339). -/

namespace Sys2Proof.Machine

/-! ### Registers and flags -/

/-- The condition of an instruction holds (spec/12 R303). -/
def condHolds (x : Core) : Cond → Bool
  | .al => true | .eq => x.z | .ne => !x.z | .cs => x.c | .cc => !x.c | .mi => x.n | .ts => x.t | .tc => !x.t

/-- A working register as an instruction reads it: a value still in the load delay is not yet seen (spec/12 R322). -/
def getW (s : State) (k : CoreId) (r : Reg) : Word := (s.core k).w.get r

/-- An instruction writes a working register: a value that a load has on its way to it is discarded (spec/12 R322). -/
def setW (s : State) (k : CoreId) (r : Reg) (v : Word) : State :=
  s.modCore k (fun x => { x with w := x.w.set r v,
                                 delay := match x.delay with
                                   | some (q, u) => if q = r.val then none else some (q, u)
                                   | none => none })

/-- The load delay ends: the loaded value is in its register (spec/12 R322). -/
def commitLoad (x : Core) : Core :=
  match x.delay with
  | some (q, u) => { x with w := x.w.setIfInBounds q u, delay := none }
  | none => x

/-- Sets the flags that a result changes. -/
def setFlags (s : State) (k : CoreId) (a : ARes) : State :=
  s.modCore k (fun x => { x with z := a.z.getD x.z, c := a.c.getD x.c, n := a.n.getD x.n, v := a.v.getD x.v })

/-- FL bits 4:0 (spec/12 R302). -/
def flBits (x : Core) : BitVec 5 :=
  BitVec.ofNat 5 (bit x.z + 2 * bit x.c + 4 * bit x.n + 8 * bit x.v + 16 * bit x.t)

/-- Sets FL from its bits. -/
def withFl (x : Core) (f : BitVec 5) : Core :=
  { x with z := f.getLsbD 0, c := f.getLsbD 1, n := f.getLsbD 2, v := f.getLsbD 3, t := f.getLsbD 4 }

/-- A special register as MFS reads it (spec/13 R338, spec/12 R313, R318): 0 FL, 1 RSP, 2 IVB. -/
def specRead (x : Core) (n : Nat) : Word :=
  match n with
  | 0 => (flBits x).setWidth 16
  | 1 => BitVec.ofNat 16 (x.rsTop.toNat + 8 * x.rsCount)
  | _ => BitVec.ofNat 16 (bit x.ie + 2 * x.level.toNat + 32 * x.base.toNat)

/-- A special register as MTS writes it: reserved bits are ignored (spec/13 R338). -/
def specWrite (x : Core) (n : Nat) (v : Word) : Core :=
  match n with
  | 0 => withFl x (v.extractLsb' 0 5)
  | 1 => { x with rsTop := v.extractLsb' 0 3, rsCount := (v.extractLsb' 3 4).toNat }
  | _ => { x with ie := v.getLsbD 0, level := v.extractLsb' 1 3, base := v.extractLsb' 5 9 }

/-! ### Immediates (spec/13 R335) -/

/-- A 14-bit immediate, sign-extended. -/
def immS (w2 : BitVec 14) : Word := w2.signExtend 16
/-- A 14-bit immediate, zero-extended. -/
def immZ (w2 : BitVec 14) : Word := w2.setWidth 16

/-! ### Data space (spec/12 R306-R310) -/

/-- Where a checked access lands. -/
inductive Place where
  | seg
  | bank (b w : Nat)
  | page (o : Nat)
deriving DecidableEq, Repr

/-- A data access checked against its segment and placed (spec/12 R306, R319: a register-page offset outside R309 is a
SEG trap). -/
def placeOf (g : SegReg) (off : Word) : Place :=
  let a := g.base.toNat + off.toNat
  if g.lim.toNat < off.toNat then .seg
  else if a < 0x20000 then .bank (a / 16384) (a % 16384)
  else if a ≤ 0x2000B then .page (a - 0x20000)
  else .seg

/-- The outcome of a data access: done with a word, a trap of a vector, or a wait at the bank's port. -/
inductive DAcc where
  | got (s : State) (v : Word)
  | trap (s : State) (v : Nat)
  | wait

/-- A core owns a bank. -/
def coreOwns (s : State) (k : CoreId) (b : Nat) : Bool :=
  match k, ownerOf s b with
  | .trk, .trk | .svc, .svc => true
  | _, _ => false

/-- An access of a core waits at the bank's port (spec/12 R308): clearing, retention wake, or a handover to the core that
still drains (spec/11 R282). -/
def bankWaits (s : State) (k : CoreId) (b : Nat) : Bool :=
  s.bank.clearing.getLsbD b || s.bank.wakeWait.getLsbD b || (s.bank.drain.getLsbD b && coreOwns s k b)

/-- An owner's write of a bank word; on a primary a write of B4 is mirrored (spec/19 R448). -/
def ownerWrite (s : State) (b w : Nat) (v : Word) : State :=
  let s := putWord s b w v
  if s.mir.role = 1 ∧ b = 4 ∧ s.mir.linkRun then mirrorWords s b w 1 else s

/-- Register of a page offset (spec/12 R309). -/
def pageReg : Nat → Nat
  | 0 => 12 | 1 => 13 | 2 => 14 | 3 => 15 | 4 => 16 | _ => 20

/-- A read of the core register page (spec/12 R309, spec/08 R202, R203). -/
def pageRead (s : State) (k : CoreId) (o : Nat) : State × Word :=
  let c := coreCls k
  let n := pageReg (o / 2)
  let hold := (s.cls c).hold
  let s := dropHold s c
  let v := regView s c n
  if o % 2 = 1 then
    match hold with
    | some (m, h) => if m = n then (s, h) else (readHi s c n, hiHalf v)
    | none => (readHi s c n, hiHalf v)
  else ((readLo s c n).modCls c (fun b => { b with hold := some (n, hiHalf v) }), loHalf v)

/-- A core's write of SLU_NOTICE (spec/12 R309, R310): its client is RW; the reserved kind is not stored. -/
def pageNotice (s : State) (c : Cls) (v : BitVec 32) : State :=
  s.modCls c (fun b => { b with nKind := if v.extractLsb' 0 2 = 3 then b.nKind else v.extractLsb' 0 2,
                                nClient := v.extractLsb' 2 10, nOff := v.extractLsb' 15 14, nBank := v.extractLsb' 29 3 })

/-- A core's write of its own req field of PWR_MODE; a reserved code has no effect (spec/12 R309, R310). -/
def pageReq (s : State) (k : CoreId) (d : Word) : State :=
  let v := match k with
    | .trk => d.toNat % 8
    | .svc => d.toNat / 16 % 8
  if v ≤ 4 then idleNow (writeReq s k v) else s

/-- A write of the core register page: a refused one has no effect but SLU_DB.res, and traps nothing (spec/12 R309,
R310, spec/08 R201). -/
def pageWrite (s : State) (k : CoreId) (o : Nat) (d : Word) : State :=
  let c := coreCls k
  let n := pageReg (o / 2)
  let s := dropHold s c
  if n = 12 ∨ n = 16 then
    if o % 2 = 0 then s.modCls c (fun b => { b with stage := mput b.stage n d })
    else
      let lo := (mget (s.cls c).stage n).getD (loHalf (regView s c n))
      let t := s.modCls c (fun b => { b with stage := mdel b.stage n })
      if n = 12 then pageNotice t c (ofHalves d lo)
      else
        let r := writeOwner t c (ofHalves d lo)
        if r.2.isSome then s else r.1
  else if o % 2 = 1 then s
  else if n = 13 then (writeDb s c (ofHalves 0 d)).1
  else if n = 20 then pageReq s k d
  else s

/-- A core reads a word of data space, after the upset that the word has suffered (spec/12 R306, R308, spec/11 R278,
R286, R291, R294); the trap of a poisoned word leads the Runtime to rebuild its structure (spec/11 R293). -/
def dataRead (s : State) (k : CoreId) (g : Fin 4) (off : Word) (u : Option Upset) : DAcc :=
  match placeOf ((s.core k).sg.get g) off with
  | .seg => .trap s 1
  | .page o => let r := pageRead s k o; .got r.1 r.2
  | .bank b w =>
    if bankOut s b then .trap s 2
    else if bankWaits s k b then .wait
    else
      let r := demandRead (inject s b w u) b w
      if r.2.2 then .trap (rebuild r.1 b w) 3 else .got r.1 r.2.1

/-- A core writes a word of data space (spec/12 R306, R308, spec/11 R278, R294). -/
def dataWrite (s : State) (k : CoreId) (g : Fin 4) (off : Word) (v : Word) : DAcc :=
  match placeOf ((s.core k).sg.get g) off with
  | .seg => .trap s 1
  | .page o => .got (pageWrite s k o v) 0
  | .bank b w =>
    if bankOut s b ∨ ¬ coreOwns s k b then .trap s 2
    else if bankWaits s k b then .wait
    else .got (ownerWrite s b w v) 0

/-- The segment and the offset of a memory operand (spec/13 R336). -/
def memAddr (s : State) (k : CoreId) : MemForm → Fin 4 × Word
  | .short b _ => (b, getW s k ⟨4 + b.val, by omega⟩)
  | .offset g w off => (g, getW s k w + off.setWidth 16)

/-- The base register that a memory operand increments (spec/13 R336). -/
def memInc : MemForm → Option Reg
  | .short b true => some ⟨4 + b.val, by omega⟩
  | _ => none

/-- Applies the post-increment, whose new base the next instruction sees at once. -/
def bumpBase (s : State) (k : CoreId) (m : MemForm) : State :=
  match memInc m with
  | some q => setW s k q (getW s k q + 1)
  | none => s

/-! ### Interrupt sources and the bit space (spec/12 R311, R312, spec/04 R111) -/

/-- Number of vector `v`'s level (spec/12 R319). -/
def vecLevel (v : Nat) : Nat :=
  match v with
  | 8 => 4 | 9 => 6 | 10 => 5 | 11 => 3 | 12 => 2 | 13 => 1 | 14 => 7 | 15 => 3 | _ => 7

/-- The pending bit of vector `v` (spec/12 R312). -/
def ipBit (s : State) (k : CoreId) (v : Nat) : Bool :=
  let x := s.core k
  match v with
  | 8 => s.slu.chans.any (fun y => rcvOf s y.1 == (match k with | .trk => 1 | .svc => 2) && s.parBit (pChCfg y.1) 3)
  | 9 => x.ipEpoch
  | 10 => s.pans.act.any (fun y => y.2.ready)
  | 11 => s.acq.dwellDone || !s.acq.pendHits.isEmpty
  | 12 => x.empties != 0 || x.tmos != 0
  | 13 => x.ipPoison
  | 14 => x.ipPower
  | 15 => x.ipPeer
  | _ => false

/-- Vector `v` is pending, enabled and above the run level (spec/12 R320, R321). -/
def ipDue (s : State) (k : CoreId) (v : Nat) : Bool :=
  ipBit s k v && (s.core k).ieBits.getLsbD (v - 8) && decide ((s.core k).level.toNat < vecLevel v)

/-- The vector that is due, of the highest level, the lowest first among equals (spec/12 R319). -/
def ipNext (s : State) (k : CoreId) : Option Nat := [14, 9, 10, 8, 11, 15, 12, 13].find? (ipDue s k)

/-- A pan's status bit (spec/04 R111). -/
def panBit (s : State) (p b : Nat) : Bool :=
  match panAt s p with
  | none => false
  | some x => match b with
    | 0 => true | 1 => x.codeLk | 2 => x.carLk | 3 => x.bitSync | 4 => x.frmSync | 5 => x.susp
    | 6 => decide (2 ≤ (pansOf s x.prn).length)
    | _ => x.ready

/-- A bit of B-space as a core reads it (spec/12 R311, R312); reserved bits read 0. -/
def bitRead (s : State) (k : CoreId) (a : Nat) : Bool :=
  let x := s.core k
  if a < 0x40 then
    if a = 0 then k == .svc
    else if a = 1 then (s.core (peer k)).halted
    else if a = 2 then s.parBit pSysPramEn (coreNum k)
    else if a = 3 then x.rsWrap
    else if 8 ≤ a ∧ a < 12 then (tagOf s k (Fin.ofNat 4 (a - 8))).busy
    else if 0x10 ≤ a ∧ a < 0x18 then ipBit s k (a - 8)
    else if 0x18 ≤ a ∧ a < 0x20 then x.ieBits.getLsbD (a - 0x18)
    else false
  else if a < 0x100 then false
  else if a < 0x200 then panBit s ((a - 0x100) / 8) (a % 8)
  else if a = 0x200 then s.acq.cell.isSome
  else if a = 0x201 then s.acq.dwellDone
  else if a = 0x202 then !s.acq.pendHits.isEmpty
  else if a = 0x203 then cryOff s
  else if a < 0x300 then false
  else if a < 0x340 then (chanFull s (a - 0x300)).isSome
  else if a < 0x380 then x.empties.getLsbD (a - 0x340)
  else if a < 0x3C0 then x.tmos.getLsbD (a - 0x380)
  else if a < 0x400 then false
  else if a < 0x800 then s.evs.fired.getLsbD (a - 0x400)
  else x.bitRam.getLsbD (a - 0x800)

/-- A write of a bit of B-space (spec/12 R311, R312, spec/13 R339): EV bits are cleared by a 0, RO and reserved bits
ignore it, a 1 written to peer_sig signals the other core. -/
def bitWrite (s : State) (k : CoreId) (a : Nat) (v : Bool) : State :=
  if a = 3 then (if v then s else s.modCore k (fun x => { x with rsWrap := false }))
  else if a = 0x11 then (if v then s else s.modCore k (fun x => { x with ipEpoch := false }))
  else if a = 0x15 then (if v then s else s.modCore k (fun x => { x with ipPoison := false }))
  else if a = 0x17 then (if v then s else s.modCore k (fun x => { x with ipPeer := false }))
  else if 0x18 ≤ a ∧ a < 0x20 then s.modCore k (fun x => { x with ieBits := setBit x.ieBits (a - 0x18) v })
  else if a = 0x20 then (if v then s.modCore (peer k) (fun x => { x with ipPeer := true }) else s)
  else if 0x340 ≤ a ∧ a < 0x380 then
    (if v then s else s.modCore k (fun x => { x with empties := setBit x.empties (a - 0x340) false }))
  else if 0x380 ≤ a ∧ a < 0x3C0 then
    (if v then s else s.modCore k (fun x => { x with tmos := setBit x.tmos (a - 0x380) false }))
  else if 0x400 ≤ a ∧ a < 0x800 then
    (if v then s else { s with evs := { s.evs with fired := setBit s.evs.fired (a - 0x400) false } })
  else if 0x800 ≤ a ∧ a < 0x1000 then s.modCore k (fun x => { x with bitRam := setBit x.bitRam (a - 0x800) v })
  else s

end Sys2Proof.Machine
end

