-- ==== Sys2Proof/Machine/Galros.lean ====
section
/-! DEFINITION. How a Galros core executes: the return stack, traps, interrupts, restarts, and the frame that every
instruction runs in (spec/12 R313-R328, spec/13 R331, spec/20 R483). -/

namespace Sys2Proof.Machine

/-! ### Halts and restarts -/

/-- A core halts with a reason (spec/21 R494, R495, spec/20 R483). -/
def haltCore (s : State) (k : CoreId) (reason : Nat) : State :=
  relevel (s.modCore k (fun x => { x with halted := true, haltReq := false, haltSdp := false, stepReq := false,
                                          reason := reason })) false 4 (coreNum k)

/-- A core halts because a frame could not be written; PC holds the faulting instruction (spec/12 R316). -/
def frameHalt (s : State) (k : CoreId) (pc : BitVec 14) : State :=
  haltCore (s.modCore k (fun x => { x with frameHalt := true, haltAt := dtcNow s, pc := pc })) k 8

/-- The CP3 notice of an operation in service is withdrawn if it has not been taken (spec/14 R361, R362). -/
def withdrawCp3 (s : State) (op : Cp3Op) : State :=
  match chanFull s s.cp.chan with
  | some x => if x.notice.offset = op.off ∧ x.notice.bank.toNat = op.bank.val ∧ x.notice.kind = 0 then emptyChan s s.cp.chan
    else s
  | none => s

/-- A core's coprocessor operations are abandoned and its tags read IDLE (spec/14 R362). -/
def abandonOps (s : State) (k : CoreId) : State :=
  let s := match s.cp.serving with
    | some op => if op.core = k then endService (withdrawCp3 s op) else s
    | none => s
  let s := { s with cp := { s.cp with queue := s.cp.queue.filter (fun o => o.core != k) },
                    acq := { s.acq with dwellQ := s.acq.dwellQ.filter (fun y => y.1 != k) } }
  let s := s.modCore k (fun x => { x with tag := Vector.replicate 4 .reset })
  match s.acq.cell with
  | some c => match c.op with
    | some (j, _) => if j = k then advanceSearch s else s
    | none => s
  | none => s

/-- A core restarts at vector 0 (spec/12 R327, spec/20 R483): its operations are abandoned, a TRK restart releases every
pan, an SVC restart clears the integrity state, BOOT and LEVEL with cause 5 are posted. The third restart within 10 s leaves
it stopped. -/
def restartCore (s : State) (k : CoreId) (vec : Nat) : State :=
  let now := dtcNow s
  let recent := (s.core k).restarts.filter (fun t => decide (now - t < 10 * countsPerSec))
  let s := abandonOps s k
  let s := relevel (s.modCore k (fun x => { x with halted := true })) false 4 (coreNum k)
  if 2 ≤ recent.length then
    s.modCore k (fun x => { x with halted := false, stopped := true, reason := 0, frameHalt := false, delay := none,
                                   hook := none, trapVec := none, restarts := now :: recent })
  else
    let s := s.modCore k (fun x => { atVector0 x with halted := false, reason := 0, restarts := now :: recent })
    let s := if k = .trk then (s.pans.act.map (·.1)).foldl releasePan s else clearInteg s
    relevel (noteBoot (idleNow s) 5 (coreNum k) vec) true 5 (coreNum k)

/-! ### The return stack (spec/12 R313, R314) -/

/-- sys.rs_trap selects trap mode for a core (spec/12 R314). -/
def rsTrapMode (s : State) (k : CoreId) : Bool := s.parBit pSysRsTrap (coreNum k)

/-- The entry that saves a return address (spec/12 R313). -/
def rsEntry (x : Core) (pc : BitVec 14) : RsEntry := ⟨pc, flBits x, x.level, x.ie⟩

/-- A push; none when the stack is full in trap mode, and then no push is made (spec/12 R313, R314). -/
def pushRs (s : State) (k : CoreId) (pc : BitVec 14) : Option State :=
  let x := s.core k
  let push (s : State) (wrap : Bool) : State := s.modCore k (fun x =>
    { x with rs := x.rs.setIfInBounds x.rsTop.toNat (rsEntry x pc), rsTop := x.rsTop + 1, rsCount := min (x.rsCount + 1) 8,
             rsWrap := x.rsWrap || wrap })
  if x.rsCount < 8 then some (push s false)
  else if rsTrapMode s k then none
  else some (push s true)

/-- A pop with the entry; none when the stack is empty in trap mode (spec/12 R313, R314). -/
def popRs (s : State) (k : CoreId) : Option (State × RsEntry) :=
  let x := s.core k
  if x.rsCount = 0 ∧ rsTrapMode s k then none
  else
    let top := x.rsTop - 1
    some (s.modCore k (fun x => { x with rsTop := top, rsCount := x.rsCount - 1 }), x.rs.getD top.toNat .reset)

/-! ### Memory stack words -/

/-- Writes words downwards from below the offset given in SG3 (spec/12 R317): the words already written stand when a
later one is not taken. -/
def pushWords (s : State) (k : CoreId) (sp : Word) : List Word → DAcc
  | [] => .got s sp
  | v :: vs => match dataWrite s k 3 (sp - 1) v with
    | .got s _ => pushWords s k (sp - 1) vs
    | .trap s t => .trap s t
    | .wait => .wait

/-- Reads `n` words upwards from an offset in SG3 (spec/12 R317). -/
def popWords (s : State) (k : CoreId) (sp : Word) : Nat → List Word → Except (Option (State × Nat)) (State × List Word)
  | 0, acc => .ok (s, acc.reverse)
  | n + 1, acc => match dataRead s k 3 sp none with
    | .got s v => popWords s k (sp + 1) n (v :: acc)
    | .trap s t => .error (some (s, t))
    | .wait => .error none

/-! ### Traps and interrupts -/

/-- Address of a vector (spec/12 R318). -/
def vecAddr (x : Core) (v : Nat) : BitVec 14 := BitVec.ofNat 14 (x.base.toNat * 32 + 2 * v)

/-- The context of hook callers is restored (spec/12 R325, R327). -/
def restoreHook (x : Core) (h : HookFrame) : Core :=
  { x with pc := h.ret, rsTop := h.top, rsCount := h.count, sg := h.sg, t := h.t, ie := h.ie, level := h.level,
           base := h.base, w := (((x.w.set 4 (h.w.get 4)).set 5 (h.w.get 5)).set 6 (h.w.get 6)).set 7 (h.w.get 7),
           delay := none, hook := none, trapVec := none }

/-- A trap of program RAM is handed to the Runtime (spec/12 R327): the core's bit of sys.pram_en clears, the hook's frames
go, the core continues from the hook's caller and BOOT is posted (log entry 38). The Runtime's write is a live write; while
sys.pram_en awaits an epoch commit it is refused as any other (spec/08 R218, R219). -/
def handOver (s : State) (k : CoreId) (v : Nat) : State :=
  let s := if keyPending s pSysPramEn then s else markDirty (s.setParBit pSysPramEn (coreNum k) false) pSysPramEn
  let s := s.modCore k (fun x => match x.hook with
    | some h => restoreHook x h
    | none => { x with trapVec := none })
  noteBoot s 6 (coreNum k) v

/-- The Runtime's response to a trap through its own vector table, at IVB base 0 (spec/12 R324, R325, R327; log entry 38):
a trap of ROM restarts the core; a trap of program RAM is put to hook 3, or handed to the Runtime. -/
def trapResponse (s : State) (k : CoreId) (v : Nat) (pc : BitVec 14) : State :=
  let x := s.core k
  if x.base ≠ 0 then s
  else if pc.toNat < 0x2000 then restartCore s k v
  else if s.parBit pSysPramEn (coreNum k) ∧ x.trapVec = none then s.modCore k (fun x => { x with trapVec := some v })
  else handOver s k v

/-- An RS trap (spec/12 R315, R316): its frame goes to the memory stack; none when the bank's port holds it. `pc` is the
PC it saves, `cause` the vector whose entry met the full stack. -/
def rsTrap (s : State) (k : CoreId) (pc : BitVec 14) (cause : Nat) (under : Bool) : Option State :=
  let x := s.core k
  let w1 := BitVec.ofNat 16 ((flBits x).toNat + 32 * x.level.toNat + 256 * bit x.ie)
  match pushWords s k (getW s k 7) [pc.setWidth 16, w1, BitVec.ofNat 16 (cause + 16 * bit under)] with
  | .wait => none
  | .trap t _ => some (frameHalt t k pc)
  | .got t sp =>
    let t := (setW t k 7 sp).modCore k (fun x => { x with level := 7, ie := false, pc := vecAddr x 5 })
    some (trapResponse t k 5 pc)

/-- Trap entry (spec/12 R319): the push of R313, run level 7, and the vector; a full stack in trap mode gives an RS trap
instead (spec/12 R314, R315). None when the bank's port holds the frame. -/
def trapTo (s : State) (k : CoreId) (v : Nat) (pc : BitVec 14) : Option State :=
  match pushRs s k pc with
  | some t => some (trapResponse (t.modCore k (fun x => { x with level := 7, pc := vecAddr x v })) k v pc)
  | none => rsTrap s k pc v false

/-- Interrupt entry (spec/12 R320): the pending bit stays set. -/
def takeInt (s : State) (k : CoreId) (v : Nat) : Option State :=
  let pc := (s.core k).pc
  match pushRs s k pc with
  | some t => some (t.modCore k (fun x => { x with level := BitVec.ofNat 3 (vecLevel v), pc := vecAddr x v }))
  | none => rsTrap s k pc v false

/-! ### The frame of an instruction -/

/-- How an instruction whose condition holds ends: done, with the register and value of a load; a precise trap; a return
stack that meets R314 in trap mode; a frame that cannot be written (R316); or it waits and has had no effect. -/
inductive IRes where
  | done (s : State) (ld : Option (Nat × Word))
  | trap (s : State) (v : Nat)
  | rs (under : Bool)
  | frame (s : State)
  | wait

/-- A core executes instructions: it runs, is neither parked nor in a sleep state. -/
def coreReady (s : State) (k : CoreId) : Bool :=
  coreRuns s k && !(s.core k).waiting && !(s.core k).parked && (s.pwr.state == .run || s.pwr.state == .idle)

/-- The enabled breakpoint at the core's PC that has not just been resumed from (spec/21 R495). -/
def bpHit (x : Core) : Option Nat :=
  if x.bpSkip then none
  else leastBelow (fun i => match x.bp.toList[i]? with
    | some b => b.en && b.addr == x.pc
    | none => false) 4

/-- The load delay moves on: the earlier load is in its register unless this instruction loads the same one, and the
load of this instruction is on its way (spec/12 R322). -/
def settle (s : State) (k : CoreId) (ld : Option (Nat × Word)) : State :=
  s.modCore k (fun x =>
    let x := match x.delay, ld with
      | some (q, _), some (r, _) => if q = r then { x with delay := none } else commitLoad x
      | _, _ => commitLoad x
    { x with delay := ld })

/-- A single step ends at the next boundary that is not between a load and the next instruction (spec/21 R496, spec/12
R328). -/
def stepEnd (s : State) (k : CoreId) : State :=
  let x := s.core k
  if x.stepReq ∧ x.delay = none ∧ ¬ x.halted then haltCore s k 2 else s

/-- An instruction of `n` words with a condition (spec/12 R303, spec/13 R331): a core that does not execute is unchanged; an
enabled breakpoint halts it before; a false condition only passes the words; otherwise `f` runs with PC already past them.
An instruction that waits has had no effect (spec/13 R341). -/
def runInstr (k : CoreId) (c : Cond) (n : Nat) (f : State → IRes) (s : State) : Host.Outcome State Fault Refusal :=
  if ¬ coreReady s k then .next s
  else
    let x := s.core k
    match bpHit x with
    | some i => .next (haltCore s k (4 + i))
    | none =>
      let next := x.pc + BitVec.ofNat 14 n
      let t := s.modCore k (fun x => { x with pc := next, bpSkip := false })
      let entered (o : Option State) : Host.Outcome State Fault Refusal :=
        match o with
        | some u => .next (stepEnd u k)
        | none => .next s
      if ¬ condHolds x c then .next (stepEnd (t.modCore k commitLoad) k)
      else match f t with
        | .done u ld => .next (stepEnd (settle u k ld) k)
        | .trap u v => entered (trapTo (u.modCore k commitLoad) k v (if v = 7 then next else x.pc))
        | .rs under => entered (rsTrap (t.modCore k commitLoad) k x.pc 0 under)
        | .frame u => .next (frameHalt (u.modCore k commitLoad) k x.pc)
        | .wait => .next s

/-- ILLEGAL_INSTRUCTION: an undefined encoding or an illegal field (spec/13 R331). -/
def execIllegalInstruction (k : CoreId) (c : Cond) (s : State) : Host.Outcome State Fault Refusal :=
  runInstr k c 1 (fun t => .trap t 4) s

/-- INTERRUPT_ENTRY: at an instruction boundary, never between a load and the next instruction (spec/12 R320, R322). A
breakpoint hit at the same boundary halts the core first, and the interrupt is taken after the resume (spec/21 R505). -/
def execInterruptEntry (k : CoreId) (s : State) : Host.Outcome State Fault Refusal :=
  if coreReady s k ∧ (s.core k).delay = none ∧ (s.core k).ie then
    match ipNext s k with
    | some v => match bpHit (s.core k) with
      | some i => .next (haltCore s k (4 + i))
      | none => match takeInt s k v with
        | some t => .next (stepEnd t k)
        | none => .next s
    | none => .next s
  else .next s

/-- WAIT_RESUME: an enabled interrupt above the run level is pending (spec/12 R321). -/
def execWaitResume (k : CoreId) (s : State) : Host.Outcome State Fault Refusal :=
  if coreRuns s k ∧ (s.core k).waiting ∧ (s.pwr.state = .run ∨ s.pwr.state = .idle) then
    match ipNext s k with
    | some v =>
      let s := leaveWait s k
      if (s.core k).ie then .next ((takeInt s k v).getD s) else .next s
    | none => .next s
  else .next s

/-- CORE_RESTART: 10 ms after a halt under R316 without an SDP session (spec/20 R483). -/
def execCoreRestart (k : CoreId) (s : State) : Host.Outcome State Fault Refusal :=
  if (s.core k).halted ∧ (s.core k).frameHalt ∧ ¬ s.dbg.session ∧ s.pwr.coresUp then
    .next (restartCore (carryDtc s ((s.core k).haltAt + 10 * countsPerMs)) k 0)
  else .next s

end Sys2Proof.Machine
end

