-- ==== Sys2Proof/Machine/Alu.lean ====
section
/-! DEFINITION. The register ALU, compare, decimal, immediate and one-register instructions (spec/13 R333-R337). -/

namespace Sys2Proof.Machine

/-- A two-register operation on a core; a compare writes no register (spec/13 R333). -/
def doTwo (op : Alu2) (write : Bool) (k : CoreId) (d q : Reg) (s : State) : IRes :=
  let r := op (s.core k).c (getW s k d) (getW s k q)
  .done (setFlags (if write then setW s k d r.val else s) k r) none

/-- An operation with an immediate (spec/13 R335). -/
def doImm (op : Alu2) (write : Bool) (k : CoreId) (d : Reg) (i : Word) (s : State) : IRes :=
  let r := op (s.core k).c (getW s k d) i
  .done (setFlags (if write then setW s k d r.val else s) k r) none

/-- A one-register operation (spec/13 R337). -/
def doOne (op : Alu1) (k : CoreId) (r : Reg) (s : State) : IRes :=
  let a := op (s.core k).c (getW s k r)
  .done (setFlags (setW s k r a.val) k a) none

/-- MOV d, s (spec/13 R333). -/
def execMov (k : CoreId) (c : Cond) (d q : Reg) (s : State) : Host.Outcome State Fault Refusal :=
  runInstr k c 1 (doTwo aluMov true k d q) s

/-- ADD d, s (spec/13 R333). -/
def execAdd (k : CoreId) (c : Cond) (d q : Reg) (s : State) : Host.Outcome State Fault Refusal :=
  runInstr k c 1 (doTwo aluAdd true k d q) s

/-- ADC d, s (spec/13 R333). -/
def execAdc (k : CoreId) (c : Cond) (d q : Reg) (s : State) : Host.Outcome State Fault Refusal :=
  runInstr k c 1 (doTwo aluAdc true k d q) s

/-- SUB d, s (spec/13 R333). -/
def execSub (k : CoreId) (c : Cond) (d q : Reg) (s : State) : Host.Outcome State Fault Refusal :=
  runInstr k c 1 (doTwo aluSub true k d q) s

/-- SBC d, s (spec/13 R333). -/
def execSbc (k : CoreId) (c : Cond) (d q : Reg) (s : State) : Host.Outcome State Fault Refusal :=
  runInstr k c 1 (doTwo aluSbc true k d q) s

/-- AND d, s (spec/13 R333). -/
def execAnd (k : CoreId) (c : Cond) (d q : Reg) (s : State) : Host.Outcome State Fault Refusal :=
  runInstr k c 1 (doTwo aluAnd true k d q) s

/-- OR d, s (spec/13 R333). -/
def execOr (k : CoreId) (c : Cond) (d q : Reg) (s : State) : Host.Outcome State Fault Refusal :=
  runInstr k c 1 (doTwo aluOr true k d q) s

/-- XOR d, s (spec/13 R333). -/
def execXor (k : CoreId) (c : Cond) (d q : Reg) (s : State) : Host.Outcome State Fault Refusal :=
  runInstr k c 1 (doTwo aluXor true k d q) s

/-- CMP d, s (spec/13 R333). -/
def execCmp (k : CoreId) (c : Cond) (d q : Reg) (s : State) : Host.Outcome State Fault Refusal :=
  runInstr k c 1 (doTwo aluSub false k d q) s

/-- TST d, s (spec/13 R333). -/
def execTst (k : CoreId) (c : Cond) (d q : Reg) (s : State) : Host.Outcome State Fault Refusal :=
  runInstr k c 1 (doTwo aluAnd false k d q) s

/-- DADD d, s (spec/13 R333, R334). -/
def execDadd (k : CoreId) (c : Cond) (d q : Reg) (s : State) : Host.Outcome State Fault Refusal :=
  runInstr k c 1 (doTwo aluDadd true k d q) s

/-- DSUB d, s (spec/13 R333, R334). -/
def execDsub (k : CoreId) (c : Cond) (d q : Reg) (s : State) : Host.Outcome State Fault Refusal :=
  runInstr k c 1 (doTwo aluDsub true k d q) s

/-- LDI d, #imm16 (spec/13 R335): bits 15:14 from field h, bits 13:0 from word 2. -/
def execLdi (k : CoreId) (c : Cond) (d : Reg) (h : BitVec 2) (w2 : BitVec 14) (s : State) : Host.Outcome State Fault Refusal :=
  runInstr k c 2 (fun t => .done (setW t k d (h ++ w2)) none) s

/-- ADDI d, #imm (spec/13 R335). -/
def execAddi (k : CoreId) (c : Cond) (d : Reg) (w2 : BitVec 14) (s : State) : Host.Outcome State Fault Refusal :=
  runInstr k c 2 (doImm aluAdd true k d (immS w2)) s

/-- SUBI d, #imm (spec/13 R335). -/
def execSubi (k : CoreId) (c : Cond) (d : Reg) (w2 : BitVec 14) (s : State) : Host.Outcome State Fault Refusal :=
  runInstr k c 2 (doImm aluSub true k d (immS w2)) s

/-- ANDI d, #imm (spec/13 R335). -/
def execAndi (k : CoreId) (c : Cond) (d : Reg) (w2 : BitVec 14) (s : State) : Host.Outcome State Fault Refusal :=
  runInstr k c 2 (doImm aluAnd true k d (immS w2)) s

/-- ORI d, #imm (spec/13 R335). -/
def execOri (k : CoreId) (c : Cond) (d : Reg) (w2 : BitVec 14) (s : State) : Host.Outcome State Fault Refusal :=
  runInstr k c 2 (doImm aluOr true k d (immS w2)) s

/-- XORI d, #imm (spec/13 R335). -/
def execXori (k : CoreId) (c : Cond) (d : Reg) (w2 : BitVec 14) (s : State) : Host.Outcome State Fault Refusal :=
  runInstr k c 2 (doImm aluXor true k d (immS w2)) s

/-- CMPI d, #imm (spec/13 R335). -/
def execCmpi (k : CoreId) (c : Cond) (d : Reg) (w2 : BitVec 14) (s : State) : Host.Outcome State Fault Refusal :=
  runInstr k c 2 (doImm aluSub false k d (immS w2)) s

/-- TSTI d, #imm (spec/13 R335). -/
def execTsti (k : CoreId) (c : Cond) (d : Reg) (w2 : BitVec 14) (s : State) : Host.Outcome State Fault Refusal :=
  runInstr k c 2 (doImm aluAnd false k d (immS w2)) s

/-- DADDI d, #imm (spec/13 R335). -/
def execDaddi (k : CoreId) (c : Cond) (d : Reg) (w2 : BitVec 14) (s : State) : Host.Outcome State Fault Refusal :=
  runInstr k c 2 (doImm aluDadd true k d (immZ w2)) s

/-- SHL r (spec/13 R337). -/
def execShl (k : CoreId) (c : Cond) (r : Reg) (s : State) : Host.Outcome State Fault Refusal :=
  runInstr k c 1 (doOne aluShl k r) s

/-- SHR r (spec/13 R337). -/
def execShr (k : CoreId) (c : Cond) (r : Reg) (s : State) : Host.Outcome State Fault Refusal :=
  runInstr k c 1 (doOne aluShr k r) s

/-- ASR r (spec/13 R337). -/
def execAsr (k : CoreId) (c : Cond) (r : Reg) (s : State) : Host.Outcome State Fault Refusal :=
  runInstr k c 1 (doOne aluAsr k r) s

/-- ROL r (spec/13 R337). -/
def execRol (k : CoreId) (c : Cond) (r : Reg) (s : State) : Host.Outcome State Fault Refusal :=
  runInstr k c 1 (doOne aluRol k r) s

/-- ROR r (spec/13 R337). -/
def execRor (k : CoreId) (c : Cond) (r : Reg) (s : State) : Host.Outcome State Fault Refusal :=
  runInstr k c 1 (doOne aluRor k r) s

/-- RLC r (spec/13 R337). -/
def execRlc (k : CoreId) (c : Cond) (r : Reg) (s : State) : Host.Outcome State Fault Refusal :=
  runInstr k c 1 (doOne aluRlc k r) s

/-- RRC r (spec/13 R337). -/
def execRrc (k : CoreId) (c : Cond) (r : Reg) (s : State) : Host.Outcome State Fault Refusal :=
  runInstr k c 1 (doOne aluRrc k r) s

/-- SWAB r (spec/13 R337). -/
def execSwab (k : CoreId) (c : Cond) (r : Reg) (s : State) : Host.Outcome State Fault Refusal :=
  runInstr k c 1 (doOne aluSwab k r) s

/-- NOT r (spec/13 R337). -/
def execNot (k : CoreId) (c : Cond) (r : Reg) (s : State) : Host.Outcome State Fault Refusal :=
  runInstr k c 1 (doOne aluNot k r) s

/-- NEG r (spec/13 R337). -/
def execNeg (k : CoreId) (c : Cond) (r : Reg) (s : State) : Host.Outcome State Fault Refusal :=
  runInstr k c 1 (doOne aluNeg k r) s

/-- INC r (spec/13 R337). -/
def execInc (k : CoreId) (c : Cond) (r : Reg) (s : State) : Host.Outcome State Fault Refusal :=
  runInstr k c 1 (doOne aluInc k r) s

/-- DEC r (spec/13 R337). -/
def execDec (k : CoreId) (c : Cond) (r : Reg) (s : State) : Host.Outcome State Fault Refusal :=
  runInstr k c 1 (doOne aluDec k r) s

/-- CLR r (spec/13 R337). -/
def execClr (k : CoreId) (c : Cond) (r : Reg) (s : State) : Host.Outcome State Fault Refusal :=
  runInstr k c 1 (doOne aluClr k r) s

/-- SEXB r (spec/13 R337). -/
def execSexb (k : CoreId) (c : Cond) (r : Reg) (s : State) : Host.Outcome State Fault Refusal :=
  runInstr k c 1 (doOne aluSexb k r) s

end Sys2Proof.Machine
end

