-- ==== Sys2Proof/Machine/Memory.lean ====
section
/-! DEFINITION. Loads, stores, the memory stack, segments, special registers and bits (spec/13 R336, R338, R339). -/

namespace Sys2Proof.Machine

/-- LD (spec/13 R336): a post-increment whose base is the destination is ILL. -/
def doLd (k : CoreId) (r : Reg) (m : MemForm) (u : Option Upset) (s : State) : IRes :=
  if memInc m = some r then .trap s 4
  else
    let a := memAddr s k m
    match dataRead s k a.1 a.2 u with
    | .got t v => .done (bumpBase t k m) (some (r.val, v))
    | .trap t v => .trap t v
    | .wait => .wait

/-- ST (spec/13 R336): a store whose register is its base stores the value before the increment. -/
def doSt (k : CoreId) (r : Reg) (m : MemForm) (s : State) : IRes :=
  let a := memAddr s k m
  match dataWrite s k a.1 a.2 (getW s k r) with
  | .got t _ => .done (bumpBase t k m) none
  | .trap t v => .trap t v
  | .wait => .wait

/-- PUSH (spec/13 R336): W7 is decreased, then the value that r had before is stored at SG3:W7. -/
def doPush (k : CoreId) (r : Reg) (s : State) : IRes :=
  let a := getW s k 7 - 1
  match dataWrite s k 3 a (getW s k r) with
  | .got t _ => .done (setW t k 7 a) none
  | .trap t v => .trap t v
  | .wait => .wait

/-- POP (spec/13 R336): a load from SG3:W7, then W7 is increased; POP W7 is ILL. -/
def doPop (k : CoreId) (r : Reg) (s : State) : IRes :=
  if r = 7 then .trap s 4
  else match dataRead s k 3 (getW s k 7) none with
    | .got t v => .done (setW t k 7 (getW t k 7 + 1)) (some (r.val, v))
    | .trap t v => .trap t v
    | .wait => .wait

/-- LD (spec/13 R336); `u` is the upset that the bank word has suffered. -/
def execLd (k : CoreId) (c : Cond) (r : Reg) (m : MemForm) (u : Option Upset) (s : State) : Host.Outcome State Fault Refusal :=
  runInstr k c (match m with | .short .. => 1 | .offset .. => 2) (doLd k r m u) s

/-- ST (spec/13 R336). -/
def execSt (k : CoreId) (c : Cond) (r : Reg) (m : MemForm) (s : State) : Host.Outcome State Fault Refusal :=
  runInstr k c (match m with | .short .. => 1 | .offset .. => 2) (doSt k r m) s

/-- PUSH r (spec/13 R336). -/
def execPush (k : CoreId) (c : Cond) (r : Reg) (s : State) : Host.Outcome State Fault Refusal := runInstr k c 1 (doPush k r) s

/-- POP r (spec/13 R336). -/
def execPop (k : CoreId) (c : Cond) (r : Reg) (s : State) : Host.Outcome State Fault Refusal := runInstr k c 1 (doPop k r) s

/-! ### Segments and special registers (spec/13 R338) -/

/-- A segment may be loaded with these values (spec/12 R307). -/
def segOk (base lim : Nat) : Bool :=
  if base ≤ 0x1FFFF then decide (base + lim ≤ 0x1FFFF) else decide (base + lim ≤ 0x2000B)

/-- The register `i` after register `a`. -/
def regAfter (a : Reg) (i : Nat) : Reg := Fin.ofNat 8 (a.val + i)

/-- SGLD SGn, Wa (spec/13 R338): a field of 5-7 is ILL, a load that R307 refuses is a SEG trap. -/
def execSgld (k : CoreId) (c : Cond) (g : Fin 4) (a : Reg) (s : State) : Host.Outcome State Fault Refusal :=
  runInstr k c 1 (fun t =>
    let base := (getW t k (regAfter a 1)).toNat % 4 * 65536 + (getW t k a).toNat
    let lim := getW t k (regAfter a 2)
    if 5 ≤ a.val then .trap t 4
    else if segOk base lim.toNat then
      .done (t.modCore k (fun x => { x with sg := x.sg.set g ⟨BitVec.ofNat 18 base, lim⟩ })) none
    else .trap t 1) s

/-- SGST Wa, SGn (spec/13 R338). -/
def execSgst (k : CoreId) (c : Cond) (g : Fin 4) (a : Reg) (s : State) : Host.Outcome State Fault Refusal :=
  runInstr k c 1 (fun t =>
    let x := (t.core k).sg.get g
    if 5 ≤ a.val then .trap t 4
    else .done (setW (setW (setW t k a (x.base.extractLsb' 0 16)) k (regAfter a 1) ((x.base.extractLsb' 16 2).setWidth 16))
      k (regAfter a 2) x.lim) none) s

/-- MFS r, spec (spec/13 R338): spec 3 is ILL. -/
def doMfs (k : CoreId) (spec : Fin 4) (r : Reg) (s : State) : IRes :=
  if spec = 3 then .trap s 4 else .done (setW s k r (specRead (s.core k) spec.val)) none

/-- MFS r, spec. -/
def execMfs (k : CoreId) (c : Cond) (spec : Fin 4) (r : Reg) (s : State) : Host.Outcome State Fault Refusal :=
  runInstr k c 1 (doMfs k spec r) s

/-- MTS spec, r (spec/13 R338): spec 3, and a count above 8 for RSP, are ILL. -/
def execMts (k : CoreId) (c : Cond) (spec : Fin 4) (r : Reg) (s : State) : Host.Outcome State Fault Refusal :=
  runInstr k c 1 (fun t =>
    let v := getW t k r
    if spec = 3 ∨ (spec = 1 ∧ 8 < v.toNat / 8 % 16) then .trap t 4
    else .done (t.modCore k (fun x => specWrite x spec.val v)) none) s

/-! ### Bits (spec/13 R339) -/

/-- The four bit operations on a bit address. -/
inductive BitOp where
  | test | set | clear | move
deriving DecidableEq, Repr

/-- A bit operation: T takes the bit, or the bit is written. -/
def doBit (op : BitOp) (k : CoreId) (a : Nat) (s : State) : IRes :=
  match op with
  | .test => .done (s.modCore k (fun x => { x with t := bitRead s k a })) none
  | .set => .done (bitWrite s k a true) none
  | .clear => .done (bitWrite s k a false) none
  | .move => .done (bitWrite s k a (s.core k).t) none

/-- The absolute form: bits 13:12 of word 2 must be 0. -/
def doBitAbs (op : BitOp) (k : CoreId) (w2 : BitVec 14) (s : State) : IRes :=
  if 4096 ≤ w2.toNat then .trap s 4 else doBit op k w2.toNat s

/-- The register form: bits 15:12 of the register are ignored. -/
def doBitReg (op : BitOp) (k : CoreId) (r : Reg) (s : State) : IRes := doBit op k ((getW s k r).toNat % 4096) s

/-- BTST addr. -/
def execBtst (k : CoreId) (c : Cond) (w2 : BitVec 14) (s : State) : Host.Outcome State Fault Refusal :=
  runInstr k c 2 (doBitAbs .test k w2) s
/-- BSET addr. -/
def execBset (k : CoreId) (c : Cond) (w2 : BitVec 14) (s : State) : Host.Outcome State Fault Refusal :=
  runInstr k c 2 (doBitAbs .set k w2) s
/-- BCLR addr. -/
def execBclr (k : CoreId) (c : Cond) (w2 : BitVec 14) (s : State) : Host.Outcome State Fault Refusal :=
  runInstr k c 2 (doBitAbs .clear k w2) s
/-- BMOV addr. -/
def execBmov (k : CoreId) (c : Cond) (w2 : BitVec 14) (s : State) : Host.Outcome State Fault Refusal :=
  runInstr k c 2 (doBitAbs .move k w2) s
/-- BTSTR r. -/
def execBtstr (k : CoreId) (c : Cond) (r : Reg) (s : State) : Host.Outcome State Fault Refusal :=
  runInstr k c 1 (doBitReg .test k r) s
/-- BSETR r. -/
def execBsetr (k : CoreId) (c : Cond) (r : Reg) (s : State) : Host.Outcome State Fault Refusal :=
  runInstr k c 1 (doBitReg .set k r) s
/-- BCLRR r. -/
def execBclrr (k : CoreId) (c : Cond) (r : Reg) (s : State) : Host.Outcome State Fault Refusal :=
  runInstr k c 1 (doBitReg .clear k r) s
/-- BMOVR r. -/
def execBmovr (k : CoreId) (c : Cond) (r : Reg) (s : State) : Host.Outcome State Fault Refusal :=
  runInstr k c 1 (doBitReg .move k r) s

end Sys2Proof.Machine
end

