-- ==== Sys2Proof/Machine/Control.lean ====
section
/-! DEFINITION. Control transfer, calls and returns, and the repeat prefixes (spec/13 R340, R343-R345, spec/12 R313-R325). -/

namespace Sys2Proof.Machine

/-- Sets PC. -/
def setPc (s : State) (k : CoreId) (a : BitVec 14) : State := s.modCore k (fun x => { x with pc := a })

/-- NOP (spec/13 R340). -/
def execNop (k : CoreId) (c : Cond) (s : State) : Host.Outcome State Fault Refusal := runInstr k c 1 (fun t => .done t none) s

/-- WAIT (spec/12 R321): the core parks. -/
def execWait (k : CoreId) (c : Cond) (s : State) : Host.Outcome State Fault Refusal :=
  runInstr k c 1 (fun t => .done (parkCore t k) none) s

/-- BRK (spec/13 R340): with an SDP session attached the core halts with reason 3; otherwise a BRK trap. -/
def execBrk (k : CoreId) (c : Cond) (s : State) : Host.Outcome State Fault Refusal :=
  runInstr k c 1 (fun t => if t.dbg.session then .done (haltCore t k 3) none else .trap t 7) s

/-- A return into ROM ends a hook (spec/12 R325, R327): of the TRAP hook, a W0 other than 1 hands the trap to the
Runtime; any other hook is over. `pc` is the address of the return. -/
def hookReturn (s : State) (k : CoreId) (pc : BitVec 14) : State :=
  let x := s.core k
  if pc.toNat < 0x2000 ∨ 0x2000 ≤ x.pc.toNat then s
  else match x.trapVec with
    | some v => if (commitLoad x).w.get 0 = 1 then s else handOver s k v
    | none => s.modCore k (fun x => { x with hook := none })

/-- RET (spec/13 R340). -/
def execRet (k : CoreId) (c : Cond) (s : State) : Host.Outcome State Fault Refusal :=
  runInstr k c 1 (fun t =>
    match popRs t k with
    | some (u, e) => .done (hookReturn (setPc u k e.addr) k (s.core k).pc) none
    | none => .rs true) s

/-- The context that RETI and RETF restore: PC, FL, the run level and ie (spec/13 R340). -/
def resumeAt (s : State) (k : CoreId) (pc : BitVec 14) (fl : BitVec 5) (level : BitVec 3) (ie : Bool) : State :=
  s.modCore k (fun x => { withFl x fl with pc := pc, level := level, ie := ie, trapVec := none })

/-- RETI (spec/13 R340). -/
def execReti (k : CoreId) (c : Cond) (s : State) : Host.Outcome State Fault Refusal :=
  runInstr k c 1 (fun t =>
    match popRs t k with
    | some (u, e) => .done (resumeAt u k e.addr e.fl e.level e.ie) none
    | none => .rs true) s

/-- RETF (spec/12 R315, spec/13 R340): the frame is popped from the memory stack. -/
def execRetf (k : CoreId) (c : Cond) (s : State) : Host.Outcome State Fault Refusal :=
  runInstr k c 1 (fun t =>
    match popWords t k (getW t k 7) 3 [] with
    | .ok (u, ws) =>
      let w := wordAt ws 1
      .done (resumeAt (setW u k 7 (getW u k 7 + 3)) k ((wordAt ws 2).extractLsb' 0 14) (w.extractLsb' 0 5)
        (w.extractLsb' 5 3) (w.getLsbD 8)) none
    | .error (some (u, v)) => .trap u v
    | .error none => .wait) s

/-- Restores the registers that a CALLM mask selects, in descending order: FL first, then W6 to W0 (spec/12 R317). -/
def restoreMask (s : State) (k : CoreId) (mask : Word) : Nat → List Word → State
  | 0, _ => s
  | n + 1, ws =>
    if mask.getLsbD n then
      match ws with
      | [] => s
      | v :: vs =>
        restoreMask (if n = 7 then s.modCore k (fun x => withFl x (v.extractLsb' 0 5)) else setW s k (Fin.ofNat 8 n) v)
          k mask n vs
    else restoreMask s k mask n ws

/-- RETM (spec/12 R317): atomic; the return stack is checked under R314 first. -/
def execRetm (k : CoreId) (c : Cond) (s : State) : Host.Outcome State Fault Refusal :=
  runInstr k c 1 (fun t =>
    match popRs t k with
    | none => .rs true
    | some (_, e) =>
      match popWords t k (getW t k 7) 1 [] with
      | .error (some (u, v)) => .trap u v
      | .error none => .wait
      | .ok (u, ms) =>
        let mask := wordAt ms 0
        let m := popCount mask.toNat 8
        match popWords u k (getW u k 7 + 1) m [] with
        | .error (some (u, v)) => .trap u v
        | .error none => .wait
        | .ok (u, ws) =>
          match popRs u k with
          | none => .rs true
          | some (u, _) =>
            let u := setW u k 7 (getW u k 7 + BitVec.ofNat 16 (m + 1))
            .done (hookReturn (setPc (restoreMask u k mask 8 ws) k e.addr) k (s.core k).pc) none) s

/-- JMP addr (spec/13 R340). -/
def execJmp (k : CoreId) (c : Cond) (target : BitVec 14) (s : State) : Host.Outcome State Fault Refusal :=
  runInstr k c 2 (fun t => .done (setPc t k target) none) s

/-- JMPR r (spec/13 R340). -/
def execJmpr (k : CoreId) (c : Cond) (r : Reg) (s : State) : Host.Outcome State Fault Refusal :=
  runInstr k c 1 (fun t => .done (setPc t k ((getW t k r).extractLsb' 0 14)) none) s

/-- A CALL from ROM of an enabled hook entry notes the hook's caller (spec/12 R325). -/
def hookCall (s : State) (k : CoreId) (pc target ret : BitVec 14) : Core → Core := fun x =>
  if pc.toNat < 0x2000 ∧ [0x2000, 0x2002, 0x2004, 0x2008].contains target.toNat ∧ s.parBit pSysPramEn (coreNum k) ∧
      x.hook = none then
    { x with hook := some ⟨ret, x.rsTop, x.rsCount, x.w, x.sg, x.t, x.ie, x.level, x.base⟩ }
  else x

/-- Pushes the address that PC has reached and jumps (spec/13 R340). -/
def doCall (s : State) (k : CoreId) (pc target : BitVec 14) : IRes :=
  let ret := (s.core k).pc
  match pushRs (s.modCore k (hookCall s k pc target ret)) k ret with
  | some t => .done (setPc t k target) none
  | none => .rs false

/-- CALL addr (spec/13 R340). -/
def execCall (k : CoreId) (c : Cond) (target : BitVec 14) (s : State) : Host.Outcome State Fault Refusal :=
  runInstr k c 2 (fun t => doCall t k (s.core k).pc target) s

/-- CALLR r (spec/13 R340). -/
def execCallr (k : CoreId) (c : Cond) (r : Reg) (s : State) : Host.Outcome State Fault Refusal :=
  runInstr k c 1 (fun t => doCall t k (s.core k).pc ((getW t k r).extractLsb' 0 14)) s

/-- The words that CALLM saves, in ascending order: W0 first, FL last, then the mask (spec/12 R317). -/
def maskWords (s : State) (k : CoreId) (mask : BitVec 14) : List Word :=
  ((List.range 8).filter mask.getLsbD).map (fun i =>
    if i = 7 then (flBits (s.core k)).setWidth 16 else getW s k (Fin.ofNat 8 i)) ++ [mask.setWidth 16]

/-- CALLM addr, #mask (spec/12 R316, R317): a mask with any of bits 13:8 set is ILL; the return stack is checked first; a
save that SG3 rejects halts the core. -/
def execCallm (k : CoreId) (c : Cond) (mask target : BitVec 14) (s : State) : Host.Outcome State Fault Refusal :=
  runInstr k c 3 (fun t =>
    if 256 ≤ mask.toNat then .trap t 4
    else
      let ret := (t.core k).pc
      match pushRs t k ret with
      | none => .rs false
      | some _ =>
        match pushWords t k (getW t k 7) (maskWords t k mask) with
        | .wait => .wait
        | .trap u v => if v = 1 then .frame u else .trap u v
        | .got u sp =>
          match pushRs (setW u k 7 sp) k ret with
          | some u => .done (setPc u k target) none
          | none => .rs false) s

/-! ### Repeat prefixes (spec/13 R343-R345) -/

/-- The repeated instruction; none for one that may not be repeated (spec/13 R344). -/
def repBody (k : CoreId) : RepBody → Option (State → IRes)
  | .mov d q => some (doTwo aluMov true k d q) | .add d q => some (doTwo aluAdd true k d q)
  | .adc d q => some (doTwo aluAdc true k d q) | .sub d q => some (doTwo aluSub true k d q)
  | .sbc d q => some (doTwo aluSbc true k d q) | .and d q => some (doTwo aluAnd true k d q)
  | .or d q => some (doTwo aluOr true k d q) | .xor d q => some (doTwo aluXor true k d q)
  | .cmp d q => some (doTwo aluSub false k d q) | .tst d q => some (doTwo aluAnd false k d q)
  | .dadd d q => some (doTwo aluDadd true k d q) | .dsub d q => some (doTwo aluDsub true k d q)
  | .shl r => some (doOne aluShl k r) | .shr r => some (doOne aluShr k r) | .asr r => some (doOne aluAsr k r)
  | .rol r => some (doOne aluRol k r) | .ror r => some (doOne aluRor k r) | .rlc r => some (doOne aluRlc k r)
  | .rrc r => some (doOne aluRrc k r) | .swab r => some (doOne aluSwab k r) | .not r => some (doOne aluNot k r)
  | .neg r => some (doOne aluNeg k r) | .inc r => some (doOne aluInc k r) | .dec r => some (doOne aluDec k r)
  | .clr r => some (doOne aluClr k r) | .sexb r => some (doOne aluSexb k r) | .push r => some (doPush k r)
  | .st r b inc => some (doSt k r (.short b inc)) | .mfs r spec => some (doMfs k spec r)
  | .btstr r => some (doBitReg .test k r) | .bsetr r => some (doBitReg .set k r) | .bclrr r => some (doBitReg .clear k r)
  | .bmovr r => some (doBitReg .move k r) | .nop => some (fun s => .done s none)
  | .other _ => none

/-- How a repeat sequence leaves off: ended; cut with PC back on the prefix; cut by the interrupt of a vector; or a trap of
an iteration. -/
inductive RepEnd where
  | ended (s : State)
  | cut (s : State)
  | intr (s : State) (v : Nat)
  | trap (s : State) (v : Nat)

/-- At most `n` iterations with the counter not 0 (spec/13 R343, R345). `whole` holds for RPTU, which neither an interrupt
nor a halt request cuts. -/
def repLoop (k : CoreId) (r : Reg) (ic : Cond) (body : State → IRes) (whole : Bool) : Nat → State → RepEnd
  | 0, s => .cut s
  | n + 1, s =>
    match (if condHolds (s.core k) ic then body s else .done s none) with
    | .done t _ =>
      let t := setW t k r (getW t k r - 1)
      let x := t.core k
      if x.w.get r = 0 then .ended t
      else if x.stepReq then .cut t
      else if whole then repLoop k r ic body whole n t
      else if x.haltReq ∨ x.haltSdp then .cut t
      else match (if x.ie then ipNext t k else none) with
        | some v => .intr t v
        | none => repLoop k r ic body whole n t
    | .trap t v => .trap t v
    | _ => .cut s

/-- A repeat prefix: ILL for a counter of W7 or an instruction that may not be repeated, whatever the counter holds
(spec/13 R344). The prefix consumes the load delay; a counter still in it is read as the old value (spec/13 R342). -/
def doRep (k : CoreId) (r : Reg) (ic : Cond) (b : RepBody) (whole : Bool) (n : Nat) (s : State) : IRes :=
  match repBody k b with
  | none => .trap s 4
  | some body =>
    let pre := (s.core k).pc - 1
    let fin (t : State) : State := setPc t k (pre + 2)
    let c := getW s k r
    if r = 7 then .trap s 4
    else if c = 0 then .done (fin s) none
    else match repLoop k r ic body whole n ((setW s k r c).modCore k commitLoad) with
      | .ended t => .done (fin t) none
      | .cut t => .done (setPc t k pre) none
      | .trap t v => .trap t v
      | .intr t v => .done ((takeInt (setPc t k pre) k v).getD (setPc t k pre)) none

/-- RPT r (spec/13 R343): `n` is how many iterations pass before the sequence is cut with PC on the prefix, at least one. -/
def execRpt (k : CoreId) (c : Cond) (r : Reg) (ic : Cond) (body : RepBody) (n : Nat) (s : State) : Host.Outcome State Fault Refusal :=
  runInstr k c 1 (doRep k r ic body false (max n 1)) s

/-- RPTU r (spec/13 R343): a sequence of more than 65,536 iterations, whose instruction writes the counter, goes on with
the next command (log entry 39). -/
def execRptu (k : CoreId) (c : Cond) (r : Reg) (ic : Cond) (body : RepBody) (s : State) : Host.Outcome State Fault Refusal :=
  runInstr k c 1 (doRep k r ic body true 65536) s

end Sys2Proof.Machine
end

