-- ==== Sys2Proof/Machine/Coproc.lean ====
section
/-! DEFINITION. The coprocessor block (spec/14): issue, completion and results of CP0-CP2, and the CP3 queue. -/

namespace Sys2Proof.Machine

/-! ### Issue (spec/14 R347-R350) -/

/-- The operands of an operation: `n` registers from Wr upward, as the instruction reads them (spec/14 R348). -/
def cpArgs (s : State) (k : CoreId) (r : Reg) (n : Nat) : List Word := (List.range n).map (fun i => getW s k (regAfter r i))

/-- Puts an operation on a tag, which discards the tag's old results (spec/14 R348). -/
def putOp (s : State) (k : CoreId) (t : Fin 4) (op : CpOp) : State :=
  let s := setTag s k t ⟨true, 2, 0, [], some { op with nr := s.cp.issued }⟩
  { s with cp := { s.cp with issued := s.cp.issued + 1 } }

/-- CPOP with `n` operands (spec/14 R348, R350): ILL past W7; a CP trap on a busy tag; otherwise `issue` takes over. -/
def doCpop (k : CoreId) (t : Fin 4) (r : Reg) (n : Nat) (issue : List Word → State → State) (s : State) : IRes :=
  if 8 < r.val + n then .trap s 4
  else if (tagOf s k t).busy then .trap s 6
  else .done (issue (cpArgs s k r n) s) none

/-- CPOP to CP0-CP2: the operation is issued and completes later (CP_OPERATION_COMPLETE). -/
def cpop (unit : Fin 4) (fn n : Nat) (k : CoreId) (c : Cond) (t : Fin 4) (r : Reg) (s : State) : Host.Outcome State Fault Refusal :=
  runInstr k c 2 (doCpop k t r n (fun args s => putOp s k t ⟨unit, fn, args, 0⟩)) s

/-- FETCH (spec/14 R352). -/
def execFetch (k : CoreId) (c : Cond) (t : Fin 4) (r : Reg) (s : State) : Host.Outcome State Fault Refusal := cpop 0 1 1 k c t r s
/-- NCO_SET (spec/14 R352). -/
def execNcoSet (k : CoreId) (c : Cond) (t : Fin 4) (r : Reg) (s : State) : Host.Outcome State Fault Refusal := cpop 0 2 5 k c t r s
/-- PHASE (spec/14 R352). -/
def execPhase (k : CoreId) (c : Cond) (t : Fin 4) (r : Reg) (s : State) : Host.Outcome State Fault Refusal := cpop 0 3 1 k c t r s
/-- START (spec/14 R352). -/
def execStart (k : CoreId) (c : Cond) (t : Fin 4) (r : Reg) (s : State) : Host.Outcome State Fault Refusal := cpop 0 4 4 k c t r s
/-- STOP (spec/14 R352). -/
def execStop (k : CoreId) (c : Cond) (t : Fin 4) (r : Reg) (s : State) : Host.Outcome State Fault Refusal := cpop 0 5 1 k c t r s
/-- TAPS (spec/14 R352). -/
def execTaps (k : CoreId) (c : Cond) (t : Fin 4) (r : Reg) (s : State) : Host.Outcome State Fault Refusal := cpop 0 6 5 k c t r s
/-- INTLEN (spec/14 R352). -/
def execIntlen (k : CoreId) (c : Cond) (t : Fin 4) (r : Reg) (s : State) : Host.Outcome State Fault Refusal := cpop 0 7 2 k c t r s

/-- A DWELL takes its place behind the cell search that runs, with acq.dwell and acq.ncoh as read at issue; an idle
Crystallizer begins it at once (spec/14 R353). -/
def issueDwell (k : CoreId) (t : Fin 4) (args : List Word) (s : State) : State :=
  let args := args ++ [BitVec.ofNat 16 (s.parN pAcqDwell), BitVec.ofNat 16 (s.parN pAcqNcoh)]
  let s := putOp s k t ⟨1, 1, args, 0⟩
  if cryOff s ∨ ¬ prnOk s (wordAt args 0).toNat then s
  else
    let s := { s with acq := { s.acq with dwellQ := s.acq.dwellQ ++ [(k, t)] } }
    if s.acq.cell.isNone then advanceSearch s else s

/-- DWELL (spec/14 R353). -/
def execDwell (k : CoreId) (c : Cond) (t : Fin 4) (r : Reg) (s : State) : Host.Outcome State Fault Refusal :=
  runInstr k c 2 (doCpop k t r 3 (issueDwell k t)) s
/-- RESULT (spec/14 R353). -/
def execResult (k : CoreId) (c : Cond) (t : Fin 4) (r : Reg) (s : State) : Host.Outcome State Fault Refusal := cpop 1 2 0 k c t r s
/-- ABORT (spec/14 R353). -/
def execAbort (k : CoreId) (c : Cond) (t : Fin 4) (r : Reg) (s : State) : Host.Outcome State Fault Refusal := cpop 1 3 0 k c t r s
/-- MULU (spec/14 R354). -/
def execMulu (k : CoreId) (c : Cond) (t : Fin 4) (r : Reg) (s : State) : Host.Outcome State Fault Refusal := cpop 2 1 4 k c t r s
/-- MULS (spec/14 R354). -/
def execMuls (k : CoreId) (c : Cond) (t : Fin 4) (r : Reg) (s : State) : Host.Outcome State Fault Refusal := cpop 2 2 4 k c t r s
/-- DIVU (spec/14 R354). -/
def execDivu (k : CoreId) (c : Cond) (t : Fin 4) (r : Reg) (s : State) : Host.Outcome State Fault Refusal := cpop 2 3 4 k c t r s
/-- DIVS (spec/14 R354). -/
def execDivs (k : CoreId) (c : Cond) (t : Fin 4) (r : Reg) (s : State) : Host.Outcome State Fault Refusal := cpop 2 4 4 k c t r s
/-- ROT (spec/14 R354). -/
def execRot (k : CoreId) (c : Cond) (t : Fin 4) (r : Reg) (s : State) : Host.Outcome State Fault Refusal := cpop 2 5 3 k c t r s
/-- ATAN2 (spec/14 R354). -/
def execAtan2 (k : CoreId) (c : Cond) (t : Fin 4) (r : Reg) (s : State) : Host.Outcome State Fault Refusal := cpop 2 6 2 k c t r s
/-- SQRT (spec/14 R354). -/
def execSqrt (k : CoreId) (c : Cond) (t : Fin 4) (r : Reg) (s : State) : Host.Outcome State Fault Refusal := cpop 2 7 2 k c t r s

/-! ### What the units do (spec/14 R352-R354) -/

/-- A completion: the state, the code, its detail and the result words. -/
structure Done where
  s      : State
  code   : Nat
  detail : Nat
  words  : List Word

/-- Completes with OK and words. -/
def doneOk (s : State) (ws : List Word) : Done := ⟨s, 0, 0, ws⟩
/-- Completes with ARG for an operand. -/
def doneArg (s : State) (i : Nat) : Done := ⟨s, 3, i, []⟩
/-- Completes with UNAVAIL. -/
def doneOut (s : State) : Done := ⟨s, 8, 0, []⟩

/-- `n` words that the spec does not state: free values. -/
def freeWords (s : State) : Nat → State × List Word
  | 0 => (s, [])
  | n + 1 =>
    let r := freeWords s.nextFree n
    (r.1, Config.unitWord s.free :: r.2)

/-- A correlator result saturated at ±32,767 (spec/14 R352). -/
def satCorr (w : Word) : Word := if w = 0x8000 then 0x8001 else w

/-- Two words as an unsigned 32-bit operand, bits 15:0 first. -/
def u32 (a : List Word) (i : Nat) : Nat := natOf [wordAt a i, wordAt a (i + 1)]
/-- Two words as a signed 32-bit operand. -/
def s32 (a : List Word) (i : Nat) : Int := (ofHalves (wordAt a (i + 1)) (wordAt a i)).toInt

/-- A value lies in a parameter's range. -/
def inRange (key : Nat) (x : Int) : Bool := match paramRow key with
  | some r => decide (r.lo ≤ x ∧ x ≤ r.hi)
  | none => true

/-- START: a pan on a PRN, at the code phase and Doppler that it has when it starts (log entry 75) (spec/14 R352, spec/04 R102, R115, R119, spec/20 R482). -/
def cpStart (s : State) (a : List Word) : Done :=
  let p := (wordAt a 0).toNat
  let prn := (wordAt a 1).toNat
  let code := (wordAt a 2).toNat
  if (panAt s p).isSome then doneArg s 0
  else if ¬ prnOk s prn ∨ pansOf s prn ≠ [] then doneArg s 1
  else if 32735 < code then doneArg s 2
  else if ¬ groupOk s (p / 8) then doneOut s
  else doneOk (startPan s p prn code (wordAt a 3).toInt (nextBoundary s) true) []

/-- TAPS (spec/14 R352, spec/04 R120). -/
def cpTaps (s : State) (p : Nat) (a : List Word) : Done :=
  let el := (wordAt a 1).toNat
  let vel := (wordAt a 2).toNat
  let xa := (wordAt a 3).toInt
  let xb := (wordAt a 4).toInt
  if ¬ inRange pTrkElSp el then doneArg s 1
  else if ¬ inRange pTrkVelSp vel ∨ vel ≤ el then doneArg s 2
  else if ¬ inRange pTrkXaOff xa then doneArg s 3
  else if ¬ inRange pTrkXbOff xb then doneArg s 4
  else doneOk (modPan s p (fun x => { x with pendTaps := some (el, vel, xa, xb) })) []

/-- CP0 for a core (spec/14 R352): a result that TRK takes closes the pan's loops (spec/04 R106). -/
def runCp0 (s : State) (k : CoreId) (fn : Nat) (a : List Word) : Done :=
  let p := (wordAt a 0).toNat
  if 32 ≤ p then doneArg s 0
  else if fn = 4 then cpStart s a
  else match panAt s p with
    | none => doneOut s
    | some x =>
      if fn = 1 then
        let r := if x.result = [] then freeWords s 16 else (s, (x.result ++ List.replicate 16 0).take 16)
        let f (x : Pan) : Pan := { x with ready := false }
        doneOk (modPan r.1 p (fun x => if k = .trk then trackPan s (f x) else f x)) (r.2.map satCorr)
      else if fn = 2 then
        let rates := (ofHalves (wordAt a 2) (wordAt a 1), ofHalves (wordAt a 4) (wordAt a 3))
        doneOk (modPan s p (fun x => { x with pendRate := some rates })) []
      else if fn = 3 then doneOk s [loHalf x.codePh, hiHalf x.codePh, loHalf x.carPh, hiHalf x.carPh]
      else if fn = 5 then doneOk (releasePan s p) []
      else if fn = 6 then cpTaps s p a
      else if [1, 2, 4, 5, 10, 20].contains (wordAt a 1).toNat then
        doneOk (modPan s p (fun x => { x with pendCoh := some (wordAt a 1).toNat })) []
      else doneArg s 1

/-- ABORT (spec/14 R353): the DWELL in progress completes with UNAVAIL; a cell search of the plan ends without a hit. -/
def abortCell (s : State) : State :=
  match s.acq.cell with
  | none => s
  | some c => match c.op with
    | some (k, t) => advanceSearch (completeTag s k t 8 0 [])
    | none => afterCell s

/-- CP1 (spec/14 R353). A DWELL reaches this only when the Crystallizer does not run it. -/
def runCp1 (s : State) (fn : Nat) (a : List Word) : Done :=
  if cryOff s then doneOut s
  else if fn = 1 then (if prnOk s (wordAt a 0).toNat then doneOut s else doneArg s 0)
  else if fn = 2 then
    let r := if s.acq.lastRes = [] then freeWords s 7 else (s, s.acq.lastRes)
    doneOk { r.1 with acq := { r.1.acq with dwellDone := false } } r.2
  else doneOk (abortCell s) []

/-- CP2 (spec/14 R354). -/
def runCp2 (s : State) (fn : Nat) (a : List Word) : Done :=
  if fn = 1 then doneOk s (wordsOf 4 (u32 a 0 * u32 a 2))
  else if fn = 2 then doneOk s (wordsOf 4 ((s32 a 0 * s32 a 2) % 2 ^ 64).toNat)
  else if fn = 3 then
    if u32 a 2 = 0 then doneArg s 2
    else doneOk s (wordsOf 2 (u32 a 0 / u32 a 2) ++ wordsOf 2 (u32 a 0 % u32 a 2))
  else if fn = 4 then
    if s32 a 2 = 0 then doneArg s 2
    else if s32 a 0 = -(2 ^ 31) ∧ s32 a 2 = -1 then doneArg s 0
    else doneOk s (wordsOf 2 ((s32 a 0).tdiv (s32 a 2) % 2 ^ 32).toNat ++ wordsOf 2 ((s32 a 0).tmod (s32 a 2) % 2 ^ 32).toNat)
  else if fn = 7 then doneOk s [BitVec.ofNat 16 (isqrt (u32 a 0) 16 0)]
  else
    let w (i : Nat) : Word := Config.cordic fn (wordAt a 0) (wordAt a 1) (wordAt a 2) i
    if fn = 6 ∧ wordAt a 0 = 0 ∧ wordAt a 1 = 0 then doneOk s [0, 0] else doneOk s [w 0, w 1]

/-- An operation runs on its unit. -/
def runOp (s : State) (k : CoreId) (op : CpOp) : Done :=
  match op.unit.val with
  | 0 => runCp0 s k op.fn op.args
  | 1 => runCp1 s op.fn op.args
  | _ => runCp2 s op.fn op.args

/-- An operation of another tag or core stands before this one on the same slot (spec/14 R349, R354); a DWELL, which may
run for long, holds up none but a DWELL. -/
def opBefore (s : State) (k : CoreId) (op : CpOp) : Bool :=
  let f (j : CoreId) (t : Fin 4) : Bool := match (tagOf s j t).op with
    | some o => o.unit == op.unit && decide (o.nr < op.nr) && !(o.unit == 1 && o.fn == 1) && !(o.unit == 2 && j != k)
    | none => false
  [CoreId.trk, .svc].any (fun j => [0, 1, 2, 3].any (fun t => f j t))

/-- CP_OPERATION_COMPLETE (spec/14 R347, R349, R351-R354): the operation on a tag runs to its end. -/
def execCpOperationComplete (k : CoreId) (t : Fin 4) (s : State) : Host.Outcome State Fault Refusal :=
  match (tagOf s k t).op with
  | none => .next s
  | some op =>
    let dwells := s.acq.dwellQ.contains (k, t) || (match s.acq.cell with | some c => c.op == some (k, t) | none => false)
    if ¬ s.pwr.coreUp ∨ dwells ∨ opBefore s k op ∨ ¬ (s.pwr.state = .run ∨ s.pwr.state = .idle) then .next s
    else
      let d := runOp s k op
      .next (completeTag d.s k t d.code d.detail d.words)

/-! ### Results (spec/14 R350, R351) -/

/-- CPRD (spec/14 R350): the next unread word, as a load; a CP trap for an idle tag, an error or no word left. -/
def execCprd (k : CoreId) (c : Cond) (slot t : Fin 4) (r : Reg) (s : State) : Host.Outcome State Fault Refusal :=
  let _ := slot
  runInstr k c 1 (fun u =>
    let x := tagOf u k t
    match x.words with
    | w :: ws => .done (setTag u k t { x with words := ws }) (some (r.val, w))
    | [] => if x.busy then .wait else .trap u 6) s

/-- The status word (spec/14 R351). -/
def tagStatus (x : Tag) : Nat := x.code + 16 * x.detail

/-- CPST (spec/14 R350, R351): the status with the unread count, as a load. -/
def execCpst (k : CoreId) (c : Cond) (slot t : Fin 4) (r : Reg) (s : State) : Host.Outcome State Fault Refusal :=
  let _ := slot
  runInstr k c 1 (fun u =>
    let x := tagOf u k t
    .done u (some (r.val, BitVec.ofNat 16 (tagStatus x + 2048 * x.words.length)))) s

/-- WAITCP (spec/14 R350, R351): the completion status, as a load; it waits while the tag is busy. -/
def execWaitcp (k : CoreId) (c : Cond) (slot t : Fin 4) (r : Reg) (s : State) : Host.Outcome State Fault Refusal :=
  let _ := slot
  runInstr k c 1 (fun u =>
    let x := tagOf u k t
    if x.busy then .wait else .done u (some (r.val, BitVec.ofNat 16 (tagStatus x)))) s

/-! ### CP3 (spec/14 R355-R361) -/

/-- The CP3 unit takes an operation at issue (spec/14 R355, R356): ARG at once for a bad operand, otherwise the header is
written and the operation queued. -/
def issueCp3 (k : CoreId) (t : Fin 4) (fn : BitVec 14) (args : List Word) (s : State) : State :=
  let off := (wordAt args 0).toNat
  let w1 := (wordAt args 1).toNat
  let b := w1 % 8
  let n := w1 / 8 % 64
  if 512 ≤ w1 ∨ 60 < n then completeTag s k t 3 1 []
  else if 16384 < off + n + 2 ∨ ¬ coreOwns s k b ∨ bankOut s b then completeTag s k t 3 0 []
  else
    let seq := s.cp.seq
    let s := ownerWrite s b off (BitVec.ofNat 16 (fn.toNat + 16384 * t.val))
    let s := ownerWrite s b (off + 1) (BitVec.ofNat 16 (n + 64 * coreNum k + 256 * seq.toNat))
    let s := setTag s k t ⟨true, 2, 0, [], none⟩
    { s with cp := { s.cp with seq := seq + 1, queue := s.cp.queue ++ [⟨k, t, Fin.ofNat 8 b, BitVec.ofNat 14 off, seq⟩] } }

/-- CP3_OPERATION: a CPOP to CP3 (spec/14 R355, R356). -/
def execCp3Operation (k : CoreId) (c : Cond) (t : Fin 4) (r : Reg) (fn : BitVec 14) (s : State) : Host.Outcome State Fault Refusal :=
  runInstr k c 2 (doCpop k t r 2 (issueCp3 k t fn)) s

/-- CP3_SERVE: the operation at the head of the queue rings the CP3 channel and is in service (spec/14 R357); a channel
that is not fit for it, or does not take the ring, completes it with CHAN. -/
def execCp3Serve (s : State) : Host.Outcome State Fault Refusal :=
  match s.cp.serving, s.cp.queue with
  | none, op :: q =>
    if ¬ s.pwr.coreUp ∨ ¬ (s.pwr.state = .run ∨ s.pwr.state = .idle) then .next s
    else
      let ch := s.parN pSysCp3Chan
      let s := { s with cp := { s.cp with queue := q } }
      let c := coreCls op.core
      let n : Notice := ⟨BitVec.ofNat 3 op.bank.val, op.off, BitVec.ofNat 3 (clsCode c), (s.cls c).nClient, 0⟩
      let r := ringChan s ch n
      if 32 ≤ ch ∧ ch ≤ 63 ∧ rcvOf s ch = 0 ∧ r.2 = 1 then
        .next { r.1 with cp := { r.1.cp with serving := some op, chan := ch, servedAt := dtcNow s } }
      else .next (completeTag s op.core op.tag 5 0 [])
  | _, _ => .next s

/-- CP3_TIMEOUT: sys.cp3_tmo passes with no accepted answer (spec/14 R361). -/
def execCp3Timeout (s : State) : Host.Outcome State Fault Refusal :=
  match s.cp.serving with
  | none => .next s
  | some op =>
    let s := carryDtc s (s.cp.servedAt + ceilDiv (s.parN pSysCp3Tmo * 16368) 1000)
    .next (completeTag (endService (withdrawCp3 s op)) op.core op.tag 4 0 [])

end Sys2Proof.Machine
end

