-- ==== Sys2Proof/Machine/Down.lean ====
section
/-! DEFINITION. CORE goes down: what it loses, what AON keeps, and the losses without a power-state entry (spec/08 R220,
spec/09 R228, R231, spec/10 R273, spec/16 R394, spec/20 R471, R482, spec/15 R369, R370). -/

namespace Sys2Proof.Machine

/-! ### What each unit keeps -/

/-- The banked registers of a class as CORE goes down: fields of CORE registers take their reset values, and through DEEP
SLEEP their RW fields are kept (spec/09 R227, R228). The client field of SLU_NOTICE is RW for a core only. -/
def clsDown (deep core : Bool) (b : ClsBank) : ClsBank :=
  { b with nKind := if deep then b.nKind else 0, nOff := if deep then b.nOff else 0, nBank := if deep then b.nBank else 0,
           nClient := if deep && core then b.nClient else 0, nCls := 0, dbChan := if deep then b.dbChan else 0,
           dbRes := 0, dbTmo := false, latch := .reset,
           hold := match b.hold with
             | some (n, v) => if regCore n then none else some (n, v)
             | none => none,
           stage := b.stage.filter (fun p => !regCore p.1) }

/-- A core as CORE goes down: breakpoints are in AON (spec/21 R494), and what R483 remembers is kept: where the DTC starts
again at zero, restarts before that count as made then (log entry 103). -/
def coreDownOne (deep : Bool) (c : Core) : Core :=
  { Core.reset with bp := c.bp, stopped := c.stopped, restarts := if deep then c.restarts else c.restarts.map (fun _ => 0) }

/-- The WCS as CORE goes down: the RW fields of WCS_CTRL are kept through DEEP SLEEP. -/
def wcsDown (deep : Bool) (x : WcsSt) : WcsSt :=
  if deep then { WcsSt.reset with en := x.en, fam := x.fam, x2 := x.x2, square := x.square, lowAct := x.lowAct,
                                  autoJump := x.autoJump }
  else .reset

/-- The Event Scheduler as CORE goes down: no slot stays armed; EVS_TMARK.tm_wake and the sequence of EVT records are
kept through DEEP SLEEP. -/
def evsDown (deep : Bool) (x : EvsSt) : EvsSt :=
  if deep then { EvsSt.reset with tmWake := x.tmWake, seq := x.seq } else .reset

/-- The banks as CORE goes down; their contents go when CORE is up again and they are cleared (spec/11 R296). -/
def bankDown (deep : Bool) (x : BankSt) : BankSt :=
  { BankSt.reset with mem := x.mem, errs := x.errs, poisonN := x.poisonN,
                      owners := if deep then x.owners else BankSt.reset.owners, lent := deep && x.lent,
                      rakeAt := if deep then x.rakeAt else 0, rakeMs := if deep then x.rakeMs else (0, 0), wAddr := if deep then x.wAddr else 0,
                      wBank := if deep then x.wBank else 0, wInc := deep && x.wInc,
                      retained := if deep then x.retained else 0 }

/-- CP3 and the program window as CORE goes down: program RAM is kept (spec/12 R305). -/
def cpDown (deep : Bool) (x : CpSt) : CpSt :=
  { CpSt.reset with pram := x.pram, pAddr := if deep then x.pAddr else 0, pInc := deep && x.pInc,
                    pCore := deep && x.pCore }

/-- The Pace Monitor as CORE goes down or SLEEP is entered: level and back-off return to 0, the counters are kept
(spec/02 R63). The runs of periods and the relapse windows end with it (log entry 90). The notice of a level that returns
to 0 so waits for the wake (spec/02 R56). -/
def paceDown (x : PaceSt) : PaceSt :=
  { x with level := 0, backoff := 0, lowRun := 0, hiRun := 0, quietRun := 0, overrun := false, ovrNoted := false,
           restores := [], old := [], zeroHeld := x.zeroHeld || x.level != 0, nAtFive := none, suspOrder := [] }

/-- The Mirror engine as CORE goes down: role 0, link stopped, PCU off; the delay registers' copies are formed from the
parameters (spec/19 R441, R442, R451). -/
def mirDown (s : State) (deep : Bool) : MirSt :=
  { MirSt.reset with cmpA := dlyCopy (s.par pMirDlyCmp), cmpB := dlyCopy (s.par pMirDlyCmp),
                     outA := dlyCopy (s.par pMirDlyOut), outB := dlyCopy (s.par pMirDlyOut), hiZ := !deep }

/-- Sluice as CORE goes down: channel notices and NTC are discarded, uncounted; an accepted CMD notice is kept, one whose
operation is held included (spec/10 R257, R273), and so is what ntc.coal_pend still reports (spec/09 R231; log entry 40). -/
def sluDown (s : State) : SluSt :=
  { SluSt.reset with cmd := s.mir.heldOps ++ s.slu.cmd, coal := s.slu.coal, msrSusp := s.slu.msrSusp, evtSusp := s.slu.evtSusp }

/-- A ring's bank is retained through the DEEP SLEEP being entered. -/
def ringKept (s : State) (deep : Bool) (k : Nat) : Bool :=
  deep && decide (s.par k < 8) && s.bank.retained.getLsbD (s.parN k)

/-- The ring indices as CORE goes down: kept when the ring's bank is retained (spec/10 R273; log entry 40). -/
def ringsDown (s : State) (deep : Bool) : State :=
  let s := if ringKept s deep pNtcMsrBank then s else (s.setPar pNtcMsrWr 0).setPar pNtcMsrRd 0
  if ringKept s deep pNtcEvtBank then s else (s.setPar pNtcEvtWr 0).setPar pNtcEvtRd 0

/-- With the reset owners back, a ring whose bank is not HOST's is suspended (spec/10 R254). -/
def ringsOwned (s : State) : State :=
  let off (k : Nat) : Bool := s.par k != 8 && !hostBank s (s.parN k)
  { s with slu := { s.slu with msrSusp := s.slu.msrSusp || off pNtcMsrBank, evtSusp := s.slu.evtSusp || off pNtcEvtBank } }

/-- The status words that hardware forms are held as they stand (spec/09 R231). -/
def holdStats (s : State) : State := if s.pwr.coresUp ∧ ¬ s.svc.held then s.setPar pIntStat (intStat s) else s

/-! ### CORE goes down -/

/-- CORE goes down. `deep` is the entry into DEEP SLEEP; otherwise everything in CORE takes its reset value. Every open
transaction is lost (spec/08 R220), HB_IRQ.core is set (spec/08 R210), parameters and AON stay (spec/09 R231). -/
def coreDown (s : State) (deep : Bool) : State :=
  let s := loseAllTxn s
  let s := if s.pwr.coreUp then irqCore s else s
  let s := holdStats (ringsDown (pcuOff s) deep)
  ringsOwned { s with
    time := if deep then { s.time with running := false } else .reset
    pace := { paceDown s.pace with zeroHeld := deep && (paceDown s.pace).zeroHeld }
    samp := .reset
    acq := { AcqSt.reset with stalled := s.acq.stalled }
    integ := if deep then s.integ else .reset
    pans := if deep then s.pans else .reset
    tp := { TpSt.reset with rate := s.parN pTpRate, width := s.parN pTpWidth, pol := s.parB pTpPol,
                            userOff := s.par pTpUserOff, outDly := s.par pTpOutDelay }
    wcs := wcsDown deep s.wcs
    evs := evsDown deep s.evs
    slu := sluDown s
    bank := bankDown deep s.bank
    cp := cpDown deep s.cp
    vreg := { s.vreg with out := 0, slewing := false, softst := s.vreg.softst && s.vreg.failed, late := none }
    pwr := { s.pwr with coreUp := false, coresUp := false, attempt := false, asked := false, bootHold := false }
    mir := mirDown s deep
    dbg := { s.dbg with seen := false }
    pin := { s.pin with refout := false }
    ns := clsDown deep false s.ns
    sec := clsDown deep false s.sec
    dbgc := clsDown deep false s.dbgc
    trkc := clsDown deep true s.trkc
    svcc := clsDown deep true s.svcc
    mirc := clsDown deep false s.mirc
    trk := coreDownOne deep s.trk
    svc := coreDownOne deep s.svc }

/-- SYS_LEVEL.level takes a value while CORE is down or coming up (spec/20 R478). -/
def setLevel (s : State) (l : Nat) : State :=
  { s with pwr := { s.pwr with level := l, chg := s.pwr.chg || s.pwr.level != l } }

/-- CORE goes down without a power-state entry: a pending epoch commit is applied first (spec/08 R220), an attempt ends
without an outcome (spec/16 R405), and no service level holds. -/
def coreLoss (s : State) (cause : Nat) : State :=
  let s := coreDown (applyAllPending s) false
  setLevel { s with pwr := { s.pwr with state := .run, wakeDeep := false, heldWakes := [], bootCause := cause } } 0

/-- A CORE power-up begins, unless RST_N is low: then it waits for the release (spec/20 R469, R478, spec/23 R532). -/
def beginPowerUp (s : State) : State :=
  let s := setLevel { s with mir := { s.mir with hiZ := true } } 0
  if s.pwr.rstLow then s else startSoft s

/-! ### The losses -/

/-- CORE_RAIL_FAULT: a short condition after soft start takes CORE down; the regulator then retries (spec/15 R370). -/
def execCoreRailFault (s : State) : Host.Outcome State Fault Refusal :=
  if s.pwr.coreUp then .next (railFail (coreLoss s 3)) else .next s

/-- The faults of units that end at RST_N: a stalled pan group and a stalled Crystallizer (spec/20 R482). -/
def endStalls (s : State) : State :=
  { s with pwr := { s.pwr with unitFlt := (s.pwr.unitFlt &&& 0xE0#8) ||| (if bankOut s 2 then 1#8 else 0#8) },
           acq := { s.acq with stalled := false } }

/-- RST_N_ASSERT: RST_N is recognised low (spec/20 R471, R483, R484, spec/08 R199). Retries after a core-rail failure go
on; in OFF nothing is powered. -/
def execRstNAssert (s : State) : Host.Outcome State Fault Refusal :=
  if s.pwr.rstLow then .next s
  else if ¬ s.pwr.aonUp then .next { s with pwr := { s.pwr with rstLow := true } }
  else
    let s := coreLoss s 2
    let s := endStalls (s.modCores (fun c => { c with stopped := false, restarts := [] }))
    .next { s with pwr := { s.pwr with rstLow := true }, bus := { s.bus with cyc := none, herr := false, held := false } }

/-- RST_N_RELEASE: a CORE power-up begins, or goes on where a retry has already succeeded (spec/20 R469, R484). -/
def execRstNRelease (s : State) : Host.Outcome State Fault Refusal :=
  if ¬ s.pwr.rstLow then .next s
  else
    let s := { s with pwr := { s.pwr with rstLow := false } }
    if s.pwr.aonUp ∧ ¬ s.vreg.failed ∧ ¬ s.vreg.softst then .next (beginPowerUp s) else .next s

/-- REFIN_LOSS: in RUN, IDLE or SLEEP; CORE goes down as under RST_N and a power-up follows (spec/20 R482). -/
def execRefinLoss (s : State) : Host.Outcome State Fault Refusal :=
  if s.pwr.coresUp ∧ (s.pwr.state = .run ∨ s.pwr.state = .idle ∨ s.pwr.state = .sleep) then
    .next (beginPowerUp (coreLoss s 4))
  else .next s

/-- AON_RESET: AON loses its supply (spec/23 R520): the device does nothing until the next power-on. BAK is not
concerned; a STORE in progress is cut short (spec/21 R503). -/
def execAonReset (s : State) : Host.Outcome State Fault Refusal :=
  let s := storeCut (coreDown s false)
  .next { s with pwr := { s.pwr with aonUp := false, state := .run, heldWakes := [], cancelled := 0 },
                 dbg := { s.dbg with session := false, afterBreak := false },
                 bus := { s.bus with cyc := none, herr := false, held := false } }

end Sys2Proof.Machine
end

