-- ==== Sys2Proof/Machine/Entry.lean ====
section
/-! DEFINITION. Power-up of AON and CORE, the commit of an entry attempt, and the ends of SLEEP, DEEP SLEEP and OFF
(spec/01 R30, R31, spec/11 R295-R298, spec/15 R368, R369, spec/16 R387-R401, spec/20 R467-R475). -/

namespace Sys2Proof.Machine

/-! ### AON power-up -/

/-- AON starts, after a VDDIN power-on or on exit from OFF (spec/20 R467, spec/16 R399): fuses and calibration are loaded,
every other AON value takes its reset value, and the CORE power-up begins unless RST_N is low. BAK, the fuses and the
calibration memory are kept. -/
def aonStart (s : State) (cause : Nat) : State :=
  let t := calLoad { State.reset with
    rtc := s.rtc, free := s.free, pending := s.pending,
    dbg := { DbgSt.reset with nvm := s.dbg.nvm, cycles := s.dbg.cycles },
    pwr := { PwrSt.reset with fuseBnk := s.pwr.fuseBnk, fuseUnit := s.pwr.fuseUnit, bnkOut := s.pwr.fuseBnk,
                              unitOut := s.pwr.fuseUnit, rstLow := s.pwr.rstLow, bootCause := cause },
    vreg := { VregSt.reset with softst := !s.pwr.rstLow } }
  let t := useTrims t
  { t with dbg := { t.dbg with calErr := false }, pwr := { t.pwr with calFail := !t.dbg.calValid } }

/-- VDDIN_POWER_ON (spec/20 R467, spec/23 R520). -/
def execVddinPowerOn (s : State) : Host.Outcome State Fault Refusal :=
  if s.pwr.aonUp ∨ s.pwr.state = .off then .next s else .next (aonStart s 0)

/-- Exit from OFF for a wake source: a cold start (spec/16 R396, R399). -/
def exitOff (s : State) (code : Nat) : State :=
  let t := (aonStart s 1).setParBit pPwrWakeSeen code true
  { t with pwr := { t.pwr with wake := code, cancelled := s.pwr.cancelled } }

/-- A wake source of AON or BAK arrives in any state (spec/16 R396). -/
def wakeFrom (s : State) (code : Nat) : State :=
  if s.pwr.state = .off then exitOff s code else idleNow (wakeEvent s code)

/-- WAKE_PIN: a qualified rising edge on WAKE (spec/16 R396). -/
def execWakePin (s : State) : Host.Outcome State Fault Refusal := .next (wakeFrom s 4)

/-! ### Pans after SLEEP or DEEP SLEEP (spec/04 R119) -/

/-- A held PRN restarts in PULL from its propagated state, or its pan is released and the PRN is searched (spec/04 R119;
log entry 76). -/
def resumePan (s : State) (p : Nat) : State :=
  match panAt s p with
  | none => s
  | some x =>
    if panHot s x.prn then
      putPan s p { unlock (advancePan s x (dtcNow s)) with phase := .pull, susp := false, reacq := none, ready := false,
                                                           direct := true, since := dtcNow s }
    else releaseAndQueue s p

/-- Every pan held resumes. -/
def resumePans (s : State) : State := (s.pans.act.map (·.1)).foldl resumePan s

/-! ### CORE power-up (spec/20 R470, spec/16 R398) -/

/-- A soft start fails (spec/15 R369). A failure on the way out of DEEP SLEEP makes what follows an ordinary power-up. -/
def softFail (s : State) : State :=
  let s := if s.pwr.wakeDeep then coreDown s false else s
  railFail { s with pwr := { s.pwr with wakeDeep := false, bootCause := 3 } }

/-- CORE is up after core-rail failures: FAULT_N is released and SUPPLY event 8 is due (spec/15 R369, R378). -/
def railBack (s : State) : State :=
  if s.vreg.failed then
    { s with vreg := { s.vreg with failed := false, failsSince := 0 },
             pwr := { s.pwr with bootCause := 3, supplyHeld := mput s.pwr.supplyHeld 8 s.vreg.failsSince } }
  else s

/-- The banks as CORE comes up: those in `keep` hold their contents and wait to grant access, the others are cleared with
good check bits (spec/11 R296, R297). -/
def banksUp (s : State) (keep : BitVec 8) : State :=
  { s with bank := { s.bank with
      mem := s.bank.mem.filter (fun c => keep.getLsbD (c.1 / 32768)),
      errs := s.bank.errs.filter (fun e => keep.getLsbD (e.1 / 16384)),
      clearing := ~~~keep &&& ~~~s.pwr.bnkOut, wakeWait := keep } }

/-- CORE is up: REFOUT is driven and REFIN is awaited. After DEEP SLEEP HB_IRQ.core follows when the cores start. -/
def coreIsUp (s : State) : State :=
  let s := { s with pwr := { s.pwr with coreUp := true }, pin := { s.pin with refout := true } }
  if s.pwr.wakeDeep then banksUp s s.bank.retained else banksUp (irqCore s) 0

/-- SOFT_START_END: VCORE has reached its target, or the soft start fails (spec/15 R368, R369). With RST_N low the
power-up waits for the release (spec/20 R484). -/
def execSoftStartEnd (vOk ilimHeld : Bool) (s : State) : Host.Outcome State Fault Refusal :=
  if ¬ s.vreg.softst ∨ ¬ s.pwr.aonUp then .next s
  else if ¬ vOk ∨ ilimHeld then .next (softFail s)
  else
    let s := railBack (softDone s)
    if s.pwr.rstLow then .next s else .next (coreIsUp s)

/-- The banks that the Runtime needs to resume were all retained (spec/11 R298). -/
def resumable (s : State) : Bool :=
  s.bank.retained.getLsbD 0 && s.bank.retained.getLsbD 1 && s.bank.retained.getLsbD 3 && s.bank.retained.getLsbD 4

/-- The DTC resumes after DEEP SLEEP, `gap` ticks later: unless time was UNKNOWN, the gap is bridged (spec/01 R30,
R31), and the reference anchor is carried across it with GNSS time (spec/05 R131; log entry 44). -/
def bridge (s : State) (gap : Nat) : State :=
  let s := { s with time := { s.time with running := true } }
  if s.time.tq = .unknown then s
  else
    let u := s.time.uHeld + 122 + ceilDiv (s.parN pSysBridgePpm * 1000 * gap) 1047552000
    let s := setUnc { s with time := { s.time with anchorT := s.time.anchorT + gap, bridged := true, fineSince := none,
                                                   gapTicks := s.time.gapTicks + gap } } u 0
    let ref := s.integ.ref.map (fun r =>
      { r with t := r.t + gap, u := r.u + 122 + ceilDiv (s.parN pSysBridgePpm * 1000 * gap) 1047552000 })
    setTq { s with integ := { s.integ with ref := ref } } .rtcBridged

/-- What the Runtime held in banks that were not retained is gone: it starts its state afresh from what AON holds
(spec/11 R298). -/
def afresh (s : State) : State :=
  { s with pans := .reset, integ := { IntegSt.reset with seq := s.integ.seq },
           time := { s.time with pos := none, surveyN := 0, surveyT := 0, surveySum := ⟨0, 0, 0, 0, 0⟩, surveyHeld := false,
                                 utcValid := false, leap := 0, leapNext := none } }

/-- The cores start, and with them what runs by itself: both cores at vector 0 and the Runtime. -/
def coresStart (s : State) : State :=
  runtimeStart (startCore (startCore s .trk) .svc)

/-- Outputs leave high impedance, the front end is enabled and CORE counts as started (spec/23 R532). -/
def coreServes (s : State) (presc : Bool) : State :=
  updateFe { s with pwr := { s.pwr with coresUp := true, prescOk := presc }, mir := { s.mir with hiZ := false } }

/-- The PACE notice of a level that returned to 0 at the entry follows the wake (spec/02 R56, R63). -/
def postZero (s : State) : State :=
  if s.pace.zeroHeld then notePace { s with pace := { s.pace with zeroHeld := false } } 1 else s

/-- The cores start after DEEP SLEEP (spec/16 R398, spec/11 R298, spec/04 R119, spec/06 R158). -/
def wakeStart (s : State) (gap : Nat) (presc : Bool) : State :=
  let s := bridge s gap
  let s := if resumable s then s else afresh s
  let s := coresStart (coreServes s presc)
  let s := resumePans { s with pwr := { s.pwr with wakeDeep := false } }
  let s := if s.wcs.en then wcsStart { s with wcs := { s.wcs with famUse := s.wcs.fam } } else s
  irqWake (irqCore (postZero s))

/-- The cores start, or are held, at any other power-up (spec/20 R470, R474). -/
def coldStart (s : State) (presc : Bool) : State :=
  let s := coreServes { s with time := { TimeSt.reset with running := true }, pwr := { s.pwr with bootHold := false } } presc
  if s.parB pSysBoot then relevel s false 0 0 else coresStart s

/-- REFIN_STABLE: 1,024 good REFIN periods have passed with CORE up (spec/20 R470, spec/16 R398). `gap` is the DEEP SLEEP
gap in ticks, `prescMoved` what the Runtime sees of the RTC prescaler (spec/17 R414). -/
def execRefinStable (gap : Nat) (prescMoved : Bool) (s : State) : Host.Outcome State Fault Refusal :=
  if s.pwr.coreUp ∧ ¬ s.pwr.coresUp then
    if s.pwr.wakeDeep then .next (wakeStart s gap prescMoved) else .next (coldStart s prescMoved)
  else .next s

/-! ### The commit of an entry attempt (spec/16 R387-R395) -/

/-- Something waits for the next 1 ms epoch boundary: an epoch commit or a step of GNSS time. -/
def boundaryWaits (s : State) : Bool := allCls.any (fun c => (txnOf s c).pend) || s.time.stepPend.isSome

/-- The 1 ms epoch boundary at which the fabric stops: pending epoch commits, then a step, apply there. At a boundary the
fabric stops at once, unless something waits for the next one (spec/08 R220, spec/16 R388). -/
def stopBoundary (s : State) : State :=
  if dtcNow s % countsPerMs = 0 ∧ ¬ boundaryWaits s then s
  else
    let s := applyAllPending (carryDtc s ((dtcNow s / countsPerMs + 1) * countsPerMs))
    let s := match s.time.stepPend with
      | some d => applyStep s d
      | none => s
    s.modCores (fun c => { c with ipEpoch := true })

/-- The later of two times. -/
def laterOf (t : Option Int) (u : Int) : Option Int :=
  match t with
  | some a => some (max a u)
  | none => some u

/-- The tick at which the pulses in progress have ended that an entry waits for: TPOUT's, and for DEEP SLEEP or OFF those
of EVOUT. -/
def pulsesEnd (s : State) : Option Int :=
  let t := if 3 ≤ s.pwr.tried ∨ ¬ s.parB pWcsSleepRun then s.tp.endsAt.map (tpEdge s) else none
  if 3 ≤ s.pwr.tried then
    s.evs.ev.toList.zipIdx.foldl (fun t p => p.1.ends.foldl (fun t e => laterOf t (evEdge s p.2 e)) t) t
  else t

/-- The DTC count of the REFIN period in which a tick lies. -/
def tickCount (n : Int) : Nat := (-((-n) / 64)).toNat

/-- The count of the 1 ms epoch boundary at which the fabric stops: the next one where something waits for it, else the
present instant where it is a boundary. -/
def boundaryCount (s : State) : Nat :=
  if boundaryWaits s then (dtcNow s / countsPerMs + 1) * countsPerMs
  else (dtcNow s + (countsPerMs - 1)) / countsPerMs * countsPerMs

/-- The counts at which the blocks that delay to a stated instant accept, by block code (spec/16 R388): the host bus with
an epoch commit, the fabric, the WCS, the edge placer and the regulator. -/
def delays (s : State) : List (Nat × Nat) :=
  let commit := allCls.any (fun c => (txnOf s c).pend)
  (if commit then [(6, boundaryCount s)] else []) ++ [(8, boundaryCount s)] ++
  (if stopsWcs s then [(9, tickCount (stopTick s))] else []) ++
  (match pulsesEnd s with | some n => [(10, tickCount n)] | none => []) ++
  (if slewing s then [(12, slewEnd s)] else [])

/-- The block that delays longest, the lowest code of equal ones, and its delay in µs (spec/16 R388, R390): a block with a
stated instant from when it was asked (log entry 67); where none of these waits, the draining banks by the `us` that was measured. -/
def delayBlock (s : State) (us : Nat) : Nat × Nat :=
  let best := (delays s).foldl (fun b d => if b.2 < d.2 then d else b) (0, dtcNow s)
  let t := if best.1 = 0 then 0 else (best.2 - s.pwr.askedAt) * 1000 / countsPerMs
  if best.1 = 0 ∧ s.bank.drain ≠ 0 then (7, us)
  else (best.1, t)

/-- A slew of VCORE has ended. -/
def endSlew (s : State) : State :=
  if s.vreg.slewing then slewDone (carryDtc s (slewEnd s)) else s

/-- The pulses in progress have ended. -/
def afterPulses (s : State) (e : Option Int) : State :=
  match e with
  | some n => carryTick s n
  | none => s

/-- TPOUT is held inactive, and the WCS stopped, where the state asks for it (spec/16 R393, R394). -/
def stopOutputs (s : State) : State :=
  if 3 ≤ s.pwr.tried ∨ ¬ s.parB pWcsSleepRun then
    { s with tp := { s.tp with level := false, endsAt := none, deferred := none },
             wcs := { s.wcs with running := false, stopped := false, sleepStop := s.wcs.state != .off } }
  else s

/-- The WCS outputs and the fabric stop, each at its own instant, the earlier first (spec/16 R388). -/
def stopBlocks (s : State) : State :=
  if ¬ stopsWcs s then stopBoundary s
  else if tickCount (stopTick s) < boundaryCount s ∨ (tickCount (stopTick s) = boundaryCount s ∧ ¬ boundaryWaits s) then
    stopBoundary (stopWcs s)
  else stopWcs (stopBoundary s)

/-- The blocks that delay have accepted: the outputs have stopped at a lattice point where the state asks for it, the
boundary has come, pulses and slews have ended and banks have drained. -/
def blocksDone (s : State) : State :=
  let t := endSlew (afterPulses (stopBlocks s) (pulsesEnd s))
  stopOutputs { t with bank := { t.bank with drain := 0 } }

/-- The commit itself (spec/16 R390, R396). -/
def commitEntry (s : State) (d : Nat × Nat) : State :=
  let s := { s with pwr := { s.pwr with attempt := false, asked := false, outcome := 1, block := d.1, heldWakes := [],
                                        commitAt := dtcNow s, tmWakeAon := s.evs.tmWake, state := pwrOf s.pwr.tried } }
  ((s.bumpPar pPwrEnterCnt).setPar pPwrDelayUs (min 65535 d.2 : Nat)).setPar pPwrWakeSeen 0

/-- SLEEP: pans, search and sample path stop, the time quality follows R23, pace levels reset, VCORE retargets; a
standby's receiver and PCU stop (spec/16 R393, spec/19 R465). -/
def enterSleep (s : State) : State :=
  let s := { s with acq := { s.acq with searching := false, plan := [], newPlan := none, cell := none },
                    pwr := { s.pwr with busyAt := if s.acq.searching then dtcNow s else s.pwr.busyAt },
                    pace := paceDown s.pace, vreg := { s.vreg with atCommit := s.vreg.target } }
  let s := cmdVcore s s.pwr.att.vcore
  let s := toHoldover (updateFe s)
  if s.mir.role = 2 then
    let s := setMirStat (setMirStat s 0 false) 1 false
    { s with mir := { s.mir with passDone := false, es := [], lockRun := 0, looseRun := 0, accuseRun := 0 } }
  else s

/-- DEEP SLEEP: the DTC is held at the next RTC edge, at most one RTC period on (log entry 41); banks are retained as
pwr.retain says; slots cancelled are counted; CORE goes down (spec/16 R394, spec/11 R295, spec/01 R30). -/
def enterDeep (s : State) : State :=
  let s := carryDtc s.nextFree (dtcNow s + Config.analogue s.free % 500)
  let n := s.evs.slots.length
  let s := { s with time := { s.time with heldDtc := s.time.dtc, uHeld := (uncNow s).getD 0 },
                    bank := { s.bank with retained := BitVec.ofNat 8 s.pwr.att.retain &&& ~~~s.pwr.bnkOut },
                    pwr := { s.pwr with cancelled := if s.parB pEvsDeepCancel then n else 0 } }
  coreDown s true

/-- OFF: as DEEP SLEEP with nothing retained, and AON goes too (spec/16 R395), after a STORE in progress has
ended (spec/21 R503); a session ends with it. The slots cancelled are counted for the notice that follows the start of the
Runtime (spec/07 R189; log entry 94). -/
def enterOff (s : State) : State :=
  let n := if s.parB pEvsDeepCancel then s.evs.slots.length else 0
  let s := storeEnds (coreDown s false)
  { s with pwr := { s.pwr with aonUp := false, cancelled := n }, cp := { s.cp with pram := [] },
           dbg := { s.dbg with session := false, afterBreak := false }, bus := { s.bus with cyc := none, held := false } }

/-- ENTRY_COMMIT: the last delaying block accepts (spec/16 R387, R390, R393-R395). -/
def execEntryCommit (delayUs : Nat) (s : State) : Host.Outcome State Fault Refusal :=
  if s.pwr.attempt ∧ s.pwr.asked then
    let s := commitEntry (blocksDone s) (delayBlock s delayUs)
    .next (match s.pwr.state with
      | .sleep => enterSleep s
      | .deep => enterDeep s
      | _ => enterOff s)
  else .next s

/-! ### Wakes -/

/-- The lowest of the wake sources held. -/
def wakeCode (s : State) : Nat := s.pwr.heldWakes.foldl min 31

/-- The device leaves a sleep state: PWR_STAT.wake and pwr.last_ms (spec/16 R396, R407). -/
def leaveSleep (s : State) (ms : Nat) : State :=
  let s := { s with pwr := { s.pwr with wake := wakeCode s, heldWakes := [], state := .run } }
  s.setPar pPwrLastMs (min 4294967295 ms : Nat)

/-- What SLEEP held back follows the wake: firings, the POWER notice, supply and gauge notices (spec/07 R189, spec/16
R391, spec/15 R378, spec/18 R434). -/
def postHeld (s : State) : State :=
  let s := deliverAll { s with evs := { s.evs with held := [] } } s.evs.held
  postZero (postGaugeHeld (postSupplyHeld (notePower s 2 1 s.pwr.wake)))

/-- With pwr.wake_run 1 a wake by codes 7, 9 and 10 alone leads SVC to request SLEEP again (spec/16 R401). -/
def sleepAgain (s : State) : State :=
  let m := s.parN pPwrWakeSeen
  if s.parB pPwrWakeRun ∧ m ≠ 0 ∧ m &&& (2 ^ 7 + 2 ^ 9 + 2 ^ 10) = m ∧ coreRuns s .svc then writeReq s .svc 2 else s

/-- SLEEP_EXIT: a wake source ends SLEEP (spec/16 R397): the regulator retargets, cores are released, the WCS starts again
where it was stopped, pans restart or are searched. The DTC, which runs on in SLEEP, has come at least `ms` milliseconds
past the commit. -/
def execSleepExit (ms : Nat) (s : State) : Host.Outcome State Fault Refusal :=
  if s.pwr.state = .sleep ∧ s.pwr.heldWakes ≠ [] then
    let s := carryDtc s (s.pwr.commitAt + ms * countsPerMs)
    let s := leaveSleep s ((dtcNow s - s.pwr.commitAt) / countsPerMs)
    let s := updateFe (releaseCores (cmdVcore s s.vreg.atCommit))
    let s := if s.wcs.sleepStop then wcsRestart s else s
    .next (idleNow (sleepAgain (resumePans (postHeld (irqWake s)))))
  else .next s

/-- DEEP_SLEEP_EXIT: a wake source ends DEEP SLEEP and the soft start begins (spec/16 R398, spec/20 R478). -/
def execDeepSleepExit (ms : Nat) (s : State) : Host.Outcome State Fault Refusal :=
  if s.pwr.state = .deep ∧ s.pwr.heldWakes ≠ [] then
    let s := leaveSleep s ms
    .next (beginPowerUp { s with pwr := { s.pwr with wakeDeep := true } })
  else .next s

end Sys2Proof.Machine
end

