-- ==== Sys2Proof/Machine/Rtc.lean ====
section
/-! DEFINITION. The RTC: second ticks, alarms, and the supply of BAK (spec/17, spec/09 R228). -/

namespace Sys2Proof.Machine

/-! ### Counting (spec/17 R410) -/

/-- A BCD field after one more: the carry out, and the value. -/
def bcdNext (v first last : Nat) : Bool × Nat := if last ≤ bcdVal v then (true, toBcd first) else (false, toBcd (bcdVal v + 1))

/-- The calendar one second later. -/
def nextSecond (r : RtcSt) : RtcSt :=
  let sec := bcdNext r.sec.toNat 0 59
  let r := { r with sec := BitVec.ofNat 7 sec.2 }
  if ¬ sec.1 then r
  else
    let min := bcdNext r.min.toNat 0 59
    let r := { r with min := BitVec.ofNat 7 min.2 }
    if ¬ min.1 then r
    else
      let hour := bcdNext r.hour.toNat 0 23
      let r := { r with hour := BitVec.ofNat 6 hour.2 }
      if ¬ hour.1 then r
      else
        let day := bcdNext r.day.toNat 1 (monthDays (bcdVal r.month.toNat) (bcdVal r.year.toNat))
        let r := { r with wday := if r.wday = 7 then 1 else r.wday + 1, day := BitVec.ofNat 6 day.2 }
        if ¬ day.1 then r
        else
          let month := bcdNext r.month.toNat 1 12
          let r := { r with month := BitVec.ofNat 5 month.2 }
          if ¬ month.1 then r else { r with year := BitVec.ofNat 8 (bcdNext r.year.toNat 0 99).2 }

/-! ### Alarms (spec/17 R415) -/

/-- An alarm's unmasked fields match the calendar. -/
def almMatch (r : RtcSt) (a : BitVec 32) : Bool :=
  a.getLsbD 23 && (a.getLsbD 7 || a.extractLsb' 0 7 == r.sec) && (a.getLsbD 15 || a.extractLsb' 8 7 == r.min) &&
    (a.getLsbD 22 || a.extractLsb' 16 6 == r.hour) && (a.getLsbD 30 || a.extractLsb' 24 6 == r.day)

/-- A match while the flag reads 0: the alarm event. -/
def almEvent (r : RtcSt) (a : BitVec 32) : Bool := almMatch r a && !a.getLsbD 31

/-- The second tick: the calendar advances, and each alarm sets its flag on a match. -/
def tickRtc (r : RtcSt) : RtcSt :=
  let r := nextSecond r
  { r with alm0 := if almMatch r r.alm0 then setBit r.alm0 31 true else r.alm0,
           alm1 := if almMatch r r.alm1 then setBit r.alm1 31 true else r.alm1 }

/-- RTC_SECOND_TICK: the prescaler wraps (spec/17 R410, R415, R417); an alarm event is a wake source. Of two alarms that
match together in OFF the lower code is recorded (spec/16 R396). -/
def execRtcSecondTick (s : State) : Host.Outcome State Fault Refusal :=
  if s.rtc.halt then .next s
  else
    let e := nextSecond s.rtc
    let s := { s with rtc := { tickRtc s.rtc with prescAt := some (dtcNow s) } }
    let off := s.pwr.state = .off
    let s := if almEvent e e.alm0 then wakeFrom s 5 else s
    if almEvent e e.alm1 then
      .next (if off ∧ almEvent e e.alm0 then s.setParBit pPwrWakeSeen 6 true else wakeFrom s 6)
    else .next s

/-! ### The supply of BAK (spec/17 R408, R416, spec/09 R228) -/

/-- The stamp of a switch-over: seconds, minutes, hours and day, with valid set (spec/17 R416). -/
def stampNow (r : RtcSt) : BitVec 32 :=
  pack [(0, r.sec.toNat), (7, 1), (8, r.min.toNat), (16, r.hour.toNat), (24, r.day.toNat)]

/-- VBAK_SWITCH_OVER: BAK moves to VBAK; an armed stamp is taken. -/
def execVbakSwitchOver (s : State) : Host.Outcome State Fault Refusal :=
  if s.rtc.onVbak then .next s
  else .next { s with rtc := { s.rtc with onVbak := true,
                                          stamp := if s.rtc.stamp.getLsbD 7 then s.rtc.stamp else stampNow s.rtc } }

/-- VDDIN_SWITCH_BACK: BAK moves back to VDDIN, unstamped. -/
def execVddinSwitchBack (s : State) : Host.Outcome State Fault Refusal :=
  .next { s with rtc := { s.rtc with onVbak := false } }

/-- BAK_RESET: neither supply is present, so that AON has none either (spec/09 R228). -/
def execBakReset (s : State) : Host.Outcome State Fault Refusal :=
  if s.pwr.aonUp ∨ s.pwr.state = .off then .next s else .next { s with rtc := .reset }

end Sys2Proof.Machine
end

