-- ==== Sys2Proof/Machine/Debug.lean ====
section
/-! DEFINITION. The Serial Debug Port: sessions, its spaces, halts and breakpoints (spec/21 R486-R497). -/

namespace Sys2Proof.Machine

/-! ### Sessions (spec/21 R486, R488) -/

/-- The session key. -/
abbrev sessionKey : Word := 0x6D4A

/-- The SDP answers: AON is powered (spec/21 R487). -/
def sdpOn (s : State) : Bool := s.pwr.aonUp

/-- A session ends and the SDP waits for a session key; the breakpoint words are cleared (spec/21 R488, R494). -/
def endSession (s : State) : State :=
  { (s.modCores (fun c => { c with bp := Vector.replicate 4 ⟨0, false⟩ })) with
    dbg := { s.dbg with session := false, afterBreak := true } }

/-- SDP_BREAK (spec/21 R488). -/
def execSdpBreak (s : State) : Host.Outcome State Fault Refusal :=
  if sdpOn s then .next (endSession s) else .next s

/-- SDP_SESSION_ATTACH: the key after a break; sdp_seen is a CORE field (spec/21 R486, R488). Any other word ends the
wait for the key. -/
def execSdpSessionAttach (key : Word) (s : State) : Host.Outcome State Fault Refusal :=
  if sdpOn s ∧ s.dbg.afterBreak then
    if key = sessionKey then
      .next { s with dbg := { s.dbg with session := true, afterBreak := false, seen := s.dbg.seen || s.pwr.coreUp } }
    else .next { s with dbg := { s.dbg with afterBreak := false } }
  else .next s

/-! ### What a request comes to (spec/21 R489, R491) -/

/-- The end of a request: performed with its data, not yet, or refused with a cause and, under POISON, the data. -/
inductive DRes where
  | done (s : State) (v : BitVec 32)
  | retry
  | error (s : State) (e : Cause) (v : BitVec 32)

/-- A CORE-domain item: CORE_DOWN while CORE is down, RETRY while it is held in SLEEP (spec/21 R491, R493). -/
def coreItem (s : State) (f : Unit → DRes) : DRes :=
  if ¬ s.pwr.coreUp then .error s .coreDown 0
  else if s.pwr.state = .sleep then .retry
  else f ()

/-- The core of a number. -/
def coreBit (a i : Nat) : CoreId := if a.testBit i then .svc else .trk

/-! ### Space 0: the debug words (spec/21 R494) -/

/-- A core's D_CTL. -/
def dctlView (x : Core) : BitVec 32 :=
  pack [(0, bit x.haltSdp), (2, bit x.stepReq), (3, bit x.halted), (4, x.reason)]

/-- A breakpoint word. -/
def bpView (x : Core) (i : Nat) : BitVec 32 :=
  match x.bp.toList[i]? with
  | some b => pack [(0, b.addr.toNat), (16, bit b.en)]
  | none => 0

/-- D_CTL halt (spec/21 R494, R495): at once done on a halted core. -/
def askHalt (s : State) (k : CoreId) : State := s.modCore k (fun x => { x with haltSdp := x.haltSdp || !x.halted })

/-- D_CTL step: a halted core runs on for one instruction (spec/21 R496). -/
def askStep (s : State) (k : CoreId) : State :=
  if (s.core k).halted then (resumeCore s k).modCore k (fun x => { x with stepReq := true, bpSkip := true }) else s

/-- A write of D_CTL. -/
def dctlWrite (s : State) (k : CoreId) (v : BitVec 32) : State :=
  let s := if v.getLsbD 0 then askHalt s k else s
  let s := if v.getLsbD 1 then resumeCore s k else s
  if v.getLsbD 2 then askStep s k else s

/-- A read of a debug word; D_ERR is cleared by it. -/
def space0Read (s : State) (a : Nat) : DRes :=
  if a = 0 then .done s (regView s .dbg 0)
  else if a = 1 then
    .done { s with dbg := { s.dbg with errCause := 0, errSpace := 0 } } (pack [(0, s.dbg.errCause), (5, s.dbg.errSpace)])
  else if a = 2 then .done s (dctlView s.trk)
  else if a = 3 then .done s (dctlView s.svc)
  else if a < 4 then .done s 0
  else if a < 8 then .done s (bpView s.trk (a - 4))
  else if a < 12 then .done s (bpView s.svc (a - 8))
  else if a = 12 then .done s 0
  else .error s .unmapped 0

/-- Sets a breakpoint. -/
def setBp (s : State) (k : CoreId) (i : Nat) (v : BitVec 32) : State :=
  s.modCore k (fun x => { x with bp := x.bp.setIfInBounds i ⟨v.extractLsb' 0 14, v.getLsbD 16⟩ })

/-- A write of a debug word; RO words ignore it. -/
def space0Write (s : State) (a : Nat) (v : BitVec 32) : DRes :=
  if a = 2 then .done (dctlWrite s .trk v) 0
  else if a = 3 then .done (dctlWrite s .svc v) 0
  else if a < 4 then .done s 0
  else if a < 8 then .done (setBp s .trk (a - 4) v) 0
  else if a < 12 then .done (setBp s .svc (a - 8) v) 0
  else if a = 12 then .done (if v.getLsbD 0 then endSession s else s) 0
  else .error s .unmapped 0

/-! ### Space 1: data space (spec/21 R490, R492) -/

/-- The bank's port cannot proceed yet: clearing, a retention wake or a handover drain (spec/21 R491). -/
def bankBusy (s : State) (b : Nat) : Bool :=
  s.bank.clearing.getLsbD b || s.bank.wakeWait.getLsbD b || s.bank.drain.getLsbD b

/-- A read of data space. -/
def space1Read (s : State) (a : Nat) : DRes :=
  let l := a % 2 ^ 18
  if 0x2000B < l then .error s .unmapped 0
  else coreItem s fun _ =>
    if 0x20000 ≤ l then
      let r := pageRead s (coreBit a 20) (l - 0x20000)
      .done r.1 (r.2.setWidth 32)
    else
      let b := l / 16384
      let w := l % 16384
      if bankOut s b then .error s .withdrawn 0
      else if bankBusy s b then .retry
      else
        let r := demandRead s b w
        if r.2.2 then .error r.1 .poison (r.2.1.setWidth 32) else .done r.1 (r.2.1.setWidth 32)

/-- A write of data space: ownership does not bind the SDP (spec/21 R493), and the write clears poison. -/
def space1Write (s : State) (a : Nat) (v : BitVec 32) : DRes :=
  let l := a % 2 ^ 18
  if 0x2000B < l then .error s .unmapped 0
  else coreItem s fun _ =>
    if 0x20000 ≤ l then .done (pageWrite s (coreBit a 20) (l - 0x20000) (loHalf v)) 0
    else
      let b := l / 16384
      if bankOut s b then .error s .notOwner 0
      else if bankBusy s b then .retry
      else .done (ownerWrite s b (l % 16384) (loHalf v)) 0

/-! ### Spaces 2 and 3: program memory and B-space -/

/-- A read of program memory. -/
def space2Read (s : State) (a : Nat) : DRes :=
  coreItem s fun _ => .done s ((progWord s (coreBit a 14) (BitVec.ofNat 14 a)).setWidth 32)

/-- A write of program memory (spec/21 R493). -/
def space2Write (s : State) (a : Nat) (v : BitVec 32) : DRes :=
  coreItem s fun _ =>
    let r := progWrite s (coreBit a 14) (BitVec.ofNat 14 a) (v.extractLsb' 0 14)
    match r.2 with
    | some e => .error s e 0
    | none => .done r.1 0

/-- A read of a bit. -/
def space3Read (s : State) (a : Nat) : DRes :=
  coreItem s fun _ => .done s (BitVec.ofNat 32 (bit (bitRead s (coreBit a 12) (a % 4096))))

/-- A write of a bit. -/
def space3Write (s : State) (a : Nat) (v : BitVec 32) : DRes :=
  coreItem s fun _ => .done (bitWrite s (coreBit a 12) (a % 4096) (v.getLsbD 0)) 0

/-! ### Spaces 4 and 5: parameters and direct registers, as the debug class -/

/-- A CORE item of these spaces held in SLEEP. -/
def heldKey (s : State) (key : Nat) : Bool := s.pwr.state == .sleep && coreP (key / 256)

/-- A read of a parameter. -/
def space4Read (s : State) (a : Nat) : DRes :=
  let key := a % 4096
  let r := paramRead s .dbg key
  match r.2 with
  | some e => .error s e 0
  | none => if heldKey s key then .retry else .done s r.1

/-- A write of a parameter. -/
def space4Write (s : State) (a : Nat) (v : BitVec 32) : DRes :=
  let key := a % 4096
  if (paramAccess s .dbg key).isNone ∧ heldKey s key then .retry
  else
    let r := paramWrite s .dbg key v
    match r.2 with
    | some e => .error s e 0
    | none => .done r.1 0

/-- A register that cannot proceed yet: held in SLEEP, or the bank window at a bank that is busy. -/
def heldReg (s : State) (n : Nat) : Bool := regHeld s .dbg n || (n == 19 && bankBusy s s.bank.wBank.toNat)

/-- A read of a direct register, both words at once. -/
def space5Read (s : State) (a : Nat) : DRes :=
  let n := a % 64
  if (regAccess s .dbg n false).isNone ∧ heldReg s n then .retry
  else
    let r := regRead s .dbg n none
    match r.2.2 with
    | some e => .error r.1 e (if e = .poison then r.2.1 else 0)
    | none => .done (autoInc (disarm (readLo r.1 .dbg n) .dbg n) .dbg n true true) r.2.1

/-- A write of a direct register; the bank window reaches every bank that is present (spec/21 R493). -/
def space5Write (s : State) (a : Nat) (v : BitVec 32) : DRes :=
  let n := a % 64
  match regAccess s .dbg n true with
  | some e => .error s e 0
  | none =>
    if heldReg s n then .retry
    else if n = 19 then
      let b := s.bank.wBank.toNat
      if bankOut s b then .error s .notOwner 0
      else .done (autoInc (ownerWrite s b s.bank.wAddr.toNat (loHalf v)) .dbg n true true) 0
    else
      let r := regPut s .dbg n true true v
      match r.2 with
      | some e => .error s e 0
      | none => .done (autoInc r.1 .dbg n true true) 0

/-! ### Space 6: core registers -/

/-- A return-stack slot in a word: address, FL, run level and IE from the low end (log entry 42). -/
def slotWord (e : RsEntry) : BitVec 32 := pack [(0, e.addr.toNat), (14, e.fl.toNat), (19, e.level.toNat), (22, bit e.ie)]

/-- A return-stack slot of a word. -/
def slotOf (v : BitVec 32) : RsEntry := ⟨v.extractLsb' 0 14, v.extractLsb' 14 5, v.extractLsb' 19 3, v.getLsbD 22⟩

/-- A core register as space 6 numbers it. -/
def coreRegRead (x : Core) (r : Nat) : Option (BitVec 32) :=
  if r < 8 then some ((x.w.getD r 0).setWidth 32)
  else if r = 8 then some (x.pc.setWidth 32)
  else if r = 9 then some ((specRead x 0).setWidth 32)
  else if r < 0x0E then some ((x.sg.getD (r - 0x0A) .reset).base.setWidth 32)
  else if r < 0x12 then some ((x.sg.getD (r - 0x0E) .reset).lim.setWidth 32)
  else if r = 0x12 then some ((specRead x 1).setWidth 32)
  else if r = 0x13 then some ((specRead x 2).setWidth 32)
  else if 0x20 ≤ r ∧ r < 0x28 then some (slotWord (x.rs.getD (r - 0x20) .reset))
  else none

/-- A core with one of these registers written. -/
def coreRegWrite (x : Core) (r : Nat) (v : BitVec 32) : Core :=
  let w := loHalf v
  let sg (i : Nat) : SegReg := x.sg.getD i .reset
  if r < 8 then { x with w := x.w.setIfInBounds r w }
  else if r = 8 then { x with pc := v.extractLsb' 0 14 }
  else if r = 9 then specWrite x 0 w
  else if r < 0x0E then { x with sg := x.sg.setIfInBounds (r - 0x0A) { sg (r - 0x0A) with base := v.extractLsb' 0 18 } }
  else if r < 0x12 then { x with sg := x.sg.setIfInBounds (r - 0x0E) { sg (r - 0x0E) with lim := w } }
  else if r = 0x12 then specWrite x 1 w
  else if r = 0x13 then specWrite x 2 w
  else { x with rs := x.rs.setIfInBounds (r - 0x20) (slotOf v) }

/-- A core register of a halted core (spec/21 R490, R491). -/
def space6 (s : State) (a : Nat) (f : CoreId → Nat → BitVec 32 → DRes) : DRes :=
  let k := coreBit a 8
  let r := a % 256
  match coreRegRead (s.core k) r with
  | none => .error s .unmapped 0
  | some v => coreItem s fun _ => if (s.core k).halted then f k r v else .error s .prgBusy 0

/-! ### Frames -/

/-- A read request. -/
def sdpGet (s : State) (space a : Nat) : DRes :=
  match space with
  | 0 => space0Read s (a % 256)
  | 1 => space1Read s a
  | 2 => space2Read s a
  | 3 => space3Read s a
  | 4 => space4Read s a
  | 5 => space5Read s a
  | 6 => space6 s a fun _ _ v => .done s v
  | _ => .error s .unmapped 0

/-- A write request. -/
def sdpPut (s : State) (space a : Nat) (v : BitVec 32) : DRes :=
  match space with
  | 0 => space0Write s (a % 256) v
  | 1 => space1Write s a v
  | 2 => space2Write s a v
  | 3 => space3Write s a v
  | 4 => space4Write s a v
  | 5 => space5Write s a v
  | 6 => space6 s a fun k r _ => .done (s.modCore k (fun x => coreRegWrite x r v)) 0
  | _ => .error s .unmapped 0

/-- What the frame is answered with; D_ERR keeps the latest ERROR (spec/21 R489, R494). -/
def answerFrame (s : State) (space : Nat) (r : DRes) : State :=
  match r with
  | .done t v => { t with dbg := { t.dbg with status := .done, data := v } }
  | .retry => { s with dbg := { s.dbg with status := .retry, data := 0 } }
  | .error t e v => { t with dbg := { t.dbg with status := .error, data := v, errCause := causeCode e, errSpace := space } }

/-- A frame is received: outside a session it is ignored; with a bad CRC it gets no status and D_ERR records it
(spec/21 R488, R489). -/
def frame (s : State) (space : Nat) (crcOk : Bool) (f : Unit → DRes) : State :=
  if ¬ sdpOn s ∨ ¬ s.dbg.session then s
  else if ¬ crcOk then { s with dbg := { s.dbg with status := .none, errCause := 6, errSpace := space } }
  else answerFrame s space (f ())

/-- A good read frame of space 0. -/
def wordRead (s : State) (a : Nat) : State := frame s 0 true fun _ => sdpGet s 0 a

/-- A good write frame of space 0. -/
def wordWrite (s : State) (a : Nat) (v : BitVec 32) : State := frame s 0 true fun _ => sdpPut s 0 a v

/-- SDP_READ_FRAME (spec/21 R489-R492). -/
def execSdpReadFrame (space : BitVec 3) (addr : BitVec 24) (crcOk : Bool) (s : State) : Host.Outcome State Fault Refusal :=
  .next (frame s space.toNat crcOk fun _ => sdpGet s space.toNat addr.toNat)

/-- SDP_WRITE_FRAME (spec/21 R489-R493). -/
def execSdpWriteFrame (space : BitVec 3) (addr : BitVec 24) (data : BitVec 32) (crcOk : Bool) (s : State) :
    Host.Outcome State Fault Refusal :=
  .next (frame s space.toNat crcOk fun _ => sdpPut s space.toNat addr.toNat data)

/-- D_ERR_READ: a read frame of D_ERR (spec/21 R494). -/
def execDErrRead (s : State) : Host.Outcome State Fault Refusal := .next (wordRead s 1)

/-- SDP_HALT: a write frame of D_CTL with halt (spec/21 R495). -/
def execSdpHalt (k : CoreId) (s : State) : Host.Outcome State Fault Refusal := .next (wordWrite s (2 + coreNum k) 1)

/-- SDP_RESUME: a write frame of D_CTL with resume (spec/21 R495). -/
def execSdpResume (k : CoreId) (s : State) : Host.Outcome State Fault Refusal := .next (wordWrite s (2 + coreNum k) 2)

/-- SDP_STEP: a write frame of D_CTL with step (spec/21 R496). -/
def execSdpStep (k : CoreId) (s : State) : Host.Outcome State Fault Refusal := .next (wordWrite s (2 + coreNum k) 4)

/-- SDP_DETACH: a write frame of D_SESS with detach (spec/21 R494). -/
def execSdpDetach (s : State) : Host.Outcome State Fault Refusal := .next (wordWrite s 12 1)

/-! ### Halts (spec/21 R495) -/

/-- The reason with which a requested halt takes effect, where one is requested. -/
def haltReason (x : Core) : Option Nat := if x.haltSdp then some 1 else if x.haltReq then some 9 else none

/-- CORE_HALT: a requested halt takes effect at an instruction boundary, never between a load and the next instruction
(spec/21 R495, spec/12 R322). -/
def execCoreHalt (k : CoreId) (s : State) : Host.Outcome State Fault Refusal :=
  if coreRuns s k ∧ (s.core k).delay = none ∧ (s.pwr.state = .run ∨ s.pwr.state = .idle) then
    match haltReason (s.core k) with
    | some r => .next (haltCore s k r)
    | none => .next s
  else .next s

/-- BREAKPOINT_HIT: an enabled breakpoint halts the core before the instruction at its address (spec/21 R495). -/
def execBreakpointHit (k : CoreId) (s : State) : Host.Outcome State Fault Refusal :=
  if coreReady s k then
    match bpHit (s.core k) with
    | some i => .next (haltCore s k (4 + i))
    | none => .next s
  else .next s

end Sys2Proof.Machine
end

