-- ==== Sys2Proof/Machine/Dispatch.lean ====
section
/-! DEFINITION. The meaning of each command: one arm per constructor. -/

namespace Sys2Proof.Machine

def exec (i : Instr) (s : State) : Host.Outcome State Fault Refusal :=
  match i with
  | .dtcLatchRead => Sys2Proof.Machine.execDtcLatchRead s
  | .timeLatchExpiry cls => Sys2Proof.Machine.execTimeLatchExpiry cls s
  | .dtcWrap => Sys2Proof.Machine.execDtcWrap s
  | .epochBoundary o => Sys2Proof.Machine.execEpochBoundary o s
  | .solutionEpoch o => Sys2Proof.Machine.execSolutionEpoch o s
  | .gnssFineEntry => Sys2Proof.Machine.execGnssFineEntry s
  | .holdoverEntry => Sys2Proof.Machine.execHoldoverEntry s
  | .spoofSuspectClear o => Sys2Proof.Machine.execSpoofSuspectClear o s
  | .surveyComplete => Sys2Proof.Machine.execSurveyComplete s
  | .calendarLoad => Sys2Proof.Machine.execCalendarLoad s
  | .leapSecondApply => Sys2Proof.Machine.execLeapSecondApply s
  | .pacePeriodEnd o => Sys2Proof.Machine.execPacePeriodEnd o s
  | .relapseWindowExpiry => Sys2Proof.Machine.execRelapseWindowExpiry s
  | .sclkAbsence => Sys2Proof.Machine.execSclkAbsence s
  | .sampleArrival sdata => Sys2Proof.Machine.execSampleArrival sdata s
  | .feSettleExpiry => Sys2Proof.Machine.execFeSettleExpiry s
  | .cellSearchEnd o => Sys2Proof.Machine.execCellSearchEnd o s
  | .pendingHitExpiry => Sys2Proof.Machine.execPendingHitExpiry s
  | .integrationEnd p o => Sys2Proof.Machine.execIntegrationEnd p o s
  | .pullComplete p => Sys2Proof.Machine.execPullComplete p s
  | .codeLockLoss p => Sys2Proof.Machine.execCodeLockLoss p s
  | .reacqTimeout p => Sys2Proof.Machine.execReacqTimeout p s
  | .panGroupStall g => Sys2Proof.Machine.execPanGroupStall g s
  | .crystallizerStall => Sys2Proof.Machine.execCrystallizerStall s
  | .tpoutActiveEdge => Sys2Proof.Machine.execTpoutActiveEdge s
  | .tpoutInactiveEdge => Sys2Proof.Machine.execTpoutInactiveEdge s
  | .tpoutDeferredPulse => Sys2Proof.Machine.execTpoutDeferredPulse s
  | .tpSettingsApply => Sys2Proof.Machine.execTpSettingsApply s
  | .wcsEnable d => Sys2Proof.Machine.execWcsEnable d s
  | .wcsDisable d => Sys2Proof.Machine.execWcsDisable d s
  | .pllLockAcquired => Sys2Proof.Machine.execPllLockAcquired s
  | .wcsOutputStart => Sys2Proof.Machine.execWcsOutputStart s
  | .wcsPhaseMeasure phi => Sys2Proof.Machine.execWcsPhaseMeasure phi s
  | .wcsRealignRequest d => Sys2Proof.Machine.execWcsRealignRequest d s
  | .realignStop => Sys2Proof.Machine.execRealignStop s
  | .realignRestart => Sys2Proof.Machine.execRealignRestart s
  | .pllLockLoss => Sys2Proof.Machine.execPllLockLoss s
  | .wcsSleepStop => Sys2Proof.Machine.execWcsSleepStop s
  | .slotCommitPoint j => Sys2Proof.Machine.execSlotCommitPoint j s
  | .slotFire j => Sys2Proof.Machine.execSlotFire j s
  | .slotLateFire j => Sys2Proof.Machine.execSlotLateFire j s
  | .evoutPulseEnd pin => Sys2Proof.Machine.execEvoutPulseEnd pin s
  | .tmarkEdge k rising step => Sys2Proof.Machine.execTmarkEdge k rising step s
  | .tmarkRecordPost k => Sys2Proof.Machine.execTmarkRecordPost k s
  | .evsTmarkRead => Sys2Proof.Machine.execEvsTmarkRead s
  | .busAddressPhase off wr sec => Sys2Proof.Machine.execBusAddressPhase off wr sec s
  | .registerWrite d => Sys2Proof.Machine.execRegisterWrite d s
  | .hbErrRead => Sys2Proof.Machine.execHbErrRead s
  | .parameterWrite d => Sys2Proof.Machine.execParameterWrite d s
  | .parameterRead => Sys2Proof.Machine.execParameterRead s
  | .programWindowWrite d => Sys2Proof.Machine.execProgramWindowWrite d s
  | .bankWindowWrite d => Sys2Proof.Machine.execBankWindowWrite d s
  | .bankWindowRead u => Sys2Proof.Machine.execBankWindowRead u s
  | .txnBegin d => Sys2Proof.Machine.execTxnBegin d s
  | .txnCommit d => Sys2Proof.Machine.execTxnCommit d s
  | .txnRollback d => Sys2Proof.Machine.execTxnRollback d s
  | .pwrPaceCntRead => Sys2Proof.Machine.execPwrPaceCntRead s
  | .sluRingRead => Sys2Proof.Machine.execSluRingRead s
  | .bnkLogRead => Sys2Proof.Machine.execBnkLogRead s
  | .vregStatRead => Sys2Proof.Machine.execVregStatRead s
  | .bnkOwnerWrite d => Sys2Proof.Machine.execBnkOwnerWrite d s
  | .handoverDrainEnd b => Sys2Proof.Machine.execHandoverDrainEnd b s
  | .rtcHaltSet d => Sys2Proof.Machine.execRtcHaltSet d s
  | .rtcHaltClear d => Sys2Proof.Machine.execRtcHaltClear d s
  | .rtcCalendarWrite d => Sys2Proof.Machine.execRtcCalendarWrite d s
  | .rtcSwstampRearm d => Sys2Proof.Machine.execRtcSwstampRearm d s
  | .antUnlatch d => Sys2Proof.Machine.execAntUnlatch d s
  | .calLoad d => Sys2Proof.Machine.execCalLoad d s
  | .calStore d => Sys2Proof.Machine.execCalStore d s
  | .calStoreEnd ok => Sys2Proof.Machine.execCalStoreEnd ok s
  | .dbgHaltRequest d => Sys2Proof.Machine.execDbgHaltRequest d s
  | .dbgResumeRequest d => Sys2Proof.Machine.execDbgResumeRequest d s
  | .sysBootRelease d => Sys2Proof.Machine.execSysBootRelease d s
  | .ringReadIndexWrite d => Sys2Proof.Machine.execRingReadIndexWrite d s
  | .ringPlace d => Sys2Proof.Machine.execRingPlace d s
  | .doorbellRing d => Sys2Proof.Machine.execDoorbellRing d s
  | .doorbellTake d => Sys2Proof.Machine.execDoorbellTake d s
  | .channelTimeout ch => Sys2Proof.Machine.execChannelTimeout ch s
  | .timeSet => Sys2Proof.Machine.execTimeSet s
  | .posSet => Sys2Proof.Machine.execPosSet s
  | .freqAid => Sys2Proof.Machine.execFreqAid s
  | .search a => Sys2Proof.Machine.execSearch a s
  | .searchStop => Sys2Proof.Machine.execSearchStop s
  | .panStart => Sys2Proof.Machine.execPanStart s
  | .panStop => Sys2Proof.Machine.execPanStop s
  | .twin => Sys2Proof.Machine.execTwin s
  | .intRebase => Sys2Proof.Machine.execIntRebase s
  | .slotArm => Sys2Proof.Machine.execSlotArm s
  | .slotModify => Sys2Proof.Machine.execSlotModify s
  | .slotCancel => Sys2Proof.Machine.execSlotCancel s
  | .slotCancelClient => Sys2Proof.Machine.execSlotCancelClient s
  | .slotQuery => Sys2Proof.Machine.execSlotQuery s
  | .progLoad => Sys2Proof.Machine.execProgLoad s
  | .power => Sys2Proof.Machine.execPower s
  | .bankLend => Sys2Proof.Machine.execBankLend s
  | .bankRecall => Sys2Proof.Machine.execBankRecall s
  | .mirRole => Sys2Proof.Machine.execMirRole s
  | .mirTakeover => Sys2Proof.Machine.execMirTakeover s
  | .mirCompare => Sys2Proof.Machine.execMirCompare s
  | .nopCommand => Sys2Proof.Machine.execNopCommand s
  | .customerCommand o => Sys2Proof.Machine.execCustomerCommand o s
  | .rakeCheck u => Sys2Proof.Machine.execRakeCheck u s
  | .bankClearEnd b => Sys2Proof.Machine.execBankClearEnd b s
  | .retainedBankReady => Sys2Proof.Machine.execRetainedBankReady s
  | .mov k c d r => Sys2Proof.Machine.execMov k c d r s
  | .add k c d r => Sys2Proof.Machine.execAdd k c d r s
  | .adc k c d r => Sys2Proof.Machine.execAdc k c d r s
  | .sub k c d r => Sys2Proof.Machine.execSub k c d r s
  | .sbc k c d r => Sys2Proof.Machine.execSbc k c d r s
  | .and k c d r => Sys2Proof.Machine.execAnd k c d r s
  | .or k c d r => Sys2Proof.Machine.execOr k c d r s
  | .xor k c d r => Sys2Proof.Machine.execXor k c d r s
  | .cmp k c d r => Sys2Proof.Machine.execCmp k c d r s
  | .tst k c d r => Sys2Proof.Machine.execTst k c d r s
  | .dadd k c d r => Sys2Proof.Machine.execDadd k c d r s
  | .dsub k c d r => Sys2Proof.Machine.execDsub k c d r s
  | .ldi k c d h w2 => Sys2Proof.Machine.execLdi k c d h w2 s
  | .addi k c d w2 => Sys2Proof.Machine.execAddi k c d w2 s
  | .subi k c d w2 => Sys2Proof.Machine.execSubi k c d w2 s
  | .andi k c d w2 => Sys2Proof.Machine.execAndi k c d w2 s
  | .ori k c d w2 => Sys2Proof.Machine.execOri k c d w2 s
  | .xori k c d w2 => Sys2Proof.Machine.execXori k c d w2 s
  | .cmpi k c d w2 => Sys2Proof.Machine.execCmpi k c d w2 s
  | .tsti k c d w2 => Sys2Proof.Machine.execTsti k c d w2 s
  | .daddi k c d w2 => Sys2Proof.Machine.execDaddi k c d w2 s
  | .ld k c r m u => Sys2Proof.Machine.execLd k c r m u s
  | .st k c r m => Sys2Proof.Machine.execSt k c r m s
  | .push k c r => Sys2Proof.Machine.execPush k c r s
  | .pop k c r => Sys2Proof.Machine.execPop k c r s
  | .shl k c r => Sys2Proof.Machine.execShl k c r s
  | .shr k c r => Sys2Proof.Machine.execShr k c r s
  | .asr k c r => Sys2Proof.Machine.execAsr k c r s
  | .rol k c r => Sys2Proof.Machine.execRol k c r s
  | .ror k c r => Sys2Proof.Machine.execRor k c r s
  | .rlc k c r => Sys2Proof.Machine.execRlc k c r s
  | .rrc k c r => Sys2Proof.Machine.execRrc k c r s
  | .swab k c r => Sys2Proof.Machine.execSwab k c r s
  | .not k c r => Sys2Proof.Machine.execNot k c r s
  | .neg k c r => Sys2Proof.Machine.execNeg k c r s
  | .inc k c r => Sys2Proof.Machine.execInc k c r s
  | .dec k c r => Sys2Proof.Machine.execDec k c r s
  | .clr k c r => Sys2Proof.Machine.execClr k c r s
  | .sexb k c r => Sys2Proof.Machine.execSexb k c r s
  | .sgld k c g a => Sys2Proof.Machine.execSgld k c g a s
  | .sgst k c g a => Sys2Proof.Machine.execSgst k c g a s
  | .mfs k c spec r => Sys2Proof.Machine.execMfs k c spec r s
  | .mts k c spec r => Sys2Proof.Machine.execMts k c spec r s
  | .btst k c w2 => Sys2Proof.Machine.execBtst k c w2 s
  | .bset k c w2 => Sys2Proof.Machine.execBset k c w2 s
  | .bclr k c w2 => Sys2Proof.Machine.execBclr k c w2 s
  | .bmov k c w2 => Sys2Proof.Machine.execBmov k c w2 s
  | .btstr k c r => Sys2Proof.Machine.execBtstr k c r s
  | .bsetr k c r => Sys2Proof.Machine.execBsetr k c r s
  | .bclrr k c r => Sys2Proof.Machine.execBclrr k c r s
  | .bmovr k c r => Sys2Proof.Machine.execBmovr k c r s
  | .nop k c => Sys2Proof.Machine.execNop k c s
  | .wait k c => Sys2Proof.Machine.execWait k c s
  | .waitResume k => Sys2Proof.Machine.execWaitResume k s
  | .brk k c => Sys2Proof.Machine.execBrk k c s
  | .ret k c => Sys2Proof.Machine.execRet k c s
  | .reti k c => Sys2Proof.Machine.execReti k c s
  | .retm k c => Sys2Proof.Machine.execRetm k c s
  | .retf k c => Sys2Proof.Machine.execRetf k c s
  | .jmp k c target => Sys2Proof.Machine.execJmp k c target s
  | .call k c target => Sys2Proof.Machine.execCall k c target s
  | .callm k c mask target => Sys2Proof.Machine.execCallm k c mask target s
  | .jmpr k c r => Sys2Proof.Machine.execJmpr k c r s
  | .callr k c r => Sys2Proof.Machine.execCallr k c r s
  | .rpt k c r ic body n => Sys2Proof.Machine.execRpt k c r ic body n s
  | .rptu k c r ic body => Sys2Proof.Machine.execRptu k c r ic body s
  | .illegalInstruction k c => Sys2Proof.Machine.execIllegalInstruction k c s
  | .interruptEntry k => Sys2Proof.Machine.execInterruptEntry k s
  | .fetch k c t r => Sys2Proof.Machine.execFetch k c t r s
  | .ncoSet k c t r => Sys2Proof.Machine.execNcoSet k c t r s
  | .phase k c t r => Sys2Proof.Machine.execPhase k c t r s
  | .start k c t r => Sys2Proof.Machine.execStart k c t r s
  | .stop k c t r => Sys2Proof.Machine.execStop k c t r s
  | .taps k c t r => Sys2Proof.Machine.execTaps k c t r s
  | .intlen k c t r => Sys2Proof.Machine.execIntlen k c t r s
  | .dwell k c t r => Sys2Proof.Machine.execDwell k c t r s
  | .result k c t r => Sys2Proof.Machine.execResult k c t r s
  | .abort k c t r => Sys2Proof.Machine.execAbort k c t r s
  | .mulu k c t r => Sys2Proof.Machine.execMulu k c t r s
  | .muls k c t r => Sys2Proof.Machine.execMuls k c t r s
  | .divu k c t r => Sys2Proof.Machine.execDivu k c t r s
  | .divs k c t r => Sys2Proof.Machine.execDivs k c t r s
  | .rot k c t r => Sys2Proof.Machine.execRot k c t r s
  | .atan2 k c t r => Sys2Proof.Machine.execAtan2 k c t r s
  | .sqrt k c t r => Sys2Proof.Machine.execSqrt k c t r s
  | .cp3Operation k c t r fn => Sys2Proof.Machine.execCp3Operation k c t r fn s
  | .cpOperationComplete k t => Sys2Proof.Machine.execCpOperationComplete k t s
  | .cprd k c slot t r => Sys2Proof.Machine.execCprd k c slot t r s
  | .cpst k c slot t r => Sys2Proof.Machine.execCpst k c slot t r s
  | .waitcp k c slot t r => Sys2Proof.Machine.execWaitcp k c slot t r s
  | .softStartEnd vOk ilimHeld => Sys2Proof.Machine.execSoftStartEnd vOk ilimHeld s
  | .vddinMeasure mv => Sys2Proof.Machine.execVddinMeasure mv s
  | .antSoftStartPass ma => Sys2Proof.Machine.execAntSoftStartPass ma s
  | .antOpenDetect ma => Sys2Proof.Machine.execAntOpenDetect ma s
  | .antOpenClear ma => Sys2Proof.Machine.execAntOpenClear ma s
  | .antCurrentHigh ma => Sys2Proof.Machine.execAntCurrentHigh ma s
  | .pwrModeRequest k v => Sys2Proof.Machine.execPwrModeRequest k v s
  | .coreReplyTimeout k => Sys2Proof.Machine.execCoreReplyTimeout k s
  | .entryCommit delayUs => Sys2Proof.Machine.execEntryCommit delayUs s
  | .sleepExit ms => Sys2Proof.Machine.execSleepExit ms s
  | .deepSleepExit ms => Sys2Proof.Machine.execDeepSleepExit ms s
  | .refinStable gap prescMoved => Sys2Proof.Machine.execRefinStable gap prescMoved s
  | .wakePattern n => Sys2Proof.Machine.execWakePattern n s
  | .gaugeSample vbatMv ua => Sys2Proof.Machine.execGaugeSample vbatMv ua s
  | .comparatorTrip us => Sys2Proof.Machine.execComparatorTrip us s
  | .idleFrame f => Sys2Proof.Machine.execIdleFrame f s
  | .stateFrame f => Sys2Proof.Machine.execStateFrame f s
  | .wordsFrame f lost => Sys2Proof.Machine.execWordsFrame f lost s
  | .slotFrame f => Sys2Proof.Machine.execSlotFrame f s
  | .takeFrame f => Sys2Proof.Machine.execTakeFrame f s
  | .ackFrame f => Sys2Proof.Machine.execAckFrame f s
  | .resendFrame f => Sys2Proof.Machine.execResendFrame f s
  | .linkLossEdgeCheck seen => Sys2Proof.Machine.execLinkLossEdgeCheck seen s
  | .tpcmpEdge delayed capture => Sys2Proof.Machine.execTpcmpEdge delayed capture s
  | .coreRestart k => Sys2Proof.Machine.execCoreRestart k s
  | .sdpSessionAttach key => Sys2Proof.Machine.execSdpSessionAttach key s
  | .sdpReadFrame space addr crcOk => Sys2Proof.Machine.execSdpReadFrame space addr crcOk s
  | .sdpWriteFrame space addr data crcOk => Sys2Proof.Machine.execSdpWriteFrame space addr data crcOk s
  | .sdpHalt k => Sys2Proof.Machine.execSdpHalt k s
  | .sdpResume k => Sys2Proof.Machine.execSdpResume k s
  | .sdpStep k => Sys2Proof.Machine.execSdpStep k s
  | .coreHalt k => Sys2Proof.Machine.execCoreHalt k s
  | .breakpointHit k => Sys2Proof.Machine.execBreakpointHit k s
  | .cp3Serve => Sys2Proof.Machine.execCp3Serve s
  | .cp3Timeout => Sys2Proof.Machine.execCp3Timeout s
  | .coreRailRetry => Sys2Proof.Machine.execCoreRailRetry s
  | .coreRailFault => Sys2Proof.Machine.execCoreRailFault s
  | .regulatorTargetReached => Sys2Proof.Machine.execRegulatorTargetReached s
  | .antShort => Sys2Proof.Machine.execAntShort s
  | .antRetry => Sys2Proof.Machine.execAntRetry s
  | .antCurrentLimitExpiry => Sys2Proof.Machine.execAntCurrentLimitExpiry s
  | .antoutWantedChange => Sys2Proof.Machine.execAntoutWantedChange s
  | .autoSleepTimeout => Sys2Proof.Machine.execAutoSleepTimeout s
  | .wakePin => Sys2Proof.Machine.execWakePin s
  | .mirrorLinkActivity => Sys2Proof.Machine.execMirrorLinkActivity s
  | .rtcSecondTick => Sys2Proof.Machine.execRtcSecondTick s
  | .vbakSwitchOver => Sys2Proof.Machine.execVbakSwitchOver s
  | .vddinSwitchBack => Sys2Proof.Machine.execVddinSwitchBack s
  | .bakReset => Sys2Proof.Machine.execBakReset s
  | .gaugeSecondTasks => Sys2Proof.Machine.execGaugeSecondTasks s
  | .frameSend => Sys2Proof.Machine.execFrameSend s
  | .linkLoss => Sys2Proof.Machine.execLinkLoss s
  | .takeoverSwitch => Sys2Proof.Machine.execTakeoverSwitch s
  | .vddinPowerOn => Sys2Proof.Machine.execVddinPowerOn s
  | .aonReset => Sys2Proof.Machine.execAonReset s
  | .rstNAssert => Sys2Proof.Machine.execRstNAssert s
  | .rstNRelease => Sys2Proof.Machine.execRstNRelease s
  | .refinLoss => Sys2Proof.Machine.execRefinLoss s
  | .sdpBreak => Sys2Proof.Machine.execSdpBreak s
  | .dErrRead => Sys2Proof.Machine.execDErrRead s
  | .sdpDetach => Sys2Proof.Machine.execSdpDetach s
  | .programWindowRead => Sys2Proof.Machine.execProgramWindowRead s
  | .registerRead => Sys2Proof.Machine.execRegisterRead s
  | .standbyOutputRelease => Sys2Proof.Machine.execStandbyOutputRelease s
  | .takeoverWcsDrive => Sys2Proof.Machine.execTakeoverWcsDrive s
  | .mirrorSyncLoss => Sys2Proof.Machine.execMirrorSyncLoss s

end Sys2Proof.Machine
end

