-- ==== Sys2Proof/Machine/Tick.lean ====
section
/-! DEFINITION. What passes in one REFIN period when no command waits (log entry 1). -/

namespace Sys2Proof.Machine

/-- The DTC advances by one REFIN period (spec/01 R14, R16). -/
def tickDtc (s : State) : State :=
  if s.time.running then
    { s with time := { s.time with dtc := s.time.dtc + 1,
                                   wraps := if s.time.dtc = BitVec.allOnes 52 then s.time.wraps + 1 else s.time.wraps } }
  else s

/-- The active consumers read Brine entries, how many is a free value, and what all have read leaves (spec/03 R75). -/
def drainBrine (s : State) : State :=
  if s.samp.fifo = [] then s
  else releaseBrine (setUnread s.nextFree (fun i n => n - Config.brineDrain s.free i))

/-- One REFIN period passes. -/
def tick (s : State) : State := drainBrine (tickDtc s)

end Sys2Proof.Machine
end

