-- ==== Sys2Proof/Safety.lean ====
section
/-! DEFINITION. What counts as a safe run: every step answers a next state. -/

namespace Sys2Proof

/-- A command completes at a state: `exec` answers a next state. -/
def Completes (c : Instr) (s : Machine.State) : Prop := ∃ t, Machine.exec c s = .next t

/-- `n` steps from `s` all answer next states. -/
def SafeRun (n : Nat) (s : Machine.State) : Prop := ∃ t, core.run n s = .next t

/-- The calendar reads as RTC_TIME and RTC_DATE may: packed BCD fields in their ranges, wday 1-7, and a day that the month
has (spec/09 R238, spec/17 R410). -/
def calendarOk (r : Machine.RtcSt) : Bool :=
  Machine.bcdOk r.sec.toNat 0 59 && Machine.bcdOk r.min.toNat 0 59 && Machine.bcdOk r.hour.toNat 0 23 &&
    decide (1 ≤ r.wday.toNat) && Machine.bcdOk r.day.toNat 1 31 && Machine.bcdOk r.month.toNat 1 12 &&
    Machine.bcdOk r.year.toNat 0 99 &&
    decide (Machine.bcdVal r.day.toNat ≤ Machine.monthDays (Machine.bcdVal r.month.toNat) (Machine.bcdVal r.year.toNat))

end Sys2Proof
end

