-- ==== Sys2Proof/Certificates/Slice0/Obligations.lean ====
section
/-! DEFINITION. The statements for the provers, and the words they are said in (namespace Sys2Proof.Spec): the tables of the
spec written out again, and the conditions under which a command has its effect. -/

namespace Sys2Proof.Spec

open Sys2Proof Sys2Proof.Machine

/-! ### Galros: how an instruction runs -/

/-- Core `k` is about to execute an instruction whose condition `c` holds: it executes (not held, halted, stopped, parked or
waiting, CORE up, RUN or IDLE), no breakpoint is due, no load is still on its way and no single step was asked for. -/
def runs (s : State) (k : CoreId) (c : Cond) : Bool :=
  coreReady s k && (bpHit (s.core k)).isNone && condHolds (s.core k) c && (s.core k).delay.isNone && !(s.core k).stepReq

/-- The machine after an instruction of `n` words that changes its core by `f` and nothing else: PC has passed its words. -/
def after (s : State) (k : CoreId) (n : Nat) (f : Core → Core) : State :=
  s.modCore k (fun x => f { x with pc := x.pc + BitVec.ofNat 14 n, bpSkip := false })

/-- The value of a working register. -/
def w (s : State) (k : CoreId) (r : Reg) : Word := (s.core k).w.get r

/-- A return-stack push has room: the stack is not full, or sys.rs_trap selects wrap mode (R314). -/
def room (s : State) (k : CoreId) : Bool :=
  decide ((s.core k).rsCount < 8) || !s.parBit pSysRsTrap (coreNum k)

/-- The core after a push of a return address: slot top holds the address, FL, the run level and IE; top and count advance; an
entry overwritten at count 8 sets rs_wrap (R313, R314). -/
def pushed (x : Core) (ret : BitVec 14) : Core :=
  { x with rs := x.rs.setIfInBounds x.rsTop.toNat ⟨ret, flBits x, x.level, x.ie⟩, rsTop := x.rsTop + 1,
           rsCount := min (x.rsCount + 1) 8, rsWrap := x.rsWrap || decide (8 ≤ x.rsCount) }

/-- Trap entry through vector `v` from PC `pc` (R313, R319): the push, run level 7, and the vector's address. What the Runtime
in ROM then does at IVB base 0 is `Machine.trapResponse`. -/
def trapped (s : State) (k : CoreId) (v : Nat) (pc : BitVec 14) : State :=
  trapResponse (s.modCore k (fun x =>
    { pushed x pc with level := 7, pc := BitVec.ofNat 14 (x.base.toNat * 32 + 2 * v), bpSkip := false })) k v pc

/-! ### Galros: the arithmetic of the instruction tables (R302, R333-R337) -/

/-- A row of the instruction tables: the result from C, the first operand and the second; whether the destination is
written; and the flags the row names. -/
structure AluRow where
  val   : Bool → Word → Word → Word
  keep  : Bool
  z     : Bool
  n     : Bool
  carry : Option (Bool → Word → Word → Bool)
  ovf   : Option (Bool → Word → Word → Bool)

/-- What a row does to a core: destination and first operand `d`, second operand `b`. -/
def AluRow.run (r : AluRow) (d : Reg) (b : Word) (x : Core) : Core :=
  let a := x.w.get d
  let v := r.val x.c a b
  { x with w := if r.keep then x.w.set d v else x.w,
           z := if r.z then decide (v = 0) else x.z,
           n := if r.n then v.getLsbD 15 else x.n,
           c := match r.carry with | some f => f x.c a b | none => x.c,
           v := match r.ovf with | some f => f x.c a b | none => x.v }

/-- A signed 16-bit result overflows (R302: V). -/
def overflows (x : Int) : Bool := decide (x < -32768 ∨ 32767 < x)

def sumCarry (k : Bool) (a b : Word) : Bool := decide (65536 ≤ a.toNat + b.toNat + bit k)
def sumOver (k : Bool) (a b : Word) : Bool := overflows (a.toInt + b.toInt + bit k)
def difCarry (k : Bool) (a b : Word) : Bool := decide (a.toNat < b.toNat + bit k)
def difOver (k : Bool) (a b : Word) : Bool := overflows (a.toInt - b.toInt - bit k)

def rowMov : AluRow := ⟨fun _ _ b => b, true, false, false, none, none⟩
def rowAdd : AluRow := ⟨fun _ a b => a + b, true, true, true, some (fun _ => sumCarry false), some (fun _ => sumOver false)⟩
def rowAdc : AluRow := ⟨fun k a b => BitVec.ofNat 16 (a.toNat + b.toNat + bit k), true, true, true, some sumCarry, some sumOver⟩
def rowSub : AluRow := ⟨fun _ a b => a - b, true, true, true, some (fun _ => difCarry false), some (fun _ => difOver false)⟩
def rowSbc : AluRow := ⟨fun k a b => BitVec.ofInt 16 (a.toInt - b.toInt - bit k), true, true, true, some difCarry, some difOver⟩
def rowAnd : AluRow := ⟨fun _ a b => a &&& b, true, true, true, none, none⟩
def rowOr : AluRow := ⟨fun _ a b => a ||| b, true, true, true, none, none⟩
def rowXor : AluRow := ⟨fun _ a b => a ^^^ b, true, true, true, none, none⟩
def rowCmp : AluRow := { rowSub with keep := false }
def rowTst : AluRow := { rowAnd with keep := false }

/-- The two-register rows of R333 but the decimal ones. -/
def twoRows : List ((CoreId → Cond → Reg → Reg → Instr) × AluRow) :=
  [(.mov, rowMov), (.add, rowAdd), (.adc, rowAdc), (.sub, rowSub), (.sbc, rowSbc), (.and, rowAnd), (.or, rowOr),
   (.xor, rowXor), (.cmp, rowCmp), (.tst, rowTst)]

/-- The immediate rows of R335 whose word 2 is sign-extended. -/
def immRows : List ((CoreId → Cond → Reg → BitVec 14 → Instr) × AluRow) :=
  [(.addi, rowAdd), (.subi, rowSub), (.andi, rowAnd), (.ori, rowOr), (.xori, rowXor), (.cmpi, rowCmp), (.tsti, rowTst)]

/-- A shift or rotate: result and C as numbers of C and the operand. -/
def shiftRow (val : Nat → Nat → Nat) (carry : Nat → Nat) : AluRow :=
  ⟨fun k a _ => BitVec.ofNat 16 (val (bit k) a.toNat), true, true, true, some (fun _ a _ => decide (carry a.toNat = 1)), none⟩

/-- The one-register rows of R337 but PUSH and POP. -/
def oneRows : List ((CoreId → Cond → Reg → Instr) × AluRow) :=
  [(.shl, shiftRow (fun _ a => 2 * a) (fun a => a / 32768)),
   (.shr, shiftRow (fun _ a => a / 2) (fun a => a % 2)),
   (.asr, shiftRow (fun _ a => a / 2 + 32768 * (a / 32768)) (fun a => a % 2)),
   (.rol, shiftRow (fun _ a => 2 * a + a / 32768) (fun a => a / 32768)),
   (.ror, shiftRow (fun _ a => a / 2 + 32768 * (a % 2)) (fun a => a % 2)),
   (.rlc, shiftRow (fun k a => 2 * a + k) (fun a => a / 32768)),
   (.rrc, shiftRow (fun k a => a / 2 + 32768 * k) (fun a => a % 2)),
   (.swab, ⟨fun _ a _ => BitVec.ofNat 16 (a.toNat % 256 * 256 + a.toNat / 256), true, true, true, none, none⟩),
   (.not, ⟨fun _ a _ => BitVec.ofNat 16 (65535 - a.toNat), true, true, true, none, none⟩),
   (.neg, ⟨fun _ a _ => BitVec.ofNat 16 (65536 - a.toNat), true, true, true, some (fun _ a _ => difCarry false 0 a),
     some (fun _ a _ => difOver false 0 a)⟩),
   (.inc, ⟨fun _ a _ => BitVec.ofNat 16 (a.toNat + 1), true, true, true, none, some (fun _ a _ => overflows (a.toInt + 1))⟩),
   (.dec, ⟨fun _ a _ => BitVec.ofNat 16 (a.toNat + 65535), true, true, true, none, some (fun _ a _ => overflows (a.toInt - 1))⟩),
   (.clr, ⟨fun _ _ _ => 0, true, false, false, none, none⟩),
   (.sexb, ⟨fun _ a _ => BitVec.ofNat 16 (if a.toNat % 256 < 128 then a.toNat % 256 else a.toNat % 256 + 0xFF00), true, true,
     true, none, none⟩)]

/-- Digit `i` of a packed BCD word. -/
def digit (a : Word) (i : Nat) : Nat := a.toNat / 16 ^ i % 16

/-- DADD's loop of R334 over the first `n` digits: their result and the carry k. -/
def decSum (a b : Word) (k : Bool) : Nat → Nat × Bool
  | 0 => (0, k)
  | n + 1 =>
    let p := decSum a b k n
    let t := digit a n + digit b n + bit p.2
    if 10 ≤ t then (p.1 + 16 ^ n * ((t - 10) % 16), true) else (p.1 + 16 ^ n * t, false)

/-- DSUB's loop of R334 over the first `n` digits: their result and the borrow k. -/
def decDif (a b : Word) (k : Bool) : Nat → Nat × Bool
  | 0 => (0, k)
  | n + 1 =>
    let p := decDif a b k n
    let t : Int := (digit a n : Int) - digit b n - bit p.2
    if t < 0 then (p.1 + 16 ^ n * ((t + 10) % 16).toNat, true) else (p.1 + 16 ^ n * t.toNat, false)

def rowDadd : AluRow :=
  ⟨fun k a b => BitVec.ofNat 16 (decSum a b k 4).1, true, true, false, some (fun k a b => (decSum a b k 4).2), none⟩
def rowDsub : AluRow :=
  ⟨fun k a b => BitVec.ofNat 16 (decDif a b k 4).1, true, true, false, some (fun k a b => (decDif a b k 4).2), none⟩

/-- Every digit of a word is 0-9. -/
def isBcd (a : Word) : Bool := decide (digit a 0 ≤ 9 ∧ digit a 1 ≤ 9 ∧ digit a 2 ≤ 9 ∧ digit a 3 ≤ 9)

/-- The number a packed BCD word stands for. -/
def bcdNum (a : Word) : Nat := digit a 0 + 10 * digit a 1 + 100 * digit a 2 + 1000 * digit a 3

/-! ### Galros: data space (R306-R309) -/

/-- A data access by segment `g` at offset `off` passes R306 and falls on word `i` of bank `b`. -/
def onBank (s : State) (k : CoreId) (g : Fin 4) (off : Word) (b i : Nat) : Bool :=
  let x := (s.core k).sg.get g
  decide (off.toNat ≤ x.lim.toNat ∧ x.base.toNat + off.toNat = 16384 * b + i ∧ b < 8 ∧ i < 16384)

/-- A data access by segment `g` at offset `off` passes R306 and falls on offset `o` of the core register page. -/
def onPage (s : State) (k : CoreId) (g : Fin 4) (off : Word) (o : Nat) : Bool :=
  let x := (s.core k).sg.get g
  decide (off.toNat ≤ x.lim.toNat ∧ x.base.toNat + off.toNat = 0x20000 + o ∧ o < 12)

/-- The bank takes an access of the core at once: it is neither withdrawn, cleared, waking nor draining to the core. -/
def atOnce (s : State) (k : CoreId) (b : Nat) : Bool := !bankOut s b && !bankWaits s k b

/-- The core may store to the bank at once: it owns it (R278, R308). -/
def mayStore (s : State) (k : CoreId) (b : Nat) : Bool := coreOwns s k b && atOnce s k b

/-- A word carries neither poison nor an uncorrectable error. -/
def sound (s : State) (b i : Nat) : Bool :=
  match bankErr s b i with | some .double | some .poison => false | _ => true

/-- The base register that a memory operand increments. -/
def bumped (m : MemForm) (x : Core) : Core :=
  match m with
  | .short b true => { x with w := x.w.set (4 + b.val) (x.w.get ⟨4 + b.val, by omega⟩ + 1) }
  | _ => x

/-- Segment and offset of a memory operand (R336). -/
def operand (s : State) (k : CoreId) : MemForm → Fin 4 × Word
  | .short b _ => (b, w s k ⟨4 + b.val, by omega⟩)
  | .offset g q off => (g, w s k q + BitVec.ofNat 16 off.toNat)

/-- Words of a memory instruction (R330). -/
def memWords : MemForm → Nat
  | .short .. => 1
  | .offset .. => 2

/-- A load that is on its way reaches its register (R322). -/
def landed (x : Core) : Core :=
  match x.delay with
  | some (q, u) => { x with w := x.w.setIfInBounds q u, delay := none }
  | none => x

/-- Core, condition and words of a conditional instruction (R330). -/
def parts : Instr → Option (CoreId × Cond × Nat)
  | .mov k c _ _ | .add k c _ _ | .adc k c _ _ | .sub k c _ _ | .sbc k c _ _ | .and k c _ _ | .or k c _ _ | .xor k c _ _
  | .cmp k c _ _ | .tst k c _ _ | .dadd k c _ _ | .dsub k c _ _ | .push k c _ | .pop k c _ | .shl k c _ | .shr k c _
  | .asr k c _ | .rol k c _ | .ror k c _ | .rlc k c _ | .rrc k c _ | .swab k c _ | .not k c _ | .neg k c _ | .inc k c _
  | .dec k c _ | .clr k c _ | .sexb k c _ | .sgld k c _ _ | .sgst k c _ _ | .mfs k c _ _ | .mts k c _ _ | .btstr k c _
  | .bsetr k c _ | .bclrr k c _ | .bmovr k c _ | .nop k c | .wait k c | .brk k c | .ret k c | .reti k c | .retm k c
  | .retf k c | .jmpr k c _ | .callr k c _ | .rpt k c _ _ _ _ | .rptu k c _ _ _ | .illegalInstruction k c
  | .cprd k c _ _ _ | .cpst k c _ _ _ | .waitcp k c _ _ _ => some (k, c, 1)
  | .ldi k c _ _ _ | .addi k c _ _ | .subi k c _ _ | .andi k c _ _ | .ori k c _ _ | .xori k c _ _ | .cmpi k c _ _
  | .tsti k c _ _ | .daddi k c _ _ | .btst k c _ | .bset k c _ | .bclr k c _ | .bmov k c _ | .jmp k c _ | .call k c _
  | .fetch k c _ _ | .ncoSet k c _ _ | .phase k c _ _ | .start k c _ _ | .stop k c _ _ | .taps k c _ _ | .intlen k c _ _
  | .dwell k c _ _ | .result k c _ _ | .abort k c _ _ | .mulu k c _ _ | .muls k c _ _ | .divu k c _ _ | .divs k c _ _
  | .rot k c _ _ | .atan2 k c _ _ | .sqrt k c _ _ | .cp3Operation k c _ _ _ => some (k, c, 2)
  | .callm k c _ _ => some (k, c, 3)
  | .ld k c _ m _ | .st k c _ m => some (k, c, memWords m)
  | _ => none

/-- R307 allows a base and a limit. -/
def segmentAllowed (base lim : Nat) : Bool :=
  !(decide (base ≤ 0x1FFFF ∧ 0x1FFFF < base + lim)) && !(decide (0x20000 ≤ base ∧ 0x2000B < base + lim))

/-- RW bits of B-space (R311, R312): ie8-ie15 and the bit RAM. -/
def bitIsRw (a : Nat) : Bool := decide ((0x18 ≤ a ∧ a < 0x20) ∨ (0x800 ≤ a ∧ a < 0x1000))

/-- EV bits of B-space (R311, R312). -/
def bitIsEv (a : Nat) : Bool :=
  decide (a = 0x03 ∨ a = 0x11 ∨ a = 0x15 ∨ a = 0x17 ∨ (0x340 ≤ a ∧ a < 0x3C0) ∨ (0x400 ≤ a ∧ a < 0x800))

/-- The machine after an RS trap of a CALL (R315): the frame in words `i` to `i + 2` of bank `b`. -/
def rsFramed (s : State) (k : CoreId) (b i : Nat) : State :=
  let x := s.core k
  (putWord (putWord (putWord s b (i + 2) (BitVec.ofNat 16 x.pc.toNat)) b (i + 1)
      (BitVec.ofNat 16 ((flBits x).toNat + 32 * x.level.toNat + 256 * bit x.ie))) b i 0).modCore k
    (fun x => { x with w := x.w.set 7 (x.w.get 7 - 3), level := 7, ie := false, bpSkip := false,
                       pc := BitVec.ofNat 14 (x.base.toNat * 32 + 10) })

/-- R343's loop within `n` iterations: the state after it, if it ends. -/
def repeated (k : CoreId) (r : Reg) (ic : Cond) (f : State → IRes) : Nat → State → Option State
  | 0, _ => none
  | n + 1, s =>
    match (if condHolds (s.core k) ic then f s else .done s none) with
    | .done t _ =>
      let u := t.modCore k (fun x => { x with w := x.w.set r (x.w.get r - 1) })
      if w u k r = 0 then some u else repeated k r ic f n u
    | _ => none

/-- The instruction that a repeat prefix may repeat, as it stands alone (R344). -/
def repInstr (k : CoreId) (c : Cond) : RepBody → Option Instr
  | .mov d q => some (.mov k c d q) | .add d q => some (.add k c d q) | .adc d q => some (.adc k c d q)
  | .sub d q => some (.sub k c d q) | .sbc d q => some (.sbc k c d q) | .and d q => some (.and k c d q)
  | .or d q => some (.or k c d q) | .xor d q => some (.xor k c d q) | .cmp d q => some (.cmp k c d q)
  | .tst d q => some (.tst k c d q) | .dadd d q => some (.dadd k c d q) | .dsub d q => some (.dsub k c d q)
  | .shl r => some (.shl k c r) | .shr r => some (.shr k c r) | .asr r => some (.asr k c r) | .rol r => some (.rol k c r)
  | .ror r => some (.ror k c r) | .rlc r => some (.rlc k c r) | .rrc r => some (.rrc k c r) | .swab r => some (.swab k c r)
  | .not r => some (.not k c r) | .neg r => some (.neg k c r) | .inc r => some (.inc k c r) | .dec r => some (.dec k c r)
  | .clr r => some (.clr k c r) | .sexb r => some (.sexb k c r) | .push r => some (.push k c r)
  | .st r b inc => some (.st k c r (.short b inc)) | .mfs r spec => some (.mfs k c spec r)
  | .btstr r => some (.btstr k c r) | .bsetr r => some (.bsetr k c r) | .bclrr r => some (.bclrr k c r)
  | .bmovr r => some (.bmovr k c r) | .nop => some (.nop k c)
  | .other _ => none


/-! ### The coprocessor block (R347-R362) -/

/-- The rows of CP0 to CP2 but DWELL: unit, function and operand count (R352-R354). -/
def cpRows : List ((CoreId → Cond → Fin 4 → Reg → Instr) × Fin 4 × Nat × Nat) :=
  [(.fetch, 0, 1, 1), (.ncoSet, 0, 2, 5), (.phase, 0, 3, 1), (.start, 0, 4, 4), (.stop, 0, 5, 1), (.taps, 0, 6, 5),
   (.intlen, 0, 7, 2), (.result, 1, 2, 0), (.abort, 1, 3, 0), (.mulu, 2, 1, 4), (.muls, 2, 2, 4), (.divu, 2, 3, 4),
   (.divs, 2, 4, 4), (.rot, 2, 5, 3), (.atan2, 2, 6, 2), (.sqrt, 2, 7, 2)]

/-- `n` operands from Wr upward. -/
def operands (x : Core) (r : Reg) (n : Nat) : List Word := (List.range n).map (fun i => x.w.getD (r.val + i) 0)

/-- A core with an operation outstanding on a tag: busy, its old results gone. -/
def outstanding (x : Core) (t : Fin 4) (op : CpOp) : Core := { x with tag := x.tag.set t ⟨true, 2, 0, [], some op⟩ }

/-- A tag that has completed. -/
def completed (code detail : Nat) (words : List Word) : Tag := ⟨false, code, detail, words, none⟩

/-- An operation on a tag may complete now: CORE is up in RUN or IDLE, it is the oldest of its slot, and no cell search holds
it. -/
def mayComplete (s : State) (k : CoreId) (t : Fin 4) (op : CpOp) : Bool :=
  s.pwr.coreUp && (s.pwr.state == .run || s.pwr.state == .idle) && (tagOf s k t).op == some op && !opBefore s k op &&
    !s.acq.dwellQ.contains (k, t) && (match s.acq.cell with | some c => c.op != some (k, t) | none => true)

/-- The first two words of a list of operands, and the next two, as unsigned and as signed 32-bit numbers. -/
def opA (a : List Word) : Nat := (wordAt a 0).toNat + 65536 * (wordAt a 1).toNat
def opB (a : List Word) : Nat := (wordAt a 2).toNat + 65536 * (wordAt a 3).toNat
def asSigned (n : Nat) : Int := if n < 2 ^ 31 then n else (n : Int) - 2 ^ 32

/-- A CP2 result that is right for its function and operands (R354). -/
def cp2Right (fn : Nat) (a ws : List Word) : Prop :=
  match fn with
  | 1 => ws.length = 4 ∧ natOf ws = opA a * opB a
  | 2 => ws.length = 4 ∧ ((natOf ws : Int) - asSigned (opA a) * asSigned (opB a)) % 2 ^ 64 = 0
  | 3 => ws.length = 4 ∧ natOf (ws.take 2) = opA a / opB a ∧ natOf (ws.drop 2) = opA a % opB a
  | 4 => ws.length = 4 ∧ asSigned (natOf (ws.take 2)) = (asSigned (opA a)).tdiv (asSigned (opB a)) ∧
      asSigned (natOf (ws.drop 2)) = (asSigned (opA a)).tmod (asSigned (opB a))
  | 7 => ws.length = 1 ∧ natOf ws * natOf ws ≤ opA a ∧ opA a < (natOf ws + 1) * (natOf ws + 1)
  | 6 => ws.length = 2 ∧ (wordAt a 0 = 0 → wordAt a 1 = 0 → ws = [0, 0])
  | _ => ws.length = 2

/-- Operands for which a division completes with ARG, and the detail (R354). -/
def cp2Arg (fn : Nat) (a : List Word) : Option Nat :=
  if (fn = 3 ∨ fn = 4) ∧ opB a = 0 then some 2
  else if fn = 4 ∧ opA a = 2 ^ 31 ∧ opB a = 2 ^ 32 - 1 then some 0
  else none

/-- Core `k` halts with a reason, and nothing else of the two cores changes (R494, R495). -/
def haltsWith (o : Host.Outcome State Fault Refusal) (s : State) (k : CoreId) (reason : Nat) : Prop :=
  ∃ t, o = .next t ∧
    t.core k = { s.core k with halted := true, haltReq := false, haltSdp := false, stepReq := false, reason := reason } ∧
    t.core (peer k) = s.core (peer k) ∧ bitRead t (peer k) 0x001 = true ∧ t.bank = s.bank ∧ t.time = s.time ∧
    t.pans = s.pans ∧ t.evs = s.evs


/-! ### The host bus (R192-R206) -/

/-- The class of a host bus cycle by its HSEC qualifier (R193). -/
def hostOf (sec : Bool) : Cls := if sec then .sec else .ns

/-- The device is in RUN or IDLE, as the cores' wait bits have it, with no entry attempt for a wake source to abandon. -/
def quiet (s : State) : Bool :=
  !s.pwr.attempt && ((s.pwr.state == .run && !(s.trk.waiting && s.svc.waiting)) ||
    (s.pwr.state == .idle && s.trk.waiting && s.svc.waiting))

/-- A write data phase at word offset `off` is due: the cycle is open, the bus answers and the device is at work. -/
def writing (s : State) (off : Word) (sec : Bool) : Bool := s.bus.cyc == some ⟨off, true, sec⟩ && busOn s && quiet s

/-- A read data phase at word offset `off` is due. -/
def reading (s : State) (off : Word) (sec : Bool) : Bool := s.bus.cyc == some ⟨off, false, sec⟩ && busOn s && quiet s

/-- After a write data phase that receives no error response: the class's holding word is gone (R202) and the cycle goes on to
word offset `next` (R195). -/
def phaseDone (s : State) (sec : Bool) (next : Word) : State :=
  { (s.modCls (hostOf sec) (fun b => { b with hold := none })) with
    bus := { s.bus with cyc := some ⟨next, true, sec⟩, held := false, herr := false } }

/-- After a read data phase of the lower word of register `n` with value `v`: the lower half is on HAD and the upper half in
the class's holding word (R202). -/
def lowerRead (s : State) (sec : Bool) (n : Nat) (v : BitVec 32) (next : Word) : State :=
  { (s.modCls (hostOf sec) (fun b => { b with hold := some (n, hiHalf v) })) with
    bus := { s.bus with cyc := some ⟨next, false, sec⟩, rdata := loHalf v, held := false, herr := false } }

/-- After a read data phase of an upper word that returns `v`. -/
def upperRead (s : State) (sec : Bool) (v : Word) (next : Word) : State :=
  { (s.modCls (hostOf sec) (fun b => { b with hold := none })) with
    bus := { s.bus with cyc := some ⟨next, false, sec⟩, rdata := v, held := false, herr := false } }

/-- A class's registers after an error response (R204, R206): the first one since HB_ERR was read is kept, all are counted up
to 255, and HB_IRQ.err is set. -/
def errored (b : ClsBank) (code : Nat) (wr : Bool) (off : Word) : ClsBank :=
  { b with errCause := if b.errCnt = 0 then code else b.errCause, errWr := if b.errCnt = 0 then wr else b.errWr,
           errOff := if b.errCnt = 0 then off else b.errOff, errCnt := if b.errCnt < 255 then b.errCnt + 1 else 255,
           irqErr := true, hold := none }

/-- After a write data phase that receives an error response with a cause: HERR_N is low and nothing is written. -/
def phaseFailed (s : State) (sec : Bool) (code : Nat) (off next : Word) : State :=
  { (s.modCls (hostOf sec) (fun b => errored b code true off)) with
    bus := { s.bus with cyc := some ⟨next, true, sec⟩, held := false, herr := true } }

/-- After a read data phase that receives an error response: HAD carries 0 (R204). -/
def readFailed (s : State) (sec : Bool) (code : Nat) (off next : Word) : State :=
  { (s.modCls (hostOf sec) (fun b => errored b code false off)) with
    bus := { s.bus with cyc := some ⟨next, false, sec⟩, rdata := 0, held := false, herr := true } }

/-- A register whose read has no side effect, is no window and no time register. -/
def plainReg (n : Nat) : Bool := decide (n < 44) && !([2, 4, 8, 9, 15, 17, 19, 23, 24, 31, 43].contains n)

/-- The registers whose read of the lower word has a side effect, with the row of that read and what it does for the class that
reads (R65, R203, R206, R235, R236, R237, R190). -/
def clearingReads : List (Instr × Nat × (Bool → State → State)) :=
  [(.hbErrRead, 9, fun sec s =>
      s.modCls (hostOf sec) (fun b => { b with errCause := 0, errWr := false, errCnt := 0, errOff := 0 })),
   (.sluRingRead, 15, fun _ s => { s with slu := { s.slu with cmdRef := 0, ntcOvf := 0, msrHeld := 0, evtHeld := 0 } }),
   (.bnkLogRead, 17, fun _ s => { s with bank := { s.bank with log := s.bank.log.drop 1, logOvf := false } }),
   (.pwrPaceCntRead, 23, fun _ s => { s with pace := { s.pace with shedCnt := 0, gapEp := 0 } }),
   (.vregStatRead, 24, fun _ s => { s with vreg := { s.vreg with clipCnt := 0 } }),
   (.evsTmarkRead, 31, fun _ s => setTm (setTm s 0 { tmAt s 0 with lost := 0 }) 1 { (tmAt s 1) with lost := 0 })]

/-- A class has parameter `key` selected, HB_PDATA's lower word holds `lo` staged, and a write of the upper word is due. -/
def writesParam (s : State) (sec : Bool) (key : Nat) (lo : Word) : Bool :=
  writing s 0x11 sec && selKey (s.cls (hostOf sec)) == key && mget (s.cls (hostOf sec)).stage 8 == some lo

/-- HB_PDATA after its upper word has been written: the staged word is used up, the index has moved on with auto_inc, and the
next data phase is at the lower word again (R195, R201, R211). -/
def paramPhase (s : State) (sec : Bool) : State :=
  (phaseDone s sec 0x10).modCls (hostOf sec) (fun b =>
    { b with stage := mdel b.stage 8, pindex := if b.pinc then b.pindex + 1 else b.pindex })

/-- The same where the write is refused: the staged word stays (R201, R204). -/
def paramRefused (s : State) (sec : Bool) (code : Nat) : State :=
  (phaseFailed s sec code 0x11 0x10).modCls (hostOf sec) (fun b =>
    { b with pindex := if b.pinc then b.pindex + 1 else b.pindex })


/-! ### What a command leaves alone -/

/-- The parts of the machine: the fields of State but the queue and the model's counter of free values. -/
inductive Part where
  | time | pace | samp | acq | integ | tp | wcs | evs | bus | slu | bank | cp | vreg | ant | pwr | rtc | gau | mir | dbg
  | pin | pans | ns | sec | dbgc | trkc | svcc | mirc | trk | svc | params
deriving DecidableEq

def allParts : List Part :=
  [.time, .pace, .samp, .acq, .integ, .tp, .wcs, .evs, .bus, .slu, .bank, .cp, .vreg, .ant, .pwr, .rtc, .gau, .mir, .dbg,
   .pin, .pans, .ns, .sec, .dbgc, .trkc, .svcc, .mirc, .trk, .svc, .params]

/-- A part is the same in both states. -/
def agree (s t : State) : Part → Bool
  | .time => t.time == s.time | .pace => t.pace == s.pace | .samp => t.samp == s.samp | .acq => t.acq == s.acq
  | .integ => t.integ == s.integ | .tp => t.tp == s.tp | .wcs => t.wcs == s.wcs | .evs => t.evs == s.evs
  | .bus => t.bus == s.bus | .slu => t.slu == s.slu | .bank => t.bank == s.bank | .cp => t.cp == s.cp
  | .vreg => t.vreg == s.vreg | .ant => t.ant == s.ant | .pwr => t.pwr == s.pwr | .rtc => t.rtc == s.rtc
  | .gau => t.gau == s.gau | .mir => t.mir == s.mir | .dbg => t.dbg == s.dbg | .pin => t.pin == s.pin
  | .pans => t.pans == s.pans | .ns => t.ns == s.ns | .sec => t.sec == s.sec | .dbgc => t.dbgc == s.dbgc
  | .trkc => t.trkc == s.trkc | .svcc => t.svcc == s.svcc | .mirc => t.mirc == s.mirc | .trk => t.trk == s.trk
  | .svc => t.svc == s.svc | .params => t.params == s.params

/-- From `s` to `t` only the parts named have changed, and the queue has not. -/
def onlyIn (l : List Part) (s t : State) : Bool :=
  t.pending == s.pending && allParts.all (fun p => l.contains p || agree s t p)

/-! ### Banks (R278-R297) -/

/-- BNK_OWNER is written by a secure host with `v`: its lower word is staged and the upper word is due. -/
def writesOwner (s : State) (sec : Bool) (v : BitVec 32) : Bool :=
  writing s 0x21 sec && s.pwr.coreUp && mget (s.cls (hostOf sec)).stage 16 == some (loHalf v)

/-- The field that `v` gives bank `b` in BNK_OWNER. -/
def ownField (v : BitVec 32) (b : Nat) : Nat := v.toNat / 8 ^ b % 8

/-- Host-secure may give bank `b` the owner of code `n` (R279). -/
def secureMayGive (s : State) (b n : Nat) : Bool :=
  (decide (n ≤ 2) && (decide (5 ≤ b) || (s.trk.held && s.svc.held))) && !s.bank.drain.getLsbD b &&
    !(b == 5 && s.mir.role != 0) && !bankOut s b

/-- Words of each bank checked in the present millisecond of the DTC. -/
def checked (s : State) : Nat := if s.bank.rakeMs.1 = dtcNow s / 16368 then s.bank.rakeMs.2 else 0

/-- Rake is at work, below sys.rake_rate words a millisecond (R287; log entry 102). -/
def rakes (s : State) : Bool :=
  s.pwr.coreUp && (s.pwr.state == .run || s.pwr.state == .idle) && decide (checked s < s.parN pSysRakeRate)

/-- Rake finds nothing to do in a bank: it skips it, or its word is sound or already poisoned. -/
def rakeQuiet (s : State) (b : Nat) : Bool :=
  bankOut s b || s.bank.clearing.getLsbD b || s.bank.wakeWait.getLsbD b ||
    (match bankErr s b s.bank.rakeAt.toNat with | some .single | some .double => false | _ => true)

/-- Rake moves on to the next word, and counts a pass when every bank has wrapped. -/
def raked (s : State) : State :=
  let t := { s with bank := { s.bank with rakeAt := s.bank.rakeAt + 1, rakeMs := (dtcNow s / 16368, checked s + 1) } }
  if s.bank.rakeAt.toNat = 0x3FFF then t.incPar pSysRakePasses else t

/-- No bank word suffers an upset just before Rake's check. -/
def noUpsets : List (Option Upset) := List.replicate 8 none

/-! ### The calendar (R410) -/

/-- Days from 1 January 2000. -/
def dayCount (day month year : Nat) : Nat :=
  ((List.range year).map (fun y => if y % 4 = 0 then 366 else 365)).sum +
    ((List.range (month - 1)).map (fun m => monthDays (m + 1) year)).sum + (day - 1)

/-- Seconds from the start of 1 January 2000 that the calendar shows. -/
def calendarSeconds (r : RtcSt) : Nat :=
  86400 * dayCount (bcdVal r.day.toNat) (bcdVal r.month.toNat) (bcdVal r.year.toNat) +
    3600 * bcdVal r.hour.toNat + 60 * bcdVal r.min.toNat + bcdVal r.sec.toNat

/-- The seconds of the calendar's 100 years. -/
def century : Nat := 36525 * 86400

/-- The alarm's unmasked fields agree with the calendar (R415). -/
def alarmAgrees (a : BitVec 32) (r : RtcSt) : Bool :=
  (a.getLsbD 7 || decide (field a 0 7 = r.sec.toNat)) && (a.getLsbD 15 || decide (field a 8 7 = r.min.toNat)) &&
  (a.getLsbD 22 || decide (field a 16 6 = r.hour.toNat)) && (a.getLsbD 30 || decide (field a 24 6 = r.day.toNat))

/-- The alarm register after a second tick that leaves the calendar at `r`. -/
def alarmAfter (a : BitVec 32) (r : RtcSt) : BitVec 32 :=
  if a.getLsbD 23 && alarmAgrees a r then a ||| 0x80000000#32 else a


/-! ### The calibration block (R499-R501) -/

/-- The block in NVM passes its check: format 0x0001 and the CRC over words 0x00-0x3E. -/
def blockPasses (s : State) : Bool :=
  decide (nvmWord s 0 = 1) && decide (crcWords ((List.range 63).map (nvmWord s)) = (nvmWord s 63).toNat)

/-- Word `k` of the cal page after a LOAD: as read, or nominal when the check failed (R501). -/
def loadedWord (s : State) (k : Nat) : Int :=
  if !blockPasses s && decide (2 ≤ k ∧ k ≤ 0x19) then paramReset (pCal k) else calValue k (nvmWord s k)

/-- Every word of the cal page fits its 16 bits. -/
def calFits (s : State) : Bool := (List.range 64).all (fun k => calValue k (BitVec.ofInt 16 (s.par (pCal k))) == s.par (pCal k))

/-! ### Doorbells (R244-R252) -/

/-- A channel that is neither a ring port nor the CP3 channel. -/
def plainChan (s : State) (ch : Nat) : Bool := !([30, 31, 62, 63].contains ch) && ch != cp3Chan s

/-- The notice that a host class sends: its SLU_NOTICE with class and client stamped (R242). -/
def hostNotice (s : State) (sec : Bool) : Notice :=
  let b := s.cls (hostOf sec)
  ⟨b.nBank, b.nOff, if sec then 1 else 0, b.client, b.nKind⟩

/-- A doorbell request is refused with cause SLUICE and `res`: SLU_DB.chan and everything else stay. -/
def dbRefused (s : State) (sec : Bool) (res : Nat) : State :=
  (phaseFailed s sec 14 0x1A 0x1B).modCls (hostOf sec) (fun b => { b with dbRes := res })

/-- A doorbell request on channel `ch` succeeds. -/
def dbDone (s : State) (sec : Bool) (ch : Nat) : State :=
  (phaseDone s sec 0x1B).modCls (hostOf sec) (fun b => { b with dbChan := BitVec.ofNat 6 ch, dbRes := 1 })

/-- A class has taken a notice into its SLU_NOTICE. -/
def noticeTaken (s : State) (c : Cls) (n : Notice) : State :=
  s.modCls c (fun b => { b with nKind := n.kind, nClient := n.client, nCls := n.cls, nOff := n.offset, nBank := n.bank })

/-- The empty event for a sender of class code `snd` (R246). -/
def emptied (s : State) (ch snd : Nat) : State :=
  match snd with
  | 0 | 1 => if ch < 32 then s.setParBit pNtcEmptNs ch true else s.setParBit pNtcEmptS (ch - 32) true
  | 2 => { s with trk := { s.trk with empties := s.trk.empties ||| BitVec.twoPow 64 ch } }
  | 3 => { s with svc := { s.svc with empties := s.svc.empties ||| BitVec.twoPow 64 ch } }
  | _ => s

/-- Device-notice type `t` with data `d` as an IMM notice (R243, R270). -/
def immWord (t d : Nat) : Notice := ⟨BitVec.ofNat 3 (t / 4), BitVec.ofNat 14 (t % 4 * 4096 + d % 4096), 3, 0, 1⟩


/-! ### The Word Clock Synthesizer and TPOUT (R147-R162) -/

/-- `t` is the first lattice point at or after `x`, both in ticks (R154): point `n` lies at n / fs seconds. -/
def FirstLattice (s : State) (x t : Int) : Prop :=
  ∃ n : Int, t = n * ticksPerSec / wcsFs s ∧ (n - 1) * ticksPerSec < x * wcsFs s ∧ x * wcsFs s ≤ n * ticksPerSec

/-- `n` is the index of the first lattice point at or after a time of `num / den` ticks. -/
def LatticeIndex (s : State) (num den n : Int) : Prop :=
  (n - 1) * (den * ticksPerSec) < num * wcsFs s ∧ num * wcsFs s ≤ n * (den * ticksPerSec)

/-- `r` is the ratio N of R153 and R155 for a phase `phiA` in 1/16 tick, as numerator and denominator: f_VCO (1 + y) /
(16,368,000 (1 + eps)), y being phi_a / wcs.tc clipped to wcs.dev_max. -/
def IsRatio (s : State) (fs phiA : Int) (r : Int × Int) : Prop :=
  let d := 16 * ticksPerSec * s.par pWcsTc
  let lim := s.par pWcsDevMax * d
  ∀ y : Int, 0 ≤ lim → (phiA * 1000000 < -lim → y = -lim) → (lim < phiA * 1000000 → y = lim) →
    (-lim ≤ phiA * 1000000 → phiA * 1000000 ≤ lim → y = phiA * 1000000) →
    r.1 * (d * 1000000 * 16368000 * (1000000000000 + epsNow s)) =
      r.2 * (160 * 256 * fs * (d * 1000000 + y) * 1000000000000)

/-- `t` is the first whole multiple of `p` ticks at or after `x`. -/
def FirstMultiple (p x t : Int) : Prop := ∃ n : Int, t = n * p ∧ t - p < x ∧ x ≤ t

/-- |phi_a| exceeds `k` times wcs.lock_ns (R156). -/
def phaseBeyond (s : State) (phiA : Int) (k : Nat) : Bool :=
  decide ((k : Int) * s.par pWcsLockNs * 16 * ticksPerSec < (phiA.natAbs : Int) * 1000000000)

/-- WCS_CTRL's fields as `d` writes them; fam and mclk_x2 are as they stand. -/
def wcsWritten (s : State) (d : Word) : WcsSt :=
  { s.wcs with square := d.getLsbD 3, lowAct := d.getLsbD 4, autoJump := d.getLsbD 5 }

/-- `t` is the pulse time of index `k` (R147). -/
def isPulse (s : State) (k t : Int) : Bool := decide (t = k * (ticksPerSec / tpHz s.tp.rate) + nsTicks s.tp.userOff)

/-- `t` is the pulse time that falls due next: the first at or after now, as the output's own delay has it (R146), that lies after every pulse already emitted. -/
def NextPulse (s : State) (t : Int) : Prop :=
  (∃ k, isPulse s k t = true) ∧ tpTime s (gnssNow s) ≤ t ∧ (∀ l, s.tp.lastTarget = some l → l < t) ∧
    ∀ k u, isPulse s k u = true → tpTime s (gnssNow s) ≤ u → (∀ l, s.tp.lastTarget = some l → l < u) → t ≤ u


/-! ### The EVT ring, slots and timemarks (R172-R190, R255) -/

/-- The EVT ring is placed, takes records and has room. -/
def evtOpen (s : State) : Bool :=
  decide (s.parN pNtcEvtBank < 8) && hostBank s (s.parN pNtcEvtBank) && !s.slu.evtSusp &&
    decide ((s.parN pNtcEvtWr + 2048 - s.parN pNtcEvtRd) % 2048 < 1024)

/-- The 16 words of the EVT record that `s` would write next, as `t` holds them. -/
def evtRecord (s t : State) : List Word := getWords t (s.parN pNtcEvtBank) (16 * (s.parN pNtcEvtWr % 1024)) 16

/-- From `s` to `t` one record was posted: the write index has advanced. -/
def evtPosted (s t : State) : Bool := t.par pNtcEvtWr == (((s.parN pNtcEvtWr + 1) % 2048 : Nat) : Int)

/-- A record as R188 lays it out, from its flags, numbers, time stamp and instant. -/
def record (type : Nat) (late gap collide lost dbErr : Bool) (seq : Word) (idx acts client cls : Nat) (tsb : List Word)
    (count : Nat) (instant : Nat) : List Word :=
  [BitVec.ofNat 16 (type + 256 * bit late + 512 * bit gap + 1024 * bit collide + 2048 * bit lost + 4096 * bit dbErr), seq,
   BitVec.ofNat 16 (idx + 1024 * acts), BitVec.ofNat 16 (client + 1024 * cls)] ++ tsb ++
  [BitVec.ofNat 16 (min 65535 count), BitVec.ofNat 16 instant, BitVec.ofNat 16 (instant / 2 ^ 16),
   BitVec.ofNat 16 (instant / 2 ^ 32), BitVec.ofNat 16 (instant / 2 ^ 48 % 1024)]

/-- A slot may fire at GNSS time `t`: time runs, the device is at work, and no lower slot is due at that time. -/
def mayFire (s : State) (i : Nat) (t : Int) : Bool := s.time.running && s.pwr.coreUp && s.mir.role != 2 && quiet s && !lowerDue s i t

/-- The doorbell of channel `ch` takes a slot's ring. -/
def slotRings (s : State) (ch : Nat) : Bool := plainChan s ch && !rcvDown s ch && (mget s.slu.chans ch).isNone

/-- What an EVOUT operation leaves on a pin at time `t`. -/
def pinAfter (x : EvPin) (m : SlotImg) (t : Int) : Bool × Option Int :=
  (match m.op.toNat with | 0 => true | 1 => false | 2 => !x.active | _ => true, some t)

/-- What a firing of slot `i` at time `t`, for occurrence `m` of `x`, does beside the slot itself (R179, R180, R184, R188):
`u` is the machine when time has reached `t`. -/
def Fires (s u v : State) (i : Nat) (x : Slot) (m : SlotImg) (t : Int) (late : Bool) (passed : Nat) : Prop :=
  let adm := m.tqMask.getLsbD (tqCode s.time.tq)
  let a (k : Nat) : Bool := adm && m.actions.getLsbD k
  let pin := pinAt s m.pin
  let col := a 0 && pin.lastAt == some t
  let rings := a 1 && slotRings s m.chan.val
  let realign := a 3 && s.wcs.state != .off
  let n := if a 0 && !col then evEdge u m.pin.val t else (placeAt u t (deltaPs u)).1
  v.evs.fireCnt = s.evs.fireCnt + 1 ∧ v.evs.fired = s.evs.fired ||| BitVec.twoPow 1024 i ∧
  v.evs.skip = (s.evs.skip || !adm) ∧ v.evs.late = (s.evs.late || late) ∧ v.evs.collide = (s.evs.collide || col) ∧
  (∀ p, (a 0 = true → col = false → p = m.pin →
      ((pinAt v p).active, (pinAt v p).lastAt) = pinAfter pin m t ∧ (pinAt v p).placed = n ∧
      (m.op.toNat ≠ 3 → (pinAt v p).ends = pin.ends) ∧
      (m.op.toNat = 3 → pin.ends = [] → (pinAt v p).ends = [t + usTicks m.pulse])) ∧
    (a 0 = false ∨ col = true ∨ p ≠ m.pin → pinAt v p = pinAt s p)) ∧
  v.slu.chans = (if rings then mput s.slu.chans m.chan.val
      ⟨⟨0, BitVec.ofNat 14 i, BitVec.ofNat 3 (clsCode x.cls), x.client, 1⟩, BitVec.ofNat 3 (clsCode x.cls), false, dtcNow u⟩
    else s.slu.chans) ∧
  (adm = false ∨ m.actions.getLsbD 2 = true → evtOpen s = true → evtPosted s v = true ∧
    evtRecord s v = record (if adm then 0x10 else 0x11) late s.pace.gapSinceAnchor col false (a 1 && !rings) s.evs.seq i
      (bit (a 0 && !col) + 2 * bit rings + 4 * bit (a 2) + 8 * bit realign) x.client.toNat (clsCode x.cls)
      (tsbAt u m.target) passed (n.toNat % 2 ^ 58)) ∧
  (adm = true → m.actions.getLsbD 2 = false → v.bank = s.bank ∧ v.params = s.params) ∧
  onlyIn [.time, .evs, .wcs, .slu, .bank, .params] s v = true

/-- A slot that has advanced waits for its commit point; where none is left it is committed and fires 20 us on (R178, R182). -/
def rearmed (v : State) (y : Slot) : Prop :=
  if y.img.target - gnssNow v < 20952 then y.com = some y.img ∧ y.late = some (gnssNow v + 20952) else y.com = none ∧ y.late = none


/-! ### Runtime commands (R259-R269) -/

/-- SVC takes the command at the head of CMD: it runs, in RUN or IDLE, with room on NTC, no command in hand, no entry attempt
and no slot request held for a takeover; B0 and B1 are present by fuse. -/
def headIs (s : State) (n : Notice) (rest : List Notice) : Bool :=
  takesCmd s && s.slu.cmd == n :: rest && !s.pwr.attempt && !s.pwr.fuseBnk.getLsbD 0 && !s.pwr.fuseBnk.getLsbD 1 &&
    !s.mir.holdSlots

/-- The command is immediate, with an opcode and a 9-bit argument (R265). -/
def immCmd (s : State) (n : Notice) (rest : List Notice) (op arg : Nat) : Bool :=
  headIs s n rest && n.kind == 1 && decide (arg < 512) && n.bank.toNat * 16384 + n.offset.toNat == op * 512 + arg

/-- `len` words from word `w` of bank `b` may hold a block (R264). -/
def blockFits (s : State) (b w len : Nat) : Bool :=
  mailOk s && hostBank s b && w % 2 == 0 && decide (w + len ≤ 16384) &&
    (b != s.parN pNtcMailBank || decide (w + len ≤ 0x3000))

/-- Every word of a stretch is sound. -/
def allSound (s : State) (b w len : Nat) : Bool := (List.range len).all (fun i => sound s b (w + i))

/-- The command is a block command with an opcode and argument words (R264), all sound. -/
def blockCmd (s : State) (n : Notice) (rest : List Notice) (op : Nat) (args : List Word) : Bool :=
  let b := n.bank.toNat
  let w := n.offset.toNat
  headIs s n rest && n.kind == 0 && decide (op < 256) && decide (args.length ≤ 60) && blockFits s b w (3 + args.length) &&
    bankWord s b w == BitVec.ofNat 16 (op + 256 * args.length) && getWords s b (w + 3) args.length == args &&
    allSound s b w (3 + args.length)

/-- The notice has been taken from CMD; the time without commands begins anew (R263, R385; log entry 99). -/
def taken (s : State) (rest : List Notice) : State :=
  { s with slu := { s.slu with cmd := rest }, pwr := { s.pwr with busyAt := dtcNow s } }

/-- The DONE notice of an immediate command, or of a block that fails R264 (R266). -/
def immDone (t : State) (n : Notice) (op code : Nat) : State :=
  let v := op * 512 + 2 * code + 1
  { t with slu := { t.slu with ntc := t.slu.ntc ++ [⟨BitVec.ofNat 3 (v / 16384), BitVec.ofNat 14 v, 3, n.client, 2⟩] } }

/-- The results and the status of a block, and its DONE notice (R264, R266). -/
def blockDone (t : State) (n : Notice) (code : Nat) (res : List Word) : State :=
  let b := n.bank.toNat
  let w := n.offset.toNat
  let u := putWord (putWords t b (w + 3) res) b (w + 1) (BitVec.ofNat 16 (0x0100 + code))
  { u with slu := { t.slu with ntc := t.slu.ntc ++ [{ n with cls := 3, kind := 2 }] } }

/-- A command of the set of R268: its row, opcode, whether it is a block command, its argument count, and whether it is
secure-only. -/
structure CmdRow where
  cmd   : Instr
  op    : Nat
  block : Bool
  n     : Nat
  sec   : Bool

/-- The command set (R268). -/
def cmdRows (a : Assist) : List CmdRow :=
  [⟨.timeSet, 0x01, true, 10, false⟩, ⟨.posSet, 0x02, true, 8, false⟩, ⟨.freqAid, 0x03, true, 3, false⟩,
   ⟨.search a, 0x04, true, 3, false⟩, ⟨.searchStop, 0x05, false, 0, false⟩, ⟨.panStart, 0x06, true, 4, false⟩,
   ⟨.panStop, 0x07, false, 0, false⟩, ⟨.twin, 0x08, false, 0, false⟩, ⟨.intRebase, 0x09, false, 0, true⟩,
   ⟨.slotArm, 0x0A, true, 13, false⟩, ⟨.slotModify, 0x0B, true, 14, false⟩, ⟨.slotCancel, 0x0C, true, 1, false⟩,
   ⟨.slotCancelClient, 0x0D, true, 2, false⟩, ⟨.slotQuery, 0x0E, true, 14, false⟩, ⟨.progLoad, 0x0F, false, 0, true⟩,
   ⟨.power, 0x10, false, 0, false⟩, ⟨.bankLend, 0x11, false, 0, false⟩, ⟨.bankRecall, 0x12, false, 0, false⟩,
   ⟨.mirRole, 0x13, false, 0, true⟩, ⟨.mirTakeover, 0x14, false, 0, true⟩, ⟨.mirCompare, 0x15, false, 0, true⟩,
   ⟨.nopCommand, 0x16, false, 0, false⟩]

/-- Argument word `i` as a number. -/
def argN (args : List Word) (i : Nat) : Nat := (args.getD i 0).toNat

/-- Two argument words as a signed number. -/
def argS (args : List Word) (i : Nat) : Int := (BitVec.ofNat 32 (argN args i + 65536 * argN args (i + 1))).toInt

/-- The slot image of argument words (R269), field by field. -/
def slotImage (ws : List Word) : SlotImg where
  actions := BitVec.ofNat 4 (argN ws 1)
  pin := Fin.ofNat 4 (argN ws 1 / 16)
  op := BitVec.ofNat 2 (argN ws 1 / 64)
  chan := Fin.ofNat 64 (argN ws 1 / 256)
  lateOk := decide (argN ws 1 / 16384 % 2 = 1)
  tqMask := BitVec.ofNat 6 (argN ws 2)
  target := ((argN ws 3 * 604800 + argN ws 4 + argN ws 5 % 16 * 65536 : Nat) : Int) * ticksPerSec +
    ((argN ws 6 + argN ws 7 % 16384 * 65536 : Nat) : Int)
  period := argN ws 8 + 65536 * argN ws 9 + 4294967296 * argN ws 10
  count := argN ws 11
  pulse := argN ws 12

/-- tow_s and sub of a slot image lie in their ranges. -/
def slotTimeOk (ws : List Word) : Bool :=
  decide (argN ws 4 + argN ws 5 % 16 * 65536 < 604800) && decide (argN ws 6 + argN ws 7 % 16384 * 65536 < 1047552000)

/-- No occurrence of the target can take a commit point any more (R178). -/
def past (s : State) (t : Int) : Bool := decide (t - gnssNow s < 20952)

/-- Only these classes come with a notice on CMD: host-non-secure and host-secure. -/
def hostCode (n : Notice) : Bool := decide (n.cls.toNat ≤ 1)


/-! ### Search and pans (R87-R119, R268) -/

/-- A device notice with a body has its place: room on NTC and a mail bank (R253, R254). -/
def canMsg (s : State) : Bool := s.pwr.coreUp && decide (s.slu.ntc.length < 496) && mailOk s

/-- A MSG notice of type `t` with its body, at the place that its NTC entry number gives (R253, R270, R272). -/
def msgPosted (s : State) (t : Nat) (body : List Word) : State :=
  let b := s.parN pNtcMailBank
  let w := 0x3000 + 8 * ((s.slu.ntcHead + s.slu.ntc.length) % 512)
  { (putWords s b w ((BitVec.ofNat 16 t :: (body ++ List.replicate 7 0)).take 8)) with
    slu := { s.slu with ntc := s.slu.ntc ++ [⟨BitVec.ofNat 3 b, BitVec.ofNat 14 w, 3, 0, 0⟩] } }

/-- The ACQ_END notice (R272). -/
def acqEndPosted (s : State) (reason : Nat) : State :=
  msgPosted s 6 [BitVec.ofNat 16 s.acq.hitsNow, loHalf s.acq.notSearched, hiHalf s.acq.notSearched, BitVec.ofNat 16 reason]

/-- The ACQ_HIT notice (R272). -/
def acqHitPosted (s : State) (h : Hit) (pan : Nat) : State :=
  msgPosted s 5 [BitVec.ofNat 16 h.prn, BitVec.ofNat 16 h.code, BitVec.ofInt 16 h.dop, BitVec.ofNat 16 h.metric,
    BitVec.ofNat 16 h.ratio, BitVec.ofNat 16 h.cn0, BitVec.ofNat 16 pan]

/-- A PRN may be searched by a SEARCH with this mask (R97, R102, R119). -/
def searched (s : State) (mask prn : Nat) : Bool :=
  decide (1 ≤ prn ∧ prn ≤ 32) && mask.testBit (prn - 1) && s.parBit pAcqPrnMask (prn - 1) && prn != s.parN pTrkNfPrn

/-- A test PRN that acq.test_prn_en permits; no mask has a bit for it. -/
def testPrn (s : State) (prn : Nat) : Bool := decide (33 ≤ prn ∧ prn ≤ 63) && s.parB pAcqTestPrnEn && prn != s.parN pTrkNfPrn

/-- REFIN's fractional error is known: solved and held, or from the host (R97). -/
def epsKnown (s : State) : Bool := s.time.freqKnown || tqGnss s.time.tq

/-- Time is known to a bound in ns, and position to a bound in dm. -/
def timeTo (s : State) (ns : Nat) : Bool := match uncNow s with | some u => decide (u ≤ ns) | none => false
def placeTo (s : State) (dm : Nat) : Bool := match s.time.pos with | some p => decide (p.hSigma ≤ dm) | none => false

/-- The ephemeris held of a PRN whose 4 h fit interval, about toe, holds GNSS time `t` (R128; log entry 70). -/
def ephHeld (s : State) (prn : Nat) (t : Int) : Option Eph :=
  (mget s.pans.eph prn).filter (fun e =>
    decide ((t / ticksPerSec - e.toe) % 604800 ≤ 7200 ∨ 597600 ≤ (t / ticksPerSec - e.toe) % 604800))

/-- Ephemeris of a PRN is held and valid now. -/
def ephValid (s : State) (prn : Nat) : Bool := s.time.tq != .unknown && (ephHeld s prn (gnssNow s)).isSome

/-- The fourth row of R97 holds for a PRN: ephemeris, time to 10 ms, position to 10 km, frequency known. -/
def hotFor (s : State) (prn : Nat) : Bool := ephValid s prn && epsKnown s && timeTo s 10000000 && placeTo s 100000

/-- Almanac may be used: it is held, time is known to 2 s or from the RTC (R33), and position to 100 km. -/
def almanacRow (s : State) : Bool :=
  s.pans.almPrn != [] && (timeTo s 2000000000 || rtcUse s == 2) && placeTo s 1000000

/-- How a predicted satellite stands in the plan (R97); its code phase counts with a half-span in chips (log entry 71). -/
def predicted (s : State) (v : Pred) : PlanItem :=
  let chips := ((uncNow s).getD 0 * 1023 + 999999) / 1000000 + ((s.time.pos.map (·.hSigma)).getD 0 + 2929) / 2930
  let hot := hotFor s v.prn
  { prn := v.prn, centre := v.doppler, wins := none, direct := hot, at_ := dtcNow s,
    code := if hot ∨ (uncNow s).isSome then some (v.code, chips) else none,
    span := s.parN pAcqDopSpanAid + if hot ∨ epsKnown s then 0 else (s.parN pSysTcxoStab * 157542 + 9999) / 10000 }

/-- `plan` is the plan of R97 for a mask: the satellites predicted above the horizon by ephemeris or almanac held, highest
first, then, unless almanac gives the row, every other PRN over the full span; assistance is ignored where `aided` is
false, and where B4 is missing (R480). -/
def IsPlan (s : State) (a : Assist) (mask : Nat) (aided : Bool) (plan : List PlanItem) : Prop :=
  let use := aided && !bankOut s 4
  let on (prn : Nat) : Bool := searched s mask prn || testPrn s prn
  let seen (v : Pred) : Bool := on v.prn && decide (0 < v.elev) &&
    ((use && hotFor s v.prn) || (use && almanacRow s && s.pans.almPrn.contains v.prn))
  ∃ l : List Pred, l.Perm (a.filter seen) ∧ l.Pairwise (fun u v => v.elev ≤ u.elev) ∧
    plan = l.map (predicted s) ++
      (if use && almanacRow s then []
       else ((List.range 33).filter (fun p => searched s mask p && !(use && hotFor s p))).map
         (fun p => ⟨p, 0, s.parN pAcqDopSpan, none, none, false, dtcNow s⟩))

/-- The windows of R88 for a half-span about a centre, all in 1/2520 Hz: 16 / acq.dwell kHz wide, side by side, nearest
first, covering the span. -/
def Windows (dwell : Nat) (centre : Int) (span : Nat) (l : List (Int × Nat)) : Prop :=
  l.length = max 1 ((2 * span * dwell + 40319999) / 40320000) ∧ (∀ x ∈ l, x.2 = dwell) ∧
  (20160000 % dwell = 0 → ∀ f : Int, (f - centre).natAbs ≤ span → ∃ x ∈ l, (f - x.1).natAbs * dwell ≤ 20160000) ∧
  ∀ (i j : Nat) (x y : Int × Nat), i < j → l[i]? = some x → l[j]? = some y → (x.1 - centre).natAbs ≤ (y.1 - centre).natAbs

/-- A pan is set to a code phase (1/32 chip) and Doppler (Hz) that held at DTC count `at_`, propagated to count `till` under
the Doppler-aided code rate (R95): each NCO word and the phase lie within one unit of the exact figure (log entries 67,
68). -/
def Aims (s : State) (code : Nat) (dop : Int) (at_ till : Nat) (x : Pan) : Prop :=
  let hz : Int := if s.par pSmpMode = 1 then 16368000 else 8184000
  let mid : Int := if s.par pSmpMode = 1 then 4092000 else 0
  (∃ c : Int, x.carNco = BitVec.ofInt 32 c ∧ ((c * hz - (mid + dop) * 2 ^ 32).natAbs : Int) < hz) ∧
  (∃ c : Int, x.codeNco = BitVec.ofInt 32 c ∧
    ((c * (1575420000 * hz) - 1023000 * (1575420000 + dop) * 2 ^ 32).natAbs : Int) < 1575420000 * hz) ∧
  (∃ c : Int, ((x.chip * 2 ^ 32 + x.codePh.toNat : Nat) : Int) = (code * 2 ^ 27 + c) % (1023 * 2 ^ 32) ∧
    ((c * 1575420000 - ((till - at_ : Nat) : Int) * (1575420000 + dop) * 2 ^ 28).natAbs : Int) < 1575420000) ∧
  x.posAt = till ∧ x.pendRate = none

/-- The next 1 ms epoch boundary. -/
def nextEpoch (s : State) : Nat := (dtcNow s / 16368 + 1) * 16368

/-- A pan as it starts, apart from where its code and carrier stand (R95, R100, R101, R115, R268). -/
def Begins (s : State) (prn : Nat) (lead : Bool) (x : Pan) : Prop :=
  x.prn = prn ∧ x.lead = lead ∧ x.starting = true ∧ x.phase = .pull ∧ x.codeLk = false ∧
  x.carLk = false ∧ x.bitSync = false ∧ x.frmSync = false ∧ x.ready = false ∧ x.reacq = none ∧ x.coh = 1 ∧
  x.since = nextEpoch s ∧ x.posAt = nextEpoch s ∧
  x.susp = decide (5 ≤ s.pace.level) ∧ x.velSp = s.parN pTrkVelSp ∧
  x.elSp = (if lead then s.parN pTrkElSp else s.parN pTrkTwinElSp) ∧
  x.xaOff = (if s.par pTrkXaMode = 2 then -s.par pTrkSweepSpan else s.par pTrkXaOff) ∧
  x.xbOff = (if s.par pTrkXbMode = 2 then -s.par pTrkSweepSpan else s.par pTrkXbOff)

/-- From `s` to `t` pan `p` starts as `ok` says, and the other pans stay. -/
def PanPlaced (s t : State) (p : Nat) (ok : Pan → Prop) : Prop :=
  (∃ x, mget t.pans.act p = some x ∧ ok x) ∧
  (∀ q, q ≠ p → mget t.pans.act q = mget s.pans.act q) ∧
  t.pace = { s.pace with suspOrder := if 5 ≤ s.pace.level then s.pace.suspOrder ++ [p] else s.pace.suspOrder }

/-- From `s` to `t` pan `p` starts on a PRN, at the code phase and Doppler that held at DTC count `at_`. -/
def PanStarts (s t : State) (p prn code : Nat) (dop : Int) (at_ : Nat) (lead : Bool) : Prop :=
  PanPlaced s t p (fun x => Begins s prn lead x ∧ Aims s code dop at_ (nextEpoch s) x)

/-- Pan `p` is free for use: in trk.pan_mask, its group available, inactive. -/
def free (s : State) (p : Nat) : Bool :=
  decide (p < 32) && s.parBit pTrkPanMask p && unitOk s (1 + p / 8) && (mget s.pans.act p).isNone

/-- `p` is the lowest free pan. -/
def LowestFree (s : State) (p : Nat) : Prop := free s p = true ∧ ∀ q, q < p → free s q = false

/-- A pan tracks the PRN. -/
def tracked (s : State) (prn : Nat) : Bool := s.pans.act.any (fun y => y.2.prn == prn)

/-- The twin requests left when the pan `p` of a PRN goes (log entry 69). -/
def twinsLeft (s : State) (p prn : Nat) : List Nat :=
  if s.pans.act.any (fun y => y.1 != p && y.2.prn == prn) then s.acq.twinReq else s.acq.twinReq.filter (· != prn)


/-- A cell of B2 carries poison. -/
def accPoison (s : State) : Bool := s.bank.errs.any (fun e => e.1 / 16384 == 2 && e.2 == .poison)

/-- The Crystallizer has finished the acq.ncoh dwell epochs of cell search `c`. -/
def cellOver (s : State) (c : Cell) : Bool :=
  s.acq.cell == some c && !cryOff s && decide (c.ncoh ≤ c.done) && (s.pwr.state == .run || s.pwr.state == .idle)

/-- The same, and no poisoned word of B2 spoils it. -/
def cellEnds (s : State) (c : Cell) (o : CellObs) : Bool := cellOver s c && !o.poisoned && !accPoison s

/-- The peak of a cell search. -/
def peak (c : Cell) : Peak := peakOf nearCell c.sums

/-- Whether cells lie within ±1 half-chip phase and ±1 bin of each other (R91). -/
def Near (a b : Nat) : Prop :=
  (a % 2046 = b % 2046 ∨ a % 2046 = (b % 2046 + 1) % 2046 ∨ b % 2046 = (a % 2046 + 1) % 2046) ∧
    a / 2046 ≤ b / 2046 + 1 ∧ b / 2046 ≤ a / 2046 + 1

/-- What R91 takes from the cells `m`: the peak, the largest power outside its neighbourhood, and the sum of those powers. -/
def PeakRight (m : List (Nat × Nat)) (p : Peak) : Prop :=
  (p.key, p.pow) ∈ m ∧ (∀ x ∈ m, x.2 ≤ p.pow) ∧ (∀ x ∈ m, ¬ Near p.key x.1 → x.2 ≤ p.next) ∧
  (p.next = 0 ∨ ∃ x ∈ m, ¬ Near p.key x.1 ∧ x.2 = p.next) ∧
  ∃ far : List (Nat × Nat), (∀ x, x ∈ far ↔ x ∈ m ∧ ¬ Near p.key x.1) ∧ far.Sublist m ∧ p.rest = (far.map (·.2)).sum

/-- The peak reaches the threshold of R91: M is its power times the other cells, of all 65,472, over their sum. -/
def isHit (s : State) (c : Cell) : Bool :=
  let p := peak c
  let far := if p.key / 2046 = 0 ∨ p.key / 2046 = 31 then 65472 - 6 else 65472 - 9
  let thr := if s.par pAcqDetThr = 0 then Config.noiseThr c.ncoh else s.parN pAcqDetThr
  decide (0 < p.pow ∧ 10 ^ thr * p.rest ^ 100 ≤ (p.pow * far) ^ 100)

/-- The result of a cell search (R94): the interpolation is a free value. -/
def result (s : State) (c : Cell) : Hit := hitOf s c (peak c)

/-- The peak confirms a first hit (R92): it lies within ±1 half-chip phase and ±1 bin of it, propagated. -/
def confirms (s : State) (c : Cell) (f : FirstHit) : Bool := isHit s c && nearFirst s c (peak c) f

/-- The seven result words of R353. -/
def resultWords (hit : Bool) (h : Hit) : List Word :=
  [BitVec.ofNat 16 (bit hit), BitVec.ofNat 16 h.prn, BitVec.ofNat 16 h.code, BitVec.ofInt 16 h.dop, BitVec.ofNat 16 h.metric,
   BitVec.ofNat 16 h.ratio, BitVec.ofNat 16 h.cn0]

/-- The Crystallizer's latest result, its ready bit with it (R111, R353). -/
def cellResult (s : State) (c : Cell) : AcqSt :=
  { s.acq with lastRes := resultWords (isHit s c) (result s c), lastHit := isHit s c, dwellDone := true }

/-- A cell search as it begins, with `conf` confirmations left of a first hit. -/
def cellFrom (s : State) (prn : Nat) (win : Int) (conf : Nat) (first : Option FirstHit) : Cell :=
  ⟨prn, win, s.parN pAcqDwell, s.parN pAcqNcoh, true, conf, first, none, 0, none, [], dtcNow s⟩

/-- The cell search that follows on the same PRN, window `x` of windows `x :: l` left, with plan items `is` behind. -/
def nextWindow (s : State) (q : AcqSt) (i : PlanItem) (x : Int × Nat) (l : List (Int × Nat)) (is : List PlanItem) : AcqSt :=
  { q with plan := { i with wins := some l } :: is, cell := some (cellFrom s i.prn x.1 0 none) }

/-- What follows at the same instant: at an epoch boundary the next dwell epoch may start (R89). -/
def dwellsOn (o : CellObs) (t : State) : State := if dtcNow t % 16368 = 0 then startDwell t o.aligned else t

/-- A hit is a cross-correlation of a satellite that another pan tracks (R93). -/
def crossed (s : State) (h : Hit) (dwell : Nat) : Prop :=
  ∃ p x, mget s.pans.act p = some x ∧ x.codeLk = true ∧ x.prn ≠ h.prn ∧ h.cn0 + 10 * s.parN pAcqXcorrDb < x.cn0 ∧
    ∃ k : Int, 2 * (panDop s x - h.dop - 1000 * k).natAbs * dwell ≤ 1000

/-- The PRNs not yet begun when frequency has become known (R98): they move by the residual Doppler to the narrower span. -/
def narrowed (s : State) (off : Int) (is : List PlanItem) : List PlanItem :=
  if s.acq.freqFound then is
  else is.map (fun j => if j.wins = none then { j with centre := j.centre + off, span := s.parN pAcqDopSpanAid } else j)

/-- How a PRN is queued for the Crystallizer again, at DTC count `d` (R95, R113): about its last Doppler when frequency is
known. -/
def requeue (s : State) (prn : Nat) (dop : Int) (d : Nat) : PlanItem :=
  if epsKnown s || s.acq.freqFound then ⟨prn, dop, s.parN pAcqDopSpanAid, none, none, false, d⟩
  else ⟨prn, 0, s.parN pAcqDopSpan, none, none, false, d⟩


/-! ### Tracking (R100-R116) -/

/-- A pan integrates: started, not suspended, with the fabric at work. -/
def integrates (s : State) (x : Pan) : Bool :=
  !x.starting && !x.susp && s.pwr.coreUp && (s.pwr.state == .run || s.pwr.state == .idle)

/-- Time has reached DTC count `n` in `t`: it never moves back, and does not move while the DTC does not run. -/
def Reaches (s t : State) (n : Nat) : Prop :=
  dtcNow t = if s.time.running = true ∧ dtcNow s ≤ n then n else dtcNow s

/-- Of time, nothing but the count has changed. -/
def sameTime (s t : State) : Bool := { t.time with dtc := s.time.dtc, wraps := s.time.wraps } == s.time

/-- A roaming tap after an integration boundary (R101). -/
def tapAfter (s : State) (mode : Nat) (x : Int) : Int :=
  if s.parN mode ≠ 2 then x
  else if 4 ≤ s.pace.level ∨ s.par pTrkSweepSpan < x + s.par pTrkSweepStep then -s.par pTrkSweepSpan
  else x + s.par pTrkSweepStep

/-- The result words of an integration (R101, R102, R352): XA and XB read 0 while their tap does not run (log entry 73), N is
the noise estimator's with the code of trk.nf_prn. -/
def wordsOut (s : State) (o : IntegObs) : List Word :=
  let tap (mode i : Nat) : Word := if s.parN mode ≠ 0 ∧ s.pace.level < 4 then o.result.getD i 0 else 0
  let n := o.noise.getD (s.parN pTrkNfPrn - 33) (0, 0)
  (List.range 10).map (fun i => o.result.getD i 0) ++
    [tap pTrkXaMode 10, tap pTrkXaMode 11, tap pTrkXbMode 12, tap pTrkXbMode 13, n.1, n.2]

/-- I^2 and Q^2 of words `i` and `i + 1` of a result. -/
def sqI (l : List Word) (i : Nat) : Nat := ((l.getD i 0).toInt * (l.getD i 0).toInt).toNat

/-- A C/N0 of `p2` over `n2` (sums of |P|^2 and |N|^2) over integrations of `coh` ms is at least `db` dB-Hz (R109): it is
10 log10 of (p2 - n2) / (n2 T). -/
def cn0AtLeast (p2 n2 coh db : Nat) : Bool :=
  decide (n2 < p2 ∧ 10 ^ (10 * db) * (n2 * coh) ^ 100 ≤ ((p2 - n2) * 1000) ^ 100)

/-- A PLI of sums `i2` and `q2` of I^2 and Q^2 is at least `t` hundredths (R110); of two zero sums it is a free value. -/
def pliAtLeast (i2 q2 : Nat) (t : Int) : Bool :=
  if i2 + q2 = 0 then decide (t ≤ Config.pliZero) else decide (t * ((i2 + q2 : Nat) : Int) ≤ 100 * ((i2 : Int) - q2))

/-- The window of a lock indicator from `x` to `y`: it begins anew where the integration length has changed (log entry 72). -/
def window (x y : Pan) (w : Nat × Nat × Nat) : Nat × Nat × Nat := if y.coh = x.coh then w else (0, 0, 0)

/-- C/N0 and code_lk after an integration (R109, R110), from `x` to `y`. -/
def CodeRight (s : State) (x y : Pan) : Prop :=
  let w := window x y x.cnWin
  let p2 := w.1 + (sqI y.result 0 + sqI y.result 1)
  let n2 := w.2.1 + (sqI y.result 14 + sqI y.result 15)
  let ms := w.2.2 + y.coh
  (ms < s.parN pTrkCn0Win → y.cnWin = (p2, n2, ms) ∧ y.codeLk = x.codeLk ∧ y.cn0 = x.cn0 ∧
    y.lossMs = x.lossMs.map (· + y.coh)) ∧
  (s.parN pTrkCn0Win ≤ ms → y.cnWin = (0, 0, 0) ∧
    y.codeLk = (x.codeLk || cn0AtLeast p2 n2 y.coh (s.parN pTrkCn0Lock)) ∧
    y.cn0 = (if p2 ≤ n2 then 0 else dbTenths ((p2 - n2) * 1000) (n2 * y.coh)) ∧
    y.lossMs = if cn0AtLeast p2 n2 y.coh (s.parN pTrkCn0Loss) then none
      else some ((x.lossMs.map (· + y.coh)).getD 0))

/-- car_lk and the carrier state after an integration (R107, R110). -/
def CarrierRight (s : State) (x y : Pan) : Prop :=
  let w := window x y x.pliWin
  let i2 := w.1 + sqI y.result 0
  let q2 := w.2.1 + sqI y.result 1
  let ms := w.2.2 + y.coh
  (ms < s.parN pTrkLockWin → y.pliWin = (i2, q2, ms) ∧ y.carLk = x.carLk ∧ y.phase = x.phase ∧ y.pliRun = x.pliRun) ∧
  (s.parN pTrkLockWin ≤ ms → y.pliWin = (0, 0, 0) ∧
    y.pliRun = (if pliAtLeast i2 q2 (s.par pTrkPliThr) then min 2 (x.pliRun + 1) else 0) ∧
    y.carLk = (if pliAtLeast i2 q2 (s.par pTrkPliThr) ∧ 1 ≤ x.pliRun then true
      else if pliAtLeast i2 q2 (s.par pTrkPliThr - 15) then x.carLk else false) ∧
    y.phase = (if x.phase = .pull then .pull else if y.carLk then .lock else .fll))

/-- bit_sync after an integration that begins without it (R104, R105), in `u`, the state that time has reached: from the
predicted bit phase, or from the sign changes counted over trk.bs_win (log entry 72). -/
def BitsRight (u : State) (x y : Pan) (o : IntegObs) : Prop :=
  let known := ephValid u x.prn && u.time.pos.isSome && timeTo u 500000
  let at_ := x.ms % 20
  let l := if x.result ≠ [] ∧ ((x.result.getD 0 0).toInt < 0 ↔ ¬ (y.result.getD 0 0).toInt < 0)
    then x.signs.1.set at_ (x.signs.1.getD at_ 0 + 1) else x.signs.1
  let most (b : Nat) : Prop := b < 20 ∧ (∀ i, i < 20 → l.getD i 0 ≤ l.getD b 0) ∧ 60 * l.sum ≤ 100 * l.getD b 0 ∧ 8 ≤ l.getD b 0
  (known = true → y.bitSync = true ∧ y.bitPos = o.predEdge % 20) ∧
  (known = false → x.signs.2 + x.coh < u.parN pTrkBsWin → y.bitSync = false ∧ y.signs = (l, x.signs.2 + x.coh)) ∧
  (known = false → u.parN pTrkBsWin ≤ x.signs.2 + x.coh →
    (y.bitSync = true ↔ ∃ b, most b) ∧ (y.bitSync = true → most y.bitPos)) ∧
  (y.bitSync = true → y.pendCoh = some (u.parN pTrkCoh))

/-- A pan that started at its predicted state is still in PULL without car_lk at DTC count `d`, when trk.pull_ms has passed
(R114). -/
def pullOver (s : State) (x : Pan) (d : Nat) : Bool :=
  x.direct && x.phase == .pull && !x.carLk && decide (x.since + s.parN pTrkPullMs * 16368 ≤ d)

/-- The machine `s` at the instant of `t`. -/
def atInstant (s t : State) : State := { s with time := { s.time with dtc := t.time.dtc, wraps := t.time.wraps } }

/-- A pan is released, and nothing else of the pans changes but the lead of its PRN (R113, R116). -/
def Released (s t : State) (p : Nat) (x : Pan) : Prop :=
  mget t.pans.act p = none ∧
  ∀ q y, q ≠ p → mget s.pans.act q = some y → mget t.pans.act q = some { y with lead := y.lead || (x.lead && y.prn == x.prn) }

/-- A pan search that begins. -/
def freshSearch : PanSrch := ⟨0, 0, List.replicate 7 0, []⟩

/-- A pan whose code_lk has just cleared at DTC count `d`: it searches, bit and frame sync are lost (R104, R110, R113). -/
def codeLost (x : Pan) (d : Nat) : Pan :=
  { x with codeLk := false, lossMs := none, reacq := some freshSearch, since := max x.since d,
           bitSync := false, frmSync := false, coh := 1, pendCoh := none, preamble := none, parityRun := 0,
           signs := (List.replicate 20 0, 0), lastP := none,
           cnWin := if x.coh = 1 then x.cnWin else (0, 0, 0), pliWin := if x.coh = 1 then x.pliWin else (0, 0, 0) }


/-! ### Samples, SCLK and the Pace Monitor (R48-R75) -/

/-- Path counts after one sample whose magnitude and sign bits are `mag` and `sign` (R67, R81). -/
def counted (s : State) (x : JamPath) (mag sign : Bool) : JamPath :=
  let big : Bool := mag == s.parB pSmpMagBig
  let pos : Bool := sign == s.parB pSmpSignPos
  { x with nM3 := x.nM3 + bit (big && !pos), nM1 := x.nM1 + bit (!big && !pos), nP1 := x.nP1 + bit (!big && pos),
           nP3 := x.nP3 + bit (big && pos) }

/-- The sample path after an SCLK fault (R71). -/
def sclkDown (s : State) : SampSt :=
  { s.samp with sclkOk := false, sclkFlt := true, faulted := true, admitting := false, goodRun := 0 }

/-- The machine that declares an SCLK fault, with room on NTC (R71, R272). -/
def sclkDeclared (s : State) : State :=
  { (s.bumpPar pSmpSclkFltCnt) with samp := sclkDown s, slu := { s.slu with ntc := s.slu.ntc ++ [immWord 4 0] } }

/-- The edge count of a pace period is right (R71). -/
def edgesRight (s : State) (n : Nat) : Bool :=
  let want := if s.par pSmpMode = 1 then 1024 else 512
  decide (want ≤ n + 1 ∧ n ≤ want + 1)

/-- Pans active and not suspended. -/
def panCount (s : State) : Nat := (s.pans.act.filter (fun y => !y.2.susp)).length

/-- A pace parameter as it applies in the present pace period: one written in it applies from the next (R63). -/
def paceVal (s : State) (key : Nat) : Int := (mget s.pace.old key).getD (s.par key)

/-- The same as a natural number. -/
def paceNum (s : State) (key : Nat) : Nat := (paceVal s key).toNat

/-- The exhausted level (R52). -/
def lastLevel (s : State) : Nat := 4 + (s.pace.nAtFive.getD (panCount s) - paceNum s pPwrPanKeep)

/-- The Pace Monitor runs (R63). -/
def pacing (s : State) : Bool := s.time.running && s.pwr.coreUp && (s.pwr.state == .run || s.pwr.state == .idle)

/-- SCLK's period in ticks: 64 in real mode, 128 in complex mode. -/
def sclkPeriod (s : State) : Int := if s.par pSmpMode = 1 then 64 else 128

/-- The level that magnitude and sign bits stand for (R68). -/
def sampleLevel (s : State) (mag sign : Bool) : Int :=
  let x : Int := if mag == s.parB pSmpMagBig then 3 else 1
  if sign == s.parB pSmpSignPos then x else -x

/-- A sample's values on paths A and B ahead of the notches (R68): with smp.spec_inv every second sample is negated in real mode,
those of odd index (log entry 83), and Q in complex mode. `k` is the sample's index, 0 or 1. -/
def sampleValues (s : State) (k : Nat) (d : BitVec 4) : Int × Int :=
  let a := sampleLevel s (d.getLsbD 1) (d.getLsbD 0)
  let b := sampleLevel s (d.getLsbD 3) (d.getLsbD 2)
  let inv := s.parB pSmpSpecInv
  if s.par pSmpMode = 2 then (a, if inv then -b else b) else (if inv ∧ k = 1 then -a else a, 0)

/-- A Brine consumer is active (R75, R89, R103): a pan group with a pan not suspended, or, consumer 4, the Crystallizer in a
dwell epoch. -/
def readsBrine (s : State) (i : Nat) : Bool :=
  if i = 4 then (match s.acq.cell with | some c => c.run.isSome | none => false)
  else s.pans.act.any (fun y => y.1 / 8 == i && !y.2.susp)

/-- The Brine fill, as R48 compares it: the entries that an active consumer has still to read. -/
def fill (s : State) : Nat :=
  min s.samp.fifo.length
    (((List.finRange 5).map (fun i => if readsBrine s i.val then s.samp.unread.get i else 0)).foldl max 0)

/-- The DTC count at which the present pace period ends (R47; log entry 89). -/
def paceEnd (s : State) : Nat := (dtcNow s / 1024 + 1) * 1024

/-- The relapse windows open at DTC count `n` (R58). -/
def windowsOpen (s : State) (n : Nat) : List (Nat × Nat × Bool) :=
  s.pace.restores.filter (fun r => decide (n < r.2.1 + paceNum s pPwrRelapseWin * 16368))

/-- b at DTC count `n`: 0 again once the window of a restore that no relapse has followed is over (R58). -/
def backoffAt (s : State) (n : Nat) : Nat :=
  if s.pace.restores.any (fun r => decide (r.2.1 + paceNum s pPwrRelapseWin * 16368 ≤ n) && r.2.2) then 0 else s.pace.backoff

/-- at_ceil, as R50 and R51 take it. -/
def atCeiling (s : State) : Bool := s.pace.atCeil || paceVal s pPwrPaceEn == 0

/-- R55 applies. -/
def jumps (s : State) : Bool := decide (paceNum s pPwrShedJump ≤ fill s ∧ s.pace.level < lastLevel s)

/-- R51 applies, and R55 does not. -/
def shedDue (s : State) : Bool :=
  !jumps s && atCeiling s && decide (paceNum s pPwrPaceHi ≤ fill s ∧ paceNum s pPwrShedWait ≤ s.pace.hiRun + 1 ∧
    s.pace.level < lastLevel s)

/-- The voltage that a command asks for, clipped (R49, R364). -/
def clipped (s : State) (n : Int) : Int := max (s.par pVregFloor) (min (s.par pVregCeil) n)

/-- The step down of R48 is due. -/
def stepsDown (s : State) : Bool :=
  decide (fill s ≤ paceNum s pPwrPaceLo ∧ fill s < paceNum s pPwrPaceHi ∧ paceNum s pPwrPaceDnHold ≤ s.pace.lowRun + 1)

/-- The voltage target after the pace period (R48-R50). -/
def paceTarget (s : State) : Int :=
  if paceVal s pPwrPaceEn = 0 then s.vreg.target
  else if paceNum s pPwrPaceHi ≤ fill s then clipped s (s.vreg.target + paceVal s pPwrPaceStep)
  else if stepsDown s then clipped s (s.vreg.target - paceVal s pPwrPaceStep)
  else s.vreg.target

/-- The step to level `l` would shed work (R53). -/
def hasWork (s : State) (l : Nat) : Bool :=
  if l ≤ 3 then s.acq.cell.isSome
  else if l = 4 then s.par pTrkXaMode != 0 || s.par pTrkXbMode != 0
  else decide (paceNum s pPwrPanKeep < panCount s)

/-- The period counts towards a restore (R57), by the voltage commanded before it ends; with pwr.pace_en 0 by the fill alone
(R50). -/
def quietPeriod (s : State) : Bool :=
  decide (fill s ≤ paceNum s pPwrPaceLo) && !s.pace.overrun &&
    (paceVal s pPwrPaceEn == 0 || decide ((s.vreg.target : Int) ≤ s.par pVregCeil - paceVal s pPwrUnshedMargin))

/-- A step is restored at the end of this period (R57). -/
def restores (s : State) : Bool :=
  !jumps s && !shedDue s && quietPeriod s && decide (0 < s.pace.level) &&
    decide (paceNum s pPwrUnshedHold * 2 ^ backoffAt s (paceEnd s) ≤ s.pace.quietRun + 1)

/-- A pan that a restore brings back: in PULL, from its propagated state (R54, R57, R112). -/
def broughtBack (s : State) (x : Pan) : Pan :=
  { advancePan s x (paceEnd s) with susp := false, phase := .pull, since := paceEnd s }

/-- Pan `p` is the next to be suspended (R52, R54). -/
def Worst (s : State) (p : Nat) : Prop :=
  ∃ x, mget s.pans.act p = some x ∧ x.susp = false ∧
    ∀ q y, mget s.pans.act q = some y → y.susp = false → x.cn0 < y.cn0 ∨ (x.cn0 = y.cn0 ∧ q ≤ p)


/-! ### Epoch boundaries, notches and JAM (R61, R76-R83) -/

/-- The machine when the DTC has reached count `n`. -/
def atCount (s : State) (n : Nat) : State := { s with time := { s.time with dtc := BitVec.ofNat 52 n, wraps := n / 2 ^ 52 } }

/-- A path's counts and Jraw over `n` samples (R81): 16 n Jraw is the weighted sum, cut to a whole number and at 255. -/
def IsJraw (s : State) (x : JamPath) (n raw : Nat) : Prop :=
  let a : Nat := ((1024 * (x.nM3 + x.nP3) : Nat) - s.par pSmpMagTarget * n : Int).natAbs
  let h : Nat := 1024 * (((x.nP1 : Int) - x.nM1).natAbs + ((x.nP3 : Int) - x.nM3).natAbs)
  let sum := s.parN pSmpJamKa * a + s.parN pSmpJamKh * h
  raw ≤ 255 ∧ raw * (16 * n) ≤ sum ∧ (raw = 255 ∨ sum < (raw + 1) * (16 * n))

/-- The jamming state after JAM (in 1/256) has moved to `j` (R82). -/
def jamNext (s : State) (old j : Nat) : Nat :=
  let above (v : Nat) : Bool := decide (256 * v ≤ j)
  let below (v : Nat) : Bool := decide (j + 256 * s.parN pSmpJamHyst < 256 * v)
  if above (s.parN pSmpJamAlarm) then 2
  else if old = 2 ∧ below (s.parN pSmpJamAlarm) = false then 2
  else if above (s.parN pSmpJamWarn) then 1
  else if 1 ≤ old ∧ (old = 2 ∨ below (s.parN pSmpJamWarn) = false) then 1
  else 0

/-- From `x` to `y` a path has passed an admitted epoch of `n` samples (R81, R82); the step of JAM is rounded away from
zero (log entry 26). -/
def JamMoves (s : State) (x y : JamPath) (n : Nat) : Prop :=
  ∃ raw, IsJraw s x n raw ∧
    (x.jam8 ≤ 256 * raw → x.jam8 ≤ y.jam8 ∧ (256 * raw - x.jam8) ≤ 2 ^ s.parN pSmpJamTc * (y.jam8 - x.jam8) ∧
      2 ^ s.parN pSmpJamTc * (y.jam8 - x.jam8) < (256 * raw - x.jam8) + 2 ^ s.parN pSmpJamTc) ∧
    (256 * raw < x.jam8 → y.jam8 ≤ x.jam8 ∧ (x.jam8 - 256 * raw) ≤ 2 ^ s.parN pSmpJamTc * (x.jam8 - y.jam8) ∧
      2 ^ s.parN pSmpJamTc * (x.jam8 - y.jam8) < (x.jam8 - 256 * raw) + 2 ^ s.parN pSmpJamTc) ∧
    y.state = jamNext s x.state y.jam8 ∧ y.nM3 = 0 ∧ y.nM1 = 0 ∧ y.nP1 = 0 ∧ y.nP3 = 0

/-- What notch `k` measured. -/
def notchMeas (o : EpochObs) (k : Fin 4) : NotchObs := match k with | 0 => o.n0 | 1 => o.n1 | 2 => o.n2 | 3 => o.n3


/-! ### Solutions (R123-R141) -/

/-- Solutions per second of msr.rate (R143). -/
def rateHz (s : State) : Nat := match s.parN pMsrRate with | 0 => 1 | 1 => 2 | 2 => 5 | _ => 10

/-- `n` is the DTC count of the next solution epoch (R123): the first whole multiple of 1 / msr.rate not before now and after
the last one, of GNSS time in GNSS-COARSE and GNSS-FINE, else of DTC time. -/
def NextEpoch (s : State) (n : Nat) : Prop :=
  let lo : Nat := match s.integ.solvedAt with | some l => max (l + 1) (dtcNow s) | none => dtcNow s
  if tqGnss s.time.tq then
    ∃ m, FirstMultiple (ticksPerSec / rateHz s) (gnssAt s (((lo : Int) - 1) * 64) + 1) m ∧ n = countAt s m
  else ∃ k, n = k * (16368000 / rateHz s) ∧ lo ≤ n ∧ (k - 1) * (16368000 / rateHz s) < max 1 lo

/-- The solution's time with its full week (R35): the smallest week from sys.week_min on that agrees modulo 1,024. Iono and
tropo corrections are made as msr.iono and msr.tropo say (R126); stored SCLK phase, tp.fe_delay and notch delays are removed
(R70, R78, R145). -/
def FullTime (s : State) (o : SolObs) (t : Int) : Prop :=
  let notch (k : Fin 4) : Int :=
    if (s.samp.notch.get k).engaged then
      Config.notchDelay (s.parN pSmpMode) (s.samp.notch.get k).freq (s.parN (pSmpN0Bw + k.val)) else 0
  let raw := o.tSol + (if s.parB pMsrIono ∧ s.pans.iono then o.iono else 0) + (if s.parB pMsrTropo then o.tropo else 0) -
    s.samp.phase64 / 64 + s.par pTpFeDelay * ticksPerSec / 1000000000 + (notch 0 + notch 1 + notch 2 + notch 3)
  ∃ k : Int, t = raw + 1024 * k * ticksPerWeek ∧ s.par pSysWeekMin ≤ t / ticksPerWeek ∧
    t / ticksPerWeek < s.par pSysWeekMin + 1024

/-- What was measured for a pan. -/
def seenBy (o : SolObs) (p : Nat) : Option SatObs := o.sats.find? (fun m => m.pan.val == p)

/-- A pan's measurement is usable in a solution at time `t` (R124); only a lead's counts. -/
def isUsable (s : State) (o : SolObs) (t : Int) (p : Nat) (x : Pan) : Bool :=
  x.lead && x.codeLk && !x.susp && !x.starting && !x.gapMeas &&
    (match ephHeld s x.prn t with | some e => e.healthy | none => false) && decide (10 * s.parN pMsrCn0Mask ≤ x.cn0) &&
    (s.time.pos.isNone || (match (seenBy o p).bind (·.elev) with
      | some e => decide (s.parN pMsrElevMask ≤ e)
      | none => false))

/-- The pans used: with B3 missing the lowest 8 (R124, R480). -/
def usedPans (s : State) (o : SolObs) (t : Int) : List Nat :=
  let l := (s.pans.act.filter (fun y => isUsable s o t y.1 y.2)).map (·.1)
  if bankOut s 3 then l.take 8 else l

/-- The usable count. -/
def nUsable (s : State) (o : SolObs) (t : Int) : Nat := (usedPans s o t).length

/-- The solution mode of `n` usable measurements (R125). -/
def modeOf (s : State) (n : Nat) : Nat :=
  let held : Bool := match s.time.pos with | some p => decide (p.hSigma ≤ 10 * s.parN pMsrPosUncMax) | none => false
  let tOnly := if held then 1 else 0
  if n = 0 then 0
  else if s.parN pMsrMode = 0 then
    (if s.time.surveyHeld = true ∧ s.time.pos.isSome = true then 1 else if 4 ≤ n then 2 else tOnly)
  else if s.parN pMsrMode = 1 then (if 4 ≤ n then 2 else 0)
  else tOnly

/-- The mode of this solution. -/
def itsMode (s : State) (o : SolObs) (t : Int) : Nat := modeOf s (nUsable s o t)

/-- The RMS of a list exceeds a limit. -/
def rmsBeyond (l : List Int) (lim : Nat) : Bool := decide (lim * lim * l.length < (l.map (fun x => (x * x).toNat)).sum)

/-- Doubled mode and count conditions of R129 and R130. -/
def enough (m n pvt tim : Nat) : Bool := decide ((m = 2 ∧ pvt ≤ n) ∨ (m = 1 ∧ tim ≤ n))

/-- The residual check's first test fails (R129). -/
def resHits (s : State) (o : SolObs) (t : Int) : Bool :=
  enough (itsMode s o t) (nUsable s o t) 5 2 &&
    rmsBeyond (((usedPans s o t).filterMap (seenBy o)).map (·.resid)) (10 * s.parN pIntResThr)

/-- The measurement with the largest normalised residual is excluded and the repeated test passes (R130). -/
def excludes (s : State) (o : SolObs) (t : Int) : Bool :=
  let l := usedPans s o t
  resHits s o t && s.parB pIntExclEn && enough (itsMode s o t) (nUsable s o t) 6 3 &&
    !rmsBeyond (((l.filter (· != worstOf s o l)).filterMap (seenBy o)).map (·.residX)) (10 * s.parN pIntResThr)

/-- The residual check fails. -/
def resFails (s : State) (o : SolObs) (t : Int) : Bool := resHits s o t && !excludes s o t

/-- C/N0 is too uniform (R129): its standard deviation is below int.cn0u_sd and its mean above int.cn0u_hi. -/
def isFlat (s : State) (o : SolObs) (t : Int) : Bool :=
  let n := nUsable s o t
  let c := (usedPans s o t).filterMap (fun p => (mget s.pans.act p).map (·.cn0))
  decide (s.parN pIntCn0uMin ≤ n ∧ 10 * s.parN pIntCn0uHi * n < c.sum ∧
    n * (c.map (fun x => x * x)).sum - c.sum * c.sum < n * n * (s.parN pIntCn0uSd * s.parN pIntCn0uSd))

/-- The Doppler check is available, and fails (R129). -/
def dopTested (s : State) (o : SolObs) (t : Int) : Bool :=
  (s.time.pos.isSome || itsMode s o t == 2) && decide (2 ≤ nUsable s o t)
def dopFails (s : State) (o : SolObs) (t : Int) : Bool :=
  dopTested s o t &&
    rmsBeyond (((usedPans s o t).filterMap (seenBy o)).map (fun m => m.doppler - m.predicted)) (4 * s.parN pIntDopThr)

/-- A twin pair has been apart in int.twin_n consecutive solutions, this one included (R129), its lead unchanged (R141). -/
def twinFails (s : State) (o : SolObs) : Bool :=
  (twinPairs s).any (fun y => decide (s.parN pIntTwinN ≤ twinRun s o y) && !s.integ.leadChg.contains y.1)

/-- The clock check fails against an anchor, for a solution at time `t` (R132). -/
def clockFails (s : State) (o : SolObs) (r : RefAnchor) (t : Int) : Bool :=
  let d := t - (r.t + ((dtcNow s : Int) - r.d) * 64 * (1000000000000 + r.eps) / 1000000000000)
  let a := dtcNow s - r.d.toNat
  let f := 16368000
  let u := r.u + ceilDiv (2 * 1000 * f * 10 * max r.sigF (s.parN pSysTcxoFloor) * a + 1000 * a * a * s.parN pSysTcxoDrift)
    (2 * 1000 * f * f * 1000)
  decide ((max (s.parN pIntClkK * u) (s.parN pIntClkMin) : Nat) * ticksPerSec < (d.natAbs : Int) * 1000000000) ||
    decide (s.parN pIntFreqPpb * 1000 < (o.eps - r.eps).natAbs)

/-- The clock check is available, and fails. -/
def clkTested (s : State) (o : SolObs) (t : Int) : Bool := itsMode s o t != 0 && s.integ.ref.isSome
def clkFails (s : State) (o : SolObs) (t : Int) : Bool :=
  itsMode s o t != 0 && (match s.integ.ref with | some r => clockFails s o r t | none => false)

/-- Every check passes. -/
def everyPass (s : State) (o : SolObs) (t : Int) : Bool :=
  !resFails s o t && !isFlat s o t && !dopFails s o t && !twinFails s o && !clkFails s o t

/-- A path is in the alarm state, or was since the last solution (R133). -/
def jamAlarms (s : State) : Bool := s.integ.jamAlarm || s.samp.jamA.state == 2 || s.samp.jamB.state == 2

/-- The cause that sets SPOOF_SUSPECT at this solution, 0 for none (R133). -/
def setsSpoof (s : State) (o : SolObs) (t : Int) : Nat :=
  if clkFails s o t ∧ s.parN pIntSpClkN ≤ s.integ.clkRun + 1 then 1
  else if isFlat s o t ∧ (resFails s o t ∨ dopFails s o t) then 2
  else if twinFails s o then 3
  else if clkFails s o t ∧ jamAlarms s then 4
  else 0

/-- The time over which solutions have passed without a break, this one included, in 0.1 s (R134). -/
def passedFor (s : State) : Nat := match s.integ.passT with | some a => a + 10 / rateHz s | none => 0

/-- SPOOF_SUSPECT ends with this solution (R134). -/
def clearsSpoof (s : State) (o : SolObs) (t : Int) : Bool :=
  s.integ.spoof && everyPass s o t && itsMode s o t != 0 && decide (10 * s.parN pIntSpClearS ≤ passedFor s)

/-- SPOOF_SUSPECT after this solution. -/
def spoofAfter (s : State) (o : SolObs) (t : Int) : Bool :=
  if s.integ.spoof then !clearsSpoof s o t else setsSpoof s o t != 0

/-- The solution is accepted (R127). -/
def isAccepted (s : State) (o : SolObs) (t : Int) : Bool :=
  itsMode s o t != 0 && !resFails s o t && !clkFails s o t && !spoofAfter s o t

/-- SVC forms solutions. -/
def solving (s : State) : Bool :=
  s.time.running && s.pwr.coreUp && coreRuns s .svc && (s.pwr.state == .run || s.pwr.state == .idle)

/-- A correction of `d` ticks exceeds sys.step_thr. -/
def isBig (s : State) (d : Int) : Bool := decide ((s.parN pSysStepThr : Int) * ticksPerSec < (d.natAbs : Int) * 1000000000)

/-- The uncertainty `u` ns allows GNSS-COARSE (R23). -/
def coarseOk (s : State) (u : Nat) : Bool := decide (u ≤ 1000 * s.parN pSysCoarseMax)

/-- The time quality after an accepted solution of uncertainty `u` (R21, R23), with a step pending or not. -/
def tqAfter (s : State) (u : Nat) (big : Bool) : TimeQ :=
  match s.time.tq with
  | .gnssFine => if s.parN pSysFineExit < u ∨ big then .gnssCoarse else .gnssFine
  | .gnssCoarse =>
    if u ≤ s.parN pSysFineEnter ∧ s.time.fineSince.getD (dtcNow s) + s.parN pSysFineHold * 16368000 ≤ dtcNow s ∧ big = false
    then .gnssFine else .gnssCoarse
  | q => if coarseOk s u then .gnssCoarse else q

/-- The MSR ring is placed, takes records and has room. -/
def msrOpen (s : State) : Bool :=
  !s.slu.msrSusp && hostBank s (s.parN pNtcMsrBank) &&
    decide ((s.parN pNtcMsrWr + 128 - s.parN pNtcMsrRd) % 128 < 64 ∧ s.parN pNtcMsrWr < 128)

/-- Word `i` of the MSR record that `s` would write next, as `t` holds it. -/
def msrWord (s t : State) (i : Nat) : Nat := (bankWord t (s.parN pNtcMsrBank) (256 * (s.parN pNtcMsrWr % 64) + i)).toNat


/-! ### Supplies (R364-R378) -/

/-- The Runtime can post at once (R378, R434): CORE is up, SVC has started, the device is in RUN or IDLE. -/
def tells (s : State) : Bool :=
  s.pwr.coreUp && s.pwr.coresUp && !s.svc.held && (s.pwr.state == .run || s.pwr.state == .idle)

/-- A SUPPLY event is posted, or kept with its latest data (R378). -/
def supplyTold (s : State) (e d : Nat) : State :=
  if tells s then { s with slu := { s.slu with ntc := s.slu.ntc ++ [immWord 13 (e + 16 * d)] } }
  else { s with pwr := { s.pwr with supplyHeld := mput s.pwr.supplyHeld e d } }

/-- ANTOUT is wanted (R372). -/
def wantsAnt (s : State) : Bool :=
  s.pwr.aonUp && (if s.parN pAntMode = 0 then false else if s.parN pAntMode = 1 then s.samp.feEn else true)

/-- The current reading, ilim from the running limit of 70 mA on (R237, R375), and the over-current notice armed again below
ant.ima_hi - 5 mA (R376). -/
def antReads (s : State) (x : AntSt) (ma : Nat) : AntSt :=
  { x with ima := min 255 ma, ilim := x.ilim || decide (70 ≤ ma), hiNoted := x.hiNoted && decide (s.parN pAntImaHi ≤ ma + 5) }

/-- ANT_SHORT is declared (R374): from `s`, whose supply is `x`, to `t`. -/
def Shorted (s t : State) (x : AntSt) : Prop :=
  let u : State := s.bumpPar pAntShortCnt
  let off (n : Nat) : AntSt := { x with short := true, state := n, ima := 0, hiNoted := false }
  (x.tries < s.parN pAntRetries → t = supplyTold { u with ant := off 3 } 2 x.tries) ∧
  (s.parN pAntRetries ≤ x.tries → t.ant = off 4 ∧ t.params = u.params ∧ t.pwr.unitFlt.getLsbD 7 = true ∧
    (∀ j, j ≠ 7 → t.pwr.unitFlt.getLsbD j = s.pwr.unitFlt.getLsbD j) ∧ t.pwr.level = levelNow t ∧
    (tells s = true → immWord 13 (3 + 16 * x.tries) ∈ t.slu.ntc) ∧ onlyIn [.ant, .params, .pwr, .slu] s t = true)

/-- vreg.set, clipped to floor and ceiling (R364, R368). -/
def softTarget (s : State) : Nat := (max (s.par pVregFloor) (min (s.par pVregCeil) (s.par pVregSet))).toNat

/-- The regulator after a failure (R369). -/
def railOff (x : VregSt) : VregSt :=
  { x with softst := false, short := true, failed := true, out := 0, slewing := false, late := none
           failsSince := if x.failsSince < 255 then x.failsSince + 1 else 255 }

/-- CORE goes down (R228, R231, R273, R394, R471): its state is lost; AON, BAK, program RAM, most parameters and the queue of
CMD are kept; HB_IRQ.core is set in both host copies if CORE was up. -/
def CoreGone (s t : State) : Prop :=
  t.pwr.coreUp = false ∧ t.pwr.coresUp = false ∧ t.pwr.attempt = false ∧ t.time.running = false ∧ t.slu.chans = [] ∧
  t.slu.ntc = [] ∧ t.slu.cmd = s.mir.heldOps ++ s.slu.cmd ∧ t.evs.slots = [] ∧ t.samp = .reset ∧ t.acq.searching = false ∧
  t.mir.role = 0 ∧ t.mir.linkRun = false ∧ t.trk.held = true ∧ t.svc.held = true ∧ t.trk.bp = s.trk.bp ∧ t.svc.bp = s.svc.bp ∧
  t.pin.refout = false ∧ t.rtc = s.rtc ∧ t.gau = s.gau ∧ t.ant = s.ant ∧ t.cp.pram = s.cp.pram ∧ t.dbg.nvm = s.dbg.nvm ∧
  t.pwr.bnkOut = s.pwr.bnkOut ∧ t.pending = s.pending ∧
  (s.pwr.coreUp = true → t.ns.irqCore = true ∧ t.sec.irqCore = true) ∧
  (∀ c, (txnOf s c).isOpen = true → (txnOf t c).isOpen = false) ∧
  ((∀ c, (txnOf s c).pend = false) → ∀ key, key ∉ [pNtcMsrWr, pNtcMsrRd, pNtcEvtWr, pNtcEvtRd, pMirStat,
    pIntStat, pVregShortCnt, pPwrEnterCnt, pPwrDelayUs, pPwrWakeSeen] → t.par key = s.par key)


/-! ### Power states (R384-R401) -/

/-- Code of a power state in PWR_MODE and PWR_STAT (R237). -/
def stateOf (n : Nat) : PwrState := if n = 2 then .sleep else if n = 3 then .deep else .off

/-- A core has replied to the attempt: it is parked at WAIT with a request of 2-4 (R386). -/
def hasReplied (x : Core) : Bool := x.waiting && decide (2 ≤ x.req)

/-- An entry attempt towards state `v` begins for core `k`, which is not parked (R385, R386). -/
def attemptBegun (s : State) (k : CoreId) (v : Nat) : State :=
  let t := s.modCore k (fun x => { x with req := v })
  { t with trk := { t.trk with ipPower := !hasReplied t.trk }, svc := { t.svc with ipPower := !hasReplied t.svc },
           pwr := { s.pwr with
             attempt := true
             asked := false
             tried := v
             outcome := 0
             att := ⟨s.parN pPwrCoreLim, s.parN pPwrSlotGuard, s.parN pPwrOffEn, s.parN pPwrRetain, s.parN pPwrSleepVcore,
               s.parN pPwrMlPatN⟩
             attAt := dtcNow s } }

/-- A core released from WAIT as an attempt ends: execution continues after WAIT without vectoring (R390). -/
def letGo (x : Core) : Core := { x with waiting := false, req := 0, ipPower := false }

/-- The attempt ends with an outcome: both cores are released, IDLE ends, a WCS already stopped restarts as after a re-align,
and the POWER notice carries the state attempted, the outcome and a code (R390, R391). -/
def attemptEnded (s : State) (outcome code : Nat) : State :=
  { s with trk := letGo s.trk, svc := letGo s.svc,
           pwr := { s.pwr with attempt := false, asked := false, outcome := outcome, state := .run },
           wcs := if s.wcs.sleepStop then { s.wcs with sleepStop := false, stopped := true, state := .slew } else s.wcs,
           slu := { s.slu with ntc := s.slu.ntc ++ [immWord 12 (s.pwr.tried + 8 * outcome + 32 * code)] } }

/-- The attempt is refused by block `blk`; `m` is the map of every block that refused (R387, R390). -/
def attemptRefused (s : State) (blk m : Nat) : State :=
  attemptEnded { ((s.bumpPar pPwrRefuseCnt).setPar pPwrRefuseBlk m) with pwr := { s.pwr with block := blk } } 2 blk

/-- Wake source `code` is enabled and ends state `st` (the table of R396). -/
def ends (s : State) (code : Nat) (st : PwrState) : Bool :=
  let en := s.parBit pPwrWakeEn code
  match st with
  | .sleep => if code ∈ [1, 9, 10] then true else en
  | .deep => if code ∈ [1, 9, 10] then true else if code ∈ [3, 4, 5, 6, 8] then en else false
  | .off => decide (code ∈ [4, 5, 6])
  | _ => false

/-- Wake source `code` arrives, outside OFF (R390, R396): it abandons an attempt towards a state that it ends, is held in a
state that it ends, and does nothing otherwise. -/
def wokenBy (s : State) (code : Nat) : State :=
  if s.pwr.attempt then
    if ends s code (stateOf s.pwr.tried) then
      attemptEnded { ((s.bumpPar pPwrAbandonCnt).setParBit pPwrWakeSeen code true) with pwr := { s.pwr with wake := code } } 3 code
    else s
  else if ends s code s.pwr.state then
    { (s.setParBit pPwrWakeSeen code true) with
      pwr := { s.pwr with heldWakes := if code ∈ s.pwr.heldWakes then s.pwr.heldWakes else s.pwr.heldWakes ++ [code] } }
  else s

/-- Whether block `b` refuses state `st` (R388): Sluice, the coprocessor block, the Event Scheduler, the Mirror engine, the
power controller. -/
def refusesEntry (s : State) (st b : Nat) : Bool :=
  match b with
  | 3 => decide (3 ≤ st) && !(s.slu.cmd.isEmpty && s.mir.heldOps.isEmpty)
  | 4 => [CoreId.trk, .svc].any (fun k => [(0 : Fin 4), 1, 2, 3].any (fun i => (tagOf s k i).busy))
  | 5 =>
    if st = 2 then s.evs.slots.any (fun y =>
      decide (y.2.late.getD (y.2.com.getD y.2.img).target ≤ gnssNow s + usTicks (s.pwr.att.guard * 1000)))
    else !s.evs.slots.isEmpty && !s.parB pEvsDeepCancel
  | 11 => if st = 2 then s.mir.role == 1 else s.mir.role != 0
  | 15 => decide (st = 4) && s.pwr.att.offEn == 0
  | _ => false

/-- Every block is asked about `s.pwr.tried` (R387): the lowest code that refuses is named, with the map of all. -/
def blocksAsked (s : State) : State :=
  let l := [3, 4, 5, 11, 15].filter (refusesEntry s s.pwr.tried)
  match l with
  | b :: _ => attemptRefused s b ((l.map (fun b => 2 ^ b)).sum)
  | [] => { s with pwr := { s.pwr with asked := true, askedAt := dtcNow s, state := .idle } }

/-- The DTC counts at which the blocks with a stated instant accept an entry that nothing else delays (R388), by block code: the
fabric at the 1 ms epoch boundary, running WCS outputs at lattice point `n`, the edge placer as its pulses end, the
regulator as its slew ends. -/
def acceptsAt (s : State) (n : Int) : List (Nat × Nat) :=
  let count (tick : Int) : Nat := (-((-tick) / 64)).toNat
  let outs := decide (3 ≤ s.pwr.tried) || !s.parB pWcsSleepRun
  let tps := if outs then s.tp.endsAt.toList.map (tpEdge s) else []
  let evs := if 3 ≤ s.pwr.tried then s.evs.ev.toList.zipIdx.flatMap (fun p => p.1.ends.map (evEdge s p.2)) else []
  [(8, (dtcNow s + 16367) / 16368 * 16368)] ++
  (if outs && s.wcs.running then [(9, count (latticePlace s n s.wcs.phi))] else []) ++ (tps ++ evs).map (fun e => (10, count e)) ++
  (if slewing s then [(12, s.vreg.slewAt + ceilDiv ((s.vreg.target * 16368 : Nat) - (s.vreg.out : Int)).natAbs 2000)] else [])

/-- Block `b` delayed longest, by `d` us of its having been asked (R390): the lowest code of equal ones; where none of these waits,
the banks that drain, for the `us` that was measured. -/
def Longest (s : State) (l : List (Nat × Nat)) (us b d : Nat) : Prop :=
  ((∀ x, x ∈ l → x.2 ≤ dtcNow s) ∧ (b, d) = if s.bank.drain ≠ 0 then (7, us) else (0, 0)) ∨
  ∃ n, (b, n) ∈ l ∧ dtcNow s < n ∧ (∀ x, x ∈ l → x.2 < n ∨ (x.2 = n ∧ b ≤ x.1)) ∧ d = (n - s.pwr.askedAt) * 1000 / 16368

/-- The device is in IDLE exactly while both cores are parked and no deeper state holds (R384). -/
def idleTrue (s : State) : Bool :=
  s.pwr.state == (if s.trk.waiting && s.svc.waiting then .idle else .run)

/-- No epoch commit and no step waits for the epoch boundary. -/
def noCommits (s : State) : Bool := allCls.all (fun c => !(txnOf s c).pend) && s.time.stepPend.isNone


/-! ### Start-up and losses (R467-R484) -/

/-- AON has started (R467): BAK, the calibration memory and the fuses are kept, everything else has its reset value, and the
soft start begins unless RST_N is low. -/
def AonStarted (s t : State) (cause : Nat) : Prop :=
  allParts.all (fun p => ([Part.rtc, .dbg, .pwr, .vreg, .params] : List Part).contains p || agree State.reset t p) = true ∧
  t.pending = s.pending ∧ t.rtc = s.rtc ∧ t.dbg.nvm = s.dbg.nvm ∧ t.dbg.cycles = s.dbg.cycles ∧ t.dbg.session = false ∧
  t.dbg.calValid = blockPasses s ∧ t.pwr.calFail = !(blockPasses s) ∧ t.dbg.calErr = false ∧
  t.pwr.fuseBnk = s.pwr.fuseBnk ∧ t.pwr.fuseUnit = s.pwr.fuseUnit ∧ t.pwr.bnkOut = s.pwr.fuseBnk ∧
  t.pwr.unitOut = s.pwr.fuseUnit ∧ t.pwr.unitFlt = 0 ∧ t.pwr.rstLow = s.pwr.rstLow ∧ t.pwr.aonUp = true ∧
  t.pwr.coreUp = false ∧ t.pwr.coresUp = false ∧ t.pwr.bootCause = cause ∧ t.pwr.state = .run ∧
  t.vreg = { VregSt.reset with softst := !s.pwr.rstLow } ∧
  t.par pPwrOffEn = 1 ∧ t.par pSysBoot = State.reset.par pSysBoot ∧ t.par pVregSet = State.reset.par pVregSet

/-- A core enters vector 0 (R301, R319): run level 7 with IE 0, an empty return stack, segments at reset; its breakpoints, what
R483 remembers and its working registers stay. -/
def AtVectorZero (x y : Core) : Prop :=
  y.pc = 0 ∧ y.level = 7 ∧ y.ie = false ∧ y.rsTop = 0 ∧ y.rsCount = 0 ∧ y.base = 0 ∧ y.held = false ∧ y.waiting = false ∧
  y.ieBits = 0 ∧ y.req = 0 ∧ flBits y = 0 ∧ y.sg = Vector.replicate 4 .reset ∧ y.w = x.w ∧ y.rs = x.rs ∧ y.bp = x.bp ∧
  y.halted = x.halted ∧ y.stopped = x.stopped

/-- The use of the RTC calendar (R414, R475). -/
def calendarUse (s : State) (presc : Bool) : Nat :=
  if s.rtc.halt || !presc then 0 else if s.rtc.r34 && !s.rtc.stamp.getLsbD 7 then 2 else 1

/-- The data of the BOOT notice for causes 0-4 (R475). -/
def bootData (s : State) (presc held : Bool) : Nat :=
  s.pwr.bootCause + 256 * bit s.pwr.calFail + 512 * calendarUse s presc + 2048 * bit held

/-- CORE is down after a loss: DTC and time quality at reset (R228), the losses of CORE, level 0 with its change noted, no sleep state, and a cause to report. -/
def LostCore (s t : State) (cause : Nat) : Prop :=
  CoreGone s t ∧ t.time = .reset ∧ t.pwr.level = 0 ∧ (s.pwr.chg = true ∨ s.pwr.level ≠ 0 → t.pwr.chg = true) ∧ t.pwr.state = .run ∧
  t.pwr.heldWakes = [] ∧ t.pwr.wakeDeep = false ∧ t.pwr.bootCause = cause


/-! ### Battery gauge (R420-R437) -/

/-- The gauge takes samples: AON is up, gau.en is 1, it is not mapped out and has no fault (R436). -/
def gauges (s : State) : Bool := s.pwr.aonUp && s.parB pGauEn && !s.pwr.unitOut.getLsbD 6 && !s.gau.fault

/-- The current of a sample in uA, clipped to 10 A either way (R421). -/
def gauI (ua : Int) : Int := max (-10000000) (min 10000000 ua)

/-- `r` is a reading `x` under its gain trim, 1 + n * 2^-16, and its offset trim (R422, R439): the spec gives neither their order
nor the rounding (log entries 67, 101). -/
def Trimmed (x n off r : Int) : Prop :=
  |r * 65536 - (x + off) * (65536 + n)| < 65536 ∨ |(r - off) * 65536 - x * (65536 + n)| < 65536

/-- The pack voltage that a sample reports, and the cell voltage (R420). -/
def gauPack (s : State) (mv : Nat) : Nat := min 65535 (mv * s.parN pGauDiv / 1000)
def gauCell (s : State) (mv : Nat) : Nat := gauPack s mv / (s.parN pGauCells + 1)

/-- What one sample stands for, in us (R423). -/
def gauSpan (s : State) : Nat := if s.parBit pGauStat 0 then 4000000 else 250000

/-- A charge in uA*us, within 0 and gau.cap_mah. -/
def gauCharge (s : State) (q : Int) : Int := max 0 (min (s.par pGauCapMah * 3600000000000) q)

/-- The target of Displayed SOC for a raw SOC (R431). -/
def dispTarget (s : State) (raw : Nat) : Nat :=
  if raw ≤ s.parN pGauSocSd then 0 else (raw - s.parN pGauSocSd) * 10000 / (10000 - s.parN pGauSocSd)

/-- Displayed SOC after `us` at current `i`: towards the target by gau.disp_rate of the time, up only while the pack is not
discharged, down only while it is not charged (R431). -/
def dispMoved (s : State) (target : Nat) (i : Int) (us : Nat) : Nat :=
  let n := (s.gau.frac + s.parN pGauDispRate * us) / 6000000
  if s.gau.disp < target ∧ 0 ≤ i then min target (s.gau.disp + n)
  else if target < s.gau.disp ∧ i ≤ 0 then max target (s.gau.disp - n)
  else s.gau.disp

/-- Event `k` of R433 is met, and is armed again, by a sample after which Displayed SOC is `disp`. -/
def gauRaised (s : State) (disp cell : Nat) (i : Int) (k : Nat) : Bool :=
  match k with
  | 0 => s.parN pGauSocLo != 0 && decide (disp < s.parN pGauSocLo)
  | 1 => s.parN pGauVLo != 0 && decide (cell < s.parN pGauVLo ∧ s.parN pGauSdN ≤ s.gau.vloRun + 1)
  | 2 => s.par pGauIHi != 0 && decide (s.par pGauIHi * 1000 < (i.natAbs : Int))
  | _ => false
def gauRearmed (s : State) (disp cell : Nat) (i : Int) (k : Nat) : Bool :=
  match k with
  | 0 => decide (s.parN pGauSocLo + 100 ≤ disp)
  | 1 => decide (s.parN pGauVLo + 50 ≤ cell)
  | 2 => decide ((i.natAbs : Int) ≤ s.par pGauIHi * 1000 - 10000)
  | _ => false

/-- A GAUGE event's notice is posted, or kept with its latest data (R434). -/
def gaugeTold (s : State) (e d : Nat) : State :=
  if tells s then { s with slu := { s.slu with ntc := s.slu.ntc ++ [immWord 14 (e + 16 * d)] } }
  else { s with pwr := { s.pwr with gaugeHeld := mput s.pwr.gaugeHeld e d } }

/-- The mean current of the history of the last 60 s, in uA, if it discharges; else 0 (R430). -/
def meanDrain (s : State) : Int :=
  let us : Int := (s.gau.iHist.map (fun x => (x.2 : Int))).sum
  if us = 0 then 0 else min 0 ((s.gau.iHist.map (fun x => x.1 * (x.2 : Int))).sum / us)

/-- The charge is set: Raw SOC and gau.q_rem follow it (R427). -/
def chargeSet (s : State) (q : Int) : State :=
  { (s.setPar pGauQRem (gauCharge s q / 360000000000)) with
    gau := { s.gau with q := gauCharge s q, raw := (gauCharge s q / (s.par pGauCapMah * 360000000)).toNat } }


/-! ### The mirrored pair (R440-R466) -/

/-- The link works: it runs, CORE is up, and the device is in RUN or IDLE (R442, R465). -/
def linked (s : State) : Bool := s.mir.linkRun && s.pwr.coreUp && (s.pwr.state == .run || s.pwr.state == .idle)

/-- A frame is valid (R445): its CRC is right, its type known, its length at most 32. -/
def frameValid (f : Frame) : Bool := f.crcOk && decide (f.type.toNat < 7 ∧ f.payload.length ≤ 32)

/-- The frame rows and their types (R446). -/
def frameRows (lost : List (BitVec 14)) : List ((Frame → Instr) × Nat) :=
  [(.idleFrame, 0), (.stateFrame, 1), (fun f => .wordsFrame f lost, 2), (.slotFrame, 3), (.takeFrame, 4), (.ackFrame, 5),
   (.resendFrame, 6)]

/-- A frame of the type, on a link that has been up for a while. -/
def arrives (s : State) (f : Frame) (type : Nat) : Bool :=
  linked s && s.mir.linkOk && s.mir.goodRun == 16 && frameValid f && f.type.toNat == type

/-- A MIRROR notice is posted (R464). -/
def mirrorTold (s : State) (e d : Nat) : State := { s with slu := { s.slu with ntc := s.slu.ntc ++ [immWord 15 (e + 16 * d)] } }

/-- A frame waits to be sent. -/
def queued (s : State) (type : BitVec 4) (ws : List Word) : State :=
  { s with mir := { s.mir with out := s.mir.out ++ [⟨type, 0, ws, true⟩] } }

/-- The ACK of a frame (R446). -/
def acked (s : State) (f : Frame) : State := queued s 5 [BitVec.ofNat 16 f.seq.toNat]

/-- Word `i` of a frame's payload, as a number. -/
def fw (f : Frame) (i : Nat) : Nat := (f.payload.getD i 0).toNat

/-- What an IDLE frame says of the partner (R446). -/
def partnerOf (f : Frame) : Partner :=
  ⟨fw f 0 % 4, fw f 0 / 4 % 8, (fw f 0).testBit 5, (fw f 0).testBit 6, BitVec.ofNat 16 (fw f 1), BitVec.ofNat 16 (fw f 2)⟩

/-- The partner's state is kept, with its time quality in mir.stat (R466). -/
def partnerSeen (s : State) (f : Frame) : State :=
  { (s.setPar pMirStat ((s.parN pMirStat % 8 + 8 * (fw f 0 / 4 % 8) : Nat) : Int)) with
    mir := { s.mir with partner := some (partnerOf f) } }

/-- A time that a TSB carries, in ticks (R37). -/
def tsbTicks (f : Frame) : Int :=
  ((fw f 0 * 604800 + fw f 1 + fw f 2 % 16 * 65536 : Nat) : Int) * 1047552000 + ((fw f 3 + fw f 4 % 16384 * 65536 : Nat) : Int)

/-- The PCU is healthy for takeover (R454). -/
def healthy (s : State) : Bool := s.mir.pcu == 1 && s.parBit pMirStat 0 && s.parBit pMirStat 1

/-- The standby has become primary (R457, R459) for trigger `trig`. -/
def NowPrimary (s t : State) (trig : Nat) : Prop :=
  t.mir.role = 1 ∧ t.mir.takeover = true ∧ t.mir.hiZ = false ∧ t.mir.take = none ∧ t.mir.pcuOn = false ∧ t.mir.pcu = 0 ∧
  t.par pMirTakeCnt = (s.bumpPar pMirTakeCnt).par pMirTakeCnt ∧ t.mir.slewOut = (s.par pMirDelta != 0) ∧
  t.parBit pMirStat 0 = false ∧ t.parBit pMirStat 1 = false ∧
  immWord 15 (3 + 16 * (trig + 16 * bit (!healthy s))) ∈ t.slu.ntc

/-- Pulse `k` is the one nearest to the DTC tick `capture` (R147, R452): its time lies within half a pulse period of it. -/
def NearestPulse (s : State) (capture k : Int) : Prop :=
  let p := ticksPerSec / tpHz s.tp.rate
  let x := tpTime s (gnssAt s capture) - nsTicks s.tp.userOff
  |2 * (k * p - x)| ≤ p

/-- The offset e of a comparison, in 0.1 ns, at the nearest step (R452), with the trim of the capture's path (R498). -/
def offsetNear (s : State) (edge capture e : Int) : Prop :=
  let d : Int := (edge - capture) * 1000000000000 + trimPs s 14 * 1047552000
  let n : Int := e - s.mir.outA.value.toNat - s.mir.cmpA.value.toNat
  |2 * (n * 104755200000 - d)| ≤ 104755200000

end Sys2Proof.Spec

section

open Sys2Proof Sys2Proof.Machine Sys2Proof.Spec

/-- O1. For MOV, ADD, ADC, SUB, SBC, AND, OR, XOR, CMP and TST on either core, with every pair of registers: when the
core executes and the condition holds, the command completes; d takes the table's result (CMP and TST write no
register), Z, C, N and V follow it where the table names them, PC passes one word, and nothing else of the machine
changes. DADD d,s, DSUB d,s and DADDI d,#imm (zero-extended) complete with the result and carry of R334's loops over
the four digits, Z from the result, N and V unchanged, and nothing else changed but PC. When every digit of both
operands is 0-9, the result's digits are 0-9 and it is the decimal sum or difference, C being the decimal carry or
borrow. (spec rules R333, R334) -/
def Obligations.TwoRegisterInstructions : Prop :=
  (∀ row ∈ twoRows, ∀ (s : State) (k : CoreId) (c : Cond) (d q : Reg), runs s k c = true →
    exec (row.1 k c d q) s = .next (after s k 1 (row.2.run d (w s k q)))) ∧
  ((∀ (s : State) (k : CoreId) (c : Cond) (d q : Reg) (imm : BitVec 14), runs s k c = true →
    exec (.dadd k c d q) s = .next (after s k 1 (rowDadd.run d (w s k q))) ∧
    exec (.dsub k c d q) s = .next (after s k 1 (rowDsub.run d (w s k q))) ∧
    exec (.daddi k c d imm) s = .next (after s k 2 (rowDadd.run d (BitVec.ofNat 16 imm.toNat)))) ∧
  (∀ (a b : Word) (k : Bool), isBcd a = true → isBcd b = true →
    isBcd (rowDadd.val k a b) = true ∧ isBcd (rowDsub.val k a b) = true ∧
    bcdNum (rowDadd.val k a b) + 10000 * bit (decSum a b k 4).2 = bcdNum a + bcdNum b + bit k ∧
    (bcdNum (rowDsub.val k a b) : Int) = bcdNum a - bcdNum b - bit k + 10000 * bit (decDif a b k 4).2))

/-- O2. LDI d,#imm16 puts bits 15:14 from field h and bits 13:0 from word 2 in d and changes no flag. ADDI, SUBI,
ANDI, ORI, XORI, CMPI and TSTI work as the table says on d and word 2 sign-extended from bit 13 (CMPI and TSTI write
no register), and DADDI works by R334 on d and word 2 zero-extended. Each completes when the core executes and its
condition holds; PC passes two words and nothing else changes. (spec rules R335) -/
def Obligations.ImmediateInstructions : Prop :=
  (∀ (s : State) (k : CoreId) (c : Cond) (d : Reg) (h : BitVec 2) (imm : BitVec 14), runs s k c = true →
    exec (.ldi k c d h imm) s =
        .next (after s k 2 (fun x => { x with w := x.w.set d (BitVec.ofNat 16 (h.toNat * 16384 + imm.toNat)) })) ∧
    exec (.daddi k c d imm) s = .next (after s k 2 (rowDadd.run d (BitVec.ofNat 16 imm.toNat)))) ∧
  ∀ row ∈ immRows, ∀ (s : State) (k : CoreId) (c : Cond) (d : Reg) (imm : BitVec 14), runs s k c = true →
    exec (row.1 k c d imm) s = .next (after s k 2 (row.2.run d (BitVec.ofInt 16 imm.toInt)))

/-- O3. SHL, SHR, ASR, ROL, ROR, RLC, RRC, SWAB, NOT, NEG, INC, DEC, CLR and SEXB on either core and every register:
when the core executes and the condition holds, the command completes; r takes the result that R337 gives (here said
of the operand as a number), C takes the bit shifted out, Z and N follow the result, V is set by NEG, INC and DEC
alone, INC and DEC leave C and CLR leaves every flag; PC passes one word and nothing else changes. (spec rules R337,
R302) -/
def Obligations.OneRegisterInstructions : Prop :=
  ∀ row ∈ oneRows, ∀ (s : State) (k : CoreId) (c : Cond) (r : Reg), runs s k c = true →
    exec (row.1 k c r) s = .next (after s k 1 (row.2.run r 0))

/-- O4. For every conditional instruction of Galros, whatever its operands: when the core executes and the condition
is false, the command completes, PC passes the instruction's words, a load that is on its way reaches its register,
and nothing else changes: no flag, no trap, no new load delay. (spec rules R303) -/
def Obligations.FalseConditionPassesTheWords : Prop :=
  ∀ (i : Instr) (k : CoreId) (c : Cond) (n : Nat) (s : State), parts i = some (k, c, n) → coreReady s k = true →
    bpHit (s.core k) = none → (s.core k).stepReq = false → condHolds (s.core k) c = false →
    exec i s = .next (s.modCore k (fun x => landed { x with pc := x.pc + BitVec.ofNat 14 n, bpSkip := false }))

/-- O5. LD r from a bank word that a core may read at once and whose check bits carry no uncorrectable error puts that
word on its way to r (load delay) and, with inc, adds one to the base at once. ST stores r, as it stands before any
increment, in a word of a bank the core owns, and increments the base with inc. On the core register page LD and ST
act as the page's registers do. A post-increment LD whose register is its base is ILL. With room on the return stack
an offset above the segment's limit takes a SEG trap, an access to a withdrawn bank and a store to a bank not owned
take an OWN trap, and a load of a word of a customer area that is poisoned takes a POISON trap: nothing else changes.
No flag changes, PC passes the instruction's words. An owner's store to a word of a bank leaves that word reading as
the value stored, with good check bits, and leaves every other word of all eight banks reading as before, with the
check bits it had. (spec rules R336, R306, R308, R309, R319, R276, R292) -/
def Obligations.LoadsAndStores : Prop :=
  (∀ (s : State) (k : CoreId) (c : Cond) (r : Reg) (m : MemForm) (b i o : Nat), runs s k c = true →
    (memInc m ≠ some r → onBank s k (operand s k m).1 (operand s k m).2 b i = true → atOnce s k b = true →
      sound s b i = true →
      exec (.ld k c r m none) s =
        .next (after s k (memWords m) (fun x => { bumped m x with delay := some (r.val, bankWord s b i) }))) ∧
    (onBank s k (operand s k m).1 (operand s k m).2 b i = true → mayStore s k b = true →
      exec (.st k c r m) s = .next (after (ownerWrite s b i (w s k r)) k (memWords m) (bumped m))) ∧
    (memInc m ≠ some r → onPage s k (operand s k m).1 (operand s k m).2 o = true →
      exec (.ld k c r m none) s =
        .next ((pageRead (after s k (memWords m) id) k o).1.modCore k (fun x =>
          { bumped m x with delay := some (r.val, (pageRead (after s k (memWords m) id) k o).2) }))) ∧
    (onPage s k (operand s k m).1 (operand s k m).2 o = true →
      exec (.st k c r m) s =
        .next ((bumpBase (pageWrite (after s k (memWords m) id) k o (w s k r)) k m).modCore k commitLoad)) ∧
    (room s k = true →
      (memInc m = some r → exec (.ld k c r m none) s = .next (trapped s k 4 (s.core k).pc)) ∧
      (((s.core k).sg.get (operand s k m).1).lim.toNat < (operand s k m).2.toNat →
        exec (.st k c r m) s = .next (trapped s k 1 (s.core k).pc) ∧
        (memInc m ≠ some r → exec (.ld k c r m none) s = .next (trapped s k 1 (s.core k).pc))) ∧
      (onBank s k (operand s k m).1 (operand s k m).2 b i = true →
        (bankOut s b = true ∨ coreOwns s k b = false → exec (.st k c r m) s = .next (trapped s k 2 (s.core k).pc)) ∧
        (bankOut s b = true → memInc m ≠ some r → exec (.ld k c r m none) s = .next (trapped s k 2 (s.core k).pc)) ∧
        (memInc m ≠ some r → atOnce s k b = true → bankErr s b i = some .poison → rtWord b i = false →
          exec (.ld k c r m none) s = .next (trapped s k 3 (s.core k).pc))))) ∧
  (∀ (s : State) (b i : Nat) (v : Word), b < 8 → i < 16384 →
    bankWord (ownerWrite s b i v) b i = v ∧ bankErr (ownerWrite s b i v) b i = none ∧
    ∀ b' i', b' < 8 → i' < 16384 → (b', i') ≠ (b, i) →
      bankWord (ownerWrite s b i v) b' i' = bankWord s b' i' ∧ bankErr (ownerWrite s b i v) b' i' = bankErr s b' i')

/-- O6. PUSH r stores the value r had before at SG3:(W7 - 1), in a bank the core owns, and leaves W7 one less; POP r
(r not W7) puts the word at SG3:W7 on its way to r and leaves W7 one more; POP W7 is ILL. An offset above SG3's limit
takes a SEG trap with nothing else changed. An offset that wraps below 0 is 0xFFFF. No flag changes. (spec rules R317)
-/
def Obligations.PushAndPop : Prop :=
  ∀ (s : State) (k : CoreId) (c : Cond) (r : Reg) (b i : Nat), runs s k c = true →
    (onBank s k 3 (w s k 7 - 1) b i = true → mayStore s k b = true →
      exec (.push k c r) s =
        .next (after (ownerWrite s b i (w s k r)) k 1 (fun x => { x with w := x.w.set 7 (w s k 7 - 1) }))) ∧
    (r ≠ 7 → onBank s k 3 (w s k 7) b i = true → atOnce s k b = true → sound s b i = true →
      exec (.pop k c r) s = .next (after s k 1 (fun x =>
        { x with w := x.w.set 7 (w s k 7 + 1), delay := some (r.val, bankWord s b i) }))) ∧
    (room s k = true →
      exec (.pop k c 7) s = .next (trapped s k 4 (s.core k).pc) ∧
      (((s.core k).sg.get 3).lim.toNat < (w s k 7 - 1).toNat → exec (.push k c r) s = .next (trapped s k 1 (s.core k).pc)) ∧
      (r ≠ 7 → ((s.core k).sg.get 3).lim.toNat < (w s k 7).toNat →
        exec (.pop k c r) s = .next (trapped s k 1 (s.core k).pc))) ∧
    (w s k 7 = 0 → w s k 7 - 1 = 0xFFFF)

/-- O7. While a load has value u on its way to register q, a register ALU instruction reads the registers as before
the load. When it writes d = q its result stands and the loaded value is discarded; otherwise the loaded value is in q
after it, whether or not it was an operand. Either way no load is on its way any more, and no interrupt is taken
before it. (spec rules R322, R342) -/
def Obligations.LoadDelay : Prop :=
  ∀ (s : State) (k : CoreId) (c : Cond) (d r q : Reg) (u : Word), coreReady s k = true → bpHit (s.core k) = none →
    condHolds (s.core k) c = true → (s.core k).stepReq = false → (s.core k).delay = some (q.val, u) →
    exec (.interruptEntry k) s = .next s ∧
    ∀ row ∈ twoRows, exec (row.1 k c d r) s =
      .next (after s k 1 (fun x =>
        let y := row.2.run d (w s k r) { x with delay := none }
        if row.2.keep ∧ d = q then y else { y with w := y.w.set q u }))

/-- O8. SGLD SGn,Wa loads base (bits 1:0 of Wa+1, then Wa) and limit Wa+2 whole when R307 allows them, else takes a
SEG trap; SGST Wa,SGn stores base bits 15:0, base bits 17:16 and the limit; MFS reads FL, RSP or IVB with reserved
bits 0; MTS writes FL, RSP (top and count) or IVB, ignoring reserved bits. A field a of 5-7, spec 3, and MTS RSP with
a count above 8 are ILL. What SGST stores, SGLD takes back as it was when R307 held. PC passes one word and nothing
else changes. (spec rules R338, R307, R301) -/
def Obligations.SegmentsAndSpecialRegisters : Prop :=
  ∀ (s : State) (k : CoreId) (c : Cond) (g : Fin 4) (a r : Reg), runs s k c = true →
    (∀ h : a.val < 5,
      let base := (w s k ⟨a.val + 1, by omega⟩).toNat % 4 * 65536 + (w s k a).toNat
      let lim := w s k ⟨a.val + 2, by omega⟩
      (segmentAllowed base lim.toNat = true → exec (.sgld k c g a) s =
        .next (after s k 1 (fun x => { x with sg := x.sg.set g ⟨BitVec.ofNat 18 base, lim⟩ }))) ∧
      (segmentAllowed base lim.toNat = false → room s k = true →
        exec (.sgld k c g a) s = .next (trapped s k 1 (s.core k).pc)) ∧
      exec (.sgst k c g a) s = .next (after s k 1 (fun x =>
        { x with w := ((x.w.set a (BitVec.ofNat 16 (x.sg.get g).base.toNat)).set (a.val + 1)
                        (BitVec.ofNat 16 ((x.sg.get g).base.toNat / 65536))).set (a.val + 2) (x.sg.get g).lim }))) ∧
    exec (.mfs k c 0 r) s = .next (after s k 1 (fun x =>
      { x with w := x.w.set r (BitVec.ofNat 16 (bit x.z + 2 * bit x.c + 4 * bit x.n + 8 * bit x.v + 16 * bit x.t)) })) ∧
    exec (.mfs k c 1 r) s =
      .next (after s k 1 (fun x => { x with w := x.w.set r (BitVec.ofNat 16 (x.rsTop.toNat + 8 * x.rsCount)) })) ∧
    exec (.mfs k c 2 r) s = .next (after s k 1 (fun x =>
      { x with w := x.w.set r (BitVec.ofNat 16 (bit x.ie + 2 * x.level.toNat + 32 * x.base.toNat)) })) ∧
    exec (.mts k c 0 r) s = .next (after s k 1 (fun x =>
      { x with z := (w s k r).getLsbD 0, c := (w s k r).getLsbD 1, n := (w s k r).getLsbD 2, v := (w s k r).getLsbD 3,
               t := (w s k r).getLsbD 4 })) ∧
    ((w s k r).toNat / 8 % 16 ≤ 8 → exec (.mts k c 1 r) s = .next (after s k 1 (fun x =>
      { x with rsTop := BitVec.ofNat 3 (w s k r).toNat, rsCount := (w s k r).toNat / 8 % 16 }))) ∧
    exec (.mts k c 2 r) s = .next (after s k 1 (fun x =>
      { x with ie := (w s k r).getLsbD 0, level := BitVec.ofNat 3 ((w s k r).toNat / 2),
               base := BitVec.ofNat 9 ((w s k r).toNat / 32) })) ∧
    (room s k = true →
      (5 ≤ a.val → exec (.sgld k c g a) s = .next (trapped s k 4 (s.core k).pc) ∧
        exec (.sgst k c g a) s = .next (trapped s k 4 (s.core k).pc)) ∧
      exec (.mfs k c 3 r) s = .next (trapped s k 4 (s.core k).pc) ∧
      exec (.mts k c 3 r) s = .next (trapped s k 4 (s.core k).pc) ∧
      (8 < (w s k r).toNat / 8 % 16 → exec (.mts k c 1 r) s = .next (trapped s k 4 (s.core k).pc)))

/-- O9. BTST and BTSTR copy the addressed bit into T; BSET, BCLR and BMOV, and their register forms, write 1, 0 or T
to it as the kind of the bit has it. In the absolute forms the address is bits 11:0 of word 2, and a set bit 12 or 13
is ILL; in the register forms it is bits 11:0 of r. PC passes the words, no other flag changes and nothing else but
what the write itself does. A bit written under an RW address reads as written, and every bit but ip_sluev reads as
before at every other address; a 1 to an EV bit and any write of an RO or reserved bit are ignored; a 0 clears an EV
bit; a 1 to peer_sig sets ip_peer in the other core. (spec rules R339) -/
def Obligations.BitInstructions : Prop :=
  (∀ (s : State) (k : CoreId) (c : Cond) (w2 : BitVec 14) (r : Reg), runs s k c = true →
    (w2.toNat < 4096 →
      exec (.btst k c w2) s = .next (after s k 2 (fun x => { x with t := bitRead s k w2.toNat })) ∧
      exec (.bset k c w2) s = .next (bitWrite (after s k 2 id) k w2.toNat true) ∧
      exec (.bclr k c w2) s = .next (bitWrite (after s k 2 id) k w2.toNat false) ∧
      exec (.bmov k c w2) s = .next (bitWrite (after s k 2 id) k w2.toNat (s.core k).t)) ∧
    (4096 ≤ w2.toNat → room s k = true → ∀ f ∈ [Instr.btst k c, Instr.bset k c, Instr.bclr k c, Instr.bmov k c],
      exec (f w2) s = .next (trapped s k 4 (s.core k).pc)) ∧
    exec (.btstr k c r) s = .next (after s k 1 (fun x => { x with t := bitRead s k ((w s k r).toNat % 4096) })) ∧
    exec (.bsetr k c r) s = .next (bitWrite (after s k 1 id) k ((w s k r).toNat % 4096) true) ∧
    exec (.bclrr k c r) s = .next (bitWrite (after s k 1 id) k ((w s k r).toNat % 4096) false) ∧
    exec (.bmovr k c r) s = .next (bitWrite (after s k 1 id) k ((w s k r).toNat % 4096) (s.core k).t)) ∧
  ∀ (s : State) (k : CoreId) (a b : Nat) (v : Bool), a < 4096 → b < 4096 →
    (bitIsRw a = true → bitRead (bitWrite s k a v) k a = v) ∧
    (bitIsEv a = true → bitWrite s k a true = s ∧ bitRead (bitWrite s k a false) k a = false) ∧
    (bitIsRw a = false → bitIsEv a = false → a ≠ 0x20 → bitWrite s k a v = s) ∧
    (a ≠ b → b ≠ 0x14 → bitRead (bitWrite s k a v) k b = bitRead s k b) ∧
    bitRead (bitWrite s k 0x20 true) (peer k) 0x17 = true ∧ bitWrite s k 0x20 false = s ∧ bitRead s k 0x20 = false

/-- O10. NOP only passes its word. WAIT, with no entry attempt, sets the core's wait bit, and the device is in IDLE
once both cores wait. WAIT_RESUME of a waiting core with an interrupt due ends the wait: with ie 1 the interrupt of
the highest level is taken (push, its level, its vector), with ie 0 execution goes on after WAIT; the device is in
RUN. BRK halts the core with reason 3 when an SDP session is attached, and otherwise takes a BRK trap whose saved PC
is the next instruction. (spec rules R340, R321, R319, R384, R495) -/
def Obligations.NopWaitAndBreak : Prop :=
  (∀ (s : State) (k : CoreId) (c : Cond), runs s k c = true →
    exec (.nop k c) s = .next (after s k 1 id) ∧
    (s.pwr.attempt = false → s.pwr.state = .run →
      exec (.wait k c) s = .next
        { (after s k 1 (fun x => { x with waiting := true })) with
          pwr := { s.pwr with state := if (s.core (peer k)).waiting then .idle else .run } }) ∧
    (s.dbg.session = true → exec (.brk k c) s =
      .next ((haltCore (after s k 1 id) k 3).modCore k (fun x => { x with delay := none }))) ∧
    (s.dbg.session = false → room s k = true →
      exec (.brk k c) s = .next (trapped s k 7 ((s.core k).pc + 1)))) ∧
  ∀ (s : State) (k : CoreId) (v : Nat), coreRuns s k = true → (s.core k).waiting = true → s.pwr.attempt = false →
    s.pwr.state = .run ∨ s.pwr.state = .idle → ipNext s k = some v →
    ((s.core k).ie = false → exec (.waitResume k) s =
      .next { (s.modCore k (fun x => { x with waiting := false })) with pwr := { s.pwr with state := .run } }) ∧
    ((s.core k).ie = true → room s k = true → exec (.waitResume k) s =
      .next { (s.modCore k (fun x =>
        { pushed { x with waiting := false } x.pc with
          level := BitVec.ofNat 3 (vecLevel v), pc := BitVec.ofNat 14 (x.base.toNat * 32 + 2 * v) })) with pwr := { s.pwr with state := .run } })

/-- O11. JMP addr and JMPR r set PC to word 2 or to bits 13:0 of r and change nothing else. CALL addr pushes PC + 2
and CALLR r pushes PC + 1 with FL, the run level and IE, then jump, outside the Runtime's hook calls. With the stack
full in trap mode no push is made: the frame of R315 (PC of the CALL, then FL, level and IE, then cause 0) goes to the
three words below W7, W7 drops by 3, and the core is at vector 5 with level 7 and IE 0, in a customer's vector table.
In a customer's program, with an entry on the return stack: RET restores PC alone, RETI restores PC, FL, the run level
and ie. RETF pops the three words of R315 and restores PC, FL, run level and ie from them, W7 + 3. CALLM with an empty
mask saves the mask word alone below W7, pushes PC + 3 and jumps; a mask with any of bits 13:8 set is ILL; CALLM with
mask FL and W0 saves W0, FL and the mask in that order downwards, and RETM from such words restores them, W7 and the
return address. (spec rules R340, R313, R314, R315, R317) -/
def Obligations.JumpsCallsAndReturns : Prop :=
  (∀ (s : State) (k : CoreId) (c : Cond) (a : BitVec 14) (r : Reg), runs s k c = true →
    exec (.jmp k c a) s = .next (after s k 2 (fun x => { x with pc := a })) ∧
    exec (.jmpr k c r) s = .next (after s k 1 (fun x => { x with pc := BitVec.ofNat 14 (w s k r).toNat })) ∧
    (room s k = true → 0x2000 ≤ (s.core k).pc.toNat →
      exec (.call k c a) s = .next (after s k 2 (fun x => { pushed x x.pc with pc := a })) ∧
      exec (.callr k c r) s =
        .next (after s k 1 (fun x => { pushed x x.pc with pc := BitVec.ofNat 14 (w s k r).toNat }))) ∧
    (∀ b i, room s k = false → 0x2000 ≤ (s.core k).pc.toNat → (s.core k).base ≠ 0 → mayStore s k b = true →
      onBank s k 3 (w s k 7 - 1) b (i + 2) = true → onBank s k 3 (w s k 7 - 2) b (i + 1) = true →
      onBank s k 3 (w s k 7 - 3) b i = true → s.mir.role ≠ 1 →
      exec (.call k c a) s = .next (rsFramed s k b i) ∧ exec (.callr k c r) s = .next (rsFramed s k b i))) ∧
  (∀ (s : State) (k : CoreId) (c : Cond) (m a : BitVec 14) (b i : Nat), runs s k c = true →
    0x2000 ≤ (s.core k).pc.toNat →
    (let e := (s.core k).rs.getD ((s.core k).rsTop - 1).toNat .reset
     let pop (x : Core) : Core := { x with rsTop := x.rsTop - 1, rsCount := x.rsCount - 1 }
     (s.core k).rsCount ≠ 0 → 0x2000 ≤ e.addr.toNat →
      exec (.ret k c) s = .next (after s k 1 (fun x => { pop x with pc := e.addr })) ∧
      exec (.reti k c) s = .next (after s k 1 (fun x =>
        { withFl (pop x) e.fl with pc := e.addr, level := e.level, ie := e.ie, trapVec := none })) ∧
      (onBank s k 3 (w s k 7) b i = true → onBank s k 3 (w s k 7 + 1) b (i + 1) = true →
        onBank s k 3 (w s k 7 + 2) b (i + 2) = true → atOnce s k b = true → sound s b i = true →
        sound s b (i + 1) = true → sound s b (i + 2) = true → bankWord s b i = 0x0081 →
        exec (.retm k c) s = .next (after s k 1 (fun x =>
          { withFl (pop x) (BitVec.ofNat 5 (bankWord s b (i + 1)).toNat) with
            w := (x.w.set 7 (w s k 7 + 3)).set 0 (bankWord s b (i + 2)), pc := e.addr })))) ∧
    (onBank s k 3 (w s k 7) b i = true → onBank s k 3 (w s k 7 + 1) b (i + 1) = true →
      onBank s k 3 (w s k 7 + 2) b (i + 2) = true → atOnce s k b = true → sound s b i = true →
      sound s b (i + 1) = true → sound s b (i + 2) = true →
      let f := bankWord s b (i + 1)
      exec (.retf k c) s = .next (after s k 1 (fun x =>
        { withFl x (BitVec.ofNat 5 f.toNat) with
          w := x.w.set 7 (w s k 7 + 3), pc := BitVec.ofNat 14 (bankWord s b (i + 2)).toNat,
          level := BitVec.ofNat 3 (f.toNat / 32), ie := f.getLsbD 8, trapVec := none }))) ∧
    (room s k = true → 256 ≤ m.toNat → exec (.callm k c m a) s = .next (trapped s k 4 (s.core k).pc)) ∧
    (room s k = true → mayStore s k b = true → s.mir.role ≠ 1 →
      (onBank s k 3 (w s k 7 - 1) b i = true →
        exec (.callm k c 0 a) s = .next (after (putWord s b i 0) k 3 (fun x =>
          { pushed { x with w := x.w.set 7 (w s k 7 - 1) } x.pc with pc := a }))) ∧
      (onBank s k 3 (w s k 7 - 1) b (i + 2) = true → onBank s k 3 (w s k 7 - 2) b (i + 1) = true →
        onBank s k 3 (w s k 7 - 3) b i = true →
        exec (.callm k c 0x81 a) s =
          .next (after (putWord (putWord (putWord s b (i + 2) (w s k 0)) b (i + 1) ((flBits (s.core k)).setWidth 16)) b i 0x0081)
            k 3 (fun x => { pushed { x with w := x.w.set 7 (w s k 7 - 3) } x.pc with pc := a })))))

/-- O12. With the counter 0, RPT and RPTU only pass both words. A counter of W7, and an instruction that may not be
repeated, are ILL whatever the counter holds. Otherwise, with no interrupt enabled and no halt requested, the sequence
runs R343's loop to its end: I, if its own condition holds, then the counter less one, until the counter is 0; PC is
then after I. RPT with an enabled interrupt due after an iteration that leaves the counter not 0 takes it with PC on
the prefix; RPTU holds it until the end. The instruction repeated acts as it does alone, for every instruction that
R344 allows. (spec rules R343, R344, R345) -/
def Obligations.RepeatPrefixes : Prop :=
  (∀ (s : State) (k : CoreId) (c ic : Cond) (r : Reg) (I : RepBody) (n : Nat), runs s k c = true →
    (∀ f, r ≠ 7 → repBody k I = some f →
      (w s k r = 0 → exec (.rpt k c r ic I n) s = .next (after s k 2 id) ∧
        exec (.rptu k c r ic I) s = .next (after s k 2 id)) ∧
      (∀ t, w s k r ≠ 0 → (s.core k).ie = false → (s.core k).haltReq = false → (s.core k).haltSdp = false →
        repeated k r ic f n (after s k 1 id) = some t →
        (repeated k r ic f 65536 (after s k 1 id) = some t →
          exec (.rptu k c r ic I) s = .next (setPc t k ((s.core k).pc + 2))) ∧
        exec (.rpt k c r ic I n) s = .next (setPc t k ((s.core k).pc + 2)))) ∧
    (room s k = true → r = 7 ∨ (∃ m, I = .other m) →
      exec (.rpt k c r ic I n) s = .next (trapped s k 4 (s.core k).pc) ∧
      exec (.rptu k c r ic I) s = .next (trapped s k 4 (s.core k).pc)) ∧
    (∀ v, r ≠ 7 → 1 < (w s k r).toNat → (s.core k).ie = true → (s.core k).haltReq = false → (s.core k).haltSdp = false →
      ipNext s k = some v → room s k = true →
      exec (.rpt k c r ic .nop n) s = .next (s.modCore k (fun x =>
        { pushed { x with w := x.w.set r (w s k r - 1), bpSkip := false } x.pc with
          level := BitVec.ofNat 3 (vecLevel v), pc := BitVec.ofNat 14 (x.base.toNat * 32 + 2 * v) })) ∧
      exec (.rptu k c r ic .nop) s = .next (after s k 2 (fun x => { x with w := x.w.set r 0 })))) ∧
  ∀ (k : CoreId) (c : Cond) (I : RepBody) (s : State),
    match repInstr k c I with
    | some i => ∃ f, repBody k I = some f ∧ exec i s = runInstr k c 1 f s
    | none => repBody k I = none

/-- O13. ILLEGAL_INSTRUCTION with a true condition takes an ILL trap, and with room on the return stack it pushes the
trapping PC with FL, level and IE, sets run level 7 and goes to base x 32 + 8. INTERRUPT_ENTRY, when the core
executes, no load is on its way, ie is 1 and an enabled pending interrupt has a level above the run level, takes the
one of the highest level, the lower vector first among equals: a push of PC, its level, and base x 32 + 2v; its
pending bit stays. A breakpoint i hit at that boundary halts the core with reason 4 + i instead (R505). With ie 0, nothing
due or a load on its way INTERRUPT_ENTRY leaves the machine unchanged. (spec rules R319, R320) -/
def Obligations.TrapsAndInterrupts : Prop :=
  (∀ (s : State) (k : CoreId) (c : Cond), runs s k c = true → room s k = true → (s.core k).base ≠ 0 →
    exec (.illegalInstruction k c) s = .next (s.modCore k (fun x =>
      { pushed x x.pc with level := 7, pc := BitVec.ofNat 14 (x.base.toNat * 32 + 8), bpSkip := false }))) ∧
  (∀ (s : State) (k : CoreId) (v : Nat), coreReady s k = true → (s.core k).delay = none → (s.core k).ie = true →
    (s.core k).stepReq = false → 8 ≤ v → v ≤ 15 → ipDue s k v = true →
    (∀ u, 8 ≤ u → u ≤ 15 → ipDue s k u = true →
      vecLevel u < vecLevel v ∨ (vecLevel u = vecLevel v ∧ v ≤ u)) →
    (bpHit (s.core k) = none → room s k = true →
      exec (.interruptEntry k) s = .next (s.modCore k (fun x =>
        { pushed x x.pc with level := BitVec.ofNat 3 (vecLevel v), pc := BitVec.ofNat 14 (x.base.toNat * 32 + 2 * v) })) ∧
      ∀ t, exec (.interruptEntry k) s = .next t → ipBit t k v = true) ∧
    ∀ i, bpHit (s.core k) = some i → haltsWith (exec (.interruptEntry k) s) s k (4 + i)) ∧
  ∀ (s : State) (k : CoreId), (s.core k).ie = false ∨ (∀ v, 8 ≤ v → v ≤ 15 → ipDue s k v = false) ∨
      (s.core k).delay ≠ none → exec (.interruptEntry k) s = .next s

/-- O14. After trap entry in a customer's vector table (base not 0) nothing more happens. At base 0 the Runtime acts:
for a trap of program RAM with the core's bit of sys.pram_en set it asks hook 3 (it remembers the vector); with the
bit clear it hands the trap over: it writes the bit 0, a live write that an open transaction sees and a pending epoch commit
of the bit refuses, the core continues from the hook's caller if a hook ran, and a BOOT notice of cause 6 is posted. A trap
of ROM restarts the core at vector 0 with a BOOT notice of cause 5: PC 0, level 7, IE 0, an empty return stack position and
no load on its way, and for SVC a cleared integrity state, unless it is the third restart within 10 s, which leaves the core
stopped. How the Runtime's response is modelled is the model's reading (log entry 38). (spec
rules R324, R325, R327, R483) -/
def Obligations.RuntimeTrapResponse : Prop :=
  ∀ (s : State) (k : CoreId) (v : Nat) (pc : BitVec 14),
    ((s.core k).base ≠ 0 → trapResponse s k v pc = s) ∧
    ((s.core k).base = 0 → 0x2000 ≤ pc.toNat → s.parBit pSysPramEn (coreNum k) = true → (s.core k).trapVec = none →
      trapResponse s k v pc = s.modCore k (fun x => { x with trapVec := some v })) ∧
    ((s.core k).base = 0 → 0x2000 ≤ pc.toNat → s.parBit pSysPramEn (coreNum k) = false → (s.core k).hook = none →
      trapResponse s k v pc = noteBoot ((if keyPending s pSysPramEn then s
        else markDirty (s.setParBit pSysPramEn (coreNum k) false) pSysPramEn).modCore k (fun x => { x with trapVec := none }))
          6 (coreNum k) v) ∧
    ((s.core k).base = 0 → pc.toNat < 0x2000 →
      (2 ≤ ((s.core k).restarts.filter (fun t => decide (dtcNow s - t < 163680000))).length →
        ((trapResponse s k v pc).core k).stopped = true ∧ coreRuns (trapResponse s k v pc) k = false) ∧
      (((s.core k).restarts.filter (fun t => decide (dtcNow s - t < 163680000))).length < 2 →
        ((trapResponse s k v pc).core k).pc = 0 ∧ ((trapResponse s k v pc).core k).level = 7 ∧
        ((trapResponse s k v pc).core k).ie = false ∧ ((trapResponse s k v pc).core k).rsCount = 0 ∧
        ((trapResponse s k v pc).core k).delay = none ∧ ((trapResponse s k v pc).core k).halted = false ∧
        (k = .svc → (trapResponse s k v pc).integ =
          { IntegSt.reset with seq := s.integ.seq, solvedAt := s.integ.solvedAt })))

/-- O15. For the seventeen functions of CP0, CP1 and CP2: with Wr + c - 1 at most 7 and the tag not busy, the CPOP
completes: its c operands are read from Wr upward, the tag is busy with the operation and its old results are gone,
operations are numbered in the order of issue; PC passes two words and nothing else changes (a DWELL also takes its
place behind the cell search that runs, with acq.dwell and acq.ncoh as read at issue). A busy tag gives a CP trap, and
operands past W7 an ILL trap, with nothing changed. (spec rules R348, R350) -/
def Obligations.CoprocessorIssue : Prop :=
  (∀ row ∈ cpRows, ∀ (s : State) (k : CoreId) (c : Cond) (t : Fin 4) (r : Reg), runs s k c = true →
    (r.val + row.2.2.2 ≤ 8 → (tagOf s k t).busy = false → exec (row.1 k c t r) s =
      .next { (after s k 2 (fun x => outstanding x t ⟨row.2.1, row.2.2.1, operands x r row.2.2.2, s.cp.issued⟩)) with
        cp := { s.cp with issued := s.cp.issued + 1 } }) ∧
    (room s k = true → 8 < r.val + row.2.2.2 → exec (row.1 k c t r) s = .next (trapped s k 4 (s.core k).pc)) ∧
    (room s k = true → r.val + row.2.2.2 ≤ 8 → (tagOf s k t).busy = true →
      exec (row.1 k c t r) s = .next (trapped s k 6 (s.core k).pc))) ∧
  ∀ (s : State) (k : CoreId) (c : Cond) (t : Fin 4) (r : Reg), runs s k c = true →
    (r.val ≤ 5 → (tagOf s k t).busy = false → cryOff s = false → prnOk s (w s k r).toNat = true → s.acq.cell ≠ none →
      exec (.dwell k c t r) s =
        .next { (after s k 2 (fun x => outstanding x t ⟨1, 1, operands x r 3 ++
            [BitVec.ofNat 16 (s.parN pAcqDwell), BitVec.ofNat 16 (s.parN pAcqNcoh)], s.cp.issued⟩)) with
          cp := { s.cp with issued := s.cp.issued + 1 }, acq := { s.acq with dwellQ := s.acq.dwellQ ++ [(k, t)] } }) ∧
    (room s k = true → 5 < r.val → exec (.dwell k c t r) s = .next (trapped s k 4 (s.core k).pc)) ∧
    (room s k = true → r.val ≤ 5 → (tagOf s k t).busy = true → exec (.dwell k c t r) s = .next (trapped s k 6 (s.core k).pc))

/-- O16. CPRD takes the next unread word of a tag off it and puts it on its way to the register; with no word left it
waits (nothing changes) while the tag is busy and takes a CP trap otherwise. CPST puts the status word of R351 on its
way: code, detail and the unread count. WAITCP waits (nothing changes) while the tag is busy, and then puts code and
detail on its way. PC passes one word and nothing else changes. (spec rules R350, R351, R341, R322) -/
def Obligations.CoprocessorResults : Prop :=
  ∀ (s : State) (k : CoreId) (c : Cond) (u t : Fin 4) (r : Reg), runs s k c = true →
    (∀ v vs, (tagOf s k t).words = v :: vs → exec (.cprd k c u t r) s =
      .next (after s k 1 (fun x =>
        { x with tag := x.tag.set t { tagOf s k t with words := vs }, delay := some (r.val, v) }))) ∧
    ((tagOf s k t).words = [] → (tagOf s k t).busy = true → exec (.cprd k c u t r) s = .next s) ∧
    (room s k = true → (tagOf s k t).words = [] → (tagOf s k t).busy = false →
      exec (.cprd k c u t r) s = .next (trapped s k 6 (s.core k).pc)) ∧
    exec (.cpst k c u t r) s = .next (after s k 1 (fun x => { x with delay := some (r.val, BitVec.ofNat 16
      ((tagOf s k t).code + 16 * (tagOf s k t).detail + 2048 * (tagOf s k t).words.length)) })) ∧
    ((tagOf s k t).busy = true → exec (.waitcp k c u t r) s = .next s) ∧
    ((tagOf s k t).busy = false → exec (.waitcp k c u t r) s = .next (after s k 1 (fun x =>
      { x with delay := some (r.val, BitVec.ofNat 16 ((tagOf s k t).code + 16 * (tagOf s k t).detail)) })))

/-- O17. When a CP2 operation on a tag completes, the tag is free with code OK and its result words, and nothing else
changes: MULU and MULS give the 64-bit product, DIVU and DIVS quotient (rounded towards zero) and remainder (with the
sign of a), SQRT the integer square root, ROT and ATAN2 two words (free values, log entry 9, but 0 and 0 for ATAN2 of
(0, 0)). A division by zero completes with ARG and detail 2, DIVS of -2^31 by -1 with ARG and detail 0, and no words.
(spec rules R354, R347, R351) -/
def Obligations.ArithmeticUnitResults : Prop :=
  ∀ (s : State) (k : CoreId) (t : Fin 4) (fn : Nat) (a : List Word) (nr : Nat), 1 ≤ fn → fn ≤ 7 →
    mayComplete s k t ⟨2, fn, a, nr⟩ = true →
    (∀ d, cp2Arg fn a = some d → exec (.cpOperationComplete k t) s =
      .next (s.modCore k (fun x => { x with tag := x.tag.set t (completed 3 d []) }))) ∧
    (cp2Arg fn a = none → ∃ ws, cp2Right fn a ws ∧ exec (.cpOperationComplete k t) s =
      .next (s.modCore k (fun x => { x with tag := x.tag.set t (completed 0 0 ws) })))

/-- O18. When a CP0 operation completes: NCO_SET leaves the two rates to take effect at the pan's next integration
boundary, PHASE gives code and carrier phase in four words, STOP releases the pan, TAPS with spacings and offsets in
their ranges leaves them to the next integration boundary, INTLEN with one of 1, 2, 4, 5, 10, 20 leaves the new length
to the next bit edge, FETCH gives the sixteen words of the latest integration saturated at +-32,767 and clears the
pan's ready bit, and a FETCH of TRK forms R108's discriminators of a pan that does not reacquire (the PLL's atan(Q/I) of P, a
free value, log entry 9; cross and dot products; E - L, early and late sums of powers, of VE and VL in PULL) and from them the
rates for the next integration boundary; the tag is free with code OK. Every function but START completes with UNAVAIL on an inactive pan, and
a pan number above 31 with ARG. START of an inactive pan of an available group on a PRN that may be tracked and is not
yet, with a code phase of at most 32,735, starts the pan. (spec rules R352, R108, R111, R349) -/
def Obligations.PanControlOperations : Prop :=
  ∀ (s : State) (k : CoreId) (t : Fin 4) (fn nr : Nat) (a : List Word), 1 ≤ fn → fn ≤ 7 →
    mayComplete s k t ⟨0, fn, a, nr⟩ = true →
    let p := (wordAt a 0).toNat
    let done (u : State) (code detail : Nat) (ws : List Word) : Host.Outcome State Fault Refusal :=
      .next (u.modCore k (fun x => { x with tag := x.tag.set t (completed code detail ws) }))
    (32 ≤ p → exec (.cpOperationComplete k t) s = done s 3 0 []) ∧
    (p < 32 → fn ≠ 4 → panAt s p = none → exec (.cpOperationComplete k t) s = done s 8 0 []) ∧
    (∀ x, p < 32 → panAt s p = some x →
      (fn = 1 → x.result.length = 16 → ∃ y, exec (.cpOperationComplete k t) s =
          done (putPan s p y) 0 0 (x.result.map (fun v => if v = 0x8000 then 0x8001 else v)) ∧
        (k = .svc ∨ x.reacq.isSome = true → y = { x with ready := false }) ∧
        (k = .trk → x.reacq = none →
          let i (n : Nat) : Int := (x.result.getD (2 * n) 0).toInt
          let q (n : Nat) : Int := (x.result.getD (2 * n + 1) 0).toInt
          let l := x.lastP.getD (0, 0)
          let e : Nat := if x.phase = .pull then 3 else 1
          let early := (i e * i e + q e * q e).toNat
          let late := (i (e + 1) * i (e + 1) + q (e + 1) * q (e + 1)).toNat
          y = { x with
            ready := false, pll := Config.arctan (q 0) (i 0), fll := (l.1 * q 0 - l.2 * i 0, l.1 * i 0 + l.2 * q 0)
            dll := ((early : Int) - late, early + late, early * late), pendRate := y.pendRate } ∧
          y.pendRate.isSome = true)) ∧
      (fn = 2 → exec (.cpOperationComplete k t) s = done (putPan s p
        { x with pendRate := some (ofHalves (wordAt a 2) (wordAt a 1), ofHalves (wordAt a 4) (wordAt a 3)) }) 0 0 []) ∧
      (fn = 3 → exec (.cpOperationComplete k t) s =
        done s 0 0 [loHalf x.codePh, hiHalf x.codePh, loHalf x.carPh, hiHalf x.carPh]) ∧
      (fn = 5 → exec (.cpOperationComplete k t) s = done (releasePan s p) 0 0 []) ∧
      (fn = 6 → inRange pTrkElSp (wordAt a 1).toNat = true → inRange pTrkVelSp (wordAt a 2).toNat = true →
        (wordAt a 1).toNat < (wordAt a 2).toNat → inRange pTrkXaOff (wordAt a 3).toInt = true →
        inRange pTrkXbOff (wordAt a 4).toInt = true → exec (.cpOperationComplete k t) s = done (putPan s p
          { x with pendTaps := some ((wordAt a 1).toNat, (wordAt a 2).toNat, (wordAt a 3).toInt, (wordAt a 4).toInt) }) 0 0 []) ∧
      (fn = 7 → (wordAt a 1).toNat ∈ [1, 2, 4, 5, 10, 20] → exec (.cpOperationComplete k t) s =
        done (putPan s p { x with pendCoh := some (wordAt a 1).toNat }) 0 0 []) ∧
      (fn = 7 → (wordAt a 1).toNat ∉ [1, 2, 4, 5, 10, 20] → exec (.cpOperationComplete k t) s = done s 3 1 [])) ∧
    (fn = 4 → p < 32 → panAt s p = none → prnOk s (wordAt a 1).toNat = true → pansOf s (wordAt a 1).toNat = [] →
      (wordAt a 2).toNat ≤ 32735 → groupOk s (p / 8) = true → ∃ u, exec (.cpOperationComplete k t) s = done u 0 0 [] ∧
        PanStarts s u p (wordAt a 1).toNat (wordAt a 2).toNat (wordAt a 3).toInt (nextEpoch s) true ∧
        onlyIn [.pans, .pace] s u = true)

/-- O19. A CPOP to CP3 whose operands meet R355, on a bank the core owns, writes the two header words at the block,
makes the tag busy and joins the queue with the next sequence number; Wr+1 with a bit of 15:9 set or n above 60, and a
block not wholly in a bank the core owns, complete at once with ARG. CP3_SERVE, with nothing in service, stores a MSG
notice for the oldest operation in the CP3 channel and puts it in service; if sys.cp3_chan lies outside 32-63 or its
receiver is not the host, the operation completes with CHAN. CP3_TIMEOUT, at sys.cp3_tmo microseconds after the ring,
completes the operation in service with TIMEOUT and ends its service. (spec rules R355, R356, R357, R361) -/
def Obligations.HostEmulationQueue : Prop :=
  (∀ (s : State) (k : CoreId) (c : Cond) (t : Fin 4) (r : Reg) (fn : BitVec 14), runs s k c = true → r.val < 7 →
    (tagOf s k t).busy = false →
    let off := (w s k r).toNat
    let w1 := ((s.core k).w.getD (r.val + 1) 0).toNat
    let b := w1 % 8
    let n := w1 / 8 % 64
    (512 ≤ w1 ∨ 60 < n → exec (.cp3Operation k c t r fn) s =
      .next (after s k 2 (fun x => { x with tag := x.tag.set t (completed 3 1 []) }))) ∧
    (w1 < 512 → n ≤ 60 → 16384 < off + n + 2 ∨ coreOwns s k b = false ∨ bankOut s b = true →
      exec (.cp3Operation k c t r fn) s = .next (after s k 2 (fun x => { x with tag := x.tag.set t (completed 3 0 []) }))) ∧
    (w1 < 512 → n ≤ 60 → off + n + 2 ≤ 16384 → coreOwns s k b = true → bankOut s b = false → s.mir.role ≠ 1 →
      exec (.cp3Operation k c t r fn) s =
        .next { (after (putWord (putWord s b off (BitVec.ofNat 16 (fn.toNat + 16384 * t.val))) b (off + 1)
            (BitVec.ofNat 16 (n + 64 * coreNum k + 256 * s.cp.seq.toNat))) k 2
              (fun x => { x with tag := x.tag.set t ⟨true, 2, 0, [], none⟩ })) with
          cp := { s.cp with
            seq := s.cp.seq + 1
            queue := s.cp.queue ++ [⟨k, t, Fin.ofNat 8 b, BitVec.ofNat 14 off, s.cp.seq⟩] } })) ∧
  (∀ (s : State) (op : Cp3Op) (q : List Cp3Op), s.cp.serving = none → s.cp.queue = op :: q → s.pwr.coreUp = true →
    s.pwr.state = .run ∨ s.pwr.state = .idle →
    let ch := s.parN pSysCp3Chan
    let n : Notice := ⟨BitVec.ofNat 3 op.bank.val, op.off, BitVec.ofNat 3 (clsCode (coreCls op.core)),
      (s.cls (coreCls op.core)).nClient, 0⟩
    (32 ≤ ch → ch ≤ 63 → rcvOf s ch = 0 → chanFull s ch = none → exec .cp3Serve s =
      .next { s with
        slu := { s.slu with chans := mput s.slu.chans ch ⟨n, n.cls, false, dtcNow s⟩ }
        cp := { s.cp with queue := q, serving := some op, chan := ch, servedAt := dtcNow s } }) ∧
    (ch < 32 ∨ 63 < ch ∨ rcvOf s ch ≠ 0 → exec .cp3Serve s =
      .next (({ s with cp := { s.cp with queue := q } } : State).modCore op.core
        (fun x => { x with tag := x.tag.set op.tag (completed 5 0 []) })))) ∧
  ∀ (s : State) (op : Cp3Op), s.cp.serving = some op →
    ∃ t, exec .cp3Timeout s = .next t ∧ t.cp = { s.cp with serving := none } ∧
      t.time = (carryDtc s (s.cp.servedAt + (s.parN pSysCp3Tmo * 16368 + 999) / 1000)).time ∧
      tagOf t op.core op.tag = completed 4 0 [] ∧ t.core (peer op.core) = s.core (peer op.core) ∧ t.bank = s.bank ∧
      t.params = s.params

/-- O20. CORE_HALT, with a request pending, no load on its way and the core executing in RUN or IDLE, halts the core
with reason 1 (D_CTL) or 9 (DBG_CTRL); BREAKPOINT_HIT at an enabled breakpoint i halts it with reason 4 + i before the
instruction; the peer's peer_halt then reads 1. With a session, SDP_HALT asks a running core to halt, and SDP_STEP of
a halted core lets it run for one instruction: a NOP then halts it again with reason 2. SDP_RESUME of a halted core
lets it run on where it stood. CORE_RESTART of a core halted under R316 without a session restarts it, 10 ms after the
halt, at vector 0, level 7. (spec rules R494, R495, R496, R483) -/
def Obligations.HaltsAndSteps : Prop :=
  ∀ (s : State) (k : CoreId),
    (coreRuns s k = true → (s.core k).delay = none → s.pwr.state = .run ∨ s.pwr.state = .idle →
      ((s.core k).haltSdp = true → haltsWith (exec (.coreHalt k) s) s k 1) ∧
      ((s.core k).haltSdp = false → (s.core k).haltReq = true → haltsWith (exec (.coreHalt k) s) s k 9)) ∧
    (∀ i, coreReady s k = true → bpHit (s.core k) = some i → haltsWith (exec (.breakpointHit k) s) s k (4 + i)) ∧
    (s.pwr.aonUp = true → s.dbg.session = true →
      ((s.core k).halted = false → exec (.sdpHalt k) s =
        .next { (s.modCore k (fun x => { x with haltSdp := true })) with
          dbg := { s.dbg with status := .done, data := 0 } }) ∧
      ((s.core k).halted = true → (s.core k).waiting = false →
        (∃ t, exec (.sdpResume k) s = .next t ∧ t.dbg = { s.dbg with status := .done, data := 0 } ∧
          t.core k = { s.core k with halted := false, reason := 0, frameHalt := false,
                                     bpSkip := (t.core k).bpSkip } ∧
          t.core (peer k) = s.core (peer k) ∧ t.bank = s.bank) ∧
        ∃ t, exec (.sdpStep k) s = .next t ∧
          t.core k = { s.core k with halted := false, reason := 0, frameHalt := false, stepReq := true, bpSkip := true } ∧
          ((s.core k).delay = none → coreReady t k = true →
            ∃ u, exec (.nop k .al) t = .next u ∧ (u.core k).halted = true ∧ (u.core k).reason = 2 ∧
              (u.core k).pc = (s.core k).pc + 1 ∧ (u.core k).w = (s.core k).w))) ∧
    ((s.core k).halted = true → (s.core k).frameHalt = true → s.dbg.session = false → s.pwr.coresUp = true →
      let r := carryDtc s ((s.core k).haltAt + 163680)
      ((s.core k).restarts.filter (fun t => decide (dtcNow r - t < 163680000))).length < 2 →
      ∃ t, exec (.coreRestart k) s = .next t ∧ t.time = r.time ∧ (t.core k).halted = false ∧ (t.core k).pc = 0 ∧ (t.core k).level = 7 ∧
        (t.core k).ie = false ∧ (t.core k).rsCount = 0 ∧ (t.core k).tag = Vector.replicate 4 .reset)

/-- O21. An address phase latches the word offset and the two qualifiers. A write of the lower word of HB_CLIENT takes
effect at once; a write of the lower word of paired SLU_NOTICE is only staged, and the upper-word write commits both
halves. A read of the lower word of a register without side effects returns its bits 15:0 and captures bits 31:16 in
the class's holding word, which a read of the upper word just after returns whatever the register shows by then;
without it the live bits come. A data phase at an offset without a register receives an error response: cause
UNMAPPED, nothing written or 0 read, HB_ERR keeps the first, HB_IRQ.err is set. Each phase moves the cycle to the next
offset; nothing else changes. With CORE up, a read of the lower word of each of these registers returns bits 15:0 as
they stood, captures bits 31:16 in the holding word, and then performs the read's side effect: HB_ERR's cause,
direction, count and offset of the reading class clear; the four Sluice loss counters clear; the oldest BNK_LOG entry
and ovf go; shed_cnt and gap_ep clear; clip_cnt clears; the lost-edge counts of both timemarks clear. Nothing else
changes. (spec rules R194, R195, R201, R202, R203, R204, R206, R223, R65, R190) -/
def Obligations.HostBusCycle : Prop :=
  (∀ (s : State) (sec wr : Bool) (off d : Word) (n : Nat),
    (busOn s = true → quiet s = true → exec (.busAddressPhase off wr sec) s =
      .next { s with bus := { s.bus with cyc := some ⟨off, wr, sec⟩, herr := false, held := false } }) ∧
    (writing s 0x0C sec = true → exec (.registerWrite d) s = .next ((phaseDone s sec 0x0D).modCls (hostOf sec)
      (fun b => { b with client := BitVec.ofNat 10 d.toNat }))) ∧
    (writing s 0x18 sec = true → s.pwr.coreUp = true → exec (.registerWrite d) s =
      .next ((phaseDone s sec 0x19).modCls (hostOf sec) (fun b => { b with stage := mput b.stage 12 d }))) ∧
    (∀ lo, writing s 0x19 sec = true → s.pwr.coreUp = true → mget (s.cls (hostOf sec)).stage 12 = some lo →
      exec (.registerWrite d) s = .next ((phaseDone s sec 0x1A).modCls (hostOf sec) (fun b =>
        { b with stage := mdel b.stage 12, nKind := BitVec.ofNat 2 lo.toNat,
                 nOff := BitVec.ofNat 14 ((lo.toNat + 65536 * d.toNat) / 32768), nBank := BitVec.ofNat 3 (d.toNat / 8192) }))) ∧
    (plainReg n = true → regAccess s (hostOf sec) n false = none →
      (reading s (BitVec.ofNat 16 (2 * n)) sec = true → exec .registerRead s =
        .next (lowerRead s sec n (regView s (hostOf sec) n) (BitVec.ofNat 16 (2 * n + 1)))) ∧
      (reading s (BitVec.ofNat 16 (2 * n + 1)) sec = true →
        (∀ v, (s.cls (hostOf sec)).hold = some (n, v) → exec .registerRead s =
          .next (upperRead s sec v (BitVec.ofNat 16 (2 * n + 2)))) ∧
        ((s.cls (hostOf sec)).hold = none → exec .registerRead s =
          .next (upperRead s sec (hiHalf (regView s (hostOf sec) n)) (BitVec.ofNat 16 (2 * n + 2)))))) ∧
    (88 ≤ off.toNat →
      (writing s off sec = true → exec (.registerWrite d) s = .next (phaseFailed s sec 1 off (off + 1))) ∧
      (reading s off sec = true → exec .registerRead s = .next (readFailed s sec 1 off (off + 1))))) ∧
  (∀ row ∈ clearingReads, ∀ (s : State) (sec : Bool), s.pwr.coreUp = true →
    reading s (BitVec.ofNat 16 (2 * row.2.1)) sec = true →
    exec row.1 s = .next (lowerRead (row.2.2 sec s) sec row.2.1 (regView s (hostOf sec) row.2.1)
      (BitVec.ofNat 16 (2 * row.2.1 + 1))))

/-- O22. A read of the lower word of SYS_DTC_LO returns DTC bits 15:0 (31:16 in the holding word), takes SYS_DTC_HI
and SYS_TIMEQ into the class's latch and arms it; while it is armed that class reads the latched values, and otherwise
the live ones (SYS_TIMEQ at its reset value until the cores are up, R228). A read of the upper word of SYS_TIMEQ disarms it. TIME_LATCH_EXPIRY of an armed latch disarms it, 1 ms
of DTC time (16,368 counts) after it was taken; with the latch disarmed it changes nothing. (spec rules R17) -/
def Obligations.TimeLatch : Prop :=
  let timeq (s : State) : BitVec 32 := if s.pwr.coresUp then timeqLive s else 0x000FFFF0
  (∀ (s : State) (sec : Bool), s.pwr.coreUp = true → reading s 0x04 sec = true →
    exec .dtcLatchRead s = .next (lowerRead (s.modCls (hostOf sec) (fun b =>
      { b with latch := ⟨true, dtcNow s, dtcHiLive s, timeq s⟩ })) sec 2 (s.time.dtc.setWidth 32) 0x05)) ∧
  (∀ (s : State) (c : Cls),
    ((s.cls c).latch.armed = true →
      regView s c 3 = (s.cls c).latch.hi ∧ regView s c 4 = (s.cls c).latch.timeq ∧
      ∃ t, exec (.timeLatchExpiry c) s = .next t ∧ (t.cls c).latch = { (s.cls c).latch with armed := false } ∧
        (s.time.running = true → dtcNow s ≤ (s.cls c).latch.takenAt + 16368 →
          dtcNow t = (s.cls c).latch.takenAt + 16368) ∧ t.bank = s.bank ∧ t.params = s.params ∧
        t.core .trk = s.core .trk ∧ t.core .svc = s.core .svc) ∧
    ((s.cls c).latch.armed = false → regView s c 3 = dtcHiLive s ∧ regView s c 4 = timeq s ∧
      exec (.timeLatchExpiry c) s = .next s)) ∧
  ∀ (s : State) (sec : Bool), s.pwr.coreUp = true → reading s 0x09 sec = true →
    ∃ t, exec .registerRead s = .next t ∧ (t.cls (hostOf sec)).latch.armed = false

/-- O23. A write of HB_PDATA's upper word commits the staged lower word with it: read-only parameters ignore it; a
value outside the width or range is refused with RANGE, a key without a parameter with NO_INDEX, one awaiting an epoch
commit with PENDING, one against a rule with RULE; with a transaction of the class open an accepted value of an RWX
parameter goes into the shadow and the live value stays; otherwise it becomes live: that parameter reads it and every
other parameter of the page map reads as before, up to consequences of its own (Machine.paramHook). A read of the
upper word returns the value's upper half. With auto_inc the index advances after every upper-word data phase,
wrapping within the page, also after an error response. (spec rules R211) -/
def Obligations.ParameterWindow : Prop :=
  (∀ (s : State) (sec : Bool) (key : Nat) (lo d : Word) (r : PRow) (x : Int), writesParam s sec key lo = true →
    key ≠ pNtcMsrRd → key ≠ pNtcEvtRd → key ≠ pNtcMailBank → key ≠ pNtcMsrBank → key ≠ pNtcEvtBank → key ≠ pSysBoot →
    (paramAccess s (hostOf sec) key = none → paramRow key = some r → keyPending s key = false →
      (r.acc = .ro → exec (.parameterWrite d) s = .next (paramPhase s sec)) ∧
      (r.acc ≠ .ro → paramDecode key r (ofHalves d lo) = none → exec (.parameterWrite d) s = .next (paramRefused s sec 6)) ∧
      (r.acc = .rwx → paramDecode key r (ofHalves d lo) = some x → (txnOf s (hostOf sec)).isOpen = true →
        (txnOf s (hostOf sec)).shadow.length < 64 → key ≠ pPwrWakeEn →
        exec (.parameterWrite d) s = .next ((paramPhase s sec).modCls (hostOf sec) (fun b => { b with
          txn := { b.txn with
            shadow := mput b.txn.shadow key x, items := (mput b.txn.shadow key x).length,
            pages := setBit b.txn.pages (key / 256) true } }))) ∧
      (r.acc ≠ .ro → r.acc ≠ .w1c → paramDecode key r (ofHalves d lo) = some x → (txnOf s (hostOf sec)).isOpen = false →
        key ≠ pPwrWakeEn →
        (ruleOk s (fun k => if k = key then x else s.par k) key = true →
          exec (.parameterWrite d) s = .next (paramHook (markDirty ((paramPhase s sec).setPar key x) key) key (s.par key))) ∧
        (ruleOk s (fun k => if k = key then x else s.par k) key = false →
          exec (.parameterWrite d) s = .next (paramRefused s sec 8)))) ∧
    (paramAccess s (hostOf sec) key = some .noIndex → exec (.parameterWrite d) s = .next (paramRefused s sec 4)) ∧
    (paramAccess s (hostOf sec) key = none → paramRow key = some r → r.acc ≠ .ro → keyPending s key = true →
      exec (.parameterWrite d) s = .next (paramRefused s sec 5))) ∧
  (∀ (s : State) (key j : Nat) (x : Int), (s.setPar key x).par key = x ∧
    (j ≠ key → (s.setPar key x).par j = s.par j)) ∧
  ∀ (s : State) (sec : Bool) (v : BitVec 32), reading s 0x11 sec = true → (s.cls (hostOf sec)).hold = none →
    paramRead s (hostOf sec) (selKey (s.cls (hostOf sec))) = (v, none) →
    exec .parameterRead s = .next ((upperRead s sec (hiHalf v) 0x10).modCls (hostOf sec)
      (fun b => { b with pindex := if b.pinc then b.pindex + 1 else b.pindex }))

/-- O24. A write of ntc.msr_rd or ntc.evt_rd is taken when the fill it leaves is at most 64 or 1,024, and refused with
RULE otherwise. A write of ntc.mail_bank, ntc.msr_bank or ntc.evt_bank is refused with RULE unless it names a present
HOST-owned bank that neither other names (a ring, not the mail area, may also be set to 8: none); placing a ring
restarts both its indices at 0 and ends its suspension. A write of 0 to sys.boot while the cores are held releases
both: each is at vector 0 with level 7 and IE 0, unless stopped. (spec rules R254, R255, R474, R205) -/
def Obligations.RingPlacementAndBoot : Prop :=
  (∀ (s : State) (sec : Bool) (lo d : Word) (v : Nat), s.pwr.coreUp = true →
    (txnOf s (hostOf sec)).isOpen = false → (lo.toNat + 65536 * d.toNat = v) →
    (writesParam s sec pNtcMsrRd lo = true → keyPending s pNtcMsrRd = false → v < 128 →
      ((s.parN pNtcMsrWr + 128 - v) % 128 ≤ 64 → ∃ t, exec (.ringReadIndexWrite d) s = .next t ∧ t.par pNtcMsrRd = v ∧
        t.bus.herr = false) ∧
      (64 < (s.parN pNtcMsrWr + 128 - v) % 128 → exec (.ringReadIndexWrite d) s = .next (paramRefused s sec 8))) ∧
    (writesParam s sec pNtcEvtRd lo = true → keyPending s pNtcEvtRd = false → v < 2048 →
      ((s.parN pNtcEvtWr + 2048 - v) % 2048 ≤ 1024 → ∃ t, exec (.ringReadIndexWrite d) s = .next t ∧ t.par pNtcEvtRd = v ∧
        t.bus.herr = false) ∧
      (1024 < (s.parN pNtcEvtWr + 2048 - v) % 2048 → exec (.ringReadIndexWrite d) s = .next (paramRefused s sec 8))) ∧
    (writesParam s sec pNtcMsrBank lo = true → keyPending s pNtcMsrBank = false → v ≤ 8 →
      (v = 8 ∨ (hostBank s v = true ∧ s.par pNtcMailBank ≠ v ∧ s.par pNtcEvtBank ≠ v) →
        ∃ t, exec (.ringPlace d) s = .next t ∧ t.par pNtcMsrBank = v ∧ t.par pNtcMsrRd = 0 ∧ t.par pNtcMsrWr = 0 ∧
          t.slu.msrSusp = false ∧ t.bus.herr = false) ∧
      (v ≠ 8 → hostBank s v = false ∨ s.par pNtcMailBank = v ∨ s.par pNtcEvtBank = v →
        exec (.ringPlace d) s = .next (paramRefused s sec 8))) ∧
    (writesParam s sec pNtcMailBank lo = true → keyPending s pNtcMailBank = false → v ≤ 7 →
      (hostBank s v = true → s.par pNtcMsrBank ≠ v → s.par pNtcEvtBank ≠ v →
        ∃ t, exec (.ringPlace d) s = .next t ∧ t.par pNtcMailBank = v ∧ t.bus.herr = false) ∧
      (hostBank s v = false → exec (.ringPlace d) s = .next (paramRefused s sec 8)))) ∧
  ∀ (s : State) (sec : Bool), writesParam s sec pSysBoot 0 = true → (txnOf s (hostOf sec)).isOpen = false →
    keyPending s pSysBoot = false → s.pwr.coresUp = true → s.trk.held = true → s.svc.held = true →
    ∃ t, exec (.sysBootRelease 0) s = .next t ∧ t.par pSysBoot = 0 ∧ ∀ k, (s.core k).stopped = false →
      (t.core k).held = false ∧ (t.core k).pc = 0 ∧ (t.core k).level = 7 ∧ (t.core k).ie = false ∧ (t.core k).rsCount = 0

/-- O25. With CORE up: BEGIN opens an empty transaction when the class has none open or pending, and is otherwise
refused with TXN. COMMIT of an open transaction closes it: with result CONFLICT when a shadowed item was written live
since, with RULE when a rule fails on the values that would result, else with APPLIED and every shadowed value live,
or, with at_epoch 1, it stays pending with nothing live yet. ROLLBACK discards the shadow with result ROLLED_BACK.
COMMIT and ROLLBACK without an open transaction are refused with TXN and change nothing. After APPLIED every shadowed
parameter without consequences reads its shadowed value. (spec rules R217, R218) -/
def Obligations.Transactions : Prop :=
  ∀ (s : State) (sec : Bool) (d : Word), writing s 0x16 sec = true → s.pwr.coreUp = true → d.getLsbD 5 = false →
    let t := txnOf s (hostOf sec)
    let put (u : TxnSt) : Host.Outcome State Fault Refusal :=
      .next ((phaseDone s sec 0x17).modCls (hostOf sec) (fun b => { b with txn := u }))
    let closed (r : Nat) : TxnSt := { t with isOpen := false, shadow := [], dirty := false, result := r }
    (d.toNat % 4 = 1 → (t.isOpen = false → t.pend = false →
        exec (.txnBegin d) s = put { t with isOpen := true, shadow := [], items := 0, pages := 0, dirty := false, result := 0 }) ∧
      (t.isOpen = true ∨ t.pend = true → exec (.txnBegin d) s = .next (phaseFailed s sec 9 0x16 0x17))) ∧
    (d.toNat % 4 = 2 →
      (t.isOpen = true → t.dirty = true → exec (.txnCommit d) s = put (closed 2)) ∧
      (t.isOpen = true → t.dirty = false → commitOk s t.shadow = false → exec (.txnCommit d) s = put (closed 3)) ∧
      (t.isOpen = true → t.dirty = false → commitOk s t.shadow = true → d.getLsbD 2 = true →
        exec (.txnCommit d) s = put { t with isOpen := false, pend := true }) ∧
      (t.isOpen = true → t.dirty = false → commitOk s t.shadow = true → d.getLsbD 2 = false →
        exec (.txnCommit d) s = .next (paramsLive ((phaseDone s sec 0x17).modCls (hostOf sec)
          (fun b => { b with txn := closed 1 })) t.shadow)) ∧
      (t.isOpen = false → exec (.txnCommit d) s = .next (phaseFailed s sec 9 0x16 0x17))) ∧
    (d.toNat % 4 = 3 →
      (t.isOpen = true → exec (.txnRollback d) s = put (closed 4)) ∧
      (t.isOpen = false → exec (.txnRollback d) s = .next (phaseFailed s sec 9 0x16 0x17))) ∧
    ∀ (key : Nat) (x : Int), (∀ u v, paramHook u key v = u) → (paramsLive s [(key, x)]).par key = x ∧
      ∀ j, j ≠ key → (paramsLive s [(key, x)]).par j = s.par j

/-- O26. A secure host's write of PRG_DATA stores the word in program RAM while the addressed core is stopped; a running
core is refused with PRG_BUSY, else an address in ROM with ROM; a read returns the word. A write of BNK_WDATA
stores a whole word with good check bits in a bank that HOST owns, is present and not cleared, waking or draining, and
is otherwise refused with NOT_OWNER; a read of a sound word returns it. With auto_inc the address advances, wrapping,
after each data phase, also a refused one; the next data phase is at the same word. (spec rules R213, R214, R195,
R278, R291, R294, R304) -/
def Obligations.ProgramAndBankWindows : Prop :=
  ∀ (s : State) (d : Word), s.pwr.coreUp = true →
    let k : CoreId := if s.cp.pCore then .svc else .trk
    let prg (u : State) : State := { u with cp := { u.cp with pAddr := if s.cp.pInc then s.cp.pAddr + 1 else s.cp.pAddr } }
    let bnk (u : State) : State :=
      { u with bank := { u.bank with wAddr := if s.bank.wInc then s.bank.wAddr + 1 else s.bank.wAddr } }
    let b := s.bank.wBank.toNat
    let i := s.bank.wAddr.toNat
    (writing s 0x56 true = true →
      (prgStopped s k = true → 0x2000 ≤ s.cp.pAddr.toNat →
        exec (.programWindowWrite d) s = .next (prg (putProg (phaseDone s true 0x56) k s.cp.pAddr (BitVec.ofNat 14 d.toNat)))) ∧
      (prgStopped s k = true → s.cp.pAddr.toNat < 0x2000 →
        exec (.programWindowWrite d) s = .next (prg (phaseFailed s true 13 0x56 0x56))) ∧
      (prgStopped s k = false →
        exec (.programWindowWrite d) s = .next (prg (phaseFailed s true 12 0x56 0x56)))) ∧
    (reading s 0x56 true = true → exec .programWindowRead s =
      .next (prg (lowerRead s true 43 ((progWord s k s.cp.pAddr).setWidth 32) 0x56))) ∧
    (∀ sec, writing s 0x26 sec = true → s.bank.clearing.getLsbD b = false → s.bank.wakeWait.getLsbD b = false →
      s.bank.drain.getLsbD b = false →
      (hostBank s b = true → exec (.bankWindowWrite d) s = .next (bnk (putWord (phaseDone s sec 0x26) b i d))) ∧
      (hostBank s b = false → exec (.bankWindowWrite d) s = .next (bnk (phaseFailed s sec 10 0x26 0x26)))) ∧
    (∀ sec, reading s 0x26 sec = true → s.bank.clearing.getLsbD b = false → s.bank.wakeWait.getLsbD b = false →
      s.bank.drain.getLsbD b = false → (sec = true ∨ ownerOf s b = .host) → bankOut s b = false → sound s b i = true →
      exec (.bankWindowRead none) s = .next (bnk (lowerRead s sec 19 ((bankWord s b i).setWidth 32) 0x26))) ∧
    ∀ (k' : CoreId) (a a' : BitVec 14) (v : BitVec 14), 0x2000 ≤ a.toNat →
      progWord (putProg s k a v) k a = v ∧ ((k', a') ≠ (k, a) → progWord (putProg s k a v) k' a' = progWord s k' a')

/-- O27. A secure host's write of BNK_OWNER whose changed fields are all permitted by R279 gives every bank the owner
written; memory and check bits stay, and an unchanged field keeps its drain bit; only taking B2 from the Crystallizer reaches
the search and the cores' DWELL tags. A changed field that is not permitted
refuses the whole write with RULE, a field above 4 with RANGE, and any write by a non-secure host is refused with
SECURE; no field changes then, and the staged lower word stays. HANDOVER_DRAIN_END clears the bank's drain bit and nothing else. (spec rules R279,
R281, R282, R201, R205) -/
def Obligations.BankOwnership : Prop :=
  (∀ (s : State) (v : BitVec 32), writesOwner s true v = true →
    ((∀ b, b < 8 → ownField v b ≤ 4) →
      ((∀ b, b < 8 → ownField v b = ownCode (ownerOf s b) ∨ secureMayGive s b (ownField v b) = true) →
        ∃ t, exec (.bnkOwnerWrite (hiHalf v)) s = .next t ∧ t.bus.herr = false ∧
          (∀ b, b < 8 → ownCode (ownerOf t b) = ownField v b) ∧
          (∀ b, b < 8 → ownField v b = ownCode (ownerOf s b) → t.bank.drain.getLsbD b = s.bank.drain.getLsbD b) ∧
          t.bank.mem = s.bank.mem ∧ t.bank.errs = s.bank.errs ∧
          onlyIn [.bus, .sec, .bank, .slu, .acq, .trk, .svc] s t = true ∧
          (ownField v 2 = ownCode (ownerOf s 2) → onlyIn [.bus, .sec, .bank, .slu] s t = true)) ∧
      ((∃ b, b < 8 ∧ ownField v b ≠ ownCode (ownerOf s b) ∧ secureMayGive s b (ownField v b) = false) →
        exec (.bnkOwnerWrite (hiHalf v)) s = .next (phaseFailed s true 8 0x21 0x22))) ∧
    ((∃ b, b < 8 ∧ 5 ≤ ownField v b) →
      exec (.bnkOwnerWrite (hiHalf v)) s = .next (phaseFailed s true 6 0x21 0x22))) ∧
  (∀ (s : State) (d : Word), writing s 0x21 false = true →
    exec (.bnkOwnerWrite d) s = .next (phaseFailed s false 2 0x21 0x22)) ∧
  ∀ (s : State) (b : Fin 8), exec (.handoverDrainEnd b) s =
    .next { s with bank := { s.bank with drain := s.bank.drain &&& ~~~(BitVec.twoPow 8 b.val) } }

/-- O28. Each check moves Rake to the next word, and from 0x3FFF to 0 with a pass counted. Words that are sound or
already poisoned change nothing. A single-bit error is corrected and counted in sys.rake_corr. An uncorrectable word
of one bank is marked poisoned with its data left as found, counted in sys.rake_poison, logged unless the log holds 8
entries (ovf is then set), and told to the bank's owner: the poison bit of TRK or SVC, or a notice for HOST; the 16th
poisoned word withdraws the bank. Beyond sys.rake_rate words in a millisecond, and with CORE down, nothing happens. BANK_CLEAR_END ends the clearing
of its bank, RETAINED_BANK_READY the wait of the retained banks. (spec rules R287, R288, R289, R290, R294, R296, R297)
-/
def Obligations.RakeAndBankStart : Prop :=
  (∀ (s : State), rakes s = true →
    ((∀ b, b < 8 → rakeQuiet s b = true) → exec (.rakeCheck noUpsets) s = .next (raked s)) ∧
    ∀ b, b < 8 → (∀ j, j < 8 → j ≠ b → rakeQuiet s j = true) → bankOut s b = false →
      s.bank.clearing.getLsbD b = false → s.bank.wakeWait.getLsbD b = false →
      (bankErr s b s.bank.rakeAt.toNat = some .single → exec (.rakeCheck noUpsets) s =
        .next (raked { (s.bumpPar pSysRakeCorr) with
          bank := { s.bank with errs := mdel s.bank.errs (16384 * b + s.bank.rakeAt.toNat) } })) ∧
      (bankErr s b s.bank.rakeAt.toNat = some .double → s.bank.poisonN.getD b 0 < 15 →
        (coreRuns s .trk = true → coreRuns s .svc = true → s.bank.rakeAt.toNat < 0x3000 → ownerOf s b = .host →
          ∃ t, exec (.rakeCheck noUpsets) s = .next t ∧ bankErr t b s.bank.rakeAt.toNat = some .poison ∧
            t.bank.rakeAt = s.bank.rakeAt + 1 ∧ t.par pSysRakePoison = (s.bumpPar pSysRakePoison).par pSysRakePoison ∧
            (s.bank.log.length < 8 → t.bank.log = s.bank.log ++ [(b, s.bank.rakeAt.toNat)] ∧ t.bank.logOvf = s.bank.logOvf) ∧
            (8 ≤ s.bank.log.length → t.bank.log = s.bank.log ∧ t.bank.logOvf = true) ∧
            (s.pwr.coreUp = true → s.slu.ntc.length < 496 → mailOk s = true →
              t.slu.ntc.length = s.slu.ntc.length + 1) ∧
            (∀ j w, j < 8 → w < 0x3000 → bankWord t j w = bankWord s j w) ∧
            onlyIn [.bank, .params, .slu] s t = true) ∧
        (ownerOf s b ≠ .host → coreRuns s (if ownerOf s b = .trk then .trk else .svc) = false →
          ∃ t, exec (.rakeCheck noUpsets) s = .next t ∧ bankErr t b s.bank.rakeAt.toNat = some .poison ∧
            (t.core (if ownerOf s b = .trk then .trk else .svc)).ipPoison = true ∧ t.bank.mem = s.bank.mem ∧
            onlyIn [.bank, .params, if ownerOf s b = .trk then .trk else .svc] s t = true)) ∧
      (bankErr s b s.bank.rakeAt.toNat = some .double → s.bank.poisonN.getD b 0 = 15 →
        ∃ t, exec (.rakeCheck noUpsets) s = .next t ∧ bankOut t b = true)) ∧
  (∀ (s : State) (u : List (Option Upset)), rakes s = false → exec (.rakeCheck u) s = .next s) ∧
  ∀ (s : State), (∀ b : Fin 8, exec (.bankClearEnd b) s =
      .next { s with bank := { s.bank with clearing := s.bank.clearing &&& ~~~(BitVec.twoPow 8 b.val) } }) ∧
    (s.pwr.coreUp = true → exec .retainedBankReady s = .next { s with bank := { s.bank with wakeWait := 0 } })

/-- O29. For every legal calendar: with halt 0 a second tick advances the time that sec, min, hour, day, month and
year show by exactly one second modulo the 36,525 days of 2000-2099 and leaves a legal calendar; wday advances at
midnight only, from 7 to 1; each enabled alarm whose unmasked fields agree with the calendar after the tick has its
flag set, and nothing else of the RTC changes but the prescaler, at 0 from then. Without an alarm event nothing outside the RTC
changes; outside OFF, an alarm event that no power state takes as a wake source leaves the rest unchanged too. With
halt 1 nothing changes. (spec rules R410, R415, R417, R238) -/
def Obligations.RtcSecondTick : Prop :=
  ∀ (s : State), (s.rtc.halt = true → exec .rtcSecondTick s = .next s) ∧
    (s.rtc.halt = false → calendarOk s.rtc = true → ∃ t, exec .rtcSecondTick s = .next t ∧ calendarOk t.rtc = true ∧
      calendarSeconds t.rtc = (calendarSeconds s.rtc + 1) % century ∧
      t.rtc.wday.toNat = (if (calendarSeconds s.rtc + 1) % 86400 = 0 then s.rtc.wday.toNat % 7 + 1 else s.rtc.wday.toNat) ∧
      t.rtc.alm0 = alarmAfter s.rtc.alm0 t.rtc ∧ t.rtc.alm1 = alarmAfter s.rtc.alm1 t.rtc ∧
      t.rtc = { t.rtc with prescAt := some (dtcNow s), halt := false, stamp := s.rtc.stamp, onVbak := s.rtc.onVbak, r34 := s.rtc.r34 } ∧
      ((t.rtc.alm0.getLsbD 31 = s.rtc.alm0.getLsbD 31 ∧ t.rtc.alm1.getLsbD 31 = s.rtc.alm1.getLsbD 31) ∨
          (s.pwr.state = .run ∧ s.pwr.attempt = false ∧ (s.trk.waiting && s.svc.waiting) = false) →
        onlyIn [.rtc] s t = true))

/-- O30. A write of 1 to halt stops the calendar with the prescaler at 0, and a write of 0 resumes it; a write that
does not change halt changes nothing of the RTC. While halt reads 1, each half-word write of RTC_TIME or RTC_DATE
takes effect on its own if the register as it would stand is BCD, in range and, for the date, a day that its month
has; otherwise, and while halt reads 0, it is refused with cause RULE and the register keeps its value. A write of 1
to RTC_SWSTAMP.valid clears the stamp. With GNSS-COARSE or GNSS-FINE, UTC known, the DTC running, SVC running and halt
0, a calendar load, not before an hour after the last point but at entry into GNSS-FINE, leaves a legal calendar that shows a
UTC second (seconds since 1 January 2000, modulo 100 years) with the prescaler at 0, wday, halt, alarms and stamp unchanged,
and nothing else but time; with halt 1 the load is skipped until the next point.
VBAK_SWITCH_OVER stores sec, min, hour and day with valid set when the stamp is armed, and keeps the stamp otherwise;
the calendar and halt do not change. The switch back is not stamped. BAK_RESET with no AON supply gives BAK its reset
values. (spec rules R411, R412, R413, R408, R416, R417, R201, R238, R228) -/
def Obligations.RtcRegistersAndSupply : Prop :=
  (∀ (s : State) (sec : Bool) (d : Word),
    let f (lo n : Nat) : Nat := d.toNat / 2 ^ lo % 2 ^ n
    let put (off next : Word) (ok : Bool) (r : RtcSt) : Prop := writing s off sec = true → calendarOk s.rtc = true →
      exec (.rtcCalendarWrite d) s = .next (if s.rtc.halt && ok then { (phaseDone s sec next) with rtc := r }
        else phaseFailed s sec 8 off next)
    (writing s 0x40 sec = true → d.getLsbD 0 = true → exec (.rtcHaltSet d) s =
      .next { (phaseDone s sec 0x41) with rtc := if s.rtc.halt then s.rtc else { s.rtc with halt := true, prescAt := some (dtcNow s) } }) ∧
    (writing s 0x40 sec = true → d.getLsbD 0 = false → exec (.rtcHaltClear d) s =
      .next { (phaseDone s sec 0x41) with rtc := if s.rtc.halt then { s.rtc with halt := false, prescAt := some (dtcNow s) } else s.rtc }) ∧
    put 0x42 0x43 (bcdOk (f 0 7) 0 59 && bcdOk (f 8 7) 0 59)
      { s.rtc with sec := BitVec.ofNat 7 (f 0 7), min := BitVec.ofNat 7 (f 8 7), r34 := false } ∧
    put 0x43 0x44 (bcdOk (f 0 6) 0 23 && decide (1 ≤ f 8 3))
      { s.rtc with hour := BitVec.ofNat 6 (f 0 6), wday := BitVec.ofNat 3 (f 8 3), r34 := false } ∧
    put 0x44 0x45 (bcdOk (f 0 6) 1 31 && bcdOk (f 8 5) 1 12 &&
        decide (bcdVal (f 0 6) ≤ monthDays (bcdVal (f 8 5)) (bcdVal s.rtc.year.toNat)))
      { s.rtc with day := BitVec.ofNat 6 (f 0 6), month := BitVec.ofNat 5 (f 8 5), r34 := false } ∧
    put 0x45 0x46 (bcdOk (f 0 8) 0 99 &&
        decide (bcdVal s.rtc.day.toNat ≤ monthDays (bcdVal s.rtc.month.toNat) (bcdVal (f 0 8))))
      { s.rtc with year := BitVec.ofNat 8 (f 0 8), r34 := false } ∧
    (writing s 0x4A sec = true → d.getLsbD 7 = true → exec (.rtcSwstampRearm d) s =
      .next { (phaseDone s sec 0x4B) with rtc := { s.rtc with stamp := 0 } })) ∧
  (∀ (s : State),
    (tqGnss s.time.tq = true → s.time.utcValid = true → s.time.running = true → coreRuns s .svc = true →
      (∃ t, exec .calendarLoad s = .next t ∧ dtcNow s ≤ dtcNow t ∧
        (∀ d, s.time.calAt = some d → s.time.calDue = false → d + 3600 * 1047552000 ≤ elapsed t) ∧
        t.time.calAt = some (elapsed t) ∧ t.time.calDue = false ∧ onlyIn [.rtc, .time] s t = true ∧
        (s.rtc.halt = true → t.rtc = s.rtc)) ∧
      (s.rtc.halt = false → ∃ t, exec .calendarLoad s = .next t ∧ calendarOk t.rtc = true ∧
        (calendarSeconds t.rtc : Int) = (utcSec t - 7300 * 86400) % (century : Int) ∧
        t.rtc.prescAt = some (dtcNow t) ∧ t.rtc.r34 = true ∧
        t.rtc.wday = s.rtc.wday ∧ t.rtc.halt = false ∧ t.rtc.alm0 = s.rtc.alm0 ∧ t.rtc.alm1 = s.rtc.alm1 ∧
        t.rtc.stamp = s.rtc.stamp)) ∧
    (s.rtc.onVbak = false → exec .vbakSwitchOver s = .next { s with
      rtc := { s.rtc with
        onVbak := true
        stamp := if s.rtc.stamp.getLsbD 7 then s.rtc.stamp else BitVec.ofNat 32 (s.rtc.sec.toNat + 128 +
          256 * s.rtc.min.toNat + 65536 * s.rtc.hour.toNat + 16777216 * s.rtc.day.toNat) } }) ∧
    exec .vddinSwitchBack s = .next { s with rtc := { s.rtc with onVbak := false } } ∧
    (s.pwr.aonUp = false → s.pwr.state ≠ .off → exec .bakReset s = .next { s with rtc := .reset }))

/-- O31. LOAD copies the block in NVM to the cal page, with nominal values in words 0x02-0x19 when the check fails,
applies those of words 0x12-0x19 that are within the range to their parameters, live writes to every open transaction, and
sets valid and clears err, or clears valid and sets err. STORE is busy until CAL_STORE_END; then the cal page's words are in the block, the wear counter has advanced (it
stops at 16,383), and a LOAD has verified it: with format 0x0001 and words that read back as written the page is as it
was, valid reads 1 and err 0. A write of 1 to err with a STORE clears it. While busy, LOAD and STORE are refused with RULE; a non-secure host is
refused with SECURE. (spec rules R499, R500, R501, R240, R205) -/
def Obligations.CalibrationRegisters : Prop :=
  ∀ (s : State) (d : Word),
    (writing s 0x52 true = true → s.dbg.calBusy = false →
      (d.toNat % 4 = 1 → ∃ t, exec (.calLoad d) s = .next t ∧ t.bus = (phaseDone s true 0x53).bus ∧
        (∀ k, k < 64 → t.par (pCal k) = loadedWord s k) ∧
        (∀ i (h : i < 8) r, paramRow (calTargets[i]'h) = some r → r.lo ≤ loadedWord s (0x12 + i) → loadedWord s (0x12 + i) ≤ r.hi →
          t.par (calTargets[i]'h) = loadedWord s (0x12 + i)) ∧
        t.dbg.calValid = blockPasses s ∧ t.dbg.calErr = !(blockPasses s) ∧ t.dbg.nvm = s.dbg.nvm ∧
        onlyIn [.bus, .ns, .sec, .dbgc, .trkc, .svcc, .mirc, .params, .dbg] s t = true) ∧
      (d.toNat % 4 = 2 → calFits s = true → s.par (pCal 0) = 1 → ∃ t u, exec (.calStore d) s = .next t ∧
        t.dbg.calBusy = true ∧ t.dbg.calErr = (s.dbg.calErr && !d.getLsbD 3) ∧ onlyIn [.bus, .sec, .dbg] s t = true ∧
        exec (.calStoreEnd true) t = .next u ∧ u.dbg.calBusy = false ∧ u.dbg.calValid = true ∧ u.dbg.calErr = false ∧
        u.dbg.cycles = min 16383 (s.dbg.cycles + 1) ∧ (∀ k, k < 63 → u.par (pCal k) = s.par (pCal k)) ∧
        (∀ k, k < 63 → nvmWord u k = BitVec.ofInt 16 (s.par (pCal k))) ∧ blockPasses u = true ∧
        onlyIn [.bus, .ns, .sec, .dbgc, .trkc, .svcc, .mirc, .params, .dbg] s u = true)) ∧
    (writing s 0x52 true = true → s.dbg.calBusy = true →
      (d.toNat % 4 = 1 → exec (.calLoad d) s = .next (phaseFailed s true 8 0x52 0x53)) ∧
      (d.toNat % 4 = 2 → exec (.calStore d) s = .next (phaseFailed s true 8 0x52 0x53))) ∧
    (writing s 0x52 false = true →
      (d.toNat % 4 = 1 → exec (.calLoad d) s = .next (phaseFailed s false 2 0x52 0x53)) ∧
      (d.toNat % 4 = 2 → exec (.calStore d) s = .next (phaseFailed s false 2 0x52 0x53)))

/-- O32. By a host class with CORE up. A ring of a plain channel stores the notice with class and client stamped (res
1) and the time of the ring; it is refused with res 4 when the receiver is none or a held core, with 2 when the channel is full, with 0 for
kind 3 or a secure channel named by non-secure. A ring of channel 31 or 63 joins CMD, up to 256 notices. A take by the
receiver moves the channel's notice to SLU_NOTICE, empties the channel and raises the sender's empty event unless
READ-CLEAR; it is refused with res 3 when empty and 0 when not the receiver. A take of the selected NTC port removes
the oldest NTC notice. CHANNEL_TIMEOUT of a full channel with a timeout, chN_tmo microseconds after its ring, sets its
sender's flag once; the channel of the CP3 operation in service has none. (spec rules R242,
R243, R244, R245, R246, R247, R249, R252) -/
def Obligations.Doorbells : Prop :=
  ∀ (s : State) (sec : Bool) (d : Word), s.pwr.coreUp = true →
    let ch := d.toNat % 64
    let n := hostNotice s sec
    let c := hostOf sec
    (writing s 0x1A sec = true → d.getLsbD 11 = false →
      (d.getLsbD 6 = true → d.getLsbD 7 = false →
        (n.kind = 3 ∨ (sec = false ∧ 32 ≤ ch) ∨ ch = 30 ∨ ch = 62 → exec (.doorbellRing d) s = .next (dbRefused s sec 0)) ∧
        (n.kind ≠ 3 → (sec = true ∨ ch < 32) → plainChan s ch = true →
          (rcvDown s ch = true → exec (.doorbellRing d) s = .next (dbRefused s sec 4)) ∧
          (rcvDown s ch = false → (mget s.slu.chans ch).isSome → exec (.doorbellRing d) s = .next (dbRefused s sec 2)) ∧
          (rcvDown s ch = false → mget s.slu.chans ch = none → exec (.doorbellRing d) s =
            .next { (dbDone s sec ch) with slu := { s.slu with chans := mput s.slu.chans ch ⟨n, n.cls, false, dtcNow s⟩ } })) ∧
        (n.kind ≠ 3 → ch = 31 ∨ (sec = true ∧ ch = 63) →
          (s.slu.cmd.length < 256 → exec (.doorbellRing d) s =
            .next { (dbDone s sec ch) with slu := { s.slu with cmd := s.slu.cmd ++ [n] } }) ∧
          (256 ≤ s.slu.cmd.length → exec (.doorbellRing d) s =
            .next { (dbRefused s sec 2) with
              slu := { s.slu with cmdRef := if s.slu.cmdRef = 255 then 255 else s.slu.cmdRef + 1 } }))) ∧
      (d.getLsbD 6 = false → d.getLsbD 7 = true →
        (plainChan s ch = true → rcvOf s ch ≠ 0 ∨ (sec = false ∧ 32 ≤ ch) →
          exec (.doorbellTake d) s = .next (dbRefused s sec 0)) ∧
        (plainChan s ch = true → rcvOf s ch = 0 → sec = true ∨ ch < 32 →
          (mget s.slu.chans ch = none → exec (.doorbellTake d) s = .next (dbRefused s sec 3)) ∧
          (∀ x, mget s.slu.chans ch = some x →
            let t := noticeTaken { (dbDone s sec ch) with slu := { s.slu with chans := mdel s.slu.chans ch } } c x.notice
            exec (.doorbellTake d) s = .next (if s.parBit (pChCfg ch) 2 then t else emptied t ch x.sender.toNat))) ∧
        ((ch = 30 ∧ s.parB pNtcNtcSec = false) ∨ (ch = 62 ∧ sec = true ∧ s.parB pNtcNtcSec = true) →
          (s.slu.ntc = [] → exec (.doorbellTake d) s = .next (dbRefused s sec 3)) ∧
          (∀ x xs, s.slu.ntc = x :: xs → s.par pNtcCoalPend = 0 → exec (.doorbellTake d) s =
            .next (noticeTaken { (dbDone s sec ch) with
              slu := { s.slu with ntc := xs, ntcHead := (s.slu.ntcHead + 1) % 512 } } c x))))) ∧
    ∀ (k : Fin 64) (x : ChanSt), mget s.slu.chans k.val = some x →
      (x.timed = true ∨ s.par (pChTmo k.val) = 0 → exec (.channelTimeout k) s = .next s) ∧
      (x.timed = false → s.par (pChTmo k.val) ≠ 0 → s.time.running = true → s.cp.serving = none ∨ k.val ≠ s.cp.chan →
        let t : State := { carryDtc s (x.rungAt + (s.parN (pChTmo k.val) * 16368 + 999) / 1000) with slu := { s.slu with chans := mput s.slu.chans k.val { x with timed := true } } }
        exec (.channelTimeout k) s = .next (match x.sender.toNat with
          | 0 => { t with ns := { s.ns with dbTmo := true } }
          | 1 => { t with sec := { s.sec with dbTmo := true } }
          | 2 => { t with trk := { s.trk with tmos := s.trk.tmos ||| BitVec.twoPow 64 k.val } }
          | 3 => { t with svc := { s.svc with tmos := s.svc.tmos ||| BitVec.twoPow 64 k.val } }
          | _ => t))

/-- O33. DBG_CTRL (secure host, CORE up) asks a core that runs to halt, and resumes a halted core where it stood. A
break or D_SESS detach ends the session and clears the breakpoints; after it the key 0x6D4A attaches and sets sdp_seen
while CORE is up, any other word ends the wait. Outside a session a frame is ignored; a frame with a bad CRC gets no
status and records cause 6. Frames of spaces 0 (D_ID, D_ERR with its clearing), 1 (bank words), 2, 3, 4, 5 and 6 (a
halted core's W registers) read and write what they address, are answered RETRY while a bank is busy, and ERROR with
CORE_DOWN, PRG_BUSY, ROM or UNMAPPED. (spec rules R240, R486, R488, R489, R490, R491, R493, R494, R495) -/
def Obligations.DebugRegistersAndPort : Prop :=
  (∀ (s : State) (d : Word), writing s 0x50 true = true → s.pwr.coreUp = true → d.getLsbD 7 = false →
    let ask (b : Bool) (x : Core) : Core := { x with haltReq := x.haltReq || (b && !x.halted) }
    (d.toNat % 4 ≠ 0 → d.toNat / 4 % 4 = 0 → exec (.dbgHaltRequest d) s =
      .next { (phaseDone s true 0x51) with trk := ask (d.getLsbD 0) s.trk, svc := ask (d.getLsbD 1) s.svc }) ∧
    (d.toNat % 4 = 0 → d.toNat / 4 % 4 ≠ 0 → ∃ t, exec (.dbgResumeRequest d) s = .next t ∧
      ∀ k, if d.getLsbD (2 + coreNum k) && (s.core k).halted then
          t.core k = { s.core k with halted := false, reason := 0, frameHalt := false, waiting := false,
                                     bpSkip := (t.core k).bpSkip, req := (t.core k).req, ipPower := (t.core k).ipPower }
        else (t.core k).halted = (s.core k).halted ∧ (t.core k).pc = (s.core k).pc ∧ (t.core k).w = (s.core k).w)) ∧
  ∀ (s : State), s.pwr.aonUp = true →
    let ended : State := { (s.modCores (fun c => { c with bp := Vector.replicate 4 ⟨0, false⟩ })) with
                             dbg := { s.dbg with session := false, afterBreak := true } }
    exec .sdpBreak s = .next ended ∧
    (s.dbg.afterBreak = true →
      exec (.sdpSessionAttach 0x6D4A) s = .next { s with
        dbg := { s.dbg with session := true, afterBreak := false, seen := s.dbg.seen || s.pwr.coreUp } } ∧
      ∀ w, w ≠ 0x6D4A → exec (.sdpSessionAttach w) s = .next { s with dbg := { s.dbg with afterBreak := false } }) ∧
    (s.dbg.session = false → ∀ sp a v c, exec (.sdpReadFrame sp a c) s = .next s ∧ exec (.sdpWriteFrame sp a v c) s = .next s ∧
      exec .dErrRead s = .next s ∧ exec .sdpDetach s = .next s) ∧
    (s.dbg.session = true →
      let done (t : State) (v : BitVec 32) : Host.Outcome State Fault Refusal :=
        .next { t with dbg := { t.dbg with status := .done, data := v } }
      let retry : Host.Outcome State Fault Refusal := .next { s with dbg := { s.dbg with status := .retry, data := 0 } }
      let failed (sp e : Nat) : Host.Outcome State Fault Refusal :=
        .next { s with dbg := { s.dbg with status := .error, data := 0, errCause := e, errSpace := sp } }
      exec .sdpDetach s = done ended 0 ∧
      exec .dErrRead s = done { s with dbg := { s.dbg with errCause := 0, errSpace := 0 } }
        (BitVec.ofNat 32 (s.dbg.errCause ||| s.dbg.errSpace * 32)) ∧
      exec (.sdpReadFrame 0 0 true) s = done s 0x01001024 ∧
      (∀ sp a v, exec (.sdpReadFrame sp a false) s = .next { s with
          dbg := { s.dbg with status := .none, errCause := 6, errSpace := sp.toNat } } ∧
        exec (.sdpWriteFrame sp a v false) s = .next { s with
          dbg := { s.dbg with status := .none, errCause := 6, errSpace := sp.toNat } } ∧
        exec (.sdpReadFrame 7 a true) s = failed 7 1 ∧ exec (.sdpWriteFrame 7 a v true) s = failed 7 1) ∧
      (∀ (b i : Nat) (v : BitVec 32), b < 8 → i < 16384 →
        let a := BitVec.ofNat 24 (16384 * b + i)
        (s.pwr.coreUp = false → exec (.sdpReadFrame 1 a true) s = failed 1 3 ∧ exec (.sdpWriteFrame 1 a v true) s = failed 1 3) ∧
        (s.pwr.coreUp = true → s.pwr.state ≠ .sleep → bankOut s b = false →
          (bankBusy s b = true → exec (.sdpReadFrame 1 a true) s = retry ∧ exec (.sdpWriteFrame 1 a v true) s = retry) ∧
          (bankBusy s b = false →
            (sound s b i = true → exec (.sdpReadFrame 1 a true) s = done s ((bankWord s b i).setWidth 32)) ∧
            (s.mir.role ≠ 1 ∨ b ≠ 4 → exec (.sdpWriteFrame 1 a v true) s = done (putWord s b i (loHalf v)) 0)))) ∧
      (s.pwr.coreUp = true → s.pwr.state ≠ .sleep →
        (∀ (k : CoreId) (a : BitVec 14) (v : BitVec 32),
          let ad := BitVec.ofNat 24 (16384 * coreNum k + a.toNat)
          exec (.sdpReadFrame 2 ad true) s = done s ((progWord s k a).setWidth 32) ∧
          (a.toNat < 0x2000 → prgStopped s k = true → exec (.sdpWriteFrame 2 ad v true) s = failed 2 13) ∧
          (prgStopped s k = false → exec (.sdpWriteFrame 2 ad v true) s = failed 2 12) ∧
          (0x2000 ≤ a.toNat → prgStopped s k = true →
            exec (.sdpWriteFrame 2 ad v true) s = done (putProg s k a (v.setWidth 14)) 0)) ∧
        (∀ (k : CoreId) (a : BitVec 12) (v : BitVec 32), let ad := BitVec.ofNat 24 (4096 * coreNum k + a.toNat)
          exec (.sdpReadFrame 3 ad true) s = done s (if bitRead s k a.toNat then 1 else 0) ∧
          exec (.sdpWriteFrame 3 ad v true) s = done (bitWrite s k a.toNat (v.getLsbD 0)) 0) ∧
        (∀ (key : BitVec 12) (v : BitVec 32), paramRead s .dbg key.toNat = (v, none) →
          exec (.sdpReadFrame 4 (key.setWidth 24) true) s = done s v) ∧
        (∀ n, plainReg n = true → exec (.sdpReadFrame 5 (BitVec.ofNat 24 n) true) s = done s (regView s .dbg n)) ∧
        ∀ (k : CoreId) (r : Reg) (v : BitVec 32), let ad := BitVec.ofNat 24 (256 * coreNum k + r.val)
          ((s.core k).halted = true → exec (.sdpReadFrame 6 ad true) s = done s (((s.core k).w.get r).setWidth 32) ∧
            exec (.sdpWriteFrame 6 ad v true) s = done (s.modCore k (fun x => { x with w := x.w.set r (loHalf v) })) 0) ∧
          ((s.core k).halted = false → exec (.sdpReadFrame 6 ad true) s = failed 6 12 ∧
            exec (.sdpWriteFrame 6 ad v true) s = failed 6 12)))

/-- O34. Writes of WCS_CTRL enable the WCS (START), disable it (OFF), request a re-align (phi_a beyond wcs.lock_ns, a step
still to be made counted in: log entry 15), or are refused with RULE when they change fam or mclk_x2 while it is enabled. pll_lk
leads to outputs at the first lattice point at least 20 us later, in phase, LOCKED. Each measurement, at the next multiple of
10 ms, moves phi_a by a sixteenth of the difference, and the ratio N follows from it; SLEW becomes LOCKED within wcs.lock_ns and
LOCKED becomes SLEW beyond twice that. A pending re-align stops the outputs at the next lattice point of their phase and restarts
them at the first lattice point at least one WALIGN period later, counted. Loss of PLL lock sets unlock, forces START and posts a
WCS notice. An entry that asks for it stops the outputs. Lattice points lie at whole n / fs; their edges are placed with the
output delay, delta and the trim taken in. Only the WCS and time change. (spec rules R146, R153, R155, R156, R157, R159, R161,
R162, R165, R167) -/
def Obligations.WordClock : Prop :=
  ∀ (s : State),
    (∀ (sec : Bool) (d : Word), writing s 0x38 sec = true → s.pwr.coreUp = true →
      let put (w : WcsSt) : Host.Outcome State Fault Refusal := .next { (phaseDone s sec 0x39) with wcs := w }
      let same : Prop := d.getLsbD 1 = s.wcs.fam ∧ d.getLsbD 2 = s.wcs.x2
      (d.getLsbD 0 = true → s.wcs.en = false → d.getLsbD 6 = false → ∃ r,
        IsRatio s (if d.getLsbD 1 then 44100 else 48000) 0 r ∧ exec (.wcsEnable d) s = put
          { (wcsWritten s d) with
            en := true, fam := d.getLsbD 1, x2 := d.getLsbD 2, famUse := d.getLsbD 1, state := .start, pllLk := false,
            running := false, stopped := false, jumpDone := false, sleepStop := false, phi := 0, phiA := 0, ratio := r,
            gnssBased := tqGnss s.time.tq, holdover := false }) ∧
      (d.getLsbD 0 = false → s.wcs.en = true → d.getLsbD 6 = false → same → exec (.wcsDisable d) s = put
        { (wcsWritten s d) with
          en := false, state := .off, running := false, stopped := false, pend := false, pllLk := false,
          sleepStop := false, gnssBased := false, holdover := false }) ∧
      (d.getLsbD 0 = true → s.wcs.en = true → d.getLsbD 6 = true → same → exec (.wcsRealignRequest d) s = put
        { (wcsWritten s d) with
          pend := s.wcs.pend || s.wcs.state == .start || (s.wcs.state != .off &&
            phaseBeyond s (wrapPhase s (s.wcs.phiA + 16 * s.time.stepPend.getD 0)) 1) }) ∧
      (s.wcs.en = true → ¬ same → d.getLsbD 0 = true → d.getLsbD 6 = true →
        exec (.wcsRealignRequest d) s = .next (phaseFailed s sec 8 0x38 0x39))) ∧
    (s.wcs.state = .start → s.wcs.pllLk = false → exec .pllLockAcquired s =
      .next { s with wcs := { s.wcs with pllLk := true, lockedAt := wcsTime s } }) ∧
    (s.wcs.state = .start → s.wcs.pllLk = true → ∃ n, LatticeIndex s (25 * s.wcs.lockedAt + 523776) 25 n ∧
      exec .wcsOutputStart s = .next { (carryTick s (latticePlace s n 0)) with
        wcs := { s.wcs with state := .locked, running := true, phi := 0, phiA := 0, pend := false } }) ∧
    (s.wcs.running = true → s.wcs.state = .slew ∨ s.wcs.state = .locked →
      (s.mir.slewOut = false → ∀ phi : Int, ∃ t r, FirstMultiple (ticksPerSec / 100) (wcsTime s + 1) t ∧
        let a := s.wcs.phiA + (phi * 16 - s.wcs.phiA) / 16
        IsRatio s (wcsFs s) a r ∧
        exec (.wcsPhaseMeasure phi) s = .next { (carryTick s (placeAt s t (wcsShiftPs s)).1) with
          wcs := { s.wcs with
            phi := phi * 16, phiA := a, ratio := r
            state := if phaseBeyond s a (if s.wcs.state = .slew then 1 else 2) then .slew else .locked } }) ∧
      (s.wcs.pend = true → ∃ n, LatticeIndex s (16 * wcsTime s - s.wcs.phi) 16 n ∧
        exec .realignStop s = .next { (carryTick s (latticePlace s n s.wcs.phi)) with
          wcs := { s.wcs with
            running := false, stopped := true, stoppedAt := 16 * n * ticksPerSec + s.wcs.phi * wcsFs s, state := .slew } })) ∧
    (s.wcs.stopped = true → ∃ n r, (n - 1) * (16 * ticksPerSec) < s.wcs.stoppedAt + 16 * ticksPerSec ∧
      s.wcs.stoppedAt + 16 * ticksPerSec ≤ n * (16 * ticksPerSec) ∧ IsRatio s (wcsFs s) 0 r ∧
      exec .realignRestart s = .next { (carryTick s (latticePlace s n 0)) with
        wcs := { s.wcs with
          running := true, stopped := false, pend := false, cnt := if s.wcs.cnt < 255 then s.wcs.cnt + 1 else 255,
          phi := 0, phiA := 0, state := .locked, ratio := r } }) ∧
    (s.wcs.pllLk = true → s.pwr.coreUp = true → s.slu.ntc.length < 496 → ∃ r, IsRatio s (wcsFs s) 0 r ∧
      exec .pllLockLoss s = .next { s with
        wcs := { s.wcs with
          unlock := true, state := .start, pllLk := false, running := false, stopped := false, jumpDone := false,
          sleepStop := false, phi := 0, phiA := 0, ratio := r, gnssBased := tqGnss s.time.tq, holdover := false }
        slu := { s.slu with ntc := s.slu.ntc ++ [immWord 7 3] } }) ∧
    (s.pwr.asked = true → s.wcs.running = true → 3 ≤ s.pwr.tried ∨ s.par pWcsSleepRun = 0 →
      ∃ n, LatticeIndex s (16 * wcsTime s - s.wcs.phi) 16 n ∧
        exec .wcsSleepStop s = .next { (carryTick s (latticePlace s n s.wcs.phi)) with
          wcs := { s.wcs with
            running := false, stopped := false, sleepStop := true
            stoppedAt := 16 * n * ticksPerSec + s.wcs.phi * wcsFs s } })

/-- O35. While TPOUT is emitted, the pulse that falls due is the first pulse time at or after now (as the output delay has it),
after every pulse already emitted: TPOUT goes active, at the tick where the pulse is placed, the count advances, the pulse ends
after tp.width, and TP_QERR takes the residual of the next pulse; if a pulse is still in progress it is deferred to 1 us after
that pulse's end and late is set. While the mask is closed nothing is emitted. A pulse in progress completes its width, its end
placed as its beginning. A deferred pulse begins with late set. Settings written take effect at the next whole GNSS second. A
placed edge lies at the nearest tick: its residual is within 478 ps. Only TPOUT and time change. (spec rules R147, R148, R149,
R150, R152) -/
def Obligations.TimingPulses : Prop :=
  (∀ (s : State),
    (tpEmits s = true → ∃ k t, isPulse s k t = true ∧ NextPulse s t ∧
      (s.tp.level = false → ∃ u, exec .tpoutActiveEdge s = .next u ∧ u.tp.level = true ∧ u.tp.pulseCnt = s.tp.pulseCnt + 1 ∧
        u.tp.placed = (tpPlace s k).1 ∧ u.tp.lastTarget = some t ∧
        u.tp.endsAt = some (k * (ticksPerSec / tpHz s.tp.rate), s.tp.userOff * 1000 + s.tp.width * 1000000) ∧
        u.tp.qerr = BitVec.ofInt 16 (tpPlace u (nextPulse u)).2 ∧ u.tp.late = s.tp.late ∧
        u.time = (carryTick s (tpPlace s k).1).time ∧ onlyIn [.time, .tp] s u = true) ∧
      (∀ e, s.tp.level = true → s.tp.endsAt = some e → exec .tpoutActiveEdge s = .next { (carryTick s (tpPlace s k).1) with
        tp := { s.tp with deferred := some (e.1, e.2 + 1000000), late := true, lastTarget := some t } })) ∧
    (tpEmits s = false → exec .tpoutActiveEdge s = .next s) ∧
    (∀ e, s.tp.level = true → s.tp.endsAt = some e → exec .tpoutInactiveEdge s =
      .next { (carryTick s (tpEdge s e)) with tp := { s.tp with level := false, endsAt := none, placed := tpEdge s e } }) ∧
    (∀ e, s.tp.level = false → s.tp.deferred = some e →
      (tpEmits s = true → ∃ u, exec .tpoutDeferredPulse s = .next u ∧ u.tp.level = true ∧ u.tp.late = true ∧
        u.tp.deferred = none ∧ u.tp.pulseCnt = s.tp.pulseCnt + 1 ∧ u.tp.placed = tpEdge s e ∧
        u.tp.endsAt = some (e.1, e.2 + s.tp.width * 1000000) ∧ onlyIn [.time, .tp] s u = true) ∧
      (tpEmits s = false → exec .tpoutDeferredPulse s =
        .next { (carryTick s (tpEdge s e)) with tp := { s.tp with deferred := none } })) ∧
    (s.time.running = true → ∃ t u, FirstMultiple ticksPerSec (gnssNow s) t ∧ exec .tpSettingsApply s = .next u ∧
      u.time = (carryGnss s t).time ∧ u.tp = { s.tp with
        rate := s.parN pTpRate, width := s.parN pTpWidth, pol := s.parB pTpPol, userOff := s.par pTpUserOff,
        outDly := s.par pTpOutDelay, qerr := u.tp.qerr, towLo := u.tp.towLo } ∧ onlyIn [.time, .tp] s u = true)) ∧
  ∀ (s : State) (k : Int), s.time.eps.natAbs < 100000000000 → s.time.slewRate < 100000000 →
    (tpPlace s k).2.natAbs ≤ 478

/-- O36. At its commit point an occurrence is fixed as its image stands. At the target the slot, its image as
committed, whose time has come, no lower one being due, performs EVOUT (unless a lower slot drove the pin at that
tick), doorbell, EVT record and re-align when its mask admits the time quality, and otherwise posts a skip record;
flags, fire count and B-space bit follow, and a record holds R188's fields. A one-shot slot becomes FREE; a periodic
one takes the target plus the period and counts down. A late firing sets late, and the next target is the first later
occurrence at least 20 us after it, those between being passed over. Other slots and pins stay. A pin's next trailing
edge makes it inactive. (spec rules R177, R178, R179, R180, R182, R184, R188, R255, R269) -/
def Obligations.EventFiring : Prop :=
  ∀ (s : State) (i : Fin 1024) (x : Slot), mget s.evs.slots i.val = some x →
    (s.time.running = true → x.com = none → x.late = none → exec (.slotCommitPoint i) s =
      .next { (carryGnss s (x.img.target - 20952)) with
        evs := { s.evs with slots := mput s.evs.slots i.val { x with com := some x.img } } }) ∧
    (∀ m, x.com = some m → x.late = none → m = x.img → x.cntMod = false → mayFire s i.val m.target = true → ∃ v, exec (.slotFire i) s = .next v ∧
      Fires s (carryGnss s m.target) v i.val x m m.target false 0 ∧
      (m.period = 0 ∨ m.count = 1 → mget v.evs.slots i.val = none) ∧
      (m.period ≠ 0 → m.count ≠ 1 → ∃ y, mget v.evs.slots i.val = some y ∧ y.cls = x.cls ∧
        y.client = x.client ∧ y.img = { m with target := m.target + m.period, count := m.count - 1 } ∧
        rearmed v y) ∧
      (∀ j, j ≠ i.val → mget v.evs.slots j = mget s.evs.slots j)) ∧
    (∀ t, x.com = some x.img → x.cntMod = false → x.late = some t → x.img.target ≤ t → x.img.count = 0 → mayFire s i.val t = true →
      ∃ v, exec (.slotLateFire i) s = .next v ∧ v.evs.late = true ∧ v.evs.fireCnt = s.evs.fireCnt + 1 ∧
        (x.img.period = 0 → mget v.evs.slots i.val = none ∧ Fires s (carryGnss s t) v i.val x x.img t true 0) ∧
        (x.img.period ≠ 0 → ∃ (y : Slot) (j : Nat), mget v.evs.slots i.val = some y ∧ rearmed v y ∧ 1 ≤ j ∧
          y.img = { x.img with target := x.img.target + j * x.img.period } ∧ t + 20952 ≤ y.img.target ∧
          (∀ k : Nat, 1 ≤ k → t + 20952 ≤ x.img.target + k * x.img.period → j ≤ k)) ∧
        (∀ j, j ≠ i.val → mget v.evs.slots j = mget s.evs.slots j))

/-- O37. A pin's next trailing edge makes it inactive, at the tick where it is placed, and is used up; the other pins stay. An edge that evs.tmK_edge
does not select changes nothing. A selected edge is stamped with its tick, less the trim of its path, unless the input holds 4 stamps or the last
stamp is at most 128 ticks old: then it is counted as lost and tm_lost is set. The oldest stamp of an input leaves its
buffer and is posted as a timemark record with the lost edges since the last one. A record that the EVT ring cannot
take is counted as not posted; with no ring placed nothing is counted. (spec rules R179, R181, R185, R186, R188, R190,
R255, R256, R261) -/
def Obligations.PulseEndsAndTimemarks : Prop :=
  (∀ (s : State) (p : Fin 4) (e : Int) (es : List Int), (pinAt s p).ends = e :: es → s.time.running = true →
    (pinAt s p).lastAt ≠ some e → exec (.evoutPulseEnd p) s = .next { (carryTick s (evEdge s p.val e)) with
      evs := { s.evs with ev := s.evs.ev.set p { (pinAt s p) with ends := es, active := false, placed := evEdge s p.val e } } }) ∧
  (∀ (s : State) (k : Fin 2) (rising : Bool) (step : Fin 64),
    ((s.parN (pEvsTm0Edge + k.val)).testBit (if rising then 0 else 1) = false → exec (.tmarkEdge k rising step) s = .next s) ∧
    ((s.parN (pEvsTm0Edge + k.val)).testBit (if rising then 0 else 1) = true → s.time.running = true → s.pwr.coreUp = true →
      quiet s = true →
      let x := tmAt s k
      let n := (((dtcNow s * 64 + step.val : Nat) : Int) - divNearest (trimPs s (11 + k.val) * 1047552) 1000000000).toNat
      (x.buf.length < 4 → (∀ l, x.lastEdge = some l → l + 128 < n) → exec (.tmarkEdge k rising step) s =
        .next { s with evs := { s.evs with tm := s.evs.tm.set k { x with
          buf := x.buf ++ [⟨n, tsbAt s (gnssAt s n), s.pace.gapSinceAnchor⟩], lastEdge := some n } } }) ∧
      (4 ≤ x.buf.length ∨ (∃ l, x.lastEdge = some l ∧ n ≤ l + 128) → exec (.tmarkEdge k rising step) s =
        .next { s with evs := { s.evs with
          tmLost := true
          tm := s.evs.tm.set k { x with lost := if x.lost = 255 then 255 else x.lost + 1, lostRep := x.lostRep + 1 } } }))) ∧
  ∀ (s : State) (k : Fin 2) (a : Stamp) (rest : List Stamp), (tmAt s k).buf = a :: rest → s.pwr.coreUp = true →
    quiet s = true → a.tsb.length = 7 → (k = 0 ∨ ∀ b bs, (tmAt s 0).buf = b :: bs → b.ticks ≠ a.ticks) →
    let x := tmAt s k
    let gone : State := { s with evs := { s.evs with
                            seq := s.evs.seq + 1
                            tm := s.evs.tm.set k { x with buf := rest, lostRep := 0 } } }
    (evtOpen s = true → ∃ v, exec (.tmarkRecordPost k) s = .next v ∧ v.evs = gone.evs ∧ evtPosted s v = true ∧
      evtRecord s v = record (0x20 + k.val) false a.gap false (x.lostRep != 0) false s.evs.seq 0 0
        (s.parN (pEvsTm0Client + k.val)) 7 a.tsb x.lostRep (a.ticks % 2 ^ 58) ∧
      (∀ b w, b < 8 → w < 16384 → b ≠ s.parN pNtcEvtBank ∨ w / 16 ≠ s.parN pNtcEvtWr % 1024 →
        bankWord v b w = bankWord s b w) ∧ onlyIn [.evs, .bank, .params] s v = true) ∧
    (evtOpen s = false → s.parN pNtcEvtBank ≠ 8 → exec (.tmarkRecordPost k) s =
      .next { gone with slu := { s.slu with evtHeld := if s.slu.evtHeld = 255 then 255 else s.slu.evtHeld + 1 } }) ∧
    (s.parN pNtcEvtBank = 8 → exec (.tmarkRecordPost k) s = .next gone)

/-- O38. For every command of R268's set: an immediate notice with a block command's opcode, and a block with an
immediate command's, fail with BAD_OPCODE; a secure-only command from host-non-secure fails with SECURE; a block
command whose argument length differs fails with BAD_ARG. A block at an odd offset or outside a HOST bank fails with
BAD_BLOCK, opcode 0xFF; one whose arguments hold a poisoned word with POISON; an unknown opcode with BAD_OPCODE. NOP
completes with OK and no effect. A customer command runs when SVC's program RAM is enabled and SVC is not parked: the calls
of the Runtime that its hook makes have their effect, and its status code is returned. Each failure only takes the notice, writes the block's status word, and appends DONE
to NTC. (spec rules R259, R264, R265, R266, R267, R268, R325) -/
def Obligations.RuntimeCommandForms : Prop :=
  ∀ (s : State) (n : Notice) (rest : List Notice) (a : Assist),
    (∀ row ∈ cmdRows a,
      (∀ arg, row.block = true → immCmd s n rest row.op arg = true →
        exec row.cmd s = .next (immDone (taken s rest) n row.op 1)) ∧
      (∀ args, row.block = false → blockCmd s n rest row.op args = true →
        exec row.cmd s = .next (blockDone (taken s rest) n 1 [])) ∧
      (∀ arg, row.sec = true → n.cls = 0 → immCmd s n rest row.op arg = true →
        exec row.cmd s = .next (immDone (taken s rest) n row.op 5)) ∧
      (∀ args, row.block = true → args.length ≠ row.n → blockCmd s n rest row.op args = true →
        exec row.cmd s = .next (blockDone (taken s rest) n 2 [])) ∧
      (headIs s n rest = true → n.kind = 0 → blockFits s n.bank.toNat n.offset.toNat 3 = false →
        exec row.cmd s = .next (immDone (taken s rest) n 0xFF 3)) ∧
      (∀ op arg, row.cmd = .nopCommand → op = 0 ∨ 0x17 ≤ op → immCmd s n rest op arg = true →
        exec row.cmd s = .next (immDone (taken s rest) n op 1)) ∧
      (∀ op len i, headIs s n rest = true → n.kind = 0 → len ≤ 60 → op < 256 →
        blockFits s n.bank.toNat n.offset.toNat (3 + len) = true →
        bankWord s n.bank.toNat n.offset.toNat = BitVec.ofNat 16 (op + 256 * len) → i < 2 + len →
        bankErr s n.bank.toNat (n.offset.toNat + 1 + i) = some .poison →
        (∀ j, j < 3 + len → bankErr s n.bank.toNat (n.offset.toNat + j) ≠ some .double) →
        sound s n.bank.toNat n.offset.toNat = true →
        exec row.cmd s = .next (blockDone (taken s rest) n 6 []))) ∧
    (∀ arg, immCmd s n rest 0x16 arg = true → exec .nopCommand s = .next (immDone (taken s rest) n 0x16 0)) ∧
    (∀ op args (st : BitVec 8), 0x80 ≤ op → op ≤ 0xFE → blockCmd s n rest op args = true →
      (s.parBit pSysPramEn 1 = true → s.svc.parked = false →
        exec (.customerCommand ⟨st, []⟩) s = .next (blockDone (taken s rest) n st.toNat []) ∧
        ∀ calls, let t := rtCalls (taken s rest) .svc calls
          hostBank t n.bank.toNat = true → exec (.customerCommand ⟨st, calls⟩) s = .next (blockDone t n st.toNat [])) ∧
      (s.parBit pSysPramEn 1 = false ∨ s.svc.parked = true →
        ∀ calls, exec (.customerCommand ⟨st, calls⟩) s = .next (blockDone (taken s rest) n 1 [])))

/-- O39. TIME_SET with a time in range and no older than 2^32 counts makes GNSS time the time given, carried on by the
age at the present frequency error, and time quality HOST-SET with the uncertainty given, and drops the reference
anchor; an unbounded uncertainty, a bad field or an old or future DTC value gives BAD_ARG; GNSS time quality, or an
uncertainty no better than the present one, REFUSED. POS_SET holds the position and restarts the survey. FREQ_AID sets
the frequency error without moving GNSS time, or is refused in GNSS-COARSE and GNSS-FINE. INT_REBASE drops the anchor
and clears SPOOF_SUSPECT. A refused command has no effect but its status and DONE. (spec rules R268, R23, R24, R29,
R97, R125, R131, R134) -/
def Obligations.RuntimeTimeCommands : Prop :=
  ∀ (s : State) (n : Notice) (rest : List Notice) (w : List Word),
    (w.length = 10 → blockCmd s n rest 0x01 w = true →
      let d : Nat := argN w 0 + 65536 * argN w 1 + 4294967296 * argN w 2 + 281474976710656 * (argN w 3 % 16)
      let age : Nat := (s.time.dtc.toNat + 2 ^ 52 - d) % 2 ^ 52
      let tow : Nat := argN w 5 + 65536 * argN w 6
      let sub : Nat := argN w 7 + 65536 * argN w 8
      let inRange : Prop := age ≤ 2 ^ 32 ∧ tow < 604800 ∧ sub < 1047552000
      let better (u : Nat) : Prop := s.time.tq = .unknown ∨ uncNow s = none ∨ ∃ v, uncNow s = some v ∧ u < v
      (argN w 9 = 0xFFFF ∨ ¬ inRange → exec .timeSet s = .next (blockDone (taken s rest) n 2 [])) ∧
      (argN w 9 ≠ 0xFFFF → inRange → tqGnss s.time.tq = true ∨ ¬ better (argN w 9 % 4096 * 4 ^ (argN w 9 / 4096)) →
        exec .timeSet s = .next (blockDone (taken s rest) n 4 [])) ∧
      (argN w 9 ≠ 0xFFFF → inRange → tqGnss s.time.tq = false → better (argN w 9 % 4096 * 4 ^ (argN w 9 / 4096)) →
        ∃ t, exec .timeSet s = .next t ∧ t.time.tq = .hostSet ∧ t.time.u0 = argN w 9 % 4096 * 4 ^ (argN w 9 / 4096) ∧
          t.time.unbounded = false ∧ t.time.dtc = s.time.dtc ∧ t.time.eps = s.time.eps ∧
          gnssNow t = ((argN w 4 * 604800 + tow : Nat) : Int) * ticksPerSec + sub +
            (age : Int) * 64 * (1000000000000 + s.time.eps) / 1000000000000 ∧ t.slu.cmd = rest ∧
          t.integ = { s.integ with ref := none } ∧
          t.pwr = (taken s rest).pwr ∧ t.time.hostAt = elapsed s ∧
          onlyIn [.time, .tp, .evs, .wcs, .slu, .bank, .params, .mir, .integ, .pwr] s t = true)) ∧
    (w.length = 8 → blockCmd s n rest 0x02 w = true →
      ((argS w 0).natAbs ≤ 2 ^ 30 → exec .posSet s = .next (blockDone { (taken s rest) with
        time := { s.time with
          pos := some ⟨argS w 0, argS w 2, argS w 4, argN w 6, argN w 7⟩, surveyHeld := false, surveyN := 0, surveyT := 0,
          surveySum := ⟨0, 0, 0, 0, 0⟩ } } n 0 [])) ∧
      (2 ^ 30 < (argS w 0).natAbs → exec .posSet s = .next (blockDone (taken s rest) n 2 []))) ∧
    (w.length = 3 → blockCmd s n rest 0x03 w = true →
      (argN w 2 = 0 → exec .freqAid s = .next (blockDone (taken s rest) n 2 [])) ∧
      (argN w 2 ≠ 0 → tqGnss s.time.tq = true → exec .freqAid s = .next (blockDone (taken s rest) n 4 [])) ∧
      (argN w 2 ≠ 0 → tqGnss s.time.tq = false → ∃ t, exec .freqAid s = .next (blockDone t n 0 []) ∧
        t.time.freqKnown = true ∧ t.time.freqSigma = argN w 2 ∧ t.time.eps = argS w 0 ∧ gnssNow t = gnssNow s ∧
        t.time.tq = s.time.tq ∧ t.time.dtc = s.time.dtc ∧ t.slu = (taken s rest).slu ∧
        t.pwr = (taken s rest).pwr ∧ onlyIn [.time, .slu, .pwr] s t = true)) ∧
    ∀ arg, n.cls ≠ 0 → immCmd s n rest 0x09 arg = true →
      (arg ≠ 0 → exec .intRebase s = .next (immDone (taken s rest) n 0x09 2)) ∧
      (arg = 0 → exec .intRebase s = .next (immDone (
        let t : State := { (taken s rest) with integ := { s.integ with
          spoof := false, cause := 0, clkRun := 0, passT := none, twins := [], ref := none } }
        if s.integ.spoof then postImm t 8 (2 * s.integ.cause) else t) n 0x09 0))

/-- O40. PROG_LOAD parks a core for the program window, or resumes it and takes the CRC of its program RAM; it is
refused for a core that is held or halted. POWER 2-4 starts an entry attempt with SVC's request, 0 or 1 withdraws the
request, 5 and more give BAD_ARG. BANK_LEND 5 gives B5 to HOST, unless it is lent, withdrawn, not SVC's or the device
is paired; BANK_RECALL 5 returns it, unless it is not lent or a mail or ring bank. MIR_ROLE sets the role and B5's
owner, unless B5 is lent. MIR_TAKEOVER on a standby starts a takeover; MIR_COMPARE 0 lets a standby go on uncompared
and 1 asks for a test, and is refused when unpaired. (spec rules R268, R213, R254, R385, R442, R455, R456) -/
def Obligations.RuntimeDeviceCommands : Prop :=
  ∀ (s : State) (n : Notice) (rest : List Notice) (arg : Nat),
    let done (op code : Nat) : Host.Outcome State Fault Refusal := .next (immDone (taken s rest) n op code)
    (n.cls ≠ 0 → immCmd s n rest 0x0F arg = true →
      (4 ≤ arg → exec .progLoad s = done 0x0F 2) ∧
      (arg < 4 → ∀ k, coreNum k = arg % 2 →
        ((s.core k).held = true ∨ (s.core k).halted = true → exec .progLoad s = done 0x0F 4) ∧
        ((s.core k).held = false → (s.core k).halted = false →
          (2 ≤ arg → exec .progLoad s =
            .next (immDone ((taken s rest).modCore k (fun x => { x with parked := true })) n 0x0F 0)) ∧
          (arg < 2 → exec .progLoad s = .next (immDone (((taken s rest).modCore k (fun x => { x with parked := false })).setPar
            pSysPramCrc (if arg = 0 then ((s.parN pSysPramCrc / 65536 * 65536 + pramCrc s k : Nat) : Int)
              else ((s.parN pSysPramCrc % 65536 + 65536 * pramCrc s k : Nat) : Int))) n 0x0F 0))))) ∧
    (immCmd s n rest 0x10 arg = true → quiet s = true →
      (5 ≤ arg → exec .power s = done 0x10 2) ∧
      (arg < 2 → exec .power s = .next (immDone { (taken s rest) with svc := { s.svc with req := 0 } } n 0x10 0)) ∧
      (2 ≤ arg → arg ≤ 4 → s.trk.waiting = false → ∃ t, exec .power s = .next t ∧ t.pwr.attempt = true ∧ t.pwr.tried = arg ∧
        t.pwr.asked = false ∧ t.svc.req = arg ∧ t.trk.ipPower = true ∧
        t.slu = (immDone (taken s rest) n 0x10 0).slu ∧ onlyIn [.pwr, .slu, .trk, .svc] s t = true)) ∧
    (immCmd s n rest 0x11 arg = true →
      (arg ≠ 5 ∨ s.bank.lent = true ∨ s.mir.role ≠ 0 ∨ bankOut s 5 = true ∨ ownerOf s 5 ≠ .svc → exec .bankLend s = done 0x11 4) ∧
      (arg = 5 → s.bank.lent = false → s.mir.role = 0 → bankOut s 5 = false → ownerOf s 5 = .svc →
        ∃ t, exec .bankLend s = .next t ∧ ownerOf t 5 = .host ∧ t.bank.lent = true ∧ t.bank.mem = s.bank.mem ∧
          (∀ b, b < 8 → b ≠ 5 → ownerOf t b = ownerOf s b) ∧ t.slu = (immDone (taken s rest) n 0x11 0).slu ∧
          t.pwr = (taken s rest).pwr ∧ onlyIn [.bank, .slu, .pwr] s t = true)) ∧
    (immCmd s n rest 0x12 arg = true →
      (arg ≠ 5 → exec .bankRecall s = done 0x12 2) ∧
      (arg = 5 → s.bank.lent = false ∨ s.par pNtcMailBank = 5 ∨ s.par pNtcMsrBank = 5 ∨ s.par pNtcEvtBank = 5 →
        exec .bankRecall s = done 0x12 4) ∧
      (arg = 5 → s.bank.lent = true → s.par pNtcMailBank ≠ 5 → s.par pNtcMsrBank ≠ 5 → s.par pNtcEvtBank ≠ 5 →
        ∃ t, exec .bankRecall s = .next t ∧ ownerOf t 5 = .svc ∧ t.bank.lent = false ∧ t.bank.mem = s.bank.mem ∧
          (∀ b, b < 8 → b ≠ 5 → ownerOf t b = ownerOf s b) ∧ t.pwr = (taken s rest).pwr ∧
          onlyIn [.bank, .slu, .pwr] s t = true)) ∧
    (n.cls ≠ 0 → immCmd s n rest 0x13 arg = true →
      (3 ≤ arg → exec .mirRole s = done 0x13 2) ∧
      (arg < 3 → s.bank.lent = true ∨ (arg ≠ 0 ∧ unitOk s 5 = false) → exec .mirRole s = done 0x13 4) ∧
      (arg < 3 → s.bank.lent = false → (arg ≠ 0 → unitOk s 5 = true) → ∃ t, exec .mirRole s = .next t ∧
        t.mir.role = arg ∧ ownerOf t 5 = (if arg = 0 then .svc else .mirror) ∧ t.mir.linkRun = decide (arg ≠ 0) ∧
        t.mir.pcuOn = decide (arg = 2) ∧ t.mir.take = none ∧ t.mir.relWait = decide (arg = 2) ∧
        t.bank.mem = s.bank.mem ∧ t.pwr = (taken s rest).pwr ∧ onlyIn [.mir, .bank, .slu, .params, .pwr] s t = true)) ∧
    (n.cls ≠ 0 → immCmd s n rest 0x14 arg = true →
      (arg ≠ 0 → exec .mirTakeover s = done 0x14 2) ∧
      (arg = 0 → s.mir.role ≠ 2 → exec .mirTakeover s = done 0x14 4) ∧
      (arg = 0 → s.mir.role = 2 → s.mir.take = none → ∃ t h, exec .mirTakeover s = .next t ∧
        FirstLattice s (gnssNow s + usTicks (s.par pMirHoLead)) h ∧ t.mir.take = some ⟨h, 0, none⟩ ∧ t.mir.role = 2 ∧
        t.slu = (immDone (taken s rest) n 0x14 0).slu ∧ t.pwr = (taken s rest).pwr ∧ onlyIn [.mir, .slu, .pwr] s t = true)) ∧
    (n.cls ≠ 0 → immCmd s n rest 0x15 arg = true →
      (2 ≤ arg → exec .mirCompare s = done 0x15 2) ∧
      (arg < 2 → s.mir.role = 0 → exec .mirCompare s = done 0x15 4) ∧
      (arg = 0 → s.mir.role = 2 → ∃ t, exec .mirCompare s = .next t ∧ t.parBit pMirStat 2 = true ∧ t.mir = s.mir ∧
        t.pwr = (taken s rest).pwr ∧ onlyIn [.slu, .params, .pwr] s t = true) ∧
      (arg = 1 → s.mir.role = 2 → ∃ t, exec .mirCompare s = .next t ∧ t.parBit pMirStat 2 = false ∧ t.mir.testDue = true ∧
        t.mir.cmpA = t.mir.cmpB ∧ t.mir.outA = t.mir.outB ∧ (t.mir.cmpA.value = BitVec.ofInt 16 (s.par pMirDlyCmp)) ∧
        (t.mir.outA.value = BitVec.ofInt 16 (s.par pMirDlyOut)) ∧ t.pwr = (taken s rest).pwr ∧
        onlyIn [.mir, .slu, .params, .pwr] s t = true))

/-- O41. For a host class on an unpaired device. SLOT_ARM arms the named FREE slot, or the lowest free one, with the
image's fields, the poster's class and client, and returns its index; it is refused with NO_SLOT, QUOTA, SECURE,
BAD_ARG or PAST, the first that applies. SLOT_MODIFY changes the selected fields of an armed slot of the poster (or of
any, for host-secure), or is refused with NO_SLOT, NOT_OWNER, SECURE, BAD_ARG, PAST or FIRING. SLOT_CANCEL frees it,
or refuses. SLOT_CANCEL_CLIENT frees the uncommitted slots of the class and client and returns their number.
SLOT_QUERY returns image and owner, or NO_SLOT or NOT_VISIBLE. On a standby a host class gets NOT_OWNER. Other slots
stay. (spec rules R172, R175, R176, R177, R178, R268, R269) -/
def Obligations.SlotCommands : Prop :=
  ∀ (s : State) (n : Notice) (rest : List Notice) (w : List Word), hostCode n = true →
    let c := clsOf n.cls.toNat
    let fail (code : Nat) : Host.Outcome State Fault Refusal := .next (blockDone (taken s rest) n code [])
    let setSlots (l : List (Nat × Slot)) : State := { (taken s rest) with evs := { s.evs with slots := l } }
    let mine (x : Slot) : Bool := c == .sec || (x.cls == c && x.client == n.client)
    (s.mir.role = 2 →
      (w.length = 13 → blockCmd s n rest 0x0A w = true → exec .slotArm s = fail 0x12) ∧
      (w.length = 14 → blockCmd s n rest 0x0B w = true → exec .slotModify s = fail 0x12) ∧
      (w.length = 1 → blockCmd s n rest 0x0C w = true → exec .slotCancel s = fail 0x12)) ∧
    (s.mir.role = 0 →
      (w.length = 13 → blockCmd s n rest 0x0A w = true →
        let m := slotImage w
        ((∀ k, k < 1024 → argN w 0 = k ∨ argN w 0 = 0xFFFF → (mget s.evs.slots k).isSome = true) →
          exec .slotArm s = fail 0x11) ∧
        ∀ k, k < 1024 → mget s.evs.slots k = none → argN w 0 = k ∨ (argN w 0 = 0xFFFF ∧
            ∀ j, j < k → (mget s.evs.slots j).isSome = true) →
          let quota : Bool := c == .ns && decide (s.parN pEvsNsQuota ≤ nsSlots s)
          let secure : Bool := c == .ns && imgSecure s m
          let bad : Bool := imgBad m || !slotTimeOk w
          let late : Bool := past s m.target && !m.lateOk
          (quota = true → exec .slotArm s = fail 0x14) ∧
          (quota = false → secure = true → exec .slotArm s = fail 0x15) ∧
          (quota = false → secure = false → bad = true → exec .slotArm s = fail 0x16) ∧
          (quota = false → secure = false → bad = false → late = true → exec .slotArm s = fail 0x17) ∧
          (quota = false → secure = false → bad = false → late = false → exec .slotArm s = .next (blockDone
            (setSlots (mput s.evs.slots k ⟨c, n.client, m, if past s m.target then some m else none,
              if past s m.target then some (gnssNow s + 20952) else none, false⟩))
            n 0 [BitVec.ofNat 16 k]))) ∧
      (w.length = 14 → blockCmd s n rest 0x0B w = true →
        (mget s.evs.slots (argN w 0) = none → exec .slotModify s = fail 0x11) ∧
        ∀ x, mget s.evs.slots (argN w 0) = some x →
          let sel (k : Nat) : Bool := decide (argN w 13 / 2 ^ k % 2 = 1)
          let new := slotImage w
          let a := if sel 0 then new else x.img
          let m : SlotImg :=
            { actions := a.actions, pin := a.pin, op := a.op, chan := a.chan, lateOk := a.lateOk,
              tqMask := if sel 1 then new.tqMask else x.img.tqMask, target := if sel 2 then new.target else x.img.target,
              period := if sel 3 then new.period else x.img.period, count := if sel 4 then new.count else x.img.count,
              pulse := if sel 5 then new.pulse else x.img.pulse }
          let secure : Bool := x.cls == .ns && sel 0 && imgSecure s m
          let bad : Bool := imgBad m || (sel 2 && !slotTimeOk w)
          let late : Bool := sel 2 && past s m.target && !m.lateOk
          (mine x = false → exec .slotModify s = fail 0x12) ∧
          (mine x = true → secure = true → exec .slotModify s = fail 0x15) ∧
          (mine x = true → secure = false → bad = true → exec .slotModify s = fail 0x16) ∧
          (mine x = true → secure = false → bad = false → late = true → exec .slotModify s = fail 0x17) ∧
          (mine x = true → secure = false → bad = false → late = false → x.img.period = 0 → x.com.isSome ∨ x.late.isSome →
            exec .slotModify s = fail 0x18) ∧
          (mine x = true → secure = false → bad = false → late = false → x.img.period ≠ 0 ∨ (x.com = none ∧ x.late = none) →
            sel 2 = false ∨ (x.com = none ∧ past s m.target = false) →
            exec .slotModify s = .next (blockDone (setSlots (mput s.evs.slots (argN w 0)
              { x with img := m, late := if sel 2 then none else x.late, cntMod := x.cntMod || (x.com.isSome && sel 4) })) n 0 []))) ∧
      (w.length = 1 → blockCmd s n rest 0x0C w = true →
        (mget s.evs.slots (argN w 0) = none → exec .slotCancel s = fail 0x11) ∧
        ∀ x, mget s.evs.slots (argN w 0) = some x →
          (mine x = false → exec .slotCancel s = fail 0x12) ∧
          (mine x = true → x.com = none → x.late = none →
            exec .slotCancel s = .next (blockDone (setSlots (mdel s.evs.slots (argN w 0))) n 0 [])) ∧
          (mine x = true → x.img.period = 0 → x.com.isSome ∨ x.late.isSome → exec .slotCancel s = fail 0x18) ∧
          (mine x = true → x.img.period ≠ 0 → x.com.isSome ∨ x.late.isSome → exec .slotCancel s = .next (blockDone
            (setSlots (mput s.evs.slots (argN w 0) { x with img := { x.img with period := 0, count := 0 } })) n 0 []))) ∧
      (w.length = 2 → blockCmd s n rest 0x0D w = true → mrising s.evs.slots = true →
        (c = .sec → argN w 0 % 8 ≤ 5 ∧ argN w 1 < 1024) →
        (∀ y ∈ s.evs.slots, y.2.com = none ∧ y.2.late = none) →
        let who : Cls × BitVec 10 := if c = .sec then (clsOf (argN w 0 % 8), BitVec.ofNat 10 (argN w 1)) else (c, n.client)
        let gone (y : Nat × Slot) : Bool := y.2.cls == who.1 && y.2.client == who.2
        exec .slotCancelClient s = .next (blockDone (setSlots (s.evs.slots.filter (fun y => !gone y))) n 0
          [BitVec.ofNat 16 (s.evs.slots.filter gone).length])) ∧
      (w.length = 14 → blockCmd s n rest 0x0E w = true →
        (1024 ≤ argN w 0 → exec .slotQuery s = fail 0x11) ∧
        (argN w 0 < 1024 →
          (mget s.evs.slots (argN w 0) = none → exec .slotQuery s =
            .next (blockDone (taken s rest) n 0 (BitVec.ofNat 16 (argN w 0) :: List.replicate 13 0))) ∧
          ∀ x, mget s.evs.slots (argN w 0) = some x →
            (c = .ns → x.cls ≠ .ns → exec .slotQuery s = fail 0x13) ∧
            (c = .sec ∨ x.cls = .ns → exec .slotQuery s = .next (blockDone (taken s rest) n 0
              (BitVec.ofNat 16 (argN w 0) :: imgWords x.img ++
                [BitVec.ofNat 16 (1 + 2 * clsCode x.cls + 16 * x.client.toNat)]))))))

/-- O42. SEARCH draws R97's plan for its mask and acq.prn_mask, its first row where B4 is missing: it replaces the plan
once the cell search in progress ends, starts the first cell search in the windows of R88, or ends at once with ACQ_END
when the plan is empty; in acq.mode 2 it is refused. SEARCH_STOP ends a search with ACQ_END reason 1. PAN_START starts
the pan named, or the lowest free pan of trk.pan_mask, in PULL, at the code phase and Doppler of its start (log entry
75), and returns it; a busy pan, a tracked PRN or a forbidden one is refused. PAN_STOP releases the pan; its twin becomes
the lead. TWIN starts a second pan on a PRN that one pan tracks, in another group where one is free, at the first pan's
rates and propagated phases, with trk.twin_el_sp; else it is refused. Bad arguments give BAD_ARG. (spec rules R88, R94,
R95, R96, R97, R102, R115, R116, R119, R268, R272) -/
def Obligations.RuntimeSearchCommands : Prop :=
  ∀ (s : State) (n : Notice) (rest : List Notice) (w : List Word) (a : Assist),
    (w.length = 3 → blockCmd s n rest 0x04 w = true →
      let u := taken s rest
      let q : AcqSt :=
        { s.acq with searching := true, newPlan := none, hitsNow := 0, notSearched := 0, freqFound := epsKnown s }
      (s.par pAcqMode = 2 → exec (.search a) s = .next (blockDone u n 4 [])) ∧
      (s.par pAcqMode ≠ 2 → ∃ plan, IsPlan s a (argN w 0 + 65536 * argN w 1) (argN w 2 % 2 == 0) plan ∧
        (s.acq.searching = true → s.acq.cell ≠ none →
          exec (.search a) s = .next (blockDone { u with acq := { s.acq with newPlan := some plan } } n 0 [])) ∧
        (s.acq.searching = false → s.acq.cell = none → s.acq.dwellQ = [] →
          (∀ i is, plan = i :: is → i.direct = false → cryOff s = false → 0 < s.parN pAcqDwell →
            ∃ x l, Windows (s.parN pAcqDwell) (i.centre * 2520) (i.span * 2520) (x :: l) ∧
              exec (.search a) s = .next (blockDone { u with acq := nextWindow s q i x l is } n 0 [])) ∧
          (plan = [] → canMsg s = true → exec (.search a) s =
            .next (blockDone (acqEndPosted { u with acq := { q with searching := false, plan := [] } } 0) n 0 []))))) ∧
    (∀ arg, immCmd s n rest 0x05 arg = true →
      (arg ≠ 0 → exec .searchStop s = .next (immDone (taken s rest) n 0x05 2)) ∧
      (arg = 0 → s.acq.searching = false → exec .searchStop s = .next (immDone (taken s rest) n 0x05 0)) ∧
      (arg = 0 → s.acq.searching = true → canMsg s = true → s.acq.dwellQ = [] → (∀ c, s.acq.cell = some c → c.op = none) →
        exec .searchStop s = .next (immDone (acqEndPosted { (taken s rest) with
          acq := { s.acq with searching := false, plan := [], newPlan := none, cell := none } } 1) n 0x05 0))) ∧
    (w.length = 4 → blockCmd s n rest 0x06 w = true →
      let bad : Bool := decide (32 ≤ argN w 0 ∧ argN w 0 ≠ 0xFFFF) || argN w 1 == 0 || decide (64 ≤ argN w 1) ||
        decide (32736 ≤ argN w 2)
      let forbidden : Bool := argN w 1 == s.parN pTrkNfPrn || (decide (32 < argN w 1) && !s.parB pAcqTestPrnEn) ||
        tracked s (argN w 1)
      (bad = true → exec .panStart s = .next (blockDone (taken s rest) n 2 [])) ∧
      (bad = false → forbidden = true → exec .panStart s = .next (blockDone (taken s rest) n 4 [])) ∧
      (bad = false → forbidden = false →
        (argN w 0 = 0xFFFF → (∀ p, free s p = false) → exec .panStart s = .next (blockDone (taken s rest) n 4 [])) ∧
        (argN w 0 < 32 → (mget s.pans.act (argN w 0)).isSome ∨ unitOk s (1 + argN w 0 / 8) = false →
          exec .panStart s = .next (blockDone (taken s rest) n 4 [])) ∧
        (∀ p, (argN w 0 = 0xFFFF ∧ LowestFree s p) ∨
            (argN w 0 = p ∧ p < 32 ∧ mget s.pans.act p = none ∧ unitOk s (1 + p / 8) = true) →
          ∃ u, exec .panStart s = .next (blockDone u n 0 [BitVec.ofNat 16 p]) ∧
            PanStarts s u p (argN w 1) (argN w 2) (w.getD 3 0).toInt (nextEpoch s) true ∧ u.slu = (taken s rest).slu ∧
            u.pwr = (taken s rest).pwr ∧ onlyIn [.pans, .pace, .slu, .pwr] s u = true))) ∧
    (∀ arg, immCmd s n rest 0x07 arg = true →
      (32 ≤ arg → exec .panStop s = .next (immDone (taken s rest) n 0x07 2)) ∧
      (arg < 32 → mget s.pans.act arg = none → exec .panStop s = .next (immDone (taken s rest) n 0x07 4)) ∧
      (∀ x, arg < 32 → mget s.pans.act arg = some x → s.acq.pendHits = [] → mrising s.pans.act = true → ∃ u,
        exec .panStop s = .next (immDone u n 0x07 0) ∧ Released s u arg x ∧
        u.acq = { s.acq with twinReq := twinsLeft s arg x.prn } ∧
        u.slu = (taken s rest).slu ∧ u.pwr = (taken s rest).pwr ∧ onlyIn [.pans, .pace, .acq, .slu, .pwr] s u = true)) ∧
    ∀ arg, immCmd s n rest 0x08 arg = true →
      (arg = 0 ∨ 64 ≤ arg → exec .twin s = .next (immDone (taken s rest) n 0x08 2)) ∧
      (1 ≤ arg → arg < 64 → (s.pans.act.filter (fun y => y.2.prn == arg)).length ≠ 1 ∨ (∀ p, free s p = false) →
        exec .twin s = .next (immDone (taken s rest) n 0x08 4)) ∧
      ∀ q x p, 1 ≤ arg → arg < 64 → s.pans.act.filter (fun y => y.2.prn == arg) = [(q, x)] → free s p = true →
        (p / 8 ≠ q / 8 ∧ (∀ r, r < p → free s r = true → r / 8 = q / 8)) ∨
          (LowestFree s p ∧ ∀ r, free s r = true → r / 8 = q / 8) →
        ∃ u, exec .twin s = .next (immDone u n 0x08 0) ∧
          PanPlaced s u p (fun y => Begins s arg false y ∧ y.carNco = x.carNco ∧ y.codeNco = x.codeNco ∧
            (let z := advancePan s x (nextEpoch s); y.chip = z.chip ∧ y.codePh = z.codePh ∧ y.carPh = z.carPh)) ∧
          u.acq = { s.acq with twinReq := if arg ∈ s.acq.twinReq then s.acq.twinReq else s.acq.twinReq ++ [arg] } ∧
          u.slu = (taken s rest).slu ∧ u.pwr = (taken s rest).pwr ∧ onlyIn [.pans, .pace, .acq, .slu, .pwr] s u = true

/-- O43. R91's figures are those of the cells. A search that has not done its dwell epochs does not end; one that met a
poisoned accumulator word is repeated, and the poison is cleared. A DWELL operation completes with its seven words. Without
a hit the PRN's next window follows, or with none left and no plan the search ends with ACQ_END. A first hit is confirmed
acq.confirm times about its bin; a failed confirmation, or a hit that R93 takes for a cross-correlation, counts in
acq.rejects and the next window follows. A confirmed hit counts in acq.hits, ends the PRN's search and posts ACQ_HIT: the
lowest free pan starts on it; with no pan free it waits on the pending list; a pan that reacquires the PRN takes it; on a
PRN tracked it starts the twin requested, in another group where one is free, or is discarded. A pending hit that reaches
acq.pend_age is discarded, at that instant, and its PRN goes to the end of the plan of a search in progress, about its
Doppler at the narrow span when frequency is known, else at the full span; it is not queued again where no search runs and
acq.mode is not 0. A Crystallizer stall, once the cell search has run beyond 4 acq.ncoh acq.dwell 2^L ms, sets the unit's
fault bit, takes the level to 2, abandons the cell search, to be repeated, and completes its DWELL and every waiting one with
UNAVAIL. A pan group's stall, 100 ms after the oldest ready bit, sets the group's fault bit and releases its pans and no
other; their PRNs go to the plan. A stall of a unit already withdrawn, or of an idle one, changes nothing. (spec rules R87,
R91, R92, R93, R94, R95, R96, R97, R99, R113, R353, R482) -/
def Obligations.CellSearchesHitsAndStalls : Prop :=
  (∀ m : List (Nat × Nat), m ≠ [] → PeakRight m (peakOf nearCell m)) ∧
  (∀ (s : State) (c : Cell), (result s c).prn = c.prn ∧ (result s c).code < 32736 ∧ (result s c).dtc = dtcNow s) ∧
  (∀ (s : State) (c : Cell) (o : CellObs),
    (s.acq.cell = some c → cryOff s = true ∨ c.done < c.ncoh → exec (.cellSearchEnd o) s = .next s) ∧
    (cellOver s c = true → o.poisoned = true ∨ accPoison s = true → ∃ t, exec (.cellSearchEnd o) s = .next t ∧
      t.acq = { s.acq with cell := some { c with done := 0, sums := [] } } ∧ accPoison t = false ∧
      { t.bank with errs := s.bank.errs } = s.bank ∧ onlyIn [.acq, .bank] s t = true) ∧
    (cellEnds s c o = true →
      let q := cellResult s c
      let ends (t : State) : Prop := exec (.cellSearchEnd o) s = .next (dwellsOn o t)
      (∀ k t, c.op = some (k, t) → s.acq.dwellQ = [] → s.acq.searching = false → ends
        { (s.modCore k (fun x => { x with
          tag := x.tag.set t (completed 0 0 (resultWords (isHit s c) (result s c))) })) with acq := { q with cell := none } }) ∧
      (c.op = none → s.acq.searching = true → s.acq.newPlan = none → s.acq.dwellQ = [] →
        (∀ (i : PlanItem) is x l, s.acq.plan = { i with wins := some (x :: l) } :: is → i.direct = false →
          x.2 = s.parN pAcqDwell →
          (c.first = none → isHit s c = false → ends { s with acq := nextWindow s q i x l is }) ∧
          (∀ f, c.first = some f → confirms s c f = false →
            ends { (s.bumpPar pAcqRejects) with acq := nextWindow s q i x l is }) ∧
          (∀ h, (c.first = none ∧ s.parN pAcqConfirm = 0 ∧ isHit s c = true ∧ h = result s c) ∨
              (∃ f, c.first = some f ∧ c.conf ≤ 1 ∧ confirms s c f = true ∧ h = f.hit) → crossed s h c.dwell →
            mrising s.pans.act = true → ends { (s.bumpPar pAcqRejects) with acq := nextWindow s q i x l is })) ∧
        (∀ i : PlanItem, s.acq.plan = [{ i with wins := some [] }] → i.direct = false → c.first = none → isHit s c = false →
          canMsg s = true → ∃ t, exec (.cellSearchEnd o) s = .next t ∧
            t.acq = { q with searching := false, plan := [], cell := none } ∧
            t.slu = (acqEndPosted { s with acq := q } 0).slu ∧ t.bank = (acqEndPosted { s with acq := q } 0).bank ∧
            onlyIn [.acq, .slu, .bank, .pwr] s t = true) ∧
        (c.first = none → isHit s c = true → 0 < s.parN pAcqConfirm →
          let bin : Int := c.win + (2 * ((peak c).key / 2046 : Nat) - 31 : Int) * (630000 / c.dwell : Nat)
          ends { s with acq := { q with
            cell := some (cellFrom s c.prn bin (s.parN pAcqConfirm) (some ⟨result s c, (peak c).key % 2046, bin⟩)) } }) ∧
        (∀ f, c.first = some f → 1 < c.conf → confirms s c f = true → ends { s with acq := { q with
            cell := some (cellFrom s c.prn c.win (c.conf - 1) (some f)) } }) ∧
        (∀ h i (j : PlanItem) is x l, (c.first = none ∧ s.parN pAcqConfirm = 0 ∧ isHit s c = true ∧ h = result s c) ∨
            (∃ f, c.first = some f ∧ c.conf ≤ 1 ∧ confirms s c f = true ∧ h = f.hit) →
          ¬ crossed s h c.dwell → h.prn = i.prn → canMsg s = true → s.pwr.coreUp = true → x.2 = s.parN pAcqDwell →
          s.acq.plan = i :: { j with wins := some (x :: l) } :: is → j.direct = false → mrising s.pans.act = true →
          let q2 := { q with hitsNow := s.acq.hitsNow + 1, freqFound := true }
          let is2 := narrowed s (h.dop - i.centre) is
          let at_ := nextEpoch s
          (tracked s h.prn = false → (32 < h.prn ∨ s.parBit pAcqPrnMask (h.prn - 1) = true) →
            (∀ p, LowestFree s p → ∃ u, ends (acqHitPosted u h p) ∧
              PanStarts s u p h.prn h.code h.dop h.dtc true ∧ u.acq = nextWindow s q2 j x l is2 ∧
              u.params = (s.bumpPar pAcqHits).params ∧
              onlyIn [.pans, .pace, .acq, .params] s u = true) ∧
            ((∀ p, free s p = false) → s.acq.pendHits.length < 8 → ends
              (acqHitPosted { (s.bumpPar pAcqHits) with
                acq := nextWindow s { q2 with pendHits := s.acq.pendHits ++ [h] } j x l is2 } h 0xFFFF))) ∧
          (∀ p y, s.pans.act.filter (fun z => z.2.prn == h.prn) = [(p, y)] →
            (y.reacq.isSome = true → ∃ u z, ends (acqHitPosted u h p) ∧
              mget u.pans.act p = some z ∧ z.reacq = none ∧ z.phase = .pull ∧ z.starting = true ∧ z.direct = false ∧
              z.since = at_ ∧ Aims s h.code h.dop h.dtc at_ z ∧ z.prn = y.prn ∧ z.lead = y.lead ∧
              (∀ r, r ≠ p → mget u.pans.act r = mget s.pans.act r) ∧ u.acq = nextWindow s q2 j x l is2 ∧
              onlyIn [.pans, .acq, .params] s u = true) ∧
            (y.reacq = none → h.prn ∈ s.acq.twinReq → ∀ r, free s r = true → r / 8 ≠ p / 8 →
              (∀ g, g < r → free s g = true → g / 8 = p / 8) → ∃ u, ends (acqHitPosted u h r) ∧
                PanStarts s u r h.prn h.code h.dop h.dtc false ∧ u.acq = nextWindow s q2 j x l is2 ∧
                onlyIn [.pans, .pace, .acq, .params] s u = true) ∧
            (y.reacq = none → h.prn ∉ s.acq.twinReq → ends
              (acqHitPosted { (s.bumpPar pAcqHits) with acq := nextWindow s q2 j x l is2 } h 0xFFFF))))))) ∧
  (∀ (s : State),
    (s.acq.pendHits = [] → exec .pendingHitExpiry s = .next s) ∧
    (∀ h hs, s.acq.pendHits = h :: hs → ∃ u, exec .pendingHitExpiry s = .next u ∧
      Reaches s u (h.dtc + s.parN pAcqPendAge * 16368) ∧ sameTime s u = true ∧ u.acq.pendHits = hs ∧ u.pans = s.pans ∧
      (prnOk s h.prn = true → s.acq.searching = true → u.acq = { s.acq with
        pendHits := hs, plan := s.acq.plan ++ [requeue s h.prn h.dop (dtcNow u)] } ∧ onlyIn [.time, .acq] s u = true) ∧
      (prnOk s h.prn = false ∨ (s.acq.searching = false ∧ s.par pAcqMode ≠ 0) →
        u.acq = { s.acq with pendHits := hs } ∧ onlyIn [.time, .acq] s u = true)) ∧
    (s.acq.cell = none ∨ unitOk s 0 = false → exec .crystallizerStall s = .next s) ∧
    (∀ c, s.acq.cell = some c → unitOk s 0 = true → ∃ t, exec .crystallizerStall s = .next t ∧
      Reaches s t (c.at_ + 4 * (c.ncoh * c.dwell * 2 ^ min 3 s.pace.level) * 16368 + 1) ∧
      t.pwr.unitFlt.getLsbD 0 = true ∧ (∀ j, j ≠ 0 → t.pwr.unitFlt.getLsbD j = s.pwr.unitFlt.getLsbD j) ∧ levelNow t ≤ 2 ∧
      cryOff t = true ∧ t.acq.cell = none ∧ t.acq.dwellQ = [] ∧ t.acq.searching = s.acq.searching ∧ t.acq.stalled = true ∧
      (∀ k g, c.op = some (k, g) ∨ (k, g) ∈ s.acq.dwellQ → tagOf t k g = completed 8 0 []) ∧
      (∀ k g, c.op ≠ some (k, g) → (k, g) ∉ s.acq.dwellQ → tagOf t k g = tagOf s k g) ∧
      (∀ i is, s.acq.plan = i :: is → t.acq.plan = { i with wins := none } :: is) ∧ t.pans = s.pans) ∧
    ∀ g : Fin 4,
      (unitOk s (1 + g.val) = false ∨ s.pans.act.any (fun y => y.1 / 8 == g.val && !y.2.susp) = false →
        exec (.panGroupStall g) s = .next s) ∧
      (unitOk s (1 + g.val) = true → s.pans.act.any (fun y => y.1 / 8 == g.val && !y.2.susp) = true →
        s.acq.pendHits = [] → s.acq.searching = true → mrising s.pans.act = true → ∃ t, exec (.panGroupStall g) s = .next t ∧
        (∀ p x, mget s.pans.act p = some x → p / 8 = g.val → x.susp = false →
          (∀ q y, mget s.pans.act q = some y → q / 8 = g.val → y.susp = false → x.posAt ≤ y.posAt) →
          Reaches s t (x.posAt + 1636800)) ∧
        t.pwr.unitFlt.getLsbD (1 + g.val) = true ∧
        (∀ j, j ≠ 1 + g.val → t.pwr.unitFlt.getLsbD j = s.pwr.unitFlt.getLsbD j) ∧
        (∀ p, (mget t.pans.act p).isSome = ((mget s.pans.act p).isSome && p / 8 != g.val)) ∧
        (∀ p x, p / 8 = g.val → mget s.pans.act p = some x → prnOk s x.prn = true → tracked t x.prn = false →
          ∃ i ∈ t.acq.plan, i.prn = x.prn) ∧
        t.bank.owners = s.bank.owners ∧ sameTime s t = true ∧ t.evs = s.evs ∧ t.rtc = s.rtc))

/-- O44. An integration ends when it has run its length from the pan's last boundary: the code and carrier phases have run on
at their rates, and taps, rates and the integration length that wait apply; SWEEP taps step. With a gap epoch it is discarded:
result, indicators and carrier state hold. Else the result is ready for TRK (one not yet read is counted lost), C/N0 and
code_lk, PLI, car_lk and the carrier state, bit_sync and frm_sync follow R104 to R110; a pan whose start at its predicted
state has not pulled in within trk.pull_ms begins pan search. Other pans stay. After trk.pull_ms PULL with car_lk becomes
LOCK. Loss of code lock, after trk.loss_ms below trk.cn0_loss, starts pan search, clears the sync bits and passes the lead to
a locked twin; with trk.reacq_s 0, or when pan search has failed for trk.reacq_s, the pan is released and its PRN queued.
(spec rules R61, R100, R101, R104, R105, R107, R109, R110, R111, R113, R114, R116) -/
def Obligations.Tracking : Prop :=
  ∀ (s : State) (p : Fin 32) (o : IntegObs),
    (mget s.pans.act p.val = none →
      exec (.integrationEnd p o) s = .next s ∧ exec (.pullComplete p) s = .next s ∧ exec (.codeLockLoss p) s = .next s ∧
        exec (.reacqTimeout p) s = .next s) ∧
    ∀ x, mget s.pans.act p.val = some x →
      (integrates s x = false → exec (.integrationEnd p o) s = .next s ∧ exec (.pullComplete p) s = .next s ∧
        exec (.codeLockLoss p) s = .next s ∧ exec (.reacqTimeout p) s = .next s) ∧
      (integrates s x = true →
        (∃ t y, exec (.integrationEnd p o) s = .next t ∧ mget t.pans.act p.val = some y ∧
          (∀ q, q ≠ p.val → mget t.pans.act q = mget s.pans.act q) ∧
          Reaches s t (x.posAt + x.coh * 16368) ∧ y.posAt = x.posAt + x.coh * 16368 ∧ y.ms = x.ms + x.coh ∧
          (match x.pendTaps with
            | some (el, vel, a, b) => y.elSp = el ∧ y.velSp = vel ∧ y.xaOff = a ∧ y.xbOff = b
            | none => y.elSp = x.elSp ∧ y.velSp = x.velSp ∧ y.xaOff = tapAfter s pTrkXaMode x.xaOff ∧
                y.xbOff = tapAfter s pTrkXbMode x.xbOff) ∧ y.pendTaps = none ∧
          y.coh = (if x.bitSync = true ∧ (x.ms + x.coh) % 20 = x.bitPos then x.pendCoh.getD x.coh else x.coh) ∧
          y.prn = x.prn ∧ y.lead = x.lead ∧ y.susp = x.susp ∧ y.starting = x.starting ∧
          (x.reacq = none ∨ x.gapHit = true →
            let n := x.coh * (if s.par pSmpMode = 1 then 16368 else 8184)
            y.chip * 2 ^ 32 + y.codePh.toNat = (x.chip * 2 ^ 32 + x.codePh.toNat + x.codeNco.toNat * n) % (1023 * 2 ^ 32) ∧
            y.carPh = BitVec.ofNat 32 (x.carPh.toNat + x.carNco.toNat * n) ∧ y.pendRate = none ∧
            (y.carNco, y.codeNco) = x.pendRate.getD (x.carNco, x.codeNco)) ∧
          (x.gapHit = true → y.gapHit = false ∧ y.gapMeas = true ∧ y.result = x.result ∧ y.ready = x.ready ∧ y.codeLk = x.codeLk ∧
            y.carLk = x.carLk ∧ y.bitSync = x.bitSync ∧ y.frmSync = x.frmSync ∧ y.phase = x.phase ∧ y.cn0 = x.cn0 ∧
            y.reacq = x.reacq ∧ y.pliRun = x.pliRun ∧ y.lossMs = x.lossMs ∧ sameTime s t = true ∧
            onlyIn [.time, .pans] s t = true) ∧
          (x.gapHit = false →
            y.result = wordsOut s o ∧ y.ready = true ∧
            (x.reacq = none → pullOver s x (dtcNow t) = true → y.reacq = some freshSearch ∧ y.codeLk = x.codeLk ∧ y.carLk = x.carLk ∧
              y.bitSync = x.bitSync ∧ y.phase = x.phase) ∧
            (x.reacq = none → pullOver s x (dtcNow t) = false → y.reacq = none ∧ CodeRight s x y ∧ CarrierRight s x y ∧
              (x.bitSync = true → y.bitSync = true) ∧
              (x.bitSync = false → BitsRight (atInstant s t) x y o)) ∧
            (x.reacq.isSome = true → y.codeLk = x.codeLk ∧ y.carLk = x.carLk ∧ y.bitSync = x.bitSync ∧
              (y.reacq = none → y.phase = .pull)) ∧
            y.frmSync = (match o.lnav with
              | some (.preamble ok) => x.frmSync || (y.bitSync && ok && x.preamble.map (· + 6000) == some (x.ms + x.coh))
              | some .subframeFail => x.frmSync && decide (x.parityRun = 0)
              | _ => x.frmSync) ∧
            t.params = (if x.ready then (s.bumpPar pTrkLateCnt).params else s.params) ∧
            (∀ leap next, o.lnav = some (.ionoUtc leap next) → x.frmSync = true →
              t.time.utcValid = true ∧ t.time.leap = leap ∧ t.pans.iono = true) ∧
            ((∀ leap next, o.lnav ≠ some (.ionoUtc leap next)) ∨ x.frmSync = false →
              sameTime s t = true ∧ t.pans.iono = s.pans.iono) ∧
            onlyIn [.pans, .params, .time] s t = true)) ∧
        (∃ t, exec (.pullComplete p) s = .next t ∧
          (x.phase = .pull → x.carLk = true → x.reacq = none →
            t.pans = { s.pans with act := mput s.pans.act p.val { x with phase := .lock, direct := false } } ∧
            Reaches s t (x.since + s.parN pTrkPullMs * 16368) ∧ sameTime s t = true ∧ onlyIn [.time, .pans] s t = true) ∧
          (x.phase ≠ .pull ∨ x.carLk = false ∨ x.reacq.isSome = true → t = s)) ∧
        (x.codeLk = false ∨ x.lossMs = none → exec (.codeLockLoss p) s = .next s) ∧
        (∀ m, x.codeLk = true → x.lossMs = some m →
          let twin (y : Nat × Pan) : Bool := y.1 != p.val && y.2.prn == x.prn && y.2.codeLk && y.2.lossMs.isNone
          ∃ t, exec (.codeLockLoss p) s = .next t ∧ Reaches s t (dtcNow s + (s.parN pTrkLossMs - m) * 16368) ∧
            sameTime s t = true ∧
            (s.par pTrkReacqS ≠ 0 → x.lead = false ∨ s.pans.act.any twin = false →
              t.pans = { s.pans with act := mput s.pans.act p.val (codeLost x (dtcNow t)) } ∧ onlyIn [.time, .pans] s t = true) ∧
            (∀ q y, s.par pTrkReacqS ≠ 0 → x.lead = true → s.pans.act.filter twin = [(q, y)] → mrising s.pans.act = true →
              mget t.pans.act p.val = some { codeLost x (dtcNow t) with lead := false } ∧
              mget t.pans.act q = some { y with lead := true } ∧
              (∀ r, r ≠ p.val → r ≠ q → mget t.pans.act r = mget s.pans.act r) ∧
              onlyIn [.time, .pans, .integ] s t = true) ∧
            (s.par pTrkReacqS = 0 → s.acq.pendHits = [] → mrising s.pans.act = true →
              s.pans.act.filter (fun z => z.2.prn == x.prn) = [(p.val, x)] →
              s.acq.searching = true → prnOk s x.prn = true → Released s t p.val x ∧
                t.acq = { s.acq with twinReq := twinsLeft s p.val x.prn
                                     plan := s.acq.plan ++ [requeue s x.prn (panDop s x) (dtcNow t)] } ∧
                onlyIn [.time, .pans, .acq, .pace, .pwr] s t = true)) ∧
        (x.reacq = none → exec (.reacqTimeout p) s = .next s) ∧
        (x.reacq.isSome = true → s.acq.pendHits = [] → mrising s.pans.act = true →
          ∃ t, exec (.reacqTimeout p) s = .next t ∧ Reaches s t (x.since + s.parN pTrkReacqS * 16368000) ∧
            sameTime s t = true ∧ Released s t p.val x ∧
            (s.pans.act.filter (fun z => z.2.prn == x.prn) = [(p.val, x)] → s.acq.searching = true → prnOk s x.prn = true →
              t.acq = { s.acq with twinReq := twinsLeft s p.val x.prn
                                   plan := s.acq.plan ++ [requeue s x.prn (panDop s x) (dtcNow t)] } ∧
              onlyIn [.time, .pans, .acq, .pace, .pwr] s t = true) ∧
            (∀ q y, q ≠ p.val → mget s.pans.act q = some y → y.prn = x.prn →
              onlyIn [.time, .pans, .pace, .pwr] s t = true)))

/-- O45. An admitted sample is counted by its level and enters Brine with its values (through the notches, a free function: log
entry 27), the epoch mark of the first of its epoch and its time by the REFIN edge, the stored SCLK phase and tp.fe_delay; what
every active consumer has read leaves; at shed_jump fill the level moves to the exhausted level at once. At 4,096 entries it is
discarded instead: ovr is set, the epoch is a gap epoch and an overrun that begins is posted. A sample that arrives while
admission is off is discarded and makes a gap epoch, without ovr. The end of fe_settle, at its instant, only ends settling.
Without edges for 64 periods, or with an edge count off by more than 1, an SCLK fault is declared: sclk_ok clears, sclk_flt
sets, the count rises, samples are discarded, a notice is posted. Correct periods are then counted. A capture, less its path's
trim, adds to the mean of 16, moves the stored phase by 1/64 of the difference, or is a slip, and a gap epoch. (spec rules R55,
R60, R62, R68, R70, R71, R72, R73, R74, R75, R81, R145) -/
def Obligations.SamplesAndSclk : Prop :=
  ∀ (s : State),
    (∀ d : BitVec 4,
      (s.samp.live = false → exec (.sampleArrival d) s = .next s) ∧
      (s.samp.live = true → s.samp.admitting = false → exec (.sampleArrival d) s = .next { s with
        samp := { s.samp with phaseIdx := 1 - s.samp.phaseIdx }, pace := { s.pace with gapNow := true } }) ∧
      (s.samp.live = true → s.samp.admitting = true →
        let q : SampSt := { s.samp with
          phaseIdx := 1 - s.samp.phaseIdx
          jamA := counted s s.samp.jamA (d.getLsbD 1) (d.getLsbD 0)
          jamB := if s.par pSmpMode = 2 then counted s s.samp.jamB (d.getLsbD 3) (d.getLsbD 2) else s.samp.jamB }
        (s.samp.fifo.length < 4096 → ∃ (t : State) (b : Int) (keep : Nat), exec (.sampleArrival d) s = .next t ∧
          let v := sampleValues s (1 - s.samp.phaseIdx) d
          let time : Int := (dtcNow s : Int) * 4096 + s.samp.phase64 - s.par pTpFeDelay * (64 * ticksPerSec) / 1000000000
          (s.par pSmpMode = 1 → b = 0) ∧
          (∀ i : Fin 5, t.samp.unread.get i = (if readsBrine s i.val then s.samp.unread.get i + 1 else 0) ∧
            t.samp.unread.get i ≤ keep) ∧
          (keep = 0 ∨ ∃ i : Fin 5, t.samp.unread.get i = keep) ∧
          t.samp = { q with
            fifo := (s.samp.fifo ++ [(⟨Config.notchOut s.free 0 v.1 v.2, b, s.samp.epochMark, time⟩ : BrineEntry)]).drop
              (s.samp.fifo.length + 1 - keep)
            epochMark := false, unread := t.samp.unread } ∧
          (let jump : Bool := pacing s && decide (paceNum s pPwrShedJump ≤ t.samp.fifo.length ∧ s.pace.level < lastLevel s)
           (jump = false → onlyIn [.samp] s t = true) ∧
           (jump = true → t.pace.level = lastLevel s ∧ t.pace.jump = true ∧
             onlyIn [.samp, .pace, .pans, .params, .slu, .acq, .integ] s t = true))) ∧
        (4096 ≤ s.samp.fifo.length → s.pwr.coreUp = true → s.slu.ntc.length < 496 → s.pace.level ≤ 63 →
          exec (.sampleArrival d) s = .next { s with
            samp := q, pace := { s.pace with ovr := true, overrun := true, ovrNoted := true, gapNow := true }
            slu := if s.pace.ovrNoted then s.slu else
              { s.slu with ntc := s.slu.ntc ++ [immWord 3 (s.pace.level + 128)] } }))) ∧
    (s.samp.settling = true → exec .feSettleExpiry s =
      .next { (carryDtc s (s.samp.feRose + s.parN pSmpFeSettle * 16368)) with samp := { s.samp with settling := false } }) ∧
    (s.samp.settling = false → exec .feSettleExpiry s = .next s) ∧
    (s.samp.live = true → s.samp.faulted = false → s.pwr.coreUp = true → s.slu.ntc.length < 496 →
      exec .sclkAbsence s = .next (sclkDeclared s)) ∧
    (s.samp.live = false ∨ s.samp.faulted = true →
      exec .sclkAbsence s = .next { s with samp := { s.samp with goodRun := 0 } }) ∧
    ∀ o : SclkObs, pacing s = true → s.slu.ntc.length < 490 → ∃ t, exec (.pacePeriodEnd o) s = .next t ∧
        let as (x : SampSt) : SampSt := { x with fifo := t.samp.fifo, unread := t.samp.unread }
        t.samp.fifo = s.samp.fifo.drop (s.samp.fifo.length - fill s) ∧
        (s.samp.live = false → t.samp.faulted = s.samp.faulted ∧ t.samp.goodRun = s.samp.goodRun) ∧
        (s.samp.live = true → edgesRight s o.edges = false → s.samp.faulted = false →
          t.samp = as (sclkDown s) ∧ immWord 4 0 ∈ t.slu.ntc ∧
          t.par pSmpSclkFltCnt = (s.bumpPar pSmpSclkFltCnt).par pSmpSclkFltCnt) ∧
        (s.samp.live = true → s.samp.faulted = true →
          t.samp.goodRun = (if edgesRight s o.edges then s.samp.goodRun + 1 else 0) ∧ t.samp.faulted = true) ∧
        (s.samp.live = true → edgesRight s o.edges = true → s.samp.faulted = false →
          (o.capture = none ∨ s.samp.admitting = false → t.samp = as s.samp) ∧
          ∀ c, o.capture = some c → s.samp.admitting = true →
            let v : Int := 64 * c - divNearest (trimPs s 13 * 67043328) 1000000000
            (s.samp.phaseN < 16 →
              t.samp = as { s.samp with phase64 := s.samp.phase64 + v / 16, phaseN := s.samp.phaseN + 1 }) ∧
            (16 ≤ s.samp.phaseN → ∀ d : Int, (v - s.samp.phase64 - d) % (64 * sclkPeriod s) = 0 →
              -(32 * sclkPeriod s) ≤ d → d < 32 * sclkPeriod s →
              ((d.natAbs : Int) ≤ s.par pSmpSclkPhTol * 64 →
                t.samp = as { s.samp with phase64 := s.samp.phase64 + d / 64 }) ∧
              (s.par pSmpSclkPhTol * 64 < (d.natAbs : Int) → t.samp = as { s.samp with phase64 := v, slip := true } ∧
                t.pace.gapNow = true ∧ t.par pSmpSlipCnt = (s.bumpPar pSmpSlipCnt).par pSmpSlipCnt)))

/-- O46. In RUN and IDLE the DTC goes on to the period's end. The voltage target rises by a step at fill of pace_hi or
more, falls by one after pace_dn_hold low periods, clipped to floor and ceiling, or stays; none moves with pace_en 0.
After shed_wait periods at the ceiling with high fill the level moves up to the next step that sheds work; at
shed_jump fill it moves to the exhausted level at once. A step to level 5 or above suspends the pan of the lowest
C/N0, of equals the highest number. A run of quiet periods, by the voltage commanded before the period ends or with pace_en 0
by the fill alone, gives one step back: the pan suspended last, or from level 5 all, propagated, in PULL. Every level shed
again inside its relapse window raises backoff by one, up to backoff_max; a window that ends without a relapse clears it. Else
the level stays. Leaving level 0 and returning to it are posted. Parameters written in a period apply from the next, when they
are forgotten as old. RELAPSE_WINDOW_EXPIRY is the end of the oldest window. (spec rules R48, R49, R50, R51, R52, R53, R54, R55,
R56, R57, R58, R63) -/
def Obligations.PaceMonitor : Prop :=
  ∀ (s : State) (o : SclkObs),
    (pacing s = true →
      mrising s.pans.act = true → 1 ≤ paceNum s pPwrShedWait → 1 ≤ paceNum s pPwrPaceDnHold → 1 ≤ paceNum s pPwrUnshedHold →
      ∃ t, exec (.pacePeriodEnd o) s = .next t ∧
        dtcNow t = paceEnd s ∧ t.pace.old = [] ∧
        (s.vreg.softst = false → (s.vreg.target : Int) ≤ 255 → 0 ≤ s.par pVregFloor → 0 ≤ s.par pVregCeil →
          s.par pVregFloor ≤ s.par pVregCeil → s.par pVregFloor ≤ s.vreg.target → (s.vreg.target : Int) ≤ s.par pVregCeil →
          (t.vreg.target : Int) = paceTarget s ∧
          (paceVal s pPwrPaceEn ≠ 0 → paceNum s pPwrPaceHi ≤ fill s ∨ stepsDown s = true →
            t.pace.atCeil = decide (paceTarget s = s.par pVregCeil))) ∧
        (restores s = true → t.pace.level + 1 = s.pace.level ∧
          t.pace.restores = windowsOpen s (paceEnd s) ++ [(s.pace.level, paceEnd s, true)] ∧
          t.pace.backoff = backoffAt s (paceEnd s) ∧ t.pace.quietRun = 0 ∧
          (s.pace.level = 1 → s.slu.ntc.length < 490 → immWord 3 64 ∈ t.slu.ntc) ∧
          (s.pace.level ≤ 4 → t.pans = s.pans) ∧
          (∀ p l x, 5 < s.pace.level → s.pace.suspOrder = p :: l → mget s.pans.act p = some x →
            mget t.pans.act p = some (broughtBack s x) ∧ t.pace.suspOrder = l ∧
            ∀ q, q ≠ p → mget t.pans.act q = mget s.pans.act q) ∧
          (s.pace.level = 5 → s.pace.suspOrder.length ≤ 32 → s.pace.suspOrder.Nodup → t.pace.suspOrder = [] ∧
            ∀ p x, mget s.pans.act p = some x →
              mget t.pans.act p = some (if p ∈ s.pace.suspOrder then broughtBack s x else x))) ∧
        (jumps s = false → shedDue s = false → restores s = false → t.pace.level = s.pace.level ∧ t.pans = s.pans ∧
          t.pace.backoff = backoffAt s (paceEnd s)) ∧
        (shedDue s = true → s.pace.level < t.pace.level ∧ t.pace.level ≤ lastLevel s ∧
          (∀ l, s.pace.level < l → l < t.pace.level → hasWork s l = false) ∧
          (hasWork s t.pace.level = true ∨ t.pace.level = lastLevel s) ∧
          t.pace.shedCnt.toNat = min 65535 (s.pace.shedCnt.toNat + 1) ∧ t.pace.hiRun = 0 ∧
          (let n := ((windowsOpen s (paceEnd s)).filter (fun r => decide (s.pace.level < r.1 ∧ r.1 ≤ t.pace.level))).length
           t.pace.backoff = if n = 0 then backoffAt s (paceEnd s)
             else min (backoffAt s (paceEnd s) + n) (paceNum s pPwrBackoffMax)) ∧
          (s.pace.level = 0 → s.slu.ntc.length < 490 → immWord 3 t.pace.level ∈ t.slu.ntc) ∧
          (t.pace.level ≤ 4 → t.pans = s.pans) ∧
          (5 ≤ t.pace.level → paceNum s pPwrPanKeep < panCount s → ∃ p x, Worst s p ∧ t.pace.suspOrder = p :: s.pace.suspOrder ∧
            mget t.pans.act p = some x ∧ x.susp = true ∧ x.codeLk = false ∧ x.carLk = false ∧ x.bitSync = false ∧
            x.frmSync = false ∧
            (∀ q, q ≠ p → (mget t.pans.act q).map (fun y => { y with lead := true }) =
              (mget s.pans.act q).map (fun y => { y with lead := true })) ∧ panCount t + 1 = panCount s)) ∧
        (jumps s = true → t.pace.level = lastLevel s ∧ t.pace.jump = true ∧
          t.pace.shedCnt.toNat = min 65535 (s.pace.shedCnt.toNat + (lastLevel s - s.pace.level)) ∧
          ∀ c, s.acq.cell = some c → t.acq.cell = some { c with run := none }) ∧
        onlyIn [.time, .samp, .pace, .vreg, .pans, .params, .slu, .acq, .integ] s t = true) ∧
    (pacing s = false → exec (.pacePeriodEnd o) s = .next s) ∧
    (∀ r rs, s.pace.restores = r :: rs →
      let u := carryDtc s (r.2.1 + paceNum s pPwrRelapseWin * 16368)
      exec .relapseWindowExpiry s = .next { u with
        pace := { s.pace with restores := windowsOpen s (dtcNow u), backoff := backoffAt s (dtcNow u) } }) ∧
    (s.pace.restores = [] → exec .relapseWindowExpiry s = .next s)

/-- O47. The DTC goes on to the boundary. Pending epoch commits end APPLIED; a pending step moves GNSS time by its
ticks; a gap epoch is counted and marks every running pan's integration; a suspended pan is propagated; JAM and jamming state of
each path follow R81 and R82 after an admitted epoch and hold otherwise; a FIXED notch is engaged at its frequency, an OFF notch
is not, an AUTO notch alone engages after 4 epochs and disengages after 64; admission starts or resumes; starting pans run; a
dwell epoch takes in the millisecond, and at its end its powers add to the cells unless a gap spoilt it; the next one begins
after R89's idle interval; the next sample carries the epoch mark; both cores' epoch interrupts are pending. (What calls of the
Runtime in EPOCH hooks do is left to O38's and O41's operations.) A DTC wrap changes neither GNSS time nor quality. A scheduled
leap second applies at the end of its day of UTC. (spec rules R16, R36, R54, R61, R71, R77, R81, R82, R87, R89, R99, R219) -/
def Obligations.EpochBoundary : Prop :=
  ∀ (s : State),
    (∀ o : EpochObs,
      (s.time.running = false → exec (.epochBoundary o) s = .next s) ∧
      (s.time.running = true → ∃ t, exec (.epochBoundary o) s = .next t ∧ (o.calls = [] →
        let u := atCount s ((dtcNow s / 16368 + 1) * 16368)
        let still : Prop := ∀ c, (txnOf s c).pend = false
        let gap : Bool := s.pace.gapNow || (s.samp.live && !s.samp.admitting)
        dtcNow t = dtcNow u ∧
          t.trk.ipEpoch = true ∧ t.svc.ipEpoch = true ∧ t.samp.epochMark = true ∧
          (∀ c, (txnOf s c).pend = true → (txnOf t c).pend = false ∧ (txnOf t c).result = 1 ∧ (t.cls c).irqTxn = true) ∧
          (∀ y ∈ t.pans.act, y.2.starting = false) ∧
          (still →
            (s.time.tq ≠ .unknown → gnssNow t = gnssNow u + s.time.stepPend.getD 0) ∧ t.time.stepPend = none ∧
            t.pace.gapNow = false ∧ t.pace.gapEp.toNat = (if gap then min 65535 (s.pace.gapEp.toNat + 1) else s.pace.gapEp.toNat) ∧
            (∀ p x, mget s.pans.act p = some x → x.starting = false → s.time.stepPend = none → s.acq.begun = true →
              mget t.pans.act p = some (if x.susp then advancePan s x (dtcNow t)
                else { x with gapHit := x.gapHit || gap })) ∧
            (∀ c, s.acq.cell = some c → s.acq.begun = true → (s.pwr.state = .run ∨ s.pwr.state = .idle) →
              (∀ n g, c.run = some (n, g) →
                (n + 1 < c.dwell → t.acq.cell = some { c with run := some (n + 1, g || gap) }) ∧
                (c.dwell ≤ n + 1 → ∃ d, t.acq.cell = some d ∧ d.done = (if g || gap then c.done else c.done + 1) ∧
                  d.sums = if g || gap then c.sums else addCells c.sums o.cells)) ∧
              (∀ i d, c.run = none → c.done < c.ncoh → c.align = false → cryOff s = false → s.acq.idle = some (i, d) →
                t.acq.cell = some (if (2 ^ min 3 s.pace.level - 1) * d ≤ i + 1 then { c with run := some (0, false) } else c))) ∧
            (s.samp.admitting = true →
              (s.par pSmpMode = 1 → JamMoves s s.samp.jamA t.samp.jamA 16368 ∧ t.samp.jamB = JamPath.reset) ∧
              (s.par pSmpMode = 2 → JamMoves s s.samp.jamA t.samp.jamA 8184 ∧ JamMoves s s.samp.jamB t.samp.jamB 8184)) ∧
            (s.samp.admitting = false → t.samp.jamA.jam8 = s.samp.jamA.jam8 ∧ t.samp.jamA.state = s.samp.jamA.state ∧
              t.samp.jamB.jam8 = s.samp.jamB.jam8 ∧ t.samp.jamB.state = s.samp.jamB.state) ∧
            (∀ k : Fin 4, let x := s.samp.notch.get k; let y := t.samp.notch.get k
              let m := s.parN (pSmpN0Mode + k.val)
              (m = 1 → y.mode = 1 ∧ y.engaged = true ∧ y.freq = BitVec.ofInt 16 (s.par (pSmpN0Freq + k.val))) ∧
              (m = 0 → x.mode ≠ 0 → y.mode = 0 ∧ y.engaged = false) ∧
              (m = 2 → x.mode ≠ 2 → y.mode = 2 ∧ y.engaged = false) ∧
              (m = 2 → x.mode = 2 → s.samp.admitting = true →
                (∀ j, j ≠ k → s.parN (pSmpN0Mode + j.val) = 0 ∧ (s.samp.notch.get j).mode ≠ 1 ∧
                  ((s.samp.notch.get j).mode = 0 → (s.samp.notch.get j).engaged = false)) →
                y.freq = (notchMeas o k).freq ∧ y.inr = (notchMeas o k).inr ∧
                y.engaged = if x.engaged then decide (s.par pSmpNotchOff ≤ (notchMeas o k).inr ∨ x.offRun + 1 < 64)
                  else decide (s.par pSmpNotchOn ≤ (notchMeas o k).inr ∧ 4 ≤ x.onRun + 1))) ∧
            (let on : Bool := s.samp.live && !s.samp.settling && !s.samp.admitting &&
                (!s.samp.faulted || decide (16 ≤ s.samp.goodRun));
              (on = true → t.samp.admitting = true ∧ t.samp.sclkOk = true ∧ t.samp.faulted = false ∧ t.samp.phaseN = 0) ∧
              (on = false → t.samp.admitting = s.samp.admitting ∧ t.samp.sclkOk = s.samp.sclkOk ∧
                t.samp.faulted = s.samp.faulted)) ∧
            t.rtc = s.rtc ∧ t.bus = s.bus ∧ t.cp.pram = s.cp.pram ∧ t.bank.owners = s.bank.owners ∧ t.pwr = s.pwr ∧ t.gau = s.gau ∧
            t.slu.chans = s.slu.chans ∧ t.slu.cmd = s.slu.cmd ∧ t.pin = s.pin ∧ t.pending = s.pending)))) ∧
    (s.time.running = true → exec .dtcWrap s =
      .next { s with time := { s.time with dtc := 0, wraps := s.time.wraps + 1 } }) ∧
    (s.time.running = false → exec .dtcWrap s = .next s) ∧
    (∀ l, s.time.leapNext = some l → s.time.utcValid = true → s.time.running = true → coreRuns s .svc = true →
      exec .leapSecondApply s =
        .next (let t := carryGnss s ((((l.week * 604800 + l.day * 86400 : Nat) : Int) + s.time.leap) * ticksPerSec);
          { t with time := { t.time with leap := l.leap, leapNext := none } })) ∧
    (s.time.leapNext = none ∨ s.time.utcValid = false → exec .leapSecondApply s = .next s)

/-- O48. At the next solution epoch SOLUTION_EPOCH sets or clears SPOOF_SUSPECT by R133 and R134 and accepts or rejects by
R127. Accepted: GNSS time is set from UNKNOWN, slewed within sys.step_thr, or a step is left pending; epsilon, uncertainty
and quality follow R23; the anchor is taken when every check passes and it is due. With an uncertainty beyond sys.coarse_max
the quality is not raised (log entry 43). Rejected: GNSS time and epsilon stay, int.rej_cnt counts, after sys.ho_wait the
quality is HOLDOVER. The position of a PVT solution is held until a survey is complete. The record's type, flags, sequence
number, mode and integrity word follow R138 and R139. SPOOF_SUSPECT_CLEAR is the solution at the period's end.
GNSS_FINE_ENTRY, HOLDOVER_ENTRY and SURVEY_COMPLETE make the transition at their instant. (spec rules R19, R21, R23, R123,
R125, R127, R129, R130, R131, R133, R134, R138) -/
def Obligations.Solutions : Prop :=
  ∀ (s : State) (o : SolObs),
    (solving s = false → exec (.solutionEpoch o) s = .next s) ∧
    (∀ n sol, solving s = true → NextEpoch s n →
      let u := newEphemeris (carryDtc s n)
      FullTime u o sol →
      let now := dtcNow u
      let acc := isAccepted u o sol
      let m := itsMode u o sol
      let sig := solSigma u o m
      let d := sol - gnssNow u
      let unknown : Bool := u.time.tq == .unknown
      let big : Bool := !unknown && isBig u d
      let due : Bool := match u.integ.ref with
        | none => true
        | some r => decide (r.at_ + u.parN pIntClkRefS * 1047552000 ≤ elapsed u)
      let held : Bool := tqGnss u.time.tq && decide (u.time.lastAccept + u.parN pSysHoWait * 16368 ≤ now)
      ∃ t, exec (.solutionEpoch o) s = .next t ∧ Reaches s t n ∧
        t.integ.seq = u.integ.seq + 1 ∧ t.integ.solvedAt = some now ∧ t.integ.leadChg = [] ∧
        t.integ.spoof = spoofAfter u o sol ∧
        t.integ.clkRun = (if clkFails u o sol then u.integ.clkRun + 1 else 0) ∧
        (u.integ.spoof = false → t.integ.cause = if setsSpoof u o sol = 0 then u.integ.cause else setsSpoof u o sol) ∧
        (u.integ.spoof = true → clearsSpoof u o sol = false →
          t.integ.passT = if everyPass u o sol then some (passedFor u) else none) ∧
        t.pace.gapSinceSol = 0 ∧ (∀ y ∈ t.pans.act, y.2.gapMeas = false) ∧ t.pans.eph = u.pans.eph ∧
        t.time.pos = (if m = 2 ∧ u.time.surveyHeld = false then some o.pos else u.time.pos) ∧
        (acc = true →
          t.time.lastAccept = now ∧ t.time.acceptAt = some (elapsed u) ∧ t.time.freqKnown = true ∧ t.time.eps = o.eps ∧
          t.time.tq = tqAfter u sig big ∧
          (unknown = false ∨ coarseOk u sig = true →
            t.time.u0 = sig ∧ t.time.sigF = o.freqSigma ∧ t.time.unbounded = false) ∧
          (unknown = true → coarseOk u sig = true → gnssNow t = sol ∧ t.time.stepPend = none) ∧
          (unknown = true → coarseOk u sig = false → t.time.anchorT = sol ∧ t.time.anchorD = now) ∧
          (unknown = false → gnssNow t = gnssNow u ∧
            (big = true → t.time.stepPend = some d ∧ t.time.slewLeft = 0) ∧
            (big = false → t.time.stepPend = none ∧ t.time.slewLeft = d ∧ t.time.slewRate = u.parN pSysSlewMax)) ∧
          t.integ.ref = (if everyPass u o sol = true ∧ due = true ∧ t.time.tq ≠ .unknown ∧ t.time.tq ≠ .hostSet
            then some ⟨now, gnssNow t, o.eps, sig, o.freqSigma, elapsed u⟩ else u.integ.ref) ∧
          t.par pIntRejCnt = s.par pIntRejCnt) ∧
        (acc = false →
          gnssNow t = gnssNow u ∧ t.time.eps = u.time.eps ∧ t.time.lastAccept = u.time.lastAccept ∧
          t.time.stepPend = u.time.stepPend ∧ t.time.fineSince = none ∧ t.integ.ref = u.integ.ref ∧
          t.par pIntRejCnt = (s.bumpPar pIntRejCnt).par pIntRejCnt ∧
          t.time.tq = (if held then .holdover else u.time.tq)) ∧
        (msrOpen s = true → acc = true ∨ s.parB pMsrPost = false → s.slu.ntc.length < 470 → s.pans.act.length ≤ 32 →
          let used := if m = 0 then 0 else nUsable u o sol - bit (excludes u o sol)
          t.par pNtcMsrWr = (((s.parN pNtcMsrWr + 1) % 128 : Nat) : Int) ∧
          msrWord s t 0 = 1 + 256 * s.pans.act.length + 16384 * bit (s.pace.gapSinceSol != 0) + 32768 * bit (!acc) ∧
          msrWord s t 1 = s.integ.seq.toNat ∧ msrWord s t 9 = m + 4 * used ∧
          msrWord s t 24 = bit (resFails u o sol) + 2 * bit (excludes u o sol) +
            4 * bit (!enough m (nUsable u o sol) 5 2) + 8 * bit (isFlat u o sol) +
            16 * bit (dopFails u o sol) + 32 * bit (!dopTested u o sol) + 64 * bit (twinFails u o) +
            128 * bit (clkFails u o sol) +
            256 * bit (!clkTested u o sol) + 512 * bit (decide (1 ≤ s.samp.jamA.state ∨ 1 ≤ s.samp.jamB.state)) +
            1024 * bit (s.samp.jamA.state == 2 || s.samp.jamB.state == 2) + 2048 * bit (spoofAfter u o sol) +
            4096 * bit (s.pace.gapSinceSol != 0) + 8192 * bit (!acc) +
            16384 * bit (acc && everyPass u o sol && due && t.time.tq != .unknown && t.time.tq != .hostSet)) ∧
        (msrOpen s = true → acc = false → s.parB pMsrPost = true → t.par pNtcMsrWr = s.par pNtcMsrWr) ∧
        (s.parB pIntTwinAuto = false ∨ resHits u o sol = false → t.acq = s.acq ∧
          ∀ q, (mget t.pans.act q).map (·.prn) = (mget s.pans.act q).map (·.prn)) ∧
        t.rtc = s.rtc ∧ t.samp = s.samp ∧ t.pwr = s.pwr ∧ t.bus = s.bus ∧ t.bank.owners = s.bank.owners ∧
        t.pending = s.pending) ∧
    (s.integ.spoof = false ∨ s.integ.passT = none ∨ passedFor s < 10 * s.parN pIntSpClearS →
      exec (.spoofSuspectClear o) s = .next s) ∧
    (s.integ.spoof = true → s.integ.passT.isSome = true → 10 * s.parN pIntSpClearS ≤ passedFor s →
      exec (.spoofSuspectClear o) s = exec (.solutionEpoch o) s) ∧
    (s.time.tq ≠ .gnssCoarse ∨ s.time.fineSince = none ∨ s.time.stepPend.isSome = true ∨ solving s = false →
      exec .gnssFineEntry s = .next s) ∧
    (∀ a, s.time.tq = .gnssCoarse → s.time.fineSince = some a → solving s = true → s.time.stepPend = none →
      s.slu.ntc.length < 490 → dtcNow s ≤ a + s.parN pSysFineHold * 16368000 →
      a + s.parN pSysFineHold * 16368000 ≤ s.time.lastAccept + 16368000 / rateHz s → ∃ t, exec .gnssFineEntry s = .next t ∧
        t.time = { (atCount s (a + s.parN pSysFineHold * 16368000)).time with tq := .gnssFine, calDue := true } ∧
        immWord 1 (4 + 8 * 3) ∈ t.slu.ntc ∧ t.integ = s.integ ∧ t.rtc = s.rtc ∧ t.pans = s.pans) ∧
    (tqGnss s.time.tq = false ∨ s.time.running = false → exec .holdoverEntry s = .next s) ∧
    (tqGnss s.time.tq = true → s.time.running = true → s.pwr.coreUp = true → s.slu.ntc.length < 490 →
      dtcNow s ≤ s.time.lastAccept + s.parN pSysHoWait * 16368 → ∃ t, exec .holdoverEntry s = .next t ∧
        t.time = { (atCount s (s.time.lastAccept + s.parN pSysHoWait * 16368)).time with
          tq := .holdover, fineSince := none, u0 := if s.time.unbounded then 0 else s.time.u0, unbounded := false
          sigF := max s.time.sigF (s.parN pSysTcxoFloor), uAt := s.time.lastAccept + s.parN pSysHoWait * 16368 } ∧
        immWord 1 (5 + 8 * tqCode s.time.tq) ∈ t.slu.ntc ∧ t.integ = s.integ ∧ t.rtc = s.rtc ∧ t.pans = s.pans) ∧
    ∃ h v f, exec .surveyComplete s = .next (
      let n := s.time.surveyN
      let a := s.time.surveySum
      if s.par pMsrSurveyS ≠ 0 ∧ s.time.surveyHeld = false ∧ 0 < n ∧ 10 * s.parN pMsrSurveyS ≤ s.time.surveyT then
        { s with free := f, time := { s.time with
          surveyHeld := true, pos := some ⟨a.lat / n, a.lon / n, a.height / n, h, v⟩ } }
      else s)

/-- O49. A soft start that passes ends at vreg.set clipped, with the last late command as target, and CORE is up
unless RST_N is low; a failed one sets short, counts and switches off. A retry starts a soft start again. A short
after soft start takes CORE down. VDDIN is reported up to 6,000 mV; crossing vin_warn down, or vin_warn + 100 mV up,
is posted once. ANTOUT follows ant.mode: soft start, state 2 with tries cleared, ANT_SHORT with retries in state 3 or
latch-off in state 4 with its unit fault, the same after the current limit, open and over-current notices. Only
writing 1 to unlatch leaves state 4; the unit fault ends. A SUPPLY event that cannot be posted is kept. (spec rules
R364, R365, R368, R369, R370, R371, R372, R373, R374, R375, R376, R378) -/
def Obligations.SupplyAndAntenna : Prop :=
  ∀ (s : State),
    (∀ vOk ilim, s.vreg.softst = false ∨ s.pwr.aonUp = false → exec (.softStartEnd vOk ilim) s = .next s) ∧
    (∀ vOk ilim, s.vreg.softst = true → s.pwr.aonUp = true → vOk = false ∨ ilim = true → s.pwr.wakeDeep = false →
      exec (.softStartEnd vOk ilim) s = .next { (s.bumpPar pVregShortCnt) with
        vreg := railOff s.vreg, pwr := { s.pwr with wakeDeep := false, bootCause := 3 } }) ∧
    (s.vreg.softst = true → s.pwr.aonUp = true → ∃ t, exec (.softStartEnd true false) s = .next t ∧
      t.vreg.softst = false ∧ t.vreg.out = softTarget s * 16368 ∧ t.vreg.target = s.vreg.late.getD (softTarget s) ∧
      t.vreg.slewing = (t.vreg.target != softTarget s) ∧ t.vreg.slewAt = dtcNow s ∧ t.vreg.failed = false ∧ t.vreg.short = s.vreg.short ∧
      (s.pwr.rstLow = true → t.pwr.coreUp = s.pwr.coreUp ∧ t.bank = s.bank) ∧
      (s.pwr.rstLow = false → t.pwr.coreUp = true ∧ t.pin.refout = true ∧
        (s.pwr.wakeDeep = false → t.bank.mem = [] ∧ t.bank.errs = [] ∧ t.ns.irqCore = true ∧ t.sec.irqCore = true ∧
          (∀ b, b < 8 → t.bank.clearing.getLsbD b = !s.pwr.bnkOut.getLsbD b)) ∧
        (s.pwr.wakeDeep = true → ∀ a v, (a, v) ∈ t.bank.mem ↔ (a, v) ∈ s.bank.mem ∧ s.bank.retained.getLsbD (a / 32768) = true)) ∧
      t.rtc = s.rtc ∧ t.params = s.params ∧ t.pwr.coresUp = s.pwr.coresUp) ∧
    exec .regulatorTargetReached s = .next (if s.vreg.slewing then
      { carryDtc s (s.vreg.slewAt + ceilDiv ((s.vreg.target * 16368 : Nat) - (s.vreg.out : Int)).natAbs 2000) with
        vreg := { s.vreg with out := s.vreg.target * 16368, slewing := false } } else s) ∧
    exec .coreRailRetry s = .next (if s.vreg.failed && !s.vreg.softst && !s.pwr.coreUp && s.pwr.aonUp then
      { s with vreg := { s.vreg with softst := true, out := 0, slewing := false, late := none } } else s) ∧
    (s.pwr.coreUp = false → exec .coreRailFault s = .next s) ∧
    (s.pwr.coreUp = true → ∃ t, exec .coreRailFault s = .next t ∧ CoreGone s t ∧ t.time = .reset ∧ t.vreg.short = true ∧ t.vreg.failed = true ∧
      t.vreg.softst = false ∧ t.vreg.out = 0 ∧ t.par pVregShortCnt = (s.bumpPar pVregShortCnt).par pVregShortCnt ∧
      t.pwr.bootCause = 3 ∧ t.pwr.level = 0 ∧ t.pwr.state = .run) ∧
    (s.slu.ntc.length < 490 →
      (∀ mv, exec (.vddinMeasure mv) s = .next (
        let u := s.setPar pVregVin (min 6000 mv : Nat)
        let warn := s.parN pVregVinWarn * 50
        if s.pwr.aonUp = false then s
        else if s.vreg.vinLow = false ∧ min 6000 mv < warn then supplyTold { u with vreg := { s.vreg with vinLow := true } } 0 0
        else if s.vreg.vinLow = true ∧ warn + 100 < min 6000 mv then
          supplyTold { u with vreg := { s.vreg with vinLow := false } } 1 0
        else u)) ∧
      exec .antoutWantedChange s = .next (
        if wantsAnt s then (if s.ant.state = 0 then { s with ant := { s.ant with state := 1 } } else s)
        else if 1 ≤ s.ant.state ∧ s.ant.state ≤ 3 then { s with ant := { s.ant with state := 0, ima := 0, hiNoted := false } }
        else s) ∧
      (∀ ma, (s.ant.state ≠ 1 → exec (.antSoftStartPass ma) s = .next s ∧ exec .antShort s = .next s) ∧
        (s.ant.state = 1 → exec (.antSoftStartPass ma) s =
          .next (supplyTold { s with ant := antReads s { s.ant with state := 2, tries := 0 } ma } 4 0)) ∧
        (s.ant.state = 1 → ∃ t, exec .antShort s = .next t ∧ Shorted s t s.ant)) ∧
      exec .antRetry s = .next (
        if s.ant.state ≠ 3 then s
        else if wantsAnt s then { s with ant := { s.ant with state := 1, tries := s.ant.tries + 1 } }
        else { s with ant := { s.ant with state := 0, ima := 0, hiNoted := false } }) ∧
      (s.ant.state ≠ 2 → exec .antCurrentLimitExpiry s = .next s) ∧
      (s.ant.state = 2 → ∃ t, exec .antCurrentLimitExpiry s = .next t ∧ Shorted s t { s.ant with ilim := true }) ∧
      (∀ ma,
        exec (.antOpenDetect ma) s = .next (if s.ant.state = 2 ∧ s.ant.isOpen = false ∧ ma < s.parN pAntOpenMa then
          supplyTold { (s.bumpPar pAntOpenCnt) with ant := antReads s { s.ant with isOpen := true } ma } 5 0 else s) ∧
        exec (.antOpenClear ma) s = .next (if s.ant.state = 2 ∧ s.ant.isOpen = true ∧ s.parN pAntOpenMa ≤ ma then
          supplyTold { s with ant := antReads s { s.ant with isOpen := false } ma } 6 0 else s) ∧
        exec (.antCurrentHigh ma) s = .next (
          if s.ant.state ≠ 2 then s
          else if s.parN pAntImaHi < ma ∧ (antReads s s.ant ma).hiNoted = false then
            supplyTold { s with ant := { antReads s s.ant ma with hiNoted := true } } 7 0
          else { s with ant := antReads s s.ant ma })) ∧
      ∀ (sec : Bool) (d : Word), writing s 0x33 sec = true → d.getLsbD 8 = true →
        (s.ant.state ≠ 4 → exec (.antUnlatch d) s = .next (phaseDone s sec 0x34)) ∧
        (s.ant.state = 4 → ∃ t, exec (.antUnlatch d) s = .next t ∧
          t.ant = { s.ant with tries := 0, state := if wantsAnt s then 1 else 0 } ∧ t.pwr.unitFlt.getLsbD 7 = false ∧
          (∀ j, j ≠ 7 → t.pwr.unitFlt.getLsbD j = s.pwr.unitFlt.getLsbD j) ∧ t.pwr.level = levelNow t ∧
          t.bus = (phaseDone s sec 0x34).bus ∧ onlyIn [.ant, .pwr, .slu, .bus, .ns, .sec] s t = true))

/-- O50. In RUN with no attempt a request of 2-4 begins one, which keeps the pwr parameters it goes by, and
pwr.auto_sleep's timeout begins one for SVC; another request is only stored. A request of 0 refuses an attempt under
the core's code, and so does a core that has not replied in time. As the last core parks, the shallower request is
tried and every block is asked: the lowest code that refuses is named with the map of all, else the attempt waits for
its commit. A wake pattern of pwr.ml_pat_n repeats, WAKE and an edge on MLRX abandon an attempt towards a state they
end, are held in a state they end, and do nothing otherwise. (spec rules R384, R385, R386, R387, R388, R389, R390,
R391, R396, R401, R405) -/
def Obligations.EntryAttempts : Prop :=
  ∀ (s : State), s.slu.ntc.length < 490 → s.pwr.coreUp = true →
    (∀ (k : CoreId) (v : BitVec 3), (coreRuns s k = false ∨ (s.core k).waiting = true → exec (.pwrModeRequest k v) s = .next s) ∧
      (coreRuns s k = true → (s.core k).waiting = false → s.pwr.state = .run →
        (s.pwr.attempt = false → exec (.pwrModeRequest k v) s = .next (
          if 2 ≤ v.toNat ∧ v.toNat ≤ 4 then attemptBegun s k v.toNat else s.modCore k (fun x => { x with req := v.toNat }))) ∧
        (s.pwr.attempt = true → exec (.pwrModeRequest k v) s = .next (
          if v = 0 then attemptRefused s (coreNum k + 1) (2 ^ (coreNum k + 1))
          else s.modCore k (fun x => { x with req := v.toNat }))))) ∧
    (∀ k : CoreId,
      (s.pwr.attempt = false ∨ hasReplied (s.core k) = true → exec (.coreReplyTimeout k) s = .next s) ∧
      (s.pwr.attempt = true → hasReplied (s.core k) = false → idleTrue s = true →
        exec (.coreReplyTimeout k) s = .next (attemptRefused (carryDtc s (s.pwr.attAt + s.pwr.att.lim * 16368)) (coreNum k + 1) (2 ^ (coreNum k + 1))))) ∧
    (∀ (k : CoreId) (c : Cond), runs s k c = true → s.pwr.attempt = true → s.pwr.asked = false → s.pwr.state = .run →
      2 ≤ (s.core k).req → hasReplied (s.core (peer k)) = true →
      exec (.wait k c) s = .next (blocksAsked
        { (after s k 1 (fun x => { x with waiting := true, ipPower := false })) with
          pwr := { s.pwr with tried := min s.trk.req s.svc.req } })) ∧
    (s.svc.waiting = false → s.pwr.state = .run →
      exec .autoSleepTimeout s = .next (
        if s.par pPwrAutoSleep ≠ 0 ∧ coreRuns s .svc = true ∧ s.pwr.attempt = false ∧ s.pans.act = [] ∧ s.acq.searching = false ∧
            s.slu.cmd = [] then attemptBegun (carryDtc s (s.pwr.busyAt + s.parN pPwrAutoSleep * 16368000)) .svc 2 else s)) ∧
    ((s.pwr.state = .run ∨ s.pwr.state = .idle → idleTrue s = true) → (s.pwr.attempt = true → idleTrue s = true) →
      (∀ n, exec (.wakePattern n) s = .next (if n < (if s.pwr.attempt then s.pwr.att.pat else s.parN pPwrMlPatN) then s else wokenBy s 3)) ∧
      exec .mirrorLinkActivity s = .next (wokenBy s 2) ∧
      (s.pwr.state ≠ .off → exec .wakePin s = .next (wokenBy s 4)))

/-- O51. A commit ends the attempt with outcome 1, counts the entry, records the delay and clears pwr.wake_seen. SLEEP
stops search, resets the pace level, leaves GNSS time in HOLDOVER, retargets the regulator to the attempt's
pwr.sleep_vcore clipped, stops TPOUT and the WCS unless wcs.sleep_run is 1, and keeps rings, slots and banks. DEEP
SLEEP takes CORE down with the DTC held, owners kept and banks retained by pwr.retain; OFF retains nothing, lets a
STORE end and loses AON. A held wake source ends SLEEP: the lowest code, the duration, the POWER notice, HB_IRQ.wake,
the old VCORE target, cores released, pans in PULL or searched again; with pwr.wake_run the Runtime may ask again. It
ends DEEP SLEEP with a soft start. (spec rules R30, R63, R119, R161, R390, R393, R394, R395, R396, R397, R401, R405)
-/
def Obligations.EntryAndExit : Prop :=
  ∀ (s : State),
    (∀ us, (s.pwr.attempt = false ∨ s.pwr.asked = false → exec (.entryCommit us) s = .next s) ∧
      (s.pwr.attempt = true → s.pwr.asked = true → noCommits s = true → s.time.running = true → s.vreg.softst = false →
        s.pwr.coreUp = true →
        ∃ t, exec (.entryCommit us) s = .next t ∧ t.pwr.state = stateOf s.pwr.tried ∧ t.pwr.attempt = false ∧
          t.pwr.outcome = 1 ∧ t.pwr.tried = s.pwr.tried ∧ t.pwr.wake = s.pwr.wake ∧ t.pwr.heldWakes = [] ∧
          t.par pPwrEnterCnt = (s.bumpPar pPwrEnterCnt).par pPwrEnterCnt ∧
          (∃ n d, LatticeIndex s (16 * wcsTime s - s.wcs.phi) 16 n ∧ Longest s (acceptsAt s n) us t.pwr.block d ∧
            t.par pPwrDelayUs = (min 65535 d : Nat)) ∧
          t.par pPwrWakeSeen = 0 ∧ t.rtc = s.rtc ∧ t.gau = s.gau ∧ t.ant = s.ant ∧
          (s.pwr.tried = 2 → t.acq.searching = false ∧ t.pace.level = 0 ∧ t.pace.backoff = 0 ∧ t.pace.atCeil = s.pace.atCeil ∧
            t.time.tq = (if s.time.tq = .gnssCoarse ∨ s.time.tq = .gnssFine then .holdover else s.time.tq) ∧
            (t.vreg.target : Int) = max (s.par pVregFloor) (min (s.par pVregCeil) s.pwr.att.vcore) ∧
            t.vreg.atCommit = s.vreg.target ∧ t.pwr.commitAt = dtcNow t ∧
            (s.parB pWcsSleepRun = true → t.tp = s.tp ∧ t.wcs = { s.wcs with holdover :=
              if s.time.tq = .gnssCoarse ∨ s.time.tq = .gnssFine then s.wcs.gnssBased && s.wcs.state != .off
              else s.wcs.holdover }) ∧
            (s.parB pWcsSleepRun = false → t.wcs.running = false ∧ t.tp.level = false) ∧
            t.slu.cmd = s.slu.cmd ∧ t.slu.chans = s.slu.chans ∧ s.slu.ntc.isPrefixOf t.slu.ntc = true ∧ t.evs = s.evs ∧
            t.bank = { s.bank with drain := 0 } ∧ t.pans = s.pans ∧ t.samp.live = false) ∧
          (s.pwr.tried = 3 → CoreGone s t ∧ t.bank.owners = s.bank.owners ∧
            (∀ b, b < 8 → t.bank.retained.getLsbD b = (s.pwr.att.retain.testBit b && !s.pwr.bnkOut.getLsbD b)) ∧
            t.pwr.cancelled = (if s.parB pEvsDeepCancel then s.evs.slots.length else 0) ∧ t.time.heldDtc = t.time.dtc ∧
            t.wcs.en = s.wcs.en ∧ t.pans = s.pans) ∧
          (4 ≤ s.pwr.tried → CoreGone s { t with cp := { t.cp with pram := s.cp.pram }, dbg := { t.dbg with nvm := s.dbg.nvm } } ∧
            t.cp.pram = [] ∧ t.dbg.nvm = s.dbg.storing.getD s.dbg.nvm ∧ t.dbg.storing = none ∧
            t.pwr.aonUp = false ∧ t.bank.retained = 0 ∧ t.time = .reset ∧
            t.pwr.cancelled = (if s.parB pEvsDeepCancel then s.evs.slots.length else 0)))) ∧
    (∀ ms, (s.pwr.state ≠ .sleep ∨ s.pwr.heldWakes = [] → exec (.sleepExit ms) s = .next s) ∧
      (s.pwr.state ≠ .deep ∨ s.pwr.heldWakes = [] → exec (.deepSleepExit ms) s = .next s) ∧
      (s.pwr.state = .sleep → s.pwr.heldWakes ≠ [] → s.pwr.coreUp = true → s.vreg.softst = false → s.evs.held = [] →
        s.slu.ntc.length < 400 → s.pwr.supplyHeld.length + s.pwr.gaugeHeld.length < 80 → s.pwr.attempt = false →
        let u := carryDtc s (s.pwr.commitAt + ms * 16368)
        ∃ t, exec (.sleepExit ms) s = .next t ∧ t.time = u.time ∧ t.pwr.state = .run ∧ t.pwr.heldWakes = [] ∧
          t.pwr.wake = s.pwr.heldWakes.foldl min 31 ∧ t.par pPwrLastMs = (min 4294967295 ((dtcNow u - s.pwr.commitAt) / 16368) : Nat) ∧
          immWord 12 (2 + 8 + 32 * t.pwr.wake) ∈ t.slu.ntc ∧ t.ns.irqWake = true ∧ t.sec.irqWake = true ∧
          (t.vreg.target : Int) = max (s.par pVregFloor) (min (s.par pVregCeil) s.vreg.atCommit) ∧
          t.trk.waiting = false ∧ t.svc.waiting = false ∧ t.evs = s.evs ∧
          (s.wcs.sleepStop = true → t.wcs.state = .start ∧ t.wcs.sleepStop = false) ∧ (s.wcs.sleepStop = false → t.wcs = s.wcs) ∧
          (s.pans.act = [] → t.bank = s.bank) ∧
          (s.acq.pendHits = [] →
            (∀ (p : Nat) (x : Pan), panAt s p = some x → hotFor u x.prn = true → (panAt t p).map (·.phase) = some .pull) ∧
            (∀ (p : Nat) (x : Pan), panAt s p = some x → hotFor u x.prn = false → panAt t p = none)) ∧
          (if s.parB pPwrWakeRun = true ∧ s.parN pPwrWakeSeen ≠ 0 ∧ s.parN pPwrWakeSeen &&& 0xF97F = 0 ∧ coreRuns s .svc = true
            then t.pwr.attempt = true ∧ t.pwr.tried = 2 ∧ t.svc.req = 2
            else t.pwr.attempt = false ∧ t.trk = letGo s.trk ∧ t.svc = letGo s.svc)) ∧
      (s.pwr.state = .deep → s.pwr.heldWakes ≠ [] → ∃ t, exec (.deepSleepExit ms) s = .next t ∧
        t.pwr.state = .run ∧ t.pwr.wakeDeep = true ∧ t.pwr.wake = s.pwr.heldWakes.foldl min 31 ∧ t.pwr.heldWakes = [] ∧
        t.pwr.level = 0 ∧ t.par pPwrLastMs = (min 4294967295 ms : Nat) ∧
        (s.pwr.rstLow = false → t.vreg.softst = true ∧ t.vreg.out = 0) ∧ onlyIn [.pwr, .vreg, .mir, .params] s t = true))

/-- O52. VDDIN power-on, and WAKE in OFF, start AON: BAK, fuses and calibration memory stay, all else is at reset, and
the soft start begins unless RST_N is low; the exit from OFF records its wake code. RST_N low takes CORE down, ends
stopped cores and stalls, and the bus answers nothing; its release begins a power-up unless a retry runs. A REFIN loss
in RUN, IDLE or SLEEP takes CORE down and begins one. When AON loses its supply everything of CORE, the session and a
STORE in progress are gone. (spec rules R399, R467, R469, R471, R477, R478, R482, R483, R484, R520) -/
def Obligations.PowerUpAndLosses : Prop :=
  ∀ (s : State),
    (s.pwr.aonUp = true ∨ s.pwr.state = .off → exec .vddinPowerOn s = .next s) ∧
    (s.pwr.aonUp = false → s.pwr.state ≠ .off → ∃ t, exec .vddinPowerOn s = .next t ∧ AonStarted s t 0) ∧
    (s.pwr.state = .off → ∃ t, exec .wakePin s = .next t ∧ AonStarted s t 1 ∧ t.pwr.wake = 4 ∧ t.par pPwrWakeSeen = 16) ∧
    (s.pwr.rstLow = true → exec .rstNAssert s = .next s) ∧
    (s.pwr.rstLow = false → s.pwr.aonUp = false → exec .rstNAssert s = .next { s with pwr := { s.pwr with rstLow := true } }) ∧
    (s.pwr.rstLow = false → s.pwr.aonUp = true → ∃ t, exec .rstNAssert s = .next t ∧
      LostCore s t 2 ∧ t.pwr.rstLow = true ∧
      t.bus.cyc = none ∧ t.bus.herr = false ∧ t.bus.held = false ∧ t.trk.stopped = false ∧ t.svc.stopped = false ∧
      t.pwr.outcome = s.pwr.outcome ∧ t.vreg.failed = s.vreg.failed ∧ t.vreg.softst = (s.vreg.softst && s.vreg.failed) ∧
      (∀ j, 1 ≤ j → j ≤ 4 → t.pwr.unitFlt.getLsbD j = false) ∧
      t.pwr.unitFlt.getLsbD 0 = s.pwr.bnkOut.getLsbD 2 ∧ (∀ j, 5 ≤ j → t.pwr.unitFlt.getLsbD j = s.pwr.unitFlt.getLsbD j)) ∧
    (s.pwr.rstLow = false → exec .rstNRelease s = .next s) ∧
    (s.pwr.rstLow = true → (s.pwr.aonUp = false ∨ s.vreg.failed = true ∨ s.vreg.softst = true) →
      exec .rstNRelease s = .next { s with pwr := { s.pwr with rstLow := false } }) ∧
    (s.pwr.rstLow = true → s.pwr.aonUp = true → s.vreg.failed = false → s.vreg.softst = false →
      exec .rstNRelease s = .next { s with
        mir := { s.mir with hiZ := true }, vreg := { s.vreg with softst := true, out := 0, slewing := false, late := none },
        pwr := { s.pwr with rstLow := false, level := 0, chg := s.pwr.chg || s.pwr.level != 0 } }) ∧
    (s.pwr.coresUp = false ∨ s.pwr.state = .deep ∨ s.pwr.state = .off → exec .refinLoss s = .next s) ∧
    (s.pwr.coresUp = true → s.pwr.state = .run ∨ s.pwr.state = .idle ∨ s.pwr.state = .sleep → ∃ t, exec .refinLoss s = .next t ∧
      LostCore s t 4 ∧ t.mir.hiZ = true ∧ t.vreg.softst = (!s.pwr.rstLow || (s.vreg.softst && s.vreg.failed)) ∧ t.vreg.out = 0) ∧
    ∃ t, exec .aonReset s = .next t ∧ (s.dbg.storing = none → CoreGone s t) ∧ t.dbg.storing = none ∧ t.pwr.aonUp = false ∧ t.pwr.state = .run ∧ t.dbg.session = false ∧
      t.bus.cyc = none ∧ t.bus.held = false

/-- O53. Once REFIN is stable with CORE up, a power-up starts the DTC at zero in UNKNOWN; with sys.boot 1 both cores
stay held, otherwise each core that is not stopped enters vector 0 and SVC posts BOOT, then LEVEL. On a wake from DEEP
SLEEP the DTC goes on from its held value: from UNKNOWN nothing is added; else GNSS time and the reference anchor take
the gap, both uncertainties grow by 122 ns and sys.bridge_ppm of it, and the quality is RTC-BRIDGED. With B0, B1, B3
and B4 retained the pans resume in PULL or are searched again, otherwise pans and position are lost. POWER precedes
LEVEL; HB_IRQ.core and wake are set. (spec rules R14, R30, R31, R119, R131, R298, R391, R398, R470, R473, R474, R475)
-/
def Obligations.CoresStart : Prop :=
  ∀ (s : State) (gap : Nat) (presc : Bool),
    (s.pwr.coreUp = false ∨ s.pwr.coresUp = true → exec (.refinStable gap presc) s = .next s) ∧
    (s.pwr.coreUp = true → s.pwr.coresUp = false → s.pwr.supplyHeld = [] → s.pwr.gaugeHeld = [] → s.pwr.cancelled = 0 →
      s.slu.ntc = [] →
      (s.pwr.wakeDeep = false → ∃ t, exec (.refinStable gap presc) s = .next t ∧ t.pwr.coresUp = true ∧
        t.time = { TimeSt.reset with running := true } ∧ t.mir.hiZ = false ∧ t.pwr.level = levelNow t ∧ t.rtc = s.rtc ∧
        t.bank = s.bank ∧ t.cp = s.cp ∧ t.params = s.params ∧
        (s.parB pSysBoot = true → t.trk = s.trk ∧ t.svc = s.svc) ∧
        (s.parB pSysBoot = false →
          (∀ k, (s.core k).stopped = false → AtVectorZero (s.core k) (t.core k)) ∧
          (∀ k, (s.core k).stopped = true → t.core k = s.core k) ∧
          (s.svc.stopped = false → s.svc.halted = false → t.slu.ntc =
            [immWord 16 (bootData s presc false), immWord 11 (t.pwr.level + 4 * s.pwr.level)]))) ∧
      (s.pwr.wakeDeep = true → s.trk.stopped = false → s.svc.stopped = false → s.trk.halted = false → s.svc.halted = false →
        s.evs.slots = [] → ∃ t, exec (.refinStable gap presc) s = .next t ∧ t.pwr.coresUp = true ∧ t.pwr.wakeDeep = false ∧
        AtVectorZero s.trk t.trk ∧ AtVectorZero s.svc t.svc ∧ t.ns.irqCore = true ∧ t.sec.irqCore = true ∧
        t.ns.irqWake = true ∧ t.sec.irqWake = true ∧
        (s.pans.act = [] → t.bank = s.bank ∧
          ([immWord 12 (3 + 8 + 32 * s.pwr.wake), immWord 11 (t.pwr.level + 4 * s.pwr.level)] ++
            (if s.pace.zeroHeld then [immWord 3 (s.pace.level + 64)] else [])).isSuffixOf t.slu.ntc = true) ∧
        t.time.running = true ∧ t.time.dtc = s.time.dtc ∧ t.bank.owners = s.bank.owners ∧ (s.wcs.en = true → t.wcs.state = .start) ∧
        (s.time.tq = .unknown → t.time.tq = .unknown ∧ t.time.anchorT = s.time.anchorT ∧ t.time.bridged = s.time.bridged) ∧
        (s.time.tq ≠ .unknown →
          let more := 122 + ceilDiv (s.parN pSysBridgePpm * 1000 * gap) 1047552000
          t.time.tq = .rtcBridged ∧ t.time.bridged = true ∧ t.time.anchorD = s.time.anchorD ∧
          t.time.anchorT = s.time.anchorT + gap ∧ t.time.u0 = s.time.uHeld + more ∧
          (resumable s = true → t.integ.ref = s.integ.ref.map (fun r => { r with t := r.t + gap, u := r.u + more }))) ∧
        (s.bank.retained.getLsbD 0 && s.bank.retained.getLsbD 1 && s.bank.retained.getLsbD 3 && s.bank.retained.getLsbD 4) =
          resumable s ∧
        (resumable s = true → t.time.pos = s.time.pos ∧
          (s.acq.pendHits = [] →
            (∀ (p : Nat) (x : Pan), panAt s p = some x → hotFor t x.prn = true → (panAt t p).map (·.phase) = some .pull) ∧
            (∀ (p : Nat) (x : Pan), panAt s p = some x → hotFor t x.prn = false → panAt t p = none))) ∧
        (resumable s = false → t.time.pos = none ∧ t.pans = .reset)))

/-- O54. A sample, trimmed, reports voltage and current, clipped, and adds its interval's charge; Raw SOC and gau.q_rem follow,
the first one after a start takes them from the open-circuit table, and Displayed SOC moves towards its target by
gau.disp_rate, never against the current, or to 0 after gau.sd_n samples at the shut-down voltage. The mode follows
gau.stretch_n and its hysteresis. Each threshold sets its bit once per crossing and, where enabled, posts a notice.
The 8th sample without a battery is a fault. A trip counts the charge so far and ends stretched mode. SVC sets
gau.soc_sd, applies a full detection, or one correction in each rest period. (spec rules R420, R421, R423, R424, R425,
R427, R428, R429, R430, R431, R433, R436) -/
def Obligations.Gauge : Prop :=
  ∀ (s : State), 1 ≤ s.par pGauCapMah → (∀ k, k < 10 → s.par (pGauOcv0 + k) < s.par (pGauOcv0 + k + 1)) →
    s.slu.ntc.length < 490 → s.parN pGauSocSd ≤ 5000 →
    (∀ (v : Int), (v ≤ s.par pGauOcv0 * 1000000 → ocvSoc s v = 0) ∧ (s.par pGauOcv10 * 1000000 ≤ v → ocvSoc s v = 10000) ∧
      ∀ k, k < 10 → s.par (pGauOcv0 + k) * 1000000 < v → v < s.par (pGauOcv0 + k + 1) * 1000000 →
        (ocvSoc s v : Int) = 1000 * k + 1000 * (v - s.par (pGauOcv0 + k) * 1000000) /
          ((s.par (pGauOcv0 + k + 1) - s.par (pGauOcv0 + k)) * 1000000)) ∧
    (∀ mv ua us, gauges s = false → exec (.gaugeSample mv ua) s = .next s ∧ exec (.comparatorTrip us) s = .next s ∧
      exec .gaugeSecondTasks s = .next s) ∧
    (gauges s = true →
      (∀ (vbat : Nat) (raw : Int), ∃ (v ua : Int) (t : State),
        Trimmed vbat (s.par pGauVGain) (s.par pGauVOff) v ∧ Trimmed raw (s.par pGauIGain) (305 * s.par pGauIOff) ua ∧
        exec (.gaugeSample vbat raw) s = .next t ∧
        let mv : Nat := v.toNat
        (mv < 1000 → 7 ≤ s.gau.absentRun → t.gau.fault = true ∧ t.parBit pGauEvt 3 = true ∧
          t.pwr.unitFlt.getLsbD 6 = true ∧ t.gau.q = s.gau.q ∧ t.gau.raw = s.gau.raw ∧ t.gau.disp = s.gau.disp) ∧
        (1000 ≤ mv ∨ s.gau.absentRun < 7 →
        let i : Int := gauI ua
        let cell : Nat := gauCell s mv
        let mag : Int := (i.natAbs : Int)
        let th : Int := s.par pGauStretchMa * 1000
        t.par pGauVMv = gauPack s mv ∧ t.par pGauIMa = Int.tdiv i 1000 ∧ t.parBit pGauStat 4 = (i != ua) ∧
        t.gau.absentRun = (if mv < 1000 then s.gau.absentRun + 1 else 0) ∧ t.gau.fault = false ∧ t.gau.starting = false ∧
        t.gau.q = gauCharge s (if s.gau.starting then
            (ocvSoc s (cell * 1000000 - i * s.par pGauRMohm) : Int) * (s.par pGauCapMah * 360000000)
          else s.gau.q + i * (gauSpan s : Nat)) ∧
        (t.gau.raw : Int) = t.gau.q / (s.par pGauCapMah * 360000000) ∧ t.par pGauQRem = t.gau.q / 360000000000 ∧
        (s.parBit pGauStat 0 = true → t.parBit pGauStat 0 = decide (mag < th + s.par pGauStretchHyst * 1000)) ∧
        (s.parBit pGauStat 0 = false → t.parBit pGauStat 0 = decide (mag < th ∧ s.parN pGauStretchN ≤ s.gau.stretchRun + 1) ∧
          (t.parBit pGauStat 0 = false → t.gau.stretchRun = if mag < th then s.gau.stretchRun + 1 else 0)) ∧
        (s.gau.starting = true → t.gau.disp = dispTarget s t.gau.raw ∧ t.gau.dispOk = true) ∧
        (s.gau.starting = false → s.gau.zeroHold = false → cell ≤ s.parN pGauVSd → i < 0 → s.parN pGauSdN ≤ s.gau.sdRun + 1 →
          t.gau.disp = 0 ∧ t.gau.zeroHold = true) ∧
        (s.gau.starting = false → s.gau.zeroHold = false → 1 ≤ s.parN pGauSdN → s.parN pGauVSd < cell ∨ 0 ≤ i →
          t.gau.disp = dispMoved s (dispTarget s t.gau.raw) i (gauSpan s + s.gau.sinceUs) ∧
          t.gau.dispOk = decide (t.gau.disp = dispTarget s t.gau.raw)) ∧
        (∀ k, k < 3 →
          let raised : Bool := gauRaised s t.gau.disp cell i k && !s.gau.disarmed.getLsbD k
          t.parBit pGauEvt k = (s.parBit pGauEvt k || raised) ∧
          t.gau.disarmed.getLsbD k = (if s.gau.disarmed.getLsbD k then !gauRearmed s t.gau.disp cell i k else raised) ∧
          (raised = true → s.parBit pGauEvtEn k = true → s.pwr.attempt = false →
            (tells s = true → immWord 14 (k + 16 * (t.gau.disp / 100)) ∈ t.slu.ntc) ∧
            (tells s = false → mget t.pwr.gaugeHeld k = some (t.gau.disp / 100)) ∧
            (s.pwr.state = .sleep ∨ s.pwr.state = .deep → s.parBit pPwrWakeEn 8 = true → 8 ∈ t.pwr.heldWakes))) ∧
        ((∀ k, k < 3 → s.parBit pGauEvtEn k = false) → onlyIn [.gau, .params] s t = true))) ∧
      (∀ us, (s.parBit pGauStat 0 = false → exec (.comparatorTrip us) s = .next s) ∧
        (s.parBit pGauStat 0 = true → ∃ t, exec (.comparatorTrip us) s = .next t ∧ t.parBit pGauStat 0 = false ∧
          t.parBit pGauStat 1 = false ∧ t.gau.stretchRun = 0 ∧ t.gau.sinceUs = s.gau.sinceUs + us ∧
          t.gau.q = (if s.gau.starting then s.gau.q else gauCharge s (s.gau.q + s.gau.lastI * (us : Nat))) ∧
          t.gau.disp = s.gau.disp ∧ onlyIn [.gau, .params] s t = true)) ∧
      ((coreRuns s .svc = false ∨ s.pwr.state = .sleep ∨ s.pwr.state = .deep → exec .gaugeSecondTasks s = .next s) ∧
        (coreRuns s .svc = true → s.pwr.state = .run ∨ s.pwr.state = .idle → exec .gaugeSecondTasks s = .next (
          let u := s.setPar pGauSocSd (min 5000 (ocvSoc s (s.par pGauVSd * 1000000 - meanDrain s * s.par pGauRMohm)) : Nat)
          let full := decide (s.parN pGauFullS * 1000000 ≤ s.gau.fullUs) && !s.parBit pGauStat 2
          let rest := s.parBit pGauStat 1 && !s.gau.restDone
          let v := if full then
              gaugeTold ((chargeSet u (s.par pGauCapMah * 3600000000000)).setParBit pGauStat 2 true) 4 100 else u
          let x := if rest then { v with gau := { v.gau with restDone := true } } else v
          if rest && !full then
            let soc := ocvSoc s (s.gau.lastV * 1000000)
            gaugeTold (chargeSet x (soc * (s.par pGauCapMah * 360000000))) 5 (soc / 100)
          else x))))

/-- O55. Without a working link a frame does nothing. A frame with a bad CRC, an unknown type or a bad length is
counted and discarded; a valid one counts, and the 16th in a row sets link_ok with a notice. An ACK does no more. An
IDLE frame gives the partner's state: a standby takes the fire count, and sync after its pass, with a notice; a
degraded primary whose standby is in GNSS-FINE, locked and synchronised starts a takeover with trigger 3 when its bit
is set; of two primaries the one with the lower nonce becomes standby at the 16th frame, and equal nonces are drawn
anew. (spec rules R443, R445, R446, R447, R448, R456, R463, R465) -/
def Obligations.LinkReception : Prop :=
  ∀ (s : State) (f : Frame), s.slu.ntc.length < 480 →
    (∀ lost, ∀ r ∈ frameRows lost,
      (linked s = false → exec (r.1 f) s = .next s) ∧
      (linked s = true → frameValid f = false →
        exec (r.1 f) s = .next { (s.bumpPar pMirFrmErr) with mir := { s.mir with goodRun := 0 } }) ∧
      (linked s = true → frameValid f = true → f.type.toNat ≠ r.2 → exec (r.1 f) s = .next s) ∧
      (linked s = true → frameValid f = true → f.type.toNat = r.2 → s.mir.role ≠ 1 → ∃ t, exec (r.1 f) s = .next t ∧
        t.mir.goodRun = min 16 (s.mir.goodRun + 1) ∧ t.mir.linkOk = (s.mir.linkOk || decide (15 ≤ s.mir.goodRun)) ∧
        (15 ≤ s.mir.goodRun → s.mir.linkOk = false → immWord 15 0 ∈ t.slu.ntc))) ∧
    (arrives s f 5 = true → exec (.ackFrame f) s = .next s) ∧
    (arrives s f 0 = true →
      (s.mir.role = 0 ∨ (s.mir.role = 2 ∧ (partnerOf f).role ≠ 1) → exec (.idleFrame f) s = .next (partnerSeen s f)) ∧
      (s.mir.role = 2 → (partnerOf f).role = 1 →
        let u := partnerSeen s f
        let n : Nat := (BitVec.ofNat 16 (fw f 1) - s.mir.fireSeen).toNat
        let v : State := { u with
          mir := { u.mir with fireSeen := BitVec.ofNat 16 (fw f 1) }, evs := { s.evs with shadow := s.evs.shadow.drop n } }
        exec (.idleFrame f) s = .next (
          if s.mir.passDone = true ∧ s.parBit pMirStat 0 = false then mirrorTold (v.setParBit pMirStat 0 true) 2 0 else v)) ∧
      (s.mir.role = 1 → (partnerOf f).role ≠ 1 →
        let u : State := { (partnerSeen s f) with mir := { (partnerSeen s f).mir with conflictRun := 0 } }
        if s.mir.take = none ∧ s.time.tq ≠ .gnssCoarse ∧ s.time.tq ≠ .gnssFine ∧ (partnerOf f).tq = 4 ∧
            (partnerOf f).locked = true ∧ (partnerOf f).sync = true ∧ s.parBit pMirAutoTake 2 = true
        then ∃ t h, exec (.idleFrame f) s = .next t ∧ FirstLattice s (gnssNow s + usTicks (s.par pMirHoLead)) h ∧
          t.mir.take = some ⟨h, 3, none⟩ ∧ t.mir.holdSlots = true ∧ t.mir.role = 1 ∧
          (∃ ws, t.mir.out = s.mir.out ++ [⟨4, 0, ws, true⟩]) ∧ onlyIn [.mir, .params] s t = true
        else exec (.idleFrame f) s = .next u) ∧
      (s.mir.role = 1 → (partnerOf f).role = 1 → s.parBit pMirAutoTake 2 = false →
        let u := partnerSeen s f
        (s.mir.conflictRun < 15 →
          exec (.idleFrame f) s = .next { u with mir := { u.mir with conflictRun := s.mir.conflictRun + 1 } }) ∧
        (15 ≤ s.mir.conflictRun → (partnerOf f).nonce.toNat < s.mir.nonce.toNat →
          exec (.idleFrame f) s = .next { u with mir := { u.mir with conflictRun := 0 } }) ∧
        (15 ≤ s.mir.conflictRun → (partnerOf f).nonce = s.mir.nonce → ∃ t, exec (.idleFrame f) s = .next t ∧
          t.mir.role = 1 ∧ t.mir.conflictRun = 0 ∧ (∃ c, t.mir = { u.mir with nonce := c, conflictRun := 0 }) ∧ t.slu = s.slu) ∧
        (15 ≤ s.mir.conflictRun → s.mir.nonce.toNat < (partnerOf f).nonce.toNat → s.mir.heldOps = [] →
          ∃ t, exec (.idleFrame f) s = .next t ∧ t.mir.role = 2 ∧ t.mir.relWait = true ∧ t.mir.pcuOn = true ∧
            t.mir.testDue = true ∧ t.mir.conflictRun = 0 ∧ ownerOf t 5 = .mirror ∧ immWord 15 (8 + 16 * 2) ∈ t.slu.ntc)))

/-- O56. A standby acknowledges a content frame and writes it: a STATE record into B5 where B5 is not withdrawn, the
words of a WORDS frame where the mirror engine may write, except words that lose to the owner's, which are reported
and named in the next RESEND, and a SLOT image as mirror class with the primary's owner fields, actions 0 freeing the
slot. A TAKE gives it H and the trigger, and the EVOUT levels and pulse ends; a primary with no TAKE of its own
answers it and holds slot requests. A primary answers RESEND with the words' present values, poisoned words excepted.
An unpaired device only acknowledges. (spec rules R177, R278, R285, R291, R444, R446, R448, R449, R450, R457, R462,
R465) -/
def Obligations.MirrorContent : Prop :=
  ∀ (s : State) (f : Frame) (lost : List (BitVec 14)),
    (s.mir.role = 0 →
      (arrives s f 1 = true → exec (.stateFrame f) s = .next (acked s f)) ∧
      (arrives s f 2 = true → exec (.wordsFrame f lost) s = .next (acked s f)) ∧
      (arrives s f 3 = true → exec (.slotFrame f) s = .next (acked s f)) ∧
      (arrives s f 4 = true → exec (.takeFrame f) s = .next (acked s f)) ∧
      (arrives s f 6 = true → exec (.resendFrame f) s = .next s)) ∧
    (s.mir.role = 2 →
      (arrives s f 1 = true → ∃ t, exec (.stateFrame f) s = .next t ∧
        t.mir = { (acked s f).mir with passDone := true } ∧
        (32 ≤ fw f 0 → t = { (if bankOut s 5 then s else putWords s 5 (32 * fw f 0) f.payload) with mir := t.mir }) ∧
        (∀ i, i < f.payload.length → 32 * fw f 0 + i < 16384 → bankOut s 5 = false →
          bankWord t 5 (32 * fw f 0 + i) = f.payload.getD i 0) ∧
        onlyIn [.mir, .bank, .pans, .acq, .pace, .slu, .params, .cp] s t = true) ∧
      (arrives s f 2 = true → ∃ t, exec (.wordsFrame f lost) s = .next t ∧
        t.mir.out = (acked s f).mir.out ∧ t.mir.passDone = true ∧ t.mir.role = 2 ∧
        (bankOut s (fw f 0 % 8) = true ∨ ownerOf s (fw f 0 % 8) = .host ∨ ownerOf s (fw f 0 % 8) = .cryst →
          t = { s with mir := { (acked s f).mir with passDone := true } }) ∧
        (bankOut s (fw f 0 % 8) = false → ownerOf s (fw f 0 % 8) = .trk ∨ ownerOf s (fw f 0 % 8) = .svc ∨
            ownerOf s (fw f 0 % 8) = .mirror → ∀ i, i + 2 < f.payload.length → fw f 1 + i < 16384 →
          if BitVec.ofNat 14 (fw f 1 + i) ∈ lost then
            bankWord t (fw f 0 % 8) (fw f 1 + i) = bankWord s (fw f 0 % 8) (fw f 1 + i) ∧
              (fw f 0 % 8, fw f 1 + i) ∈ t.mir.resend ∧ t.mir.wlost = true
          else bankWord t (fw f 0 % 8) (fw f 1 + i) = f.payload.getD (i + 2) 0) ∧
        onlyIn [.mir, .bank] s t = true) ∧
      (arrives s f 3 = true → ∃ t, exec (.slotFrame f) s = .next t ∧
        let i : Nat := fw f 0 % 1024
        let m := imgOf f.payload
        t.mir = { (acked s f).mir with passDone := true } ∧ onlyIn [.mir, .evs] s t = true ∧
        (∀ j, j ≠ i → slotAt t j = slotAt s j) ∧
        (m.actions = 0 → slotAt t i = none) ∧
        (m.actions ≠ 0 → imgBad m = true ∨ imgTimeOk f.payload = false → slotAt t i = slotAt s i) ∧
        (imgBad m = false → imgTimeOk f.payload = true → ∃ y, slotAt t i = some y ∧ y.img = m ∧ y.cls = clsOf (fw f 13 % 8) ∧
          y.client = BitVec.ofNat 10 (fw f 13 / 8) ∧
          (∀ x, slotAt s i = some x → x.com ≠ none ∨ x.img.target = m.target → y.com = x.com) ∧
          ((∀ x, slotAt s i = some x → x.com = none ∧ x.img.target ≠ m.target) →
            (m.target - gnssNow s < 20952 → y.com = some m) ∧ (20952 ≤ m.target - gnssNow s → y.com = none)))) ∧
      (arrives s f 4 = true → ∃ t, exec (.takeFrame f) s = .next t ∧ t.mir.role = 2 ∧
        t.mir = { (acked s f).mir with take := some ⟨tsbTicks f, fw f 7, none⟩ } ∧
        (∀ k : Fin 4, (pinAt t k).active = (fw f 8).testBit k.val ∧
          ∀ e ∈ (pinAt t k).ends, e = (natOf ((f.payload.drop (9 + 4 * k.val)).take 4) : Int)) ∧
        onlyIn [.mir, .evs] s t = true) ∧
      (arrives s f 6 = true → exec (.resendFrame f) s = .next s)) ∧
    (s.mir.role = 1 →
      (arrives s f 4 = true →
        (s.mir.take ≠ none → exec (.takeFrame f) s = .next (acked s f)) ∧
        (s.mir.take = none → ∃ t, exec (.takeFrame f) s = .next t ∧ t.mir.take = some ⟨tsbTicks f, fw f 7, none⟩ ∧
          t.mir.holdSlots = true ∧ (∃ ws, t.mir.out = (acked s f).mir.out ++ [⟨4, 0, ws, true⟩]) ∧
          onlyIn [.mir] s t = true)) ∧
      (arrives s f 6 = true → ∀ b w : Word, f.payload = [b, w] →
        exec (.resendFrame f) s = .next (
          if anyPoison s (b.toNat % 8) (w.toNat % 16384) 1 then s
          else queued s 2 [BitVec.ofNat 16 (b.toNat % 8), BitVec.ofNat 16 (w.toNat % 16384),
            bankWord s (b.toNat % 8) (w.toNat % 16384)])) ∧
      (arrives s f 1 = true → s.mir.conflictRun < 15 → exec (.stateFrame f) s = .next { (acked s f) with
        mir := { (acked s f).mir with conflictRun := s.mir.conflictRun + 1 } }))

/-- O57. A frame is sent under the next sequence number: the oldest that waits, a RESEND, or IDLE. A silent link
clears link_ok with a notice. At S the standby becomes primary and the old primary standby; with the link lost the old
primary only releases its pins. A standby that sees the partner's edge after a loss stays; otherwise, with bit 0 of
mir.auto_take (the model's reading, log entry 32), it takes over at once and performs what may be missed. An edge
outside mir.win_ns is no comparison. A comparison gives mir.offset and steers delta by -e/8 unless comparison is
unavailable; 4 near ones lock, 4 far ones unlock. A self-test goes by the capture through the injected 12 ns; a failed one,
or copies that disagree, make comparison unavailable with event 5. (spec rules R442, R445, R447, R448, R451, R452, R453, R455, R456, R457, R459, R463) -/
def Obligations.MirroredPair : Prop :=
  ∀ (s : State), s.slu.ntc.length < 480 →
    (linked s = false → exec .frameSend s = .next s ∧ exec .linkLoss s = .next s) ∧
    (linked s = true → ∃ t, exec .frameSend s = .next t ∧ t.mir.txSeq = s.mir.txSeq + 1 ∧
      (∀ g gs, s.mir.out = g :: gs → t.mir.lastSent = some { g with seq := s.mir.txSeq } ∧ t.mir.out = gs ∧
        t.mir.resend = s.mir.resend) ∧
      (s.mir.out = [] → s.mir.resend ≠ [] → t.mir.lastSent = some ⟨6, s.mir.txSeq,
        (s.mir.resend.take 8).flatMap (fun p => [BitVec.ofNat 16 p.1, BitVec.ofNat 16 p.2]), true⟩ ∧
        t.mir.resend = s.mir.resend.drop 8) ∧
      (s.mir.out = [] → s.mir.resend = [] → t.mir.lastSent = some ⟨0, s.mir.txSeq,
        [BitVec.ofNat 16 (s.mir.role + 4 * tqCode s.time.tq + 32 * bit (s.parBit pMirStat 1) + 64 * bit (s.parBit pMirStat 0)),
         s.evs.fireCnt, s.mir.nonce], true⟩) ∧
      onlyIn [.mir] s t = true) ∧
    (linked s = true → exec .linkLoss s = .next (if s.mir.linkOk then
      mirrorTold { s with mir := { s.mir with
        linkOk := false, goodRun := 0, lossWait := s.mir.role == 2 && s.mir.take.isNone } } 1 0 else s)) ∧
    (s.mir.take = none → exec .takeoverSwitch s = .next s) ∧
    (∀ k, s.mir.take = some k → s.pwr.coreUp = true → s.pwr.state = .run ∨ s.pwr.state = .idle →
      (s.mir.role = 2 → ∃ t, exec .takeoverSwitch s = .next t ∧ NowPrimary s t k.trig ∧ t.evs.shadow = [] ∧
        onlyIn [.mir, .time, .params, .slu, .evs] s t = true) ∧
      (s.mir.role = 1 → s.mir.heldOps = [] →
        (s.mir.linkOk = true → ∃ t, exec .takeoverSwitch s = .next t ∧ t.mir.role = 2 ∧ t.mir.hiZ = true ∧ t.mir.take = none ∧
          t.mir.holdSlots = false ∧ t.mir.pcuOn = true ∧ t.mir.testDue = true ∧
          (∀ p, s.mir.partner = some p →
            immWord 15 (4 + 16 * (k.trig + 16 * bit (!(p.locked && p.sync)))) ∈ t.slu.ntc) ∧
          onlyIn [.mir, .time, .params, .slu] s t = true) ∧
        (s.mir.linkOk = false → ∃ t, exec .takeoverSwitch s = .next t ∧ t.mir.role = 1 ∧ t.mir.hiZ = true ∧
          t.mir.take = none ∧ t.mir.holdSlots = false ∧ onlyIn [.mir, .time] s t = true))) ∧
    (∀ seen, (s.mir.role ≠ 2 ∨ s.mir.lossWait = false → exec (.linkLossEdgeCheck seen) s = .next s) ∧
      (s.mir.role = 2 → s.mir.lossWait = true → s.pwr.coreUp = true → s.pwr.state = .run ∨ s.pwr.state = .idle →
        let u : State := { s with mir := { s.mir with lossWait := false } }
        (seen = true → exec (.linkLossEdgeCheck seen) s = .next (mirrorTold u 9 0)) ∧
        (seen = false → s.parBit pMirAutoTake 0 = false → exec (.linkLossEdgeCheck seen) s = .next u) ∧
        (seen = false → s.parBit pMirAutoTake 0 = true → s.evs.shadow.length < 5 → ∃ t,
          exec (.linkLossEdgeCheck seen) s = .next t ∧ NowPrimary s t 1 ∧ t.tp.late = true ∧ t.mir.wcsWait = true ∧
          t.evs.shadow = [] ∧ t.evs.late = (s.evs.late || !s.evs.shadow.isEmpty)))) ∧
    (∃ n, LatticeIndex s (wcsTime s) 1 n ∧
      let u := carryTick s (latticePlace s n 0)
      exec .takeoverWcsDrive s = .next (if s.mir.wcsWait then { u with mir := { s.mir with wcsWait := false } } else s) ∧
      exec .standbyOutputRelease s = .next (if s.mir.relWait then
        { u with mir := { s.mir with relWait := false, hiZ := true } } else s)) ∧
    exec .mirrorSyncLoss s = .next (if s.mir.role = 2 ∧ s.parBit pMirStat 0 = true then
      { (s.setParBit pMirStat 0 false) with mir := { s.mir with passDone := false } } else s) ∧
    (∀ delayed capture : Int, ∃ k, NearestPulse s capture k ∧
      let edge : Int := (tpPlace s k).1
      let u := carryTick s (max edge capture)
      let blk : Int := gnssNow u / 1047552000 / 16
      (s.mir.role ≠ 2 ∨ s.mir.pcuOn = false ∨ tpEmits s = false ∨ s.par pMirWinNs * 1047552000 < |edge - capture| * 1000000000 →
        exec (.tpcmpEdge delayed capture) s = .next s) ∧
      (s.mir.role = 2 → s.mir.pcuOn = true → tpEmits s = true → s.pwr.coreUp = true → s.pwr.state = .run ∨ s.pwr.state = .idle →
        |edge - capture| * 1000000000 ≤ s.par pMirWinNs * 1047552000 →
        s.mir.cmpA = dlyCopy (s.par pMirDlyCmp) → s.mir.cmpB = s.mir.cmpA → s.mir.outA = dlyCopy (s.par pMirDlyOut) →
        s.mir.outB = s.mir.outA →
        ∃ t e d, exec (.tpcmpEdge delayed capture) s = .next t ∧ offsetNear s edge capture e ∧ offsetNear s edge delayed d ∧
          t.mir.role = 2 ∧ t.time = u.time ∧
          (s.mir.testDue = false → s.mir.pcu = 2 ∨ blk ≤ s.mir.testBlk → s.parBit pMirAutoTake 1 = false →
            t.par pMirOffset = max (-32768) (min 32767 e) ∧ t.mir.es = (e :: s.mir.es).take 4 ∧ t.mir.pcu = s.mir.pcu ∧
            t.par pMirDelta = (if s.mir.pcu = 2 then s.par pMirDelta
              else max (-2147483648) (min 2147483647 (s.par pMirDelta + (-(e * 100 / 8))))) ∧
            (|e| ≤ s.par pMirLockNs * 10 → 3 ≤ s.mir.lockRun → t.parBit pMirStat 1 = true) ∧
            (s.par pMirLockNs * 10 < |e| → 3 ≤ s.mir.looseRun → t.parBit pMirStat 1 = false) ∧
            (|e| ≤ s.par pMirLockNs * 10 → s.mir.lockRun < 3 → t.parBit pMirStat 1 = s.parBit pMirStat 1)) ∧
          (s.mir.testDue = true ∨ (s.mir.pcu ≠ 2 ∧ s.mir.testBlk < blk) → s.mir.es.length = 4 →
            t.par pMirDelta = s.par pMirDelta ∧ t.par pMirOffset = s.par pMirOffset ∧ t.mir.testDue = false ∧
            t.mir.testBlk = blk ∧
            (|4 * (d * 100 + 12000 + trimPs s 15) - s.mir.es.sum * 100| ≤ 4 * (s.par pMirStTol * 1000) →
              (s.mir.pcu ≠ 2 ∨ s.mir.testDue = true → t.mir.pcu = 1) ∧
              (s.mir.pcu = 2 → s.mir.testDue = true → immWord 15 6 ∈ t.slu.ntc)) ∧
            (4 * (s.par pMirStTol * 1000) < |4 * (d * 100 + 12000 + trimPs s 15) - s.mir.es.sum * 100| →
              t.mir.pcu = 2 ∧ t.mir.stFail = true ∧ t.par pMirStFailCnt = (s.bumpPar pMirStFailCnt).par pMirStFailCnt ∧
              (s.mir.pcu ≠ 2 → immWord 15 (5 + 16 * 1) ∈ t.slu.ntc)))) ∧
      (s.mir.role = 2 → s.mir.pcuOn = true → tpEmits s = true → s.pwr.coreUp = true →
        s.pwr.state = .run ∨ s.pwr.state = .idle →
        |edge - capture| * 1000000000 ≤ s.par pMirWinNs * 1047552000 → s.mir.cmpA.value ≠ s.mir.cmpB.value → s.mir.pcu ≠ 2 →
        s.mir.testDue = false → ∃ t, exec (.tpcmpEdge delayed capture) s = .next t ∧ t.mir.dlyMis = true ∧ t.mir.pcu = 2 ∧
          immWord 15 (5 + 16 * 2) ∈ t.slu.ntc ∧ t.par pMirDelta = s.par pMirDelta))

/-- O58. For every command c, state s and queue: step at a state whose queue is c followed by rest is exec of c at
that state with the queue rest. On an empty queue (the model's choice, log entry 1) one REFIN period passes: the DTC
advances by one while it runs, its wraps are counted, active consumers may read Brine entries, those that every one has
read leave, and nothing else changes. (spec rules
R14, R16, R75) -/
def Obligations.StepRunsFrontCommand : Prop :=
  (∀ (c : Instr) (s : State) (rest : List Instr), step { s with pending := c :: rest } = exec c { s with pending := rest }) ∧
  ∀ (s : State), s.pending = [] → ∃ t, step s = .next t ∧ onlyIn [.time, .samp] s t = true ∧
    t.time = { s.time with dtc := t.time.dtc, wraps := t.time.wraps } ∧
    dtcNow t = dtcNow s + (if s.time.running then 1 else 0) ∧
    t.samp = { s.samp with fifo := t.samp.fifo, unread := t.samp.unread } ∧ (s.samp.fifo = [] → t.samp = s.samp) ∧
    (s.samp.fifo ≠ [] →
      (∀ i : Fin 5, if readsBrine s i.val then t.samp.unread.get i ≤ s.samp.unread.get i else t.samp.unread.get i = 0) ∧
      ∃ m, (∀ i, t.samp.unread.get i ≤ m) ∧ (m ≠ 0 → ∃ i, t.samp.unread.get i = m) ∧
        t.samp.fifo = s.samp.fifo.drop (s.samp.fifo.length - m))

/-- O59. After reset the DTC is zero and the time quality UNKNOWN; banks B0 to B7 belong to TRK, SVC, CRYST, TRK, SVC,
SVC, HOST and HOST; the calendar reads 1 January 2000, 00:00:00, day 1 of the week, and is legal; PC, the flags,
segments, return stack and vector base of both cores are 0; no channel, CMD or NTC notice waits, no slot is armed and
no command is pending. From there SOFT_START_END and REFIN_STABLE start both cores (the order of events is log entry
10's). (spec rules R14, R238, R280, R301, R268) -/
def Obligations.ResetState : Prop :=
  let s := State.reset
  dtcNow s = 0 ∧ s.time.tq = .unknown ∧ s.time.bridged = false ∧ s.pending = [] ∧
  (List.range 8).map (ownerOf s) = [.trk, .svc, .cryst, .trk, .svc, .svc, .host, .host] ∧
  rtcTime s = 0x01000000 ∧ rtcDate s = 0x00000101 ∧ s.rtc.halt = false ∧ calendarOk s.rtc = true ∧
  (∀ k, (s.core k).pc = 0 ∧ flBits (s.core k) = 0 ∧ (s.core k).rsCount = 0 ∧ (s.core k).base = 0 ∧ (s.core k).ie = false ∧
    (s.core k).sg = Vector.replicate 4 .reset) ∧
  s.slu.cmd = [] ∧ s.slu.ntc = [] ∧ s.slu.chans = [] ∧ s.evs.slots = [] ∧ s.bank.mem = [] ∧ s.params = [] ∧
  ∃ t u, step { s with pending := [.softStartEnd true false, .refinStable 0 true] } = .next t ∧ t.pwr.coreUp = true ∧
    step t = .next u ∧ u.pwr.coresUp = true ∧ u.trk.held = false ∧ u.svc.held = false ∧ u.trk.pc = 0 ∧ u.svc.pc = 0 ∧
    u.pending = []

/-- O60. For every state whose calendar holds packed BCD fields in their ranges (seconds and minutes 00-59, hours
00-23, days of the week 1-7, months 01-12, years 00-99) with a day that the month has in that year, and every command
at the front of its queue or none: if the step answers a next state, the calendar is legal there too, whether the
calendar counts, is written by a host, is loaded from UTC, or loses its supply. (spec rules R238, R410, R411, R413,
R408) -/
def Obligations.CalendarStaysLegal : Prop :=
  ∀ (s t : State), calendarOk s.rtc = true → step s = .next t → calendarOk t.rtc = true

end
end

