-- ==== Sys2Proof/Laws/State.lean ====
section
/-! SUPPORT. What each named update of `State` leaves alone and what it sets: one lemma per field per update, so that no
later proof unfolds a record update. -/

namespace Sys2Proof.Machine

/-! ### setCls -/

@[simp] theorem State.setCls_time (s : State) (c : Cls) (b : ClsBank) : (s.setCls c b).time = s.time := by cases c <;> rfl
@[simp] theorem State.setCls_pace (s : State) (c : Cls) (b : ClsBank) : (s.setCls c b).pace = s.pace := by cases c <;> rfl
@[simp] theorem State.setCls_samp (s : State) (c : Cls) (b : ClsBank) : (s.setCls c b).samp = s.samp := by cases c <;> rfl
@[simp] theorem State.setCls_acq (s : State) (c : Cls) (b : ClsBank) : (s.setCls c b).acq = s.acq := by cases c <;> rfl
@[simp] theorem State.setCls_integ (s : State) (c : Cls) (b : ClsBank) : (s.setCls c b).integ = s.integ := by cases c <;> rfl
@[simp] theorem State.setCls_tp (s : State) (c : Cls) (b : ClsBank) : (s.setCls c b).tp = s.tp := by cases c <;> rfl
@[simp] theorem State.setCls_wcs (s : State) (c : Cls) (b : ClsBank) : (s.setCls c b).wcs = s.wcs := by cases c <;> rfl
@[simp] theorem State.setCls_evs (s : State) (c : Cls) (b : ClsBank) : (s.setCls c b).evs = s.evs := by cases c <;> rfl
@[simp] theorem State.setCls_bus (s : State) (c : Cls) (b : ClsBank) : (s.setCls c b).bus = s.bus := by cases c <;> rfl
@[simp] theorem State.setCls_slu (s : State) (c : Cls) (b : ClsBank) : (s.setCls c b).slu = s.slu := by cases c <;> rfl
@[simp] theorem State.setCls_bank (s : State) (c : Cls) (b : ClsBank) : (s.setCls c b).bank = s.bank := by cases c <;> rfl
@[simp] theorem State.setCls_cp (s : State) (c : Cls) (b : ClsBank) : (s.setCls c b).cp = s.cp := by cases c <;> rfl
@[simp] theorem State.setCls_vreg (s : State) (c : Cls) (b : ClsBank) : (s.setCls c b).vreg = s.vreg := by cases c <;> rfl
@[simp] theorem State.setCls_ant (s : State) (c : Cls) (b : ClsBank) : (s.setCls c b).ant = s.ant := by cases c <;> rfl
@[simp] theorem State.setCls_pwr (s : State) (c : Cls) (b : ClsBank) : (s.setCls c b).pwr = s.pwr := by cases c <;> rfl
@[simp] theorem State.setCls_rtc (s : State) (c : Cls) (b : ClsBank) : (s.setCls c b).rtc = s.rtc := by cases c <;> rfl
@[simp] theorem State.setCls_gau (s : State) (c : Cls) (b : ClsBank) : (s.setCls c b).gau = s.gau := by cases c <;> rfl
@[simp] theorem State.setCls_mir (s : State) (c : Cls) (b : ClsBank) : (s.setCls c b).mir = s.mir := by cases c <;> rfl
@[simp] theorem State.setCls_dbg (s : State) (c : Cls) (b : ClsBank) : (s.setCls c b).dbg = s.dbg := by cases c <;> rfl
@[simp] theorem State.setCls_pin (s : State) (c : Cls) (b : ClsBank) : (s.setCls c b).pin = s.pin := by cases c <;> rfl
@[simp] theorem State.setCls_pans (s : State) (c : Cls) (b : ClsBank) : (s.setCls c b).pans = s.pans := by cases c <;> rfl
@[simp] theorem State.setCls_trk (s : State) (c : Cls) (b : ClsBank) : (s.setCls c b).trk = s.trk := by cases c <;> rfl
@[simp] theorem State.setCls_svc (s : State) (c : Cls) (b : ClsBank) : (s.setCls c b).svc = s.svc := by cases c <;> rfl
@[simp] theorem State.setCls_params (s : State) (c : Cls) (b : ClsBank) : (s.setCls c b).params = s.params := by cases c <;> rfl
@[simp] theorem State.setCls_free (s : State) (c : Cls) (b : ClsBank) : (s.setCls c b).free = s.free := by cases c <;> rfl
@[simp] theorem State.setCls_pending (s : State) (c : Cls) (b : ClsBank) : (s.setCls c b).pending = s.pending := by cases c <;> rfl

/-! ### modCls -/

@[simp] theorem State.modCls_time (s : State) (c : Cls) (f : ClsBank → ClsBank) : (s.modCls c f).time = s.time := by cases c <;> rfl
@[simp] theorem State.modCls_pace (s : State) (c : Cls) (f : ClsBank → ClsBank) : (s.modCls c f).pace = s.pace := by cases c <;> rfl
@[simp] theorem State.modCls_samp (s : State) (c : Cls) (f : ClsBank → ClsBank) : (s.modCls c f).samp = s.samp := by cases c <;> rfl
@[simp] theorem State.modCls_acq (s : State) (c : Cls) (f : ClsBank → ClsBank) : (s.modCls c f).acq = s.acq := by cases c <;> rfl
@[simp] theorem State.modCls_integ (s : State) (c : Cls) (f : ClsBank → ClsBank) : (s.modCls c f).integ = s.integ := by cases c <;> rfl
@[simp] theorem State.modCls_tp (s : State) (c : Cls) (f : ClsBank → ClsBank) : (s.modCls c f).tp = s.tp := by cases c <;> rfl
@[simp] theorem State.modCls_wcs (s : State) (c : Cls) (f : ClsBank → ClsBank) : (s.modCls c f).wcs = s.wcs := by cases c <;> rfl
@[simp] theorem State.modCls_evs (s : State) (c : Cls) (f : ClsBank → ClsBank) : (s.modCls c f).evs = s.evs := by cases c <;> rfl
@[simp] theorem State.modCls_bus (s : State) (c : Cls) (f : ClsBank → ClsBank) : (s.modCls c f).bus = s.bus := by cases c <;> rfl
@[simp] theorem State.modCls_slu (s : State) (c : Cls) (f : ClsBank → ClsBank) : (s.modCls c f).slu = s.slu := by cases c <;> rfl
@[simp] theorem State.modCls_bank (s : State) (c : Cls) (f : ClsBank → ClsBank) : (s.modCls c f).bank = s.bank := by cases c <;> rfl
@[simp] theorem State.modCls_cp (s : State) (c : Cls) (f : ClsBank → ClsBank) : (s.modCls c f).cp = s.cp := by cases c <;> rfl
@[simp] theorem State.modCls_vreg (s : State) (c : Cls) (f : ClsBank → ClsBank) : (s.modCls c f).vreg = s.vreg := by cases c <;> rfl
@[simp] theorem State.modCls_ant (s : State) (c : Cls) (f : ClsBank → ClsBank) : (s.modCls c f).ant = s.ant := by cases c <;> rfl
@[simp] theorem State.modCls_pwr (s : State) (c : Cls) (f : ClsBank → ClsBank) : (s.modCls c f).pwr = s.pwr := by cases c <;> rfl
@[simp] theorem State.modCls_rtc (s : State) (c : Cls) (f : ClsBank → ClsBank) : (s.modCls c f).rtc = s.rtc := by cases c <;> rfl
@[simp] theorem State.modCls_gau (s : State) (c : Cls) (f : ClsBank → ClsBank) : (s.modCls c f).gau = s.gau := by cases c <;> rfl
@[simp] theorem State.modCls_mir (s : State) (c : Cls) (f : ClsBank → ClsBank) : (s.modCls c f).mir = s.mir := by cases c <;> rfl
@[simp] theorem State.modCls_dbg (s : State) (c : Cls) (f : ClsBank → ClsBank) : (s.modCls c f).dbg = s.dbg := by cases c <;> rfl
@[simp] theorem State.modCls_pin (s : State) (c : Cls) (f : ClsBank → ClsBank) : (s.modCls c f).pin = s.pin := by cases c <;> rfl
@[simp] theorem State.modCls_pans (s : State) (c : Cls) (f : ClsBank → ClsBank) : (s.modCls c f).pans = s.pans := by cases c <;> rfl
@[simp] theorem State.modCls_trk (s : State) (c : Cls) (f : ClsBank → ClsBank) : (s.modCls c f).trk = s.trk := by cases c <;> rfl
@[simp] theorem State.modCls_svc (s : State) (c : Cls) (f : ClsBank → ClsBank) : (s.modCls c f).svc = s.svc := by cases c <;> rfl
@[simp] theorem State.modCls_params (s : State) (c : Cls) (f : ClsBank → ClsBank) : (s.modCls c f).params = s.params := by cases c <;> rfl
@[simp] theorem State.modCls_free (s : State) (c : Cls) (f : ClsBank → ClsBank) : (s.modCls c f).free = s.free := by cases c <;> rfl
@[simp] theorem State.modCls_pending (s : State) (c : Cls) (f : ClsBank → ClsBank) : (s.modCls c f).pending = s.pending := by cases c <;> rfl

/-! ### setCore -/

@[simp] theorem State.setCore_time (s : State) (k : CoreId) (c : Core) : (s.setCore k c).time = s.time := by cases k <;> rfl
@[simp] theorem State.setCore_pace (s : State) (k : CoreId) (c : Core) : (s.setCore k c).pace = s.pace := by cases k <;> rfl
@[simp] theorem State.setCore_samp (s : State) (k : CoreId) (c : Core) : (s.setCore k c).samp = s.samp := by cases k <;> rfl
@[simp] theorem State.setCore_acq (s : State) (k : CoreId) (c : Core) : (s.setCore k c).acq = s.acq := by cases k <;> rfl
@[simp] theorem State.setCore_integ (s : State) (k : CoreId) (c : Core) : (s.setCore k c).integ = s.integ := by cases k <;> rfl
@[simp] theorem State.setCore_tp (s : State) (k : CoreId) (c : Core) : (s.setCore k c).tp = s.tp := by cases k <;> rfl
@[simp] theorem State.setCore_wcs (s : State) (k : CoreId) (c : Core) : (s.setCore k c).wcs = s.wcs := by cases k <;> rfl
@[simp] theorem State.setCore_evs (s : State) (k : CoreId) (c : Core) : (s.setCore k c).evs = s.evs := by cases k <;> rfl
@[simp] theorem State.setCore_bus (s : State) (k : CoreId) (c : Core) : (s.setCore k c).bus = s.bus := by cases k <;> rfl
@[simp] theorem State.setCore_slu (s : State) (k : CoreId) (c : Core) : (s.setCore k c).slu = s.slu := by cases k <;> rfl
@[simp] theorem State.setCore_bank (s : State) (k : CoreId) (c : Core) : (s.setCore k c).bank = s.bank := by cases k <;> rfl
@[simp] theorem State.setCore_cp (s : State) (k : CoreId) (c : Core) : (s.setCore k c).cp = s.cp := by cases k <;> rfl
@[simp] theorem State.setCore_vreg (s : State) (k : CoreId) (c : Core) : (s.setCore k c).vreg = s.vreg := by cases k <;> rfl
@[simp] theorem State.setCore_ant (s : State) (k : CoreId) (c : Core) : (s.setCore k c).ant = s.ant := by cases k <;> rfl
@[simp] theorem State.setCore_pwr (s : State) (k : CoreId) (c : Core) : (s.setCore k c).pwr = s.pwr := by cases k <;> rfl
@[simp] theorem State.setCore_rtc (s : State) (k : CoreId) (c : Core) : (s.setCore k c).rtc = s.rtc := by cases k <;> rfl
@[simp] theorem State.setCore_gau (s : State) (k : CoreId) (c : Core) : (s.setCore k c).gau = s.gau := by cases k <;> rfl
@[simp] theorem State.setCore_mir (s : State) (k : CoreId) (c : Core) : (s.setCore k c).mir = s.mir := by cases k <;> rfl
@[simp] theorem State.setCore_dbg (s : State) (k : CoreId) (c : Core) : (s.setCore k c).dbg = s.dbg := by cases k <;> rfl
@[simp] theorem State.setCore_pin (s : State) (k : CoreId) (c : Core) : (s.setCore k c).pin = s.pin := by cases k <;> rfl
@[simp] theorem State.setCore_pans (s : State) (k : CoreId) (c : Core) : (s.setCore k c).pans = s.pans := by cases k <;> rfl
@[simp] theorem State.setCore_ns (s : State) (k : CoreId) (c : Core) : (s.setCore k c).ns = s.ns := by cases k <;> rfl
@[simp] theorem State.setCore_sec (s : State) (k : CoreId) (c : Core) : (s.setCore k c).sec = s.sec := by cases k <;> rfl
@[simp] theorem State.setCore_dbgc (s : State) (k : CoreId) (c : Core) : (s.setCore k c).dbgc = s.dbgc := by cases k <;> rfl
@[simp] theorem State.setCore_trkc (s : State) (k : CoreId) (c : Core) : (s.setCore k c).trkc = s.trkc := by cases k <;> rfl
@[simp] theorem State.setCore_svcc (s : State) (k : CoreId) (c : Core) : (s.setCore k c).svcc = s.svcc := by cases k <;> rfl
@[simp] theorem State.setCore_mirc (s : State) (k : CoreId) (c : Core) : (s.setCore k c).mirc = s.mirc := by cases k <;> rfl
@[simp] theorem State.setCore_params (s : State) (k : CoreId) (c : Core) : (s.setCore k c).params = s.params := by cases k <;> rfl
@[simp] theorem State.setCore_free (s : State) (k : CoreId) (c : Core) : (s.setCore k c).free = s.free := by cases k <;> rfl
@[simp] theorem State.setCore_pending (s : State) (k : CoreId) (c : Core) : (s.setCore k c).pending = s.pending := by cases k <;> rfl

/-! ### modCore -/

@[simp] theorem State.modCore_time (s : State) (k : CoreId) (f : Core → Core) : (s.modCore k f).time = s.time := by cases k <;> rfl
@[simp] theorem State.modCore_pace (s : State) (k : CoreId) (f : Core → Core) : (s.modCore k f).pace = s.pace := by cases k <;> rfl
@[simp] theorem State.modCore_samp (s : State) (k : CoreId) (f : Core → Core) : (s.modCore k f).samp = s.samp := by cases k <;> rfl
@[simp] theorem State.modCore_acq (s : State) (k : CoreId) (f : Core → Core) : (s.modCore k f).acq = s.acq := by cases k <;> rfl
@[simp] theorem State.modCore_integ (s : State) (k : CoreId) (f : Core → Core) : (s.modCore k f).integ = s.integ := by cases k <;> rfl
@[simp] theorem State.modCore_tp (s : State) (k : CoreId) (f : Core → Core) : (s.modCore k f).tp = s.tp := by cases k <;> rfl
@[simp] theorem State.modCore_wcs (s : State) (k : CoreId) (f : Core → Core) : (s.modCore k f).wcs = s.wcs := by cases k <;> rfl
@[simp] theorem State.modCore_evs (s : State) (k : CoreId) (f : Core → Core) : (s.modCore k f).evs = s.evs := by cases k <;> rfl
@[simp] theorem State.modCore_bus (s : State) (k : CoreId) (f : Core → Core) : (s.modCore k f).bus = s.bus := by cases k <;> rfl
@[simp] theorem State.modCore_slu (s : State) (k : CoreId) (f : Core → Core) : (s.modCore k f).slu = s.slu := by cases k <;> rfl
@[simp] theorem State.modCore_bank (s : State) (k : CoreId) (f : Core → Core) : (s.modCore k f).bank = s.bank := by cases k <;> rfl
@[simp] theorem State.modCore_cp (s : State) (k : CoreId) (f : Core → Core) : (s.modCore k f).cp = s.cp := by cases k <;> rfl
@[simp] theorem State.modCore_vreg (s : State) (k : CoreId) (f : Core → Core) : (s.modCore k f).vreg = s.vreg := by cases k <;> rfl
@[simp] theorem State.modCore_ant (s : State) (k : CoreId) (f : Core → Core) : (s.modCore k f).ant = s.ant := by cases k <;> rfl
@[simp] theorem State.modCore_pwr (s : State) (k : CoreId) (f : Core → Core) : (s.modCore k f).pwr = s.pwr := by cases k <;> rfl
@[simp] theorem State.modCore_rtc (s : State) (k : CoreId) (f : Core → Core) : (s.modCore k f).rtc = s.rtc := by cases k <;> rfl
@[simp] theorem State.modCore_gau (s : State) (k : CoreId) (f : Core → Core) : (s.modCore k f).gau = s.gau := by cases k <;> rfl
@[simp] theorem State.modCore_mir (s : State) (k : CoreId) (f : Core → Core) : (s.modCore k f).mir = s.mir := by cases k <;> rfl
@[simp] theorem State.modCore_dbg (s : State) (k : CoreId) (f : Core → Core) : (s.modCore k f).dbg = s.dbg := by cases k <;> rfl
@[simp] theorem State.modCore_pin (s : State) (k : CoreId) (f : Core → Core) : (s.modCore k f).pin = s.pin := by cases k <;> rfl
@[simp] theorem State.modCore_pans (s : State) (k : CoreId) (f : Core → Core) : (s.modCore k f).pans = s.pans := by cases k <;> rfl
@[simp] theorem State.modCore_ns (s : State) (k : CoreId) (f : Core → Core) : (s.modCore k f).ns = s.ns := by cases k <;> rfl
@[simp] theorem State.modCore_sec (s : State) (k : CoreId) (f : Core → Core) : (s.modCore k f).sec = s.sec := by cases k <;> rfl
@[simp] theorem State.modCore_dbgc (s : State) (k : CoreId) (f : Core → Core) : (s.modCore k f).dbgc = s.dbgc := by cases k <;> rfl
@[simp] theorem State.modCore_trkc (s : State) (k : CoreId) (f : Core → Core) : (s.modCore k f).trkc = s.trkc := by cases k <;> rfl
@[simp] theorem State.modCore_svcc (s : State) (k : CoreId) (f : Core → Core) : (s.modCore k f).svcc = s.svcc := by cases k <;> rfl
@[simp] theorem State.modCore_mirc (s : State) (k : CoreId) (f : Core → Core) : (s.modCore k f).mirc = s.mirc := by cases k <;> rfl
@[simp] theorem State.modCore_params (s : State) (k : CoreId) (f : Core → Core) : (s.modCore k f).params = s.params := by cases k <;> rfl
@[simp] theorem State.modCore_free (s : State) (k : CoreId) (f : Core → Core) : (s.modCore k f).free = s.free := by cases k <;> rfl
@[simp] theorem State.modCore_pending (s : State) (k : CoreId) (f : Core → Core) : (s.modCore k f).pending = s.pending := by cases k <;> rfl

/-! ### modCores -/

@[simp] theorem State.modCores_time (s : State) (f : Core → Core) : (s.modCores f).time = s.time := rfl
@[simp] theorem State.modCores_pace (s : State) (f : Core → Core) : (s.modCores f).pace = s.pace := rfl
@[simp] theorem State.modCores_samp (s : State) (f : Core → Core) : (s.modCores f).samp = s.samp := rfl
@[simp] theorem State.modCores_acq (s : State) (f : Core → Core) : (s.modCores f).acq = s.acq := rfl
@[simp] theorem State.modCores_integ (s : State) (f : Core → Core) : (s.modCores f).integ = s.integ := rfl
@[simp] theorem State.modCores_tp (s : State) (f : Core → Core) : (s.modCores f).tp = s.tp := rfl
@[simp] theorem State.modCores_wcs (s : State) (f : Core → Core) : (s.modCores f).wcs = s.wcs := rfl
@[simp] theorem State.modCores_evs (s : State) (f : Core → Core) : (s.modCores f).evs = s.evs := rfl
@[simp] theorem State.modCores_bus (s : State) (f : Core → Core) : (s.modCores f).bus = s.bus := rfl
@[simp] theorem State.modCores_slu (s : State) (f : Core → Core) : (s.modCores f).slu = s.slu := rfl
@[simp] theorem State.modCores_bank (s : State) (f : Core → Core) : (s.modCores f).bank = s.bank := rfl
@[simp] theorem State.modCores_cp (s : State) (f : Core → Core) : (s.modCores f).cp = s.cp := rfl
@[simp] theorem State.modCores_vreg (s : State) (f : Core → Core) : (s.modCores f).vreg = s.vreg := rfl
@[simp] theorem State.modCores_ant (s : State) (f : Core → Core) : (s.modCores f).ant = s.ant := rfl
@[simp] theorem State.modCores_pwr (s : State) (f : Core → Core) : (s.modCores f).pwr = s.pwr := rfl
@[simp] theorem State.modCores_rtc (s : State) (f : Core → Core) : (s.modCores f).rtc = s.rtc := rfl
@[simp] theorem State.modCores_gau (s : State) (f : Core → Core) : (s.modCores f).gau = s.gau := rfl
@[simp] theorem State.modCores_mir (s : State) (f : Core → Core) : (s.modCores f).mir = s.mir := rfl
@[simp] theorem State.modCores_dbg (s : State) (f : Core → Core) : (s.modCores f).dbg = s.dbg := rfl
@[simp] theorem State.modCores_pin (s : State) (f : Core → Core) : (s.modCores f).pin = s.pin := rfl
@[simp] theorem State.modCores_pans (s : State) (f : Core → Core) : (s.modCores f).pans = s.pans := rfl
@[simp] theorem State.modCores_ns (s : State) (f : Core → Core) : (s.modCores f).ns = s.ns := rfl
@[simp] theorem State.modCores_sec (s : State) (f : Core → Core) : (s.modCores f).sec = s.sec := rfl
@[simp] theorem State.modCores_dbgc (s : State) (f : Core → Core) : (s.modCores f).dbgc = s.dbgc := rfl
@[simp] theorem State.modCores_trkc (s : State) (f : Core → Core) : (s.modCores f).trkc = s.trkc := rfl
@[simp] theorem State.modCores_svcc (s : State) (f : Core → Core) : (s.modCores f).svcc = s.svcc := rfl
@[simp] theorem State.modCores_mirc (s : State) (f : Core → Core) : (s.modCores f).mirc = s.mirc := rfl
@[simp] theorem State.modCores_params (s : State) (f : Core → Core) : (s.modCores f).params = s.params := rfl
@[simp] theorem State.modCores_free (s : State) (f : Core → Core) : (s.modCores f).free = s.free := rfl
@[simp] theorem State.modCores_pending (s : State) (f : Core → Core) : (s.modCores f).pending = s.pending := rfl

/-! ### setPar -/

@[simp] theorem State.setPar_time (s : State) (k : Nat) (v : Int) : (s.setPar k v).time = s.time := rfl
@[simp] theorem State.setPar_pace (s : State) (k : Nat) (v : Int) : (s.setPar k v).pace = s.pace := rfl
@[simp] theorem State.setPar_samp (s : State) (k : Nat) (v : Int) : (s.setPar k v).samp = s.samp := rfl
@[simp] theorem State.setPar_acq (s : State) (k : Nat) (v : Int) : (s.setPar k v).acq = s.acq := rfl
@[simp] theorem State.setPar_integ (s : State) (k : Nat) (v : Int) : (s.setPar k v).integ = s.integ := rfl
@[simp] theorem State.setPar_tp (s : State) (k : Nat) (v : Int) : (s.setPar k v).tp = s.tp := rfl
@[simp] theorem State.setPar_wcs (s : State) (k : Nat) (v : Int) : (s.setPar k v).wcs = s.wcs := rfl
@[simp] theorem State.setPar_evs (s : State) (k : Nat) (v : Int) : (s.setPar k v).evs = s.evs := rfl
@[simp] theorem State.setPar_bus (s : State) (k : Nat) (v : Int) : (s.setPar k v).bus = s.bus := rfl
@[simp] theorem State.setPar_slu (s : State) (k : Nat) (v : Int) : (s.setPar k v).slu = s.slu := rfl
@[simp] theorem State.setPar_bank (s : State) (k : Nat) (v : Int) : (s.setPar k v).bank = s.bank := rfl
@[simp] theorem State.setPar_cp (s : State) (k : Nat) (v : Int) : (s.setPar k v).cp = s.cp := rfl
@[simp] theorem State.setPar_vreg (s : State) (k : Nat) (v : Int) : (s.setPar k v).vreg = s.vreg := rfl
@[simp] theorem State.setPar_ant (s : State) (k : Nat) (v : Int) : (s.setPar k v).ant = s.ant := rfl
@[simp] theorem State.setPar_pwr (s : State) (k : Nat) (v : Int) : (s.setPar k v).pwr = s.pwr := rfl
@[simp] theorem State.setPar_rtc (s : State) (k : Nat) (v : Int) : (s.setPar k v).rtc = s.rtc := rfl
@[simp] theorem State.setPar_gau (s : State) (k : Nat) (v : Int) : (s.setPar k v).gau = s.gau := rfl
@[simp] theorem State.setPar_mir (s : State) (k : Nat) (v : Int) : (s.setPar k v).mir = s.mir := rfl
@[simp] theorem State.setPar_dbg (s : State) (k : Nat) (v : Int) : (s.setPar k v).dbg = s.dbg := rfl
@[simp] theorem State.setPar_pin (s : State) (k : Nat) (v : Int) : (s.setPar k v).pin = s.pin := rfl
@[simp] theorem State.setPar_pans (s : State) (k : Nat) (v : Int) : (s.setPar k v).pans = s.pans := rfl
@[simp] theorem State.setPar_ns (s : State) (k : Nat) (v : Int) : (s.setPar k v).ns = s.ns := rfl
@[simp] theorem State.setPar_sec (s : State) (k : Nat) (v : Int) : (s.setPar k v).sec = s.sec := rfl
@[simp] theorem State.setPar_dbgc (s : State) (k : Nat) (v : Int) : (s.setPar k v).dbgc = s.dbgc := rfl
@[simp] theorem State.setPar_trkc (s : State) (k : Nat) (v : Int) : (s.setPar k v).trkc = s.trkc := rfl
@[simp] theorem State.setPar_svcc (s : State) (k : Nat) (v : Int) : (s.setPar k v).svcc = s.svcc := rfl
@[simp] theorem State.setPar_mirc (s : State) (k : Nat) (v : Int) : (s.setPar k v).mirc = s.mirc := rfl
@[simp] theorem State.setPar_trk (s : State) (k : Nat) (v : Int) : (s.setPar k v).trk = s.trk := rfl
@[simp] theorem State.setPar_svc (s : State) (k : Nat) (v : Int) : (s.setPar k v).svc = s.svc := rfl
@[simp] theorem State.setPar_free (s : State) (k : Nat) (v : Int) : (s.setPar k v).free = s.free := rfl
@[simp] theorem State.setPar_pending (s : State) (k : Nat) (v : Int) : (s.setPar k v).pending = s.pending := rfl

/-! ### bumpPar -/

@[simp] theorem State.bumpPar_time (s : State) (k : Nat) : (s.bumpPar k).time = s.time := rfl
@[simp] theorem State.bumpPar_pace (s : State) (k : Nat) : (s.bumpPar k).pace = s.pace := rfl
@[simp] theorem State.bumpPar_samp (s : State) (k : Nat) : (s.bumpPar k).samp = s.samp := rfl
@[simp] theorem State.bumpPar_acq (s : State) (k : Nat) : (s.bumpPar k).acq = s.acq := rfl
@[simp] theorem State.bumpPar_integ (s : State) (k : Nat) : (s.bumpPar k).integ = s.integ := rfl
@[simp] theorem State.bumpPar_tp (s : State) (k : Nat) : (s.bumpPar k).tp = s.tp := rfl
@[simp] theorem State.bumpPar_wcs (s : State) (k : Nat) : (s.bumpPar k).wcs = s.wcs := rfl
@[simp] theorem State.bumpPar_evs (s : State) (k : Nat) : (s.bumpPar k).evs = s.evs := rfl
@[simp] theorem State.bumpPar_bus (s : State) (k : Nat) : (s.bumpPar k).bus = s.bus := rfl
@[simp] theorem State.bumpPar_slu (s : State) (k : Nat) : (s.bumpPar k).slu = s.slu := rfl
@[simp] theorem State.bumpPar_bank (s : State) (k : Nat) : (s.bumpPar k).bank = s.bank := rfl
@[simp] theorem State.bumpPar_cp (s : State) (k : Nat) : (s.bumpPar k).cp = s.cp := rfl
@[simp] theorem State.bumpPar_vreg (s : State) (k : Nat) : (s.bumpPar k).vreg = s.vreg := rfl
@[simp] theorem State.bumpPar_ant (s : State) (k : Nat) : (s.bumpPar k).ant = s.ant := rfl
@[simp] theorem State.bumpPar_pwr (s : State) (k : Nat) : (s.bumpPar k).pwr = s.pwr := rfl
@[simp] theorem State.bumpPar_rtc (s : State) (k : Nat) : (s.bumpPar k).rtc = s.rtc := rfl
@[simp] theorem State.bumpPar_gau (s : State) (k : Nat) : (s.bumpPar k).gau = s.gau := rfl
@[simp] theorem State.bumpPar_mir (s : State) (k : Nat) : (s.bumpPar k).mir = s.mir := rfl
@[simp] theorem State.bumpPar_dbg (s : State) (k : Nat) : (s.bumpPar k).dbg = s.dbg := rfl
@[simp] theorem State.bumpPar_pin (s : State) (k : Nat) : (s.bumpPar k).pin = s.pin := rfl
@[simp] theorem State.bumpPar_pans (s : State) (k : Nat) : (s.bumpPar k).pans = s.pans := rfl
@[simp] theorem State.bumpPar_ns (s : State) (k : Nat) : (s.bumpPar k).ns = s.ns := rfl
@[simp] theorem State.bumpPar_sec (s : State) (k : Nat) : (s.bumpPar k).sec = s.sec := rfl
@[simp] theorem State.bumpPar_dbgc (s : State) (k : Nat) : (s.bumpPar k).dbgc = s.dbgc := rfl
@[simp] theorem State.bumpPar_trkc (s : State) (k : Nat) : (s.bumpPar k).trkc = s.trkc := rfl
@[simp] theorem State.bumpPar_svcc (s : State) (k : Nat) : (s.bumpPar k).svcc = s.svcc := rfl
@[simp] theorem State.bumpPar_mirc (s : State) (k : Nat) : (s.bumpPar k).mirc = s.mirc := rfl
@[simp] theorem State.bumpPar_trk (s : State) (k : Nat) : (s.bumpPar k).trk = s.trk := rfl
@[simp] theorem State.bumpPar_svc (s : State) (k : Nat) : (s.bumpPar k).svc = s.svc := rfl
@[simp] theorem State.bumpPar_free (s : State) (k : Nat) : (s.bumpPar k).free = s.free := rfl
@[simp] theorem State.bumpPar_pending (s : State) (k : Nat) : (s.bumpPar k).pending = s.pending := rfl

/-! ### incPar -/

@[simp] theorem State.incPar_time (s : State) (k : Nat) : (s.incPar k).time = s.time := rfl
@[simp] theorem State.incPar_pace (s : State) (k : Nat) : (s.incPar k).pace = s.pace := rfl
@[simp] theorem State.incPar_samp (s : State) (k : Nat) : (s.incPar k).samp = s.samp := rfl
@[simp] theorem State.incPar_acq (s : State) (k : Nat) : (s.incPar k).acq = s.acq := rfl
@[simp] theorem State.incPar_integ (s : State) (k : Nat) : (s.incPar k).integ = s.integ := rfl
@[simp] theorem State.incPar_tp (s : State) (k : Nat) : (s.incPar k).tp = s.tp := rfl
@[simp] theorem State.incPar_wcs (s : State) (k : Nat) : (s.incPar k).wcs = s.wcs := rfl
@[simp] theorem State.incPar_evs (s : State) (k : Nat) : (s.incPar k).evs = s.evs := rfl
@[simp] theorem State.incPar_bus (s : State) (k : Nat) : (s.incPar k).bus = s.bus := rfl
@[simp] theorem State.incPar_slu (s : State) (k : Nat) : (s.incPar k).slu = s.slu := rfl
@[simp] theorem State.incPar_bank (s : State) (k : Nat) : (s.incPar k).bank = s.bank := rfl
@[simp] theorem State.incPar_cp (s : State) (k : Nat) : (s.incPar k).cp = s.cp := rfl
@[simp] theorem State.incPar_vreg (s : State) (k : Nat) : (s.incPar k).vreg = s.vreg := rfl
@[simp] theorem State.incPar_ant (s : State) (k : Nat) : (s.incPar k).ant = s.ant := rfl
@[simp] theorem State.incPar_pwr (s : State) (k : Nat) : (s.incPar k).pwr = s.pwr := rfl
@[simp] theorem State.incPar_rtc (s : State) (k : Nat) : (s.incPar k).rtc = s.rtc := rfl
@[simp] theorem State.incPar_gau (s : State) (k : Nat) : (s.incPar k).gau = s.gau := rfl
@[simp] theorem State.incPar_mir (s : State) (k : Nat) : (s.incPar k).mir = s.mir := rfl
@[simp] theorem State.incPar_dbg (s : State) (k : Nat) : (s.incPar k).dbg = s.dbg := rfl
@[simp] theorem State.incPar_pin (s : State) (k : Nat) : (s.incPar k).pin = s.pin := rfl
@[simp] theorem State.incPar_pans (s : State) (k : Nat) : (s.incPar k).pans = s.pans := rfl
@[simp] theorem State.incPar_ns (s : State) (k : Nat) : (s.incPar k).ns = s.ns := rfl
@[simp] theorem State.incPar_sec (s : State) (k : Nat) : (s.incPar k).sec = s.sec := rfl
@[simp] theorem State.incPar_dbgc (s : State) (k : Nat) : (s.incPar k).dbgc = s.dbgc := rfl
@[simp] theorem State.incPar_trkc (s : State) (k : Nat) : (s.incPar k).trkc = s.trkc := rfl
@[simp] theorem State.incPar_svcc (s : State) (k : Nat) : (s.incPar k).svcc = s.svcc := rfl
@[simp] theorem State.incPar_mirc (s : State) (k : Nat) : (s.incPar k).mirc = s.mirc := rfl
@[simp] theorem State.incPar_trk (s : State) (k : Nat) : (s.incPar k).trk = s.trk := rfl
@[simp] theorem State.incPar_svc (s : State) (k : Nat) : (s.incPar k).svc = s.svc := rfl
@[simp] theorem State.incPar_free (s : State) (k : Nat) : (s.incPar k).free = s.free := rfl
@[simp] theorem State.incPar_pending (s : State) (k : Nat) : (s.incPar k).pending = s.pending := rfl

/-! ### setParBit -/

@[simp] theorem State.setParBit_time (s : State) (k i : Nat) (b : Bool) : (s.setParBit k i b).time = s.time := by unfold State.setParBit; split <;> rfl
@[simp] theorem State.setParBit_pace (s : State) (k i : Nat) (b : Bool) : (s.setParBit k i b).pace = s.pace := by unfold State.setParBit; split <;> rfl
@[simp] theorem State.setParBit_samp (s : State) (k i : Nat) (b : Bool) : (s.setParBit k i b).samp = s.samp := by unfold State.setParBit; split <;> rfl
@[simp] theorem State.setParBit_acq (s : State) (k i : Nat) (b : Bool) : (s.setParBit k i b).acq = s.acq := by unfold State.setParBit; split <;> rfl
@[simp] theorem State.setParBit_integ (s : State) (k i : Nat) (b : Bool) : (s.setParBit k i b).integ = s.integ := by unfold State.setParBit; split <;> rfl
@[simp] theorem State.setParBit_tp (s : State) (k i : Nat) (b : Bool) : (s.setParBit k i b).tp = s.tp := by unfold State.setParBit; split <;> rfl
@[simp] theorem State.setParBit_wcs (s : State) (k i : Nat) (b : Bool) : (s.setParBit k i b).wcs = s.wcs := by unfold State.setParBit; split <;> rfl
@[simp] theorem State.setParBit_evs (s : State) (k i : Nat) (b : Bool) : (s.setParBit k i b).evs = s.evs := by unfold State.setParBit; split <;> rfl
@[simp] theorem State.setParBit_bus (s : State) (k i : Nat) (b : Bool) : (s.setParBit k i b).bus = s.bus := by unfold State.setParBit; split <;> rfl
@[simp] theorem State.setParBit_slu (s : State) (k i : Nat) (b : Bool) : (s.setParBit k i b).slu = s.slu := by unfold State.setParBit; split <;> rfl
@[simp] theorem State.setParBit_bank (s : State) (k i : Nat) (b : Bool) : (s.setParBit k i b).bank = s.bank := by unfold State.setParBit; split <;> rfl
@[simp] theorem State.setParBit_cp (s : State) (k i : Nat) (b : Bool) : (s.setParBit k i b).cp = s.cp := by unfold State.setParBit; split <;> rfl
@[simp] theorem State.setParBit_vreg (s : State) (k i : Nat) (b : Bool) : (s.setParBit k i b).vreg = s.vreg := by unfold State.setParBit; split <;> rfl
@[simp] theorem State.setParBit_ant (s : State) (k i : Nat) (b : Bool) : (s.setParBit k i b).ant = s.ant := by unfold State.setParBit; split <;> rfl
@[simp] theorem State.setParBit_pwr (s : State) (k i : Nat) (b : Bool) : (s.setParBit k i b).pwr = s.pwr := by unfold State.setParBit; split <;> rfl
@[simp] theorem State.setParBit_rtc (s : State) (k i : Nat) (b : Bool) : (s.setParBit k i b).rtc = s.rtc := by unfold State.setParBit; split <;> rfl
@[simp] theorem State.setParBit_gau (s : State) (k i : Nat) (b : Bool) : (s.setParBit k i b).gau = s.gau := by unfold State.setParBit; split <;> rfl
@[simp] theorem State.setParBit_mir (s : State) (k i : Nat) (b : Bool) : (s.setParBit k i b).mir = s.mir := by unfold State.setParBit; split <;> rfl
@[simp] theorem State.setParBit_dbg (s : State) (k i : Nat) (b : Bool) : (s.setParBit k i b).dbg = s.dbg := by unfold State.setParBit; split <;> rfl
@[simp] theorem State.setParBit_pin (s : State) (k i : Nat) (b : Bool) : (s.setParBit k i b).pin = s.pin := by unfold State.setParBit; split <;> rfl
@[simp] theorem State.setParBit_pans (s : State) (k i : Nat) (b : Bool) : (s.setParBit k i b).pans = s.pans := by unfold State.setParBit; split <;> rfl
@[simp] theorem State.setParBit_ns (s : State) (k i : Nat) (b : Bool) : (s.setParBit k i b).ns = s.ns := by unfold State.setParBit; split <;> rfl
@[simp] theorem State.setParBit_sec (s : State) (k i : Nat) (b : Bool) : (s.setParBit k i b).sec = s.sec := by unfold State.setParBit; split <;> rfl
@[simp] theorem State.setParBit_dbgc (s : State) (k i : Nat) (b : Bool) : (s.setParBit k i b).dbgc = s.dbgc := by unfold State.setParBit; split <;> rfl
@[simp] theorem State.setParBit_trkc (s : State) (k i : Nat) (b : Bool) : (s.setParBit k i b).trkc = s.trkc := by unfold State.setParBit; split <;> rfl
@[simp] theorem State.setParBit_svcc (s : State) (k i : Nat) (b : Bool) : (s.setParBit k i b).svcc = s.svcc := by unfold State.setParBit; split <;> rfl
@[simp] theorem State.setParBit_mirc (s : State) (k i : Nat) (b : Bool) : (s.setParBit k i b).mirc = s.mirc := by unfold State.setParBit; split <;> rfl
@[simp] theorem State.setParBit_trk (s : State) (k i : Nat) (b : Bool) : (s.setParBit k i b).trk = s.trk := by unfold State.setParBit; split <;> rfl
@[simp] theorem State.setParBit_svc (s : State) (k i : Nat) (b : Bool) : (s.setParBit k i b).svc = s.svc := by unfold State.setParBit; split <;> rfl
@[simp] theorem State.setParBit_free (s : State) (k i : Nat) (b : Bool) : (s.setParBit k i b).free = s.free := by unfold State.setParBit; split <;> rfl
@[simp] theorem State.setParBit_pending (s : State) (k i : Nat) (b : Bool) : (s.setParBit k i b).pending = s.pending := by unfold State.setParBit; split <;> rfl

/-! ### nextFree -/

@[simp] theorem State.nextFree_time (s : State) : (s.nextFree).time = s.time := rfl
@[simp] theorem State.nextFree_pace (s : State) : (s.nextFree).pace = s.pace := rfl
@[simp] theorem State.nextFree_samp (s : State) : (s.nextFree).samp = s.samp := rfl
@[simp] theorem State.nextFree_acq (s : State) : (s.nextFree).acq = s.acq := rfl
@[simp] theorem State.nextFree_integ (s : State) : (s.nextFree).integ = s.integ := rfl
@[simp] theorem State.nextFree_tp (s : State) : (s.nextFree).tp = s.tp := rfl
@[simp] theorem State.nextFree_wcs (s : State) : (s.nextFree).wcs = s.wcs := rfl
@[simp] theorem State.nextFree_evs (s : State) : (s.nextFree).evs = s.evs := rfl
@[simp] theorem State.nextFree_bus (s : State) : (s.nextFree).bus = s.bus := rfl
@[simp] theorem State.nextFree_slu (s : State) : (s.nextFree).slu = s.slu := rfl
@[simp] theorem State.nextFree_bank (s : State) : (s.nextFree).bank = s.bank := rfl
@[simp] theorem State.nextFree_cp (s : State) : (s.nextFree).cp = s.cp := rfl
@[simp] theorem State.nextFree_vreg (s : State) : (s.nextFree).vreg = s.vreg := rfl
@[simp] theorem State.nextFree_ant (s : State) : (s.nextFree).ant = s.ant := rfl
@[simp] theorem State.nextFree_pwr (s : State) : (s.nextFree).pwr = s.pwr := rfl
@[simp] theorem State.nextFree_rtc (s : State) : (s.nextFree).rtc = s.rtc := rfl
@[simp] theorem State.nextFree_gau (s : State) : (s.nextFree).gau = s.gau := rfl
@[simp] theorem State.nextFree_mir (s : State) : (s.nextFree).mir = s.mir := rfl
@[simp] theorem State.nextFree_dbg (s : State) : (s.nextFree).dbg = s.dbg := rfl
@[simp] theorem State.nextFree_pin (s : State) : (s.nextFree).pin = s.pin := rfl
@[simp] theorem State.nextFree_pans (s : State) : (s.nextFree).pans = s.pans := rfl
@[simp] theorem State.nextFree_ns (s : State) : (s.nextFree).ns = s.ns := rfl
@[simp] theorem State.nextFree_sec (s : State) : (s.nextFree).sec = s.sec := rfl
@[simp] theorem State.nextFree_dbgc (s : State) : (s.nextFree).dbgc = s.dbgc := rfl
@[simp] theorem State.nextFree_trkc (s : State) : (s.nextFree).trkc = s.trkc := rfl
@[simp] theorem State.nextFree_svcc (s : State) : (s.nextFree).svcc = s.svcc := rfl
@[simp] theorem State.nextFree_mirc (s : State) : (s.nextFree).mirc = s.mirc := rfl
@[simp] theorem State.nextFree_trk (s : State) : (s.nextFree).trk = s.trk := rfl
@[simp] theorem State.nextFree_svc (s : State) : (s.nextFree).svc = s.svc := rfl
@[simp] theorem State.nextFree_params (s : State) : (s.nextFree).params = s.params := rfl
@[simp] theorem State.nextFree_pending (s : State) : (s.nextFree).pending = s.pending := rfl

/-! ### putWord, putWords -/

@[simp] theorem putWord_time (s : State) (b w : Nat) (v : Word) : (putWord s b w v).time = s.time := rfl
@[simp] theorem putWord_pace (s : State) (b w : Nat) (v : Word) : (putWord s b w v).pace = s.pace := rfl
@[simp] theorem putWord_samp (s : State) (b w : Nat) (v : Word) : (putWord s b w v).samp = s.samp := rfl
@[simp] theorem putWord_acq (s : State) (b w : Nat) (v : Word) : (putWord s b w v).acq = s.acq := rfl
@[simp] theorem putWord_integ (s : State) (b w : Nat) (v : Word) : (putWord s b w v).integ = s.integ := rfl
@[simp] theorem putWord_tp (s : State) (b w : Nat) (v : Word) : (putWord s b w v).tp = s.tp := rfl
@[simp] theorem putWord_wcs (s : State) (b w : Nat) (v : Word) : (putWord s b w v).wcs = s.wcs := rfl
@[simp] theorem putWord_evs (s : State) (b w : Nat) (v : Word) : (putWord s b w v).evs = s.evs := rfl
@[simp] theorem putWord_bus (s : State) (b w : Nat) (v : Word) : (putWord s b w v).bus = s.bus := rfl
@[simp] theorem putWord_slu (s : State) (b w : Nat) (v : Word) : (putWord s b w v).slu = s.slu := rfl
@[simp] theorem putWord_cp (s : State) (b w : Nat) (v : Word) : (putWord s b w v).cp = s.cp := rfl
@[simp] theorem putWord_vreg (s : State) (b w : Nat) (v : Word) : (putWord s b w v).vreg = s.vreg := rfl
@[simp] theorem putWord_ant (s : State) (b w : Nat) (v : Word) : (putWord s b w v).ant = s.ant := rfl
@[simp] theorem putWord_pwr (s : State) (b w : Nat) (v : Word) : (putWord s b w v).pwr = s.pwr := rfl
@[simp] theorem putWord_rtc (s : State) (b w : Nat) (v : Word) : (putWord s b w v).rtc = s.rtc := rfl
@[simp] theorem putWord_gau (s : State) (b w : Nat) (v : Word) : (putWord s b w v).gau = s.gau := rfl
@[simp] theorem putWord_mir (s : State) (b w : Nat) (v : Word) : (putWord s b w v).mir = s.mir := rfl
@[simp] theorem putWord_dbg (s : State) (b w : Nat) (v : Word) : (putWord s b w v).dbg = s.dbg := rfl
@[simp] theorem putWord_pin (s : State) (b w : Nat) (v : Word) : (putWord s b w v).pin = s.pin := rfl
@[simp] theorem putWord_pans (s : State) (b w : Nat) (v : Word) : (putWord s b w v).pans = s.pans := rfl
@[simp] theorem putWord_ns (s : State) (b w : Nat) (v : Word) : (putWord s b w v).ns = s.ns := rfl
@[simp] theorem putWord_sec (s : State) (b w : Nat) (v : Word) : (putWord s b w v).sec = s.sec := rfl
@[simp] theorem putWord_dbgc (s : State) (b w : Nat) (v : Word) : (putWord s b w v).dbgc = s.dbgc := rfl
@[simp] theorem putWord_trkc (s : State) (b w : Nat) (v : Word) : (putWord s b w v).trkc = s.trkc := rfl
@[simp] theorem putWord_svcc (s : State) (b w : Nat) (v : Word) : (putWord s b w v).svcc = s.svcc := rfl
@[simp] theorem putWord_mirc (s : State) (b w : Nat) (v : Word) : (putWord s b w v).mirc = s.mirc := rfl
@[simp] theorem putWord_trk (s : State) (b w : Nat) (v : Word) : (putWord s b w v).trk = s.trk := rfl
@[simp] theorem putWord_svc (s : State) (b w : Nat) (v : Word) : (putWord s b w v).svc = s.svc := rfl
@[simp] theorem putWord_params (s : State) (b w : Nat) (v : Word) : (putWord s b w v).params = s.params := rfl
@[simp] theorem putWord_free (s : State) (b w : Nat) (v : Word) : (putWord s b w v).free = s.free := rfl
@[simp] theorem putWord_pending (s : State) (b w : Nat) (v : Word) : (putWord s b w v).pending = s.pending := rfl

@[simp] theorem putWords_time (s : State) (b w : Nat) (vs : List Word) : (putWords s b w vs).time = s.time := by
  induction vs generalizing s w with
  | nil => rfl
  | cons v vs ih => simp [putWords, ih]
@[simp] theorem putWords_pace (s : State) (b w : Nat) (vs : List Word) : (putWords s b w vs).pace = s.pace := by
  induction vs generalizing s w with
  | nil => rfl
  | cons v vs ih => simp [putWords, ih]
@[simp] theorem putWords_samp (s : State) (b w : Nat) (vs : List Word) : (putWords s b w vs).samp = s.samp := by
  induction vs generalizing s w with
  | nil => rfl
  | cons v vs ih => simp [putWords, ih]
@[simp] theorem putWords_acq (s : State) (b w : Nat) (vs : List Word) : (putWords s b w vs).acq = s.acq := by
  induction vs generalizing s w with
  | nil => rfl
  | cons v vs ih => simp [putWords, ih]
@[simp] theorem putWords_integ (s : State) (b w : Nat) (vs : List Word) : (putWords s b w vs).integ = s.integ := by
  induction vs generalizing s w with
  | nil => rfl
  | cons v vs ih => simp [putWords, ih]
@[simp] theorem putWords_tp (s : State) (b w : Nat) (vs : List Word) : (putWords s b w vs).tp = s.tp := by
  induction vs generalizing s w with
  | nil => rfl
  | cons v vs ih => simp [putWords, ih]
@[simp] theorem putWords_wcs (s : State) (b w : Nat) (vs : List Word) : (putWords s b w vs).wcs = s.wcs := by
  induction vs generalizing s w with
  | nil => rfl
  | cons v vs ih => simp [putWords, ih]
@[simp] theorem putWords_evs (s : State) (b w : Nat) (vs : List Word) : (putWords s b w vs).evs = s.evs := by
  induction vs generalizing s w with
  | nil => rfl
  | cons v vs ih => simp [putWords, ih]
@[simp] theorem putWords_bus (s : State) (b w : Nat) (vs : List Word) : (putWords s b w vs).bus = s.bus := by
  induction vs generalizing s w with
  | nil => rfl
  | cons v vs ih => simp [putWords, ih]
@[simp] theorem putWords_slu (s : State) (b w : Nat) (vs : List Word) : (putWords s b w vs).slu = s.slu := by
  induction vs generalizing s w with
  | nil => rfl
  | cons v vs ih => simp [putWords, ih]
@[simp] theorem putWords_cp (s : State) (b w : Nat) (vs : List Word) : (putWords s b w vs).cp = s.cp := by
  induction vs generalizing s w with
  | nil => rfl
  | cons v vs ih => simp [putWords, ih]
@[simp] theorem putWords_vreg (s : State) (b w : Nat) (vs : List Word) : (putWords s b w vs).vreg = s.vreg := by
  induction vs generalizing s w with
  | nil => rfl
  | cons v vs ih => simp [putWords, ih]
@[simp] theorem putWords_ant (s : State) (b w : Nat) (vs : List Word) : (putWords s b w vs).ant = s.ant := by
  induction vs generalizing s w with
  | nil => rfl
  | cons v vs ih => simp [putWords, ih]
@[simp] theorem putWords_pwr (s : State) (b w : Nat) (vs : List Word) : (putWords s b w vs).pwr = s.pwr := by
  induction vs generalizing s w with
  | nil => rfl
  | cons v vs ih => simp [putWords, ih]
@[simp] theorem putWords_rtc (s : State) (b w : Nat) (vs : List Word) : (putWords s b w vs).rtc = s.rtc := by
  induction vs generalizing s w with
  | nil => rfl
  | cons v vs ih => simp [putWords, ih]
@[simp] theorem putWords_gau (s : State) (b w : Nat) (vs : List Word) : (putWords s b w vs).gau = s.gau := by
  induction vs generalizing s w with
  | nil => rfl
  | cons v vs ih => simp [putWords, ih]
@[simp] theorem putWords_mir (s : State) (b w : Nat) (vs : List Word) : (putWords s b w vs).mir = s.mir := by
  induction vs generalizing s w with
  | nil => rfl
  | cons v vs ih => simp [putWords, ih]
@[simp] theorem putWords_dbg (s : State) (b w : Nat) (vs : List Word) : (putWords s b w vs).dbg = s.dbg := by
  induction vs generalizing s w with
  | nil => rfl
  | cons v vs ih => simp [putWords, ih]
@[simp] theorem putWords_pin (s : State) (b w : Nat) (vs : List Word) : (putWords s b w vs).pin = s.pin := by
  induction vs generalizing s w with
  | nil => rfl
  | cons v vs ih => simp [putWords, ih]
@[simp] theorem putWords_pans (s : State) (b w : Nat) (vs : List Word) : (putWords s b w vs).pans = s.pans := by
  induction vs generalizing s w with
  | nil => rfl
  | cons v vs ih => simp [putWords, ih]
@[simp] theorem putWords_ns (s : State) (b w : Nat) (vs : List Word) : (putWords s b w vs).ns = s.ns := by
  induction vs generalizing s w with
  | nil => rfl
  | cons v vs ih => simp [putWords, ih]
@[simp] theorem putWords_sec (s : State) (b w : Nat) (vs : List Word) : (putWords s b w vs).sec = s.sec := by
  induction vs generalizing s w with
  | nil => rfl
  | cons v vs ih => simp [putWords, ih]
@[simp] theorem putWords_dbgc (s : State) (b w : Nat) (vs : List Word) : (putWords s b w vs).dbgc = s.dbgc := by
  induction vs generalizing s w with
  | nil => rfl
  | cons v vs ih => simp [putWords, ih]
@[simp] theorem putWords_trkc (s : State) (b w : Nat) (vs : List Word) : (putWords s b w vs).trkc = s.trkc := by
  induction vs generalizing s w with
  | nil => rfl
  | cons v vs ih => simp [putWords, ih]
@[simp] theorem putWords_svcc (s : State) (b w : Nat) (vs : List Word) : (putWords s b w vs).svcc = s.svcc := by
  induction vs generalizing s w with
  | nil => rfl
  | cons v vs ih => simp [putWords, ih]
@[simp] theorem putWords_mirc (s : State) (b w : Nat) (vs : List Word) : (putWords s b w vs).mirc = s.mirc := by
  induction vs generalizing s w with
  | nil => rfl
  | cons v vs ih => simp [putWords, ih]
@[simp] theorem putWords_trk (s : State) (b w : Nat) (vs : List Word) : (putWords s b w vs).trk = s.trk := by
  induction vs generalizing s w with
  | nil => rfl
  | cons v vs ih => simp [putWords, ih]
@[simp] theorem putWords_svc (s : State) (b w : Nat) (vs : List Word) : (putWords s b w vs).svc = s.svc := by
  induction vs generalizing s w with
  | nil => rfl
  | cons v vs ih => simp [putWords, ih]
@[simp] theorem putWords_params (s : State) (b w : Nat) (vs : List Word) : (putWords s b w vs).params = s.params := by
  induction vs generalizing s w with
  | nil => rfl
  | cons v vs ih => simp [putWords, ih]
@[simp] theorem putWords_free (s : State) (b w : Nat) (vs : List Word) : (putWords s b w vs).free = s.free := by
  induction vs generalizing s w with
  | nil => rfl
  | cons v vs ih => simp [putWords, ih]
@[simp] theorem putWords_pending (s : State) (b w : Nat) (vs : List Word) : (putWords s b w vs).pending = s.pending := by
  induction vs generalizing s w with
  | nil => rfl
  | cons v vs ih => simp [putWords, ih]

/-! ### Reading back -/

@[simp] theorem State.core_setCore_self (s : State) (k : CoreId) (c : Core) : (s.setCore k c).core k = c := by
  cases k <;> rfl
@[simp] theorem State.core_setCore_peer (s : State) (k : CoreId) (c : Core) :
    (s.setCore k c).core (peer k) = s.core (peer k) := by cases k <;> rfl
theorem State.core_setCore (s : State) (j k : CoreId) (c : Core) :
    (s.setCore k c).core j = if j = k then c else s.core j := by cases j <;> cases k <;> rfl
@[simp] theorem State.core_modCore_self (s : State) (k : CoreId) (f : Core → Core) :
    (s.modCore k f).core k = f (s.core k) := by cases k <;> rfl
@[simp] theorem State.core_modCore_peer (s : State) (k : CoreId) (f : Core → Core) :
    (s.modCore k f).core (peer k) = s.core (peer k) := by cases k <;> rfl
theorem State.core_modCore (s : State) (j k : CoreId) (f : Core → Core) :
    (s.modCore k f).core j = if j = k then f (s.core k) else s.core j := by cases j <;> cases k <;> rfl
@[simp] theorem State.core_modCores (s : State) (k : CoreId) (f : Core → Core) :
    (s.modCores f).core k = f (s.core k) := by cases k <;> rfl
@[simp] theorem State.cls_setCls_self (s : State) (c : Cls) (b : ClsBank) : (s.setCls c b).cls c = b := by
  cases c <;> rfl
theorem State.cls_setCls (s : State) (c d : Cls) (b : ClsBank) :
    (s.setCls c b).cls d = if d = c then b else s.cls d := by cases c <;> cases d <;> rfl
@[simp] theorem State.cls_modCls_self (s : State) (c : Cls) (f : ClsBank → ClsBank) :
    (s.modCls c f).cls c = f (s.cls c) := by cases c <;> rfl
theorem State.cls_modCls (s : State) (c d : Cls) (f : ClsBank → ClsBank) :
    (s.modCls c f).cls d = if d = c then f (s.cls c) else s.cls d := by cases c <;> cases d <;> rfl
@[simp] theorem State.cls_setCore (s : State) (k : CoreId) (c : Core) (d : Cls) : (s.setCore k c).cls d = s.cls d := by
  cases k <;> cases d <;> rfl
@[simp] theorem State.cls_modCore (s : State) (k : CoreId) (f : Core → Core) (d : Cls) :
    (s.modCore k f).cls d = s.cls d := by cases k <;> cases d <;> rfl
@[simp] theorem State.core_setCls (s : State) (c : Cls) (b : ClsBank) (k : CoreId) : (s.setCls c b).core k = s.core k := by
  cases k <;> cases c <;> rfl
@[simp] theorem State.core_modCls (s : State) (c : Cls) (f : ClsBank → ClsBank) (k : CoreId) :
    (s.modCls c f).core k = s.core k := by cases k <;> cases c <;> rfl
@[simp] theorem State.core_setPar (s : State) (i : Nat) (v : Int) (k : CoreId) : (s.setPar i v).core k = s.core k := by
  cases k <;> rfl
@[simp] theorem State.cls_setPar (s : State) (i : Nat) (v : Int) (c : Cls) : (s.setPar i v).cls c = s.cls c := by
  cases c <;> rfl
@[simp] theorem putWord_core (s : State) (b w : Nat) (v : Word) (k : CoreId) : (putWord s b w v).core k = s.core k := by
  cases k <;> rfl
@[simp] theorem putWord_cls (s : State) (b w : Nat) (v : Word) (c : Cls) : (putWord s b w v).cls c = s.cls c := by
  cases c <;> rfl

/-! ### Parameters are read through `params` alone -/

theorem State.par_congr {s t : State} (h : t.params = s.params) (k : Nat) : t.par k = s.par k := by
  unfold State.par; rw [h]

end Sys2Proof.Machine
end

