-- ==== Sys2Proof/Laws/FrameState.lean ====
section
/-! SUPPORT. Two frames of every operation: the RTC and the command queue. Here: the time, power, search, solution and parameter operations. -/

set_option linter.unusedSimpArgs false

namespace Sys2Proof.Machine

/-! ### Clock -/

@[simp] theorem carryDtc_rtc (s : State) a1 : (carryDtc s a1).rtc = s.rtc := by
  simp only [carryDtc, apply_ite State.rtc, ite_self]

@[simp] theorem carryDtc_pending (s : State) a1 : (carryDtc s a1).pending = s.pending := by
  simp only [carryDtc, apply_ite State.pending, ite_self]

@[simp] theorem carryGnss_rtc (s : State) a1 : (carryGnss s a1).rtc = s.rtc := by
  simp [carryGnss, apply_ite State.rtc]

@[simp] theorem carryGnss_pending (s : State) a1 : (carryGnss s a1).pending = s.pending := by
  simp [carryGnss, apply_ite State.pending]

@[simp] theorem carryTick_rtc (s : State) a1 : (carryTick s a1).rtc = s.rtc := by
  simp only [carryTick]; (repeat' split) <;> simp [apply_ite State.rtc]

@[simp] theorem carryTick_pending (s : State) a1 : (carryTick s a1).pending = s.pending := by
  simp only [carryTick]; (repeat' split) <;> simp [apply_ite State.pending]

/-! ### Post -/

@[simp] theorem irqCore_rtc (s : State) : (irqCore s).rtc = s.rtc := by
  simp only [irqCore, apply_ite State.rtc, ite_self]

@[simp] theorem irqCore_pending (s : State) : (irqCore s).pending = s.pending := by
  simp only [irqCore, apply_ite State.pending, ite_self]

@[simp] theorem irqWake_rtc (s : State) : (irqWake s).rtc = s.rtc := by
  simp only [irqWake, apply_ite State.rtc, ite_self]

@[simp] theorem irqWake_pending (s : State) : (irqWake s).pending = s.pending := by
  simp only [irqWake, apply_ite State.pending, ite_self]

@[simp] theorem pushNtc_rtc (s : State) a1 : (pushNtc s a1).rtc = s.rtc := by
  simp only [pushNtc, apply_ite State.rtc, ite_self]

@[simp] theorem pushNtc_pending (s : State) a1 : (pushNtc s a1).pending = s.pending := by
  simp only [pushNtc, apply_ite State.pending, ite_self]

/-- A fold keeps what each of its steps keeps. -/
theorem foldl_rtc {α : Type} (f : State → α → State) (h : ∀ s x, (f s x).rtc = s.rtc) (l : List α) :
    ∀ s : State, (l.foldl f s).rtc = s.rtc := by
  induction l with
  | nil => intro s; rfl
  | cons x xs ih => intro s; rw [List.foldl_cons, ih, h]

/-- A fold keeps what each of its steps keeps. -/
theorem foldl_pending {α : Type} (f : State → α → State) (h : ∀ s x, (f s x).pending = s.pending) (l : List α) :
    ∀ s : State, (l.foldl f s).pending = s.pending := by
  induction l with
  | nil => intro s; rfl
  | cons x xs ih => intro s; rw [List.foldl_cons, ih, h]

@[simp] theorem coalBump_rtc (s : State) a1 : (coalBump s a1).rtc = s.rtc := by
  simp only [coalBump, apply_ite State.rtc, ite_self]

@[simp] theorem coalBump_pending (s : State) a1 : (coalBump s a1).pending = s.pending := by
  simp only [coalBump, apply_ite State.pending, ite_self]

@[simp] theorem coalesce_rtc (s : State) a1 : (coalesce s a1).rtc = s.rtc := by
  simp [coalesce, apply_ite State.rtc]

@[simp] theorem coalesce_pending (s : State) a1 : (coalesce s a1).pending = s.pending := by
  simp [coalesce, apply_ite State.pending]

@[simp] theorem postImm_rtc (s : State) a1 a2 : (postImm s a1 a2).rtc = s.rtc := by
  simp [postImm, apply_ite State.rtc]

@[simp] theorem postImm_pending (s : State) a1 a2 : (postImm s a1 a2).pending = s.pending := by
  simp [postImm, apply_ite State.pending]

@[simp] theorem postMsg_rtc (s : State) (t : Nat) (b : List Word) : (postMsg s t b).rtc = s.rtc := by
  rw [postMsg, apply_ite State.rtc, apply_ite State.rtc, coalesce_rtc, pushNtc_rtc, putWords_rtc, ite_self, ite_self]

@[simp] theorem postMsg_pending (s : State) (t : Nat) (b : List Word) : (postMsg s t b).pending = s.pending := by
  rw [postMsg, apply_ite State.pending, apply_ite State.pending, coalesce_pending, pushNtc_pending, putWords_pending, ite_self, ite_self]

@[simp] theorem postCoalesced_rtc (n : Nat) : ∀ s : State, (postCoalesced n s).rtc = s.rtc := by
  induction n with
  | zero => intro s; simp [postCoalesced]
  | succ n ih => intro s; rw [postCoalesced, apply_ite State.rtc]; cases nextCoal s <;> simp [ih]

@[simp] theorem postCoalesced_pending (n : Nat) : ∀ s : State, (postCoalesced n s).pending = s.pending := by
  induction n with
  | zero => intro s; simp [postCoalesced]
  | succ n ih => intro s; rw [postCoalesced, apply_ite State.pending]; cases nextCoal s <;> simp [ih]

@[simp] theorem popNtc_rtc (s : State) : (popNtc s).rtc = s.rtc := by
  simp [popNtc, apply_ite State.rtc]

@[simp] theorem popNtc_pending (s : State) : (popNtc s).pending = s.pending := by
  simp [popNtc, apply_ite State.pending]

@[simp] theorem noteTimeq_rtc (s : State) a1 a2 : (noteTimeq s a1 a2).rtc = s.rtc := by
  simp [noteTimeq, apply_ite State.rtc]

@[simp] theorem noteTimeq_pending (s : State) a1 a2 : (noteTimeq s a1 a2).pending = s.pending := by
  simp [noteTimeq, apply_ite State.pending]

@[simp] theorem noteTstep_rtc (s : State) a1 : (noteTstep s a1).rtc = s.rtc := by
  simp [noteTstep, apply_ite State.rtc]

@[simp] theorem noteTstep_pending (s : State) a1 : (noteTstep s a1).pending = s.pending := by
  simp [noteTstep, apply_ite State.pending]

@[simp] theorem notePace_rtc (s : State) a1 : (notePace s a1).rtc = s.rtc := by
  simp [notePace, apply_ite State.rtc]

@[simp] theorem notePace_pending (s : State) a1 : (notePace s a1).pending = s.pending := by
  simp [notePace, apply_ite State.pending]

@[simp] theorem noteIntf_rtc (s : State) a1 a2 a3 : (noteIntf s a1 a2 a3).rtc = s.rtc := by
  simp [noteIntf, apply_ite State.rtc]

@[simp] theorem noteIntf_pending (s : State) a1 a2 a3 : (noteIntf s a1 a2 a3).pending = s.pending := by
  simp [noteIntf, apply_ite State.pending]

@[simp] theorem noteAcqHit_rtc (s : State) a1 a2 : (noteAcqHit s a1 a2).rtc = s.rtc := by
  simp [noteAcqHit, apply_ite State.rtc]

@[simp] theorem noteAcqHit_pending (s : State) a1 a2 : (noteAcqHit s a1 a2).pending = s.pending := by
  simp [noteAcqHit, apply_ite State.pending]

@[simp] theorem noteAcqEnd_rtc (s : State) a1 : (noteAcqEnd s a1).rtc = s.rtc := by
  simp [noteAcqEnd, apply_ite State.rtc]

@[simp] theorem noteAcqEnd_pending (s : State) a1 : (noteAcqEnd s a1).pending = s.pending := by
  simp [noteAcqEnd, apply_ite State.pending]

@[simp] theorem noteWcs_rtc (s : State) : (noteWcs s).rtc = s.rtc := by
  simp [noteWcs, apply_ite State.rtc]

@[simp] theorem noteWcs_pending (s : State) : (noteWcs s).pending = s.pending := by
  simp [noteWcs, apply_ite State.pending]

@[simp] theorem noteInteg_rtc (s : State) a1 a2 : (noteInteg s a1 a2).rtc = s.rtc := by
  simp [noteInteg, apply_ite State.rtc]

@[simp] theorem noteInteg_pending (s : State) a1 a2 : (noteInteg s a1 a2).pending = s.pending := by
  simp [noteInteg, apply_ite State.pending]

@[simp] theorem notePoison_rtc (s : State) a1 a2 : (notePoison s a1 a2).rtc = s.rtc := by
  simp [notePoison, apply_ite State.rtc]

@[simp] theorem notePoison_pending (s : State) a1 a2 : (notePoison s a1 a2).pending = s.pending := by
  simp [notePoison, apply_ite State.pending]

@[simp] theorem noteCancelled_rtc (s : State) a1 : (noteCancelled s a1).rtc = s.rtc := by
  simp [noteCancelled, apply_ite State.rtc]

@[simp] theorem noteCancelled_pending (s : State) a1 : (noteCancelled s a1).pending = s.pending := by
  simp [noteCancelled, apply_ite State.pending]

@[simp] theorem postEvt_rtc (s : State) a1 : (postEvt s a1).rtc = s.rtc := by
  simp [postEvt, apply_ite State.rtc]

@[simp] theorem postEvt_pending (s : State) a1 : (postEvt s a1).pending = s.pending := by
  simp [postEvt, apply_ite State.pending]

@[simp] theorem putMsr_rtc (s : State) a1 : (putMsr s a1).rtc = s.rtc := by
  simp [putMsr, apply_ite State.rtc]

@[simp] theorem putMsr_pending (s : State) a1 : (putMsr s a1).pending = s.pending := by
  simp [putMsr, apply_ite State.pending]

@[simp] theorem msrHeldBump_rtc (s : State) : (msrHeldBump s).rtc = s.rtc := by
  simp only [msrHeldBump, apply_ite State.rtc, ite_self]

@[simp] theorem msrHeldBump_pending (s : State) : (msrHeldBump s).pending = s.pending := by
  simp only [msrHeldBump, apply_ite State.pending, ite_self]

@[simp] theorem postMsr_rtc (s : State) a1 : (postMsr s a1).rtc = s.rtc := by
  simp [postMsr, apply_ite State.rtc]

@[simp] theorem postMsr_pending (s : State) a1 : (postMsr s a1).pending = s.pending := by
  simp [postMsr, apply_ite State.pending]

/-! ### Pulse -/

@[simp] theorem updateQerr_rtc (s : State) : (updateQerr s).rtc = s.rtc := by
  simp only [updateQerr, apply_ite State.rtc, ite_self]

@[simp] theorem updateQerr_pending (s : State) : (updateQerr s).pending = s.pending := by
  simp only [updateQerr, apply_ite State.pending, ite_self]

@[simp] theorem emitPulse_rtc (s : State) a1 a2 a3 : (emitPulse s a1 a2 a3).rtc = s.rtc := by
  simp [emitPulse, apply_ite State.rtc]

@[simp] theorem emitPulse_pending (s : State) a1 a2 a3 : (emitPulse s a1 a2 a3).pending = s.pending := by
  simp [emitPulse, apply_ite State.pending]

@[simp] theorem pulseDue_rtc (s : State) a1 a2 a3 : (pulseDue s a1 a2 a3).rtc = s.rtc := by
  simp only [pulseDue]; (repeat' split) <;> simp [apply_ite State.rtc]

@[simp] theorem pulseDue_pending (s : State) a1 a2 a3 : (pulseDue s a1 a2 a3).pending = s.pending := by
  simp only [pulseDue]; (repeat' split) <;> simp [apply_ite State.pending]

@[simp] theorem stepTpout_rtc (s : State) a1 a2 : (stepTpout s a1 a2).rtc = s.rtc := by
  simp [stepTpout, apply_ite State.rtc]

@[simp] theorem stepTpout_pending (s : State) a1 a2 : (stepTpout s a1 a2).pending = s.pending := by
  simp [stepTpout, apply_ite State.pending]

@[simp] theorem wcsRestart_rtc (s : State) : (wcsRestart s).rtc = s.rtc := by
  simp [wcsRestart, apply_ite State.rtc]

@[simp] theorem wcsRestart_pending (s : State) : (wcsRestart s).pending = s.pending := by
  simp [wcsRestart, apply_ite State.pending]

@[simp] theorem wcsStart_rtc (s : State) : (wcsStart s).rtc = s.rtc := by
  simp [wcsStart, apply_ite State.rtc]

@[simp] theorem wcsStart_pending (s : State) : (wcsStart s).pending = s.pending := by
  simp [wcsStart, apply_ite State.pending]

@[simp] theorem wcsEnable_rtc (s : State) a1 a2 : (wcsEnable s a1 a2).rtc = s.rtc := by
  simp [wcsEnable, apply_ite State.rtc]

@[simp] theorem wcsEnable_pending (s : State) a1 a2 : (wcsEnable s a1 a2).pending = s.pending := by
  simp [wcsEnable, apply_ite State.pending]

@[simp] theorem wcsDisable_rtc (s : State) : (wcsDisable s).rtc = s.rtc := by
  simp only [wcsDisable, apply_ite State.rtc, ite_self]

@[simp] theorem wcsDisable_pending (s : State) : (wcsDisable s).pending = s.pending := by
  simp only [wcsDisable, apply_ite State.pending, ite_self]

@[simp] theorem realignRequest_rtc (s : State) a1 : (realignRequest s a1).rtc = s.rtc := by
  simp only [realignRequest]; (repeat' split) <;> simp [apply_ite State.rtc]

@[simp] theorem realignRequest_pending (s : State) a1 : (realignRequest s a1).pending = s.pending := by
  simp only [realignRequest]; (repeat' split) <;> simp [apply_ite State.pending]

@[simp] theorem autoJump_rtc (s : State) : (autoJump s).rtc = s.rtc := by
  simp [autoJump, apply_ite State.rtc]

@[simp] theorem autoJump_pending (s : State) : (autoJump s).pending = s.pending := by
  simp [autoJump, apply_ite State.pending]

@[simp] theorem wcsFollowTq_rtc (s : State) : (wcsFollowTq s).rtc = s.rtc := by
  simp only [wcsFollowTq, apply_ite State.rtc, ite_self]

@[simp] theorem wcsFollowTq_pending (s : State) : (wcsFollowTq s).pending = s.pending := by
  simp only [wcsFollowTq, apply_ite State.pending, ite_self]

@[simp] theorem stopWcs_rtc (s : State) : (stopWcs s).rtc = s.rtc := by
  simp only [stopWcs]; (repeat' split) <;> simp [apply_ite State.rtc]

@[simp] theorem stopWcs_pending (s : State) : (stopWcs s).pending = s.pending := by
  simp only [stopWcs]; (repeat' split) <;> simp [apply_ite State.pending]

@[simp] theorem slewDelta_rtc (s : State) : (slewDelta s).rtc = s.rtc := by
  simp [slewDelta, apply_ite State.rtc]

@[simp] theorem slewDelta_pending (s : State) : (slewDelta s).pending = s.pending := by
  simp [slewDelta, apply_ite State.pending]

/-! ### Chan -/

@[simp] theorem setTag_rtc (s : State) a1 a2 a3 : (setTag s a1 a2 a3).rtc = s.rtc := by
  simp [setTag, apply_ite State.rtc]

@[simp] theorem setTag_pending (s : State) a1 a2 a3 : (setTag s a1 a2 a3).pending = s.pending := by
  simp [setTag, apply_ite State.pending]

@[simp] theorem completeTag_rtc (s : State) a1 a2 a3 a4 a5 : (completeTag s a1 a2 a3 a4 a5).rtc = s.rtc := by
  simp [completeTag, apply_ite State.rtc]

@[simp] theorem completeTag_pending (s : State) a1 a2 a3 a4 a5 : (completeTag s a1 a2 a3 a4 a5).pending = s.pending := by
  simp [completeTag, apply_ite State.pending]

@[simp] theorem ringChan_rtc (s : State) a1 a2 : (ringChan s a1 a2).1.rtc = s.rtc := by
  simp only [ringChan]; (repeat' split) <;> simp [apply_ite State.rtc]

@[simp] theorem ringChan_pending (s : State) a1 a2 : (ringChan s a1 a2).1.pending = s.pending := by
  simp only [ringChan]; (repeat' split) <;> simp [apply_ite State.pending]

@[simp] theorem pushCmd_rtc (s : State) a1 : (pushCmd s a1).1.rtc = s.rtc := by
  simp only [pushCmd]; (repeat' split) <;> simp [apply_ite State.rtc]

@[simp] theorem pushCmd_pending (s : State) a1 : (pushCmd s a1).1.pending = s.pending := by
  simp only [pushCmd]; (repeat' split) <;> simp [apply_ite State.pending]

@[simp] theorem emptyChan_rtc (s : State) a1 : (emptyChan s a1).rtc = s.rtc := by
  simp only [emptyChan, apply_ite State.rtc, ite_self]

@[simp] theorem emptyChan_pending (s : State) a1 : (emptyChan s a1).pending = s.pending := by
  simp only [emptyChan, apply_ite State.pending, ite_self]

@[simp] theorem emptyEvent_rtc (s : State) a1 a2 : (emptyEvent s a1 a2).rtc = s.rtc := by
  simp only [emptyEvent]; (repeat' split) <;> simp [apply_ite State.rtc]

@[simp] theorem emptyEvent_pending (s : State) a1 a2 : (emptyEvent s a1 a2).pending = s.pending := by
  simp only [emptyEvent]; (repeat' split) <;> simp [apply_ite State.pending]

@[simp] theorem endService_rtc (s : State) : (endService s).rtc = s.rtc := by
  simp only [endService, apply_ite State.rtc, ite_self]

@[simp] theorem endService_pending (s : State) : (endService s).pending = s.pending := by
  simp only [endService, apply_ite State.pending, ite_self]

theorem cp3Answer_rtc {s t : State} {n : Notice} (h : cp3Answer s n = some t) : t.rtc = s.rtc := by
  revert h; unfold cp3Answer; dsimp only; (repeat' split) <;> intro h <;> first | (simp at h; done) | (cases h; simp)

theorem cp3Answer_pending {s t : State} {n : Notice} (h : cp3Answer s n = some t) : t.pending = s.pending := by
  revert h; unfold cp3Answer; dsimp only; (repeat' split) <;> intro h <;> first | (simp at h; done) | (cases h; simp)

@[simp] theorem setRes_rtc (s : State) a1 a2 : (setRes s a1 a2).rtc = s.rtc := by
  simp [setRes, apply_ite State.rtc]

@[simp] theorem setRes_pending (s : State) a1 a2 : (setRes s a1 a2).pending = s.pending := by
  simp [setRes, apply_ite State.pending]

@[simp] theorem doRing_rtc (s : State) (c : Cls) : (doRing s c).1.rtc = s.rtc := by
  unfold doRing; dsimp only
  (repeat' split) <;> first | (simp; done) | (rename_i h; simp [cp3Answer_rtc h])

@[simp] theorem doRing_pending (s : State) (c : Cls) : (doRing s c).1.pending = s.pending := by
  unfold doRing; dsimp only
  (repeat' split) <;> first | (simp; done) | (rename_i h; simp [cp3Answer_pending h])

@[simp] theorem loadNotice_rtc (s : State) a1 a2 : (loadNotice s a1 a2).rtc = s.rtc := by
  simp [loadNotice, apply_ite State.rtc]

@[simp] theorem loadNotice_pending (s : State) a1 a2 : (loadNotice s a1 a2).pending = s.pending := by
  simp [loadNotice, apply_ite State.pending]

@[simp] theorem doTake_rtc (s : State) (c : Cls) : (doTake s c).1.rtc = s.rtc := by
  unfold doTake; dsimp only
  (repeat' split) <;> simp

@[simp] theorem doTake_pending (s : State) (c : Cls) : (doTake s c).1.pending = s.pending := by
  unfold doTake; dsimp only
  (repeat' split) <;> simp

@[simp] theorem slotRing_rtc (s : State) a1 a2 : (slotRing s a1 a2).1.rtc = s.rtc := by
  simp only [slotRing]; (repeat' split) <;> simp [apply_ite State.rtc]

@[simp] theorem slotRing_pending (s : State) a1 a2 : (slotRing s a1 a2).1.pending = s.pending := by
  simp only [slotRing]; (repeat' split) <;> simp [apply_ite State.pending]

/-! ### Slots -/

@[simp] theorem queueFrame_rtc (s : State) a1 a2 : (queueFrame s a1 a2).rtc = s.rtc := by
  simp only [queueFrame, apply_ite State.rtc, ite_self]

@[simp] theorem queueFrame_pending (s : State) a1 a2 : (queueFrame s a1 a2).pending = s.pending := by
  simp only [queueFrame, apply_ite State.pending, ite_self]

@[simp] theorem putSlot_rtc (s : State) a1 a2 : (putSlot s a1 a2).rtc = s.rtc := by
  simp only [putSlot, apply_ite State.rtc, ite_self]

@[simp] theorem putSlot_pending (s : State) a1 a2 : (putSlot s a1 a2).pending = s.pending := by
  simp only [putSlot, apply_ite State.pending, ite_self]

@[simp] theorem freeSlot_rtc (s : State) a1 : (freeSlot s a1).rtc = s.rtc := by
  simp only [freeSlot, apply_ite State.rtc, ite_self]

@[simp] theorem freeSlot_pending (s : State) a1 : (freeSlot s a1).pending = s.pending := by
  simp only [freeSlot, apply_ite State.pending, ite_self]

@[simp] theorem mirrorSlot_rtc (s : State) a1 : (mirrorSlot s a1).rtc = s.rtc := by
  simp only [mirrorSlot]; (repeat' split) <;> simp [apply_ite State.rtc]

@[simp] theorem mirrorSlot_pending (s : State) a1 : (mirrorSlot s a1).pending = s.pending := by
  simp only [mirrorSlot]; (repeat' split) <;> simp [apply_ite State.pending]

set_option maxRecDepth 20000 in
@[simp] theorem slotArm_rtc (s : State) (c : Cls) (cl : BitVec 10) (i : Option Nat) (ws : List Word) :
    (slotArm s c cl i ws).1.rtc = s.rtc := by
  unfold slotArm
  dsimp only
  split
  · rfl
  · split
    · rfl
    · (repeat' split) <;> first | rfl | simp

set_option maxRecDepth 20000 in
@[simp] theorem slotArm_pending (s : State) (c : Cls) (cl : BitVec 10) (i : Option Nat) (ws : List Word) :
    (slotArm s c cl i ws).1.pending = s.pending := by
  unfold slotArm
  dsimp only
  split
  · rfl
  · split
    · rfl
    · (repeat' split) <;> first | rfl | simp

@[simp] theorem slotModify_rtc (s : State) a1 a2 a3 a4 : (slotModify s a1 a2 a3 a4).1.rtc = s.rtc := by
  simp only [slotModify]; (repeat' split) <;> simp [apply_ite State.rtc]

@[simp] theorem slotModify_pending (s : State) a1 a2 a3 a4 : (slotModify s a1 a2 a3 a4).1.pending = s.pending := by
  simp only [slotModify]; (repeat' split) <;> simp [apply_ite State.pending]

@[simp] theorem slotDrop_rtc (s : State) a1 a2 : (slotDrop s a1 a2).rtc = s.rtc := by
  simp [slotDrop, apply_ite State.rtc]

@[simp] theorem slotDrop_pending (s : State) a1 a2 : (slotDrop s a1 a2).pending = s.pending := by
  simp [slotDrop, apply_ite State.pending]

@[simp] theorem slotCancel_rtc (s : State) a1 a2 a3 : (slotCancel s a1 a2 a3).1.rtc = s.rtc := by
  simp only [slotCancel]; (repeat' split) <;> simp [apply_ite State.rtc]

@[simp] theorem slotCancel_pending (s : State) a1 a2 a3 : (slotCancel s a1 a2 a3).1.pending = s.pending := by
  simp only [slotCancel]; (repeat' split) <;> simp [apply_ite State.pending]

@[simp] theorem cancelList_rtc (c : Cls) (cl : BitVec 10) (l : List (Nat × Slot)) :
    ∀ s : State, (cancelList s c cl l).1.rtc = s.rtc := by
  induction l with
  | nil => intro s; rfl
  | cons x xs ih =>
    intro s
    rw [cancelList]
    split
    · dsimp only; rw [ih, slotDrop_rtc]
    · exact ih s

@[simp] theorem cancelList_pending (c : Cls) (cl : BitVec 10) (l : List (Nat × Slot)) :
    ∀ s : State, (cancelList s c cl l).1.pending = s.pending := by
  induction l with
  | nil => intro s; rfl
  | cons x xs ih =>
    intro s
    rw [cancelList]
    split
    · dsimp only; rw [ih, slotDrop_pending]
    · exact ih s

@[simp] theorem setPin_rtc (s : State) a1 a2 : (setPin s a1 a2).rtc = s.rtc := by
  simp only [setPin, apply_ite State.rtc, ite_self]

@[simp] theorem setPin_pending (s : State) a1 a2 : (setPin s a1 a2).pending = s.pending := by
  simp only [setPin, apply_ite State.pending, ite_self]

@[simp] theorem deliver_rtc (s : State) a1 : (deliver s a1).rtc = s.rtc := by
  simp only [deliver]; (repeat' split) <;> simp [apply_ite State.rtc]

@[simp] theorem deliver_pending (s : State) a1 : (deliver s a1).pending = s.pending := by
  simp only [deliver]; (repeat' split) <;> simp [apply_ite State.pending]

@[simp] theorem deliverAll_rtc (l : List FireRec) : ∀ s : State, (deliverAll s l).rtc = s.rtc := by
  induction l with
  | nil => intro s; rfl
  | cons r rs ih => intro s; rw [deliverAll, ih, deliver_rtc]

@[simp] theorem deliverAll_pending (l : List FireRec) : ∀ s : State, (deliverAll s l).pending = s.pending := by
  induction l with
  | nil => intro s; rfl
  | cons r rs ih => intro s; rw [deliverAll, ih, deliver_pending]

@[simp] theorem fireActs_rtc (s : State) a1 a2 a3 a4 a5 a6 : (fireActs s a1 a2 a3 a4 a5 a6).rtc = s.rtc := by
  simp [fireActs, apply_ite State.rtc]

@[simp] theorem fireActs_pending (s : State) a1 a2 a3 a4 a5 a6 : (fireActs s a1 a2 a3 a4 a5 a6).pending = s.pending := by
  simp [fireActs, apply_ite State.pending]

@[simp] theorem advanceSlot_rtc (s : State) a1 a2 a3 a4 : (advanceSlot s a1 a2 a3 a4).rtc = s.rtc := by
  simp [advanceSlot, apply_ite State.rtc]

@[simp] theorem advanceSlot_pending (s : State) a1 a2 a3 a4 : (advanceSlot s a1 a2 a3 a4).pending = s.pending := by
  simp [advanceSlot, apply_ite State.pending]

@[simp] theorem fireOnTime_rtc (s : State) a1 a2 : (fireOnTime s a1 a2).rtc = s.rtc := by
  simp [fireOnTime, apply_ite State.rtc]

@[simp] theorem fireOnTime_pending (s : State) a1 a2 : (fireOnTime s a1 a2).pending = s.pending := by
  simp [fireOnTime, apply_ite State.pending]

@[simp] theorem fireLate_rtc (s : State) a1 a2 a3 : (fireLate s a1 a2 a3).rtc = s.rtc := by
  simp [fireLate, apply_ite State.rtc]

@[simp] theorem fireLate_pending (s : State) a1 a2 a3 : (fireLate s a1 a2 a3).pending = s.pending := by
  simp [fireLate, apply_ite State.pending]

@[simp] theorem stepSlots_rtc (s : State) a1 a2 : (stepSlots s a1 a2).rtc = s.rtc := by
  simp only [stepSlots, apply_ite State.rtc, ite_self]

@[simp] theorem stepSlots_pending (s : State) a1 a2 : (stepSlots s a1 a2).pending = s.pending := by
  simp only [stepSlots, apply_ite State.pending, ite_self]

@[simp] theorem setTm_rtc (s : State) a1 a2 : (setTm s a1 a2).rtc = s.rtc := by
  simp only [setTm, apply_ite State.rtc, ite_self]

@[simp] theorem setTm_pending (s : State) a1 a2 : (setTm s a1 a2).pending = s.pending := by
  simp only [setTm, apply_ite State.pending, ite_self]

@[simp] theorem stampEdge_rtc (s : State) a1 a2 : (stampEdge s a1 a2).rtc = s.rtc := by
  simp [stampEdge, apply_ite State.rtc]

@[simp] theorem stampEdge_pending (s : State) a1 a2 : (stampEdge s a1 a2).pending = s.pending := by
  simp [stampEdge, apply_ite State.pending]

@[simp] theorem postStamp_rtc (s : State) a1 : (postStamp s a1).rtc = s.rtc := by
  simp only [postStamp]; (repeat' split) <;> simp [apply_ite State.rtc]

@[simp] theorem postStamp_pending (s : State) a1 : (postStamp s a1).pending = s.pending := by
  simp only [postStamp]; (repeat' split) <;> simp [apply_ite State.pending]

/-! ### Level -/

@[simp] theorem noteLevel_rtc (s : State) a1 a2 a3 a4 : (noteLevel s a1 a2 a3 a4).rtc = s.rtc := by
  simp [noteLevel, apply_ite State.rtc]

@[simp] theorem noteLevel_pending (s : State) a1 a2 a3 a4 : (noteLevel s a1 a2 a3 a4).pending = s.pending := by
  simp [noteLevel, apply_ite State.pending]

@[simp] theorem relevel_rtc (s : State) a1 a2 a3 : (relevel s a1 a2 a3).rtc = s.rtc := by
  simp [relevel, apply_ite State.rtc]

@[simp] theorem relevel_pending (s : State) a1 a2 a3 : (relevel s a1 a2 a3).pending = s.pending := by
  simp [relevel, apply_ite State.pending]

@[simp] theorem unitFault_rtc (s : State) a1 : (unitFault s a1).rtc = s.rtc := by
  simp [unitFault, apply_ite State.rtc]

@[simp] theorem unitFault_pending (s : State) a1 : (unitFault s a1).pending = s.pending := by
  simp [unitFault, apply_ite State.pending]

@[simp] theorem unitRecover_rtc (s : State) a1 : (unitRecover s a1).rtc = s.rtc := by
  simp [unitRecover, apply_ite State.rtc]

@[simp] theorem unitRecover_pending (s : State) a1 : (unitRecover s a1).pending = s.pending := by
  simp [unitRecover, apply_ite State.pending]

@[simp] theorem suspendRings_rtc (s : State) a1 : (suspendRings s a1).rtc = s.rtc := by
  simp only [suspendRings, apply_ite State.rtc, ite_self]

@[simp] theorem suspendRings_pending (s : State) a1 : (suspendRings s a1).pending = s.pending := by
  simp only [suspendRings, apply_ite State.pending, ite_self]

@[simp] theorem withdrawBank_rtc (s : State) a1 : (withdrawBank s a1).rtc = s.rtc := by
  simp [withdrawBank, apply_ite State.rtc]

@[simp] theorem withdrawBank_pending (s : State) a1 : (withdrawBank s a1).pending = s.pending := by
  simp [withdrawBank, apply_ite State.pending]

@[simp] theorem logPoison_rtc (s : State) a1 a2 : (logPoison s a1 a2).rtc = s.rtc := by
  simp only [logPoison, apply_ite State.rtc, ite_self]

@[simp] theorem logPoison_pending (s : State) a1 a2 : (logPoison s a1 a2).pending = s.pending := by
  simp only [logPoison, apply_ite State.pending, ite_self]

@[simp] theorem countPoison_rtc (s : State) a1 : (countPoison s a1).rtc = s.rtc := by
  simp [countPoison, apply_ite State.rtc]

@[simp] theorem countPoison_pending (s : State) a1 : (countPoison s a1).pending = s.pending := by
  simp [countPoison, apply_ite State.pending]

@[simp] theorem poisonWord_rtc (s : State) a1 a2 : (poisonWord s a1 a2).rtc = s.rtc := by
  simp only [poisonWord]; (repeat' split) <;> simp [apply_ite State.rtc]

@[simp] theorem poisonWord_pending (s : State) a1 a2 : (poisonWord s a1 a2).pending = s.pending := by
  simp only [poisonWord]; (repeat' split) <;> simp [apply_ite State.pending]

@[simp] theorem inject_rtc (s : State) a1 a2 a3 : (inject s a1 a2 a3).rtc = s.rtc := by
  simp only [inject]; (repeat' split) <;> simp [apply_ite State.rtc]

@[simp] theorem inject_pending (s : State) a1 a2 a3 : (inject s a1 a2 a3).pending = s.pending := by
  simp only [inject]; (repeat' split) <;> simp [apply_ite State.pending]

@[simp] theorem demandRead_rtc (s : State) a1 a2 : (demandRead s a1 a2).1.rtc = s.rtc := by
  simp only [demandRead]; (repeat' split) <;> simp [apply_ite State.rtc]

@[simp] theorem demandRead_pending (s : State) a1 a2 : (demandRead s a1 a2).1.pending = s.pending := by
  simp only [demandRead]; (repeat' split) <;> simp [apply_ite State.pending]

/-! ### Quality -/

@[simp] theorem startTake_rtc (s : State) a1 : (startTake s a1).rtc = s.rtc := by
  simp [startTake, apply_ite State.rtc]

@[simp] theorem startTake_pending (s : State) a1 : (startTake s a1).pending = s.pending := by
  simp [startTake, apply_ite State.pending]

@[simp] theorem checkDegraded_rtc (s : State) : (checkDegraded s).rtc = s.rtc := by
  simp only [checkDegraded]; (repeat' split) <;> simp [apply_ite State.rtc]

@[simp] theorem checkDegraded_pending (s : State) : (checkDegraded s).pending = s.pending := by
  simp only [checkDegraded]; (repeat' split) <;> simp [apply_ite State.pending]

@[simp] theorem setTq_rtc (s : State) a1 : (setTq s a1).rtc = s.rtc := by
  simp [setTq, apply_ite State.rtc]

@[simp] theorem setTq_pending (s : State) a1 : (setTq s a1).pending = s.pending := by
  simp [setTq, apply_ite State.pending]

@[simp] theorem setUnc_rtc (s : State) a1 a2 : (setUnc s a1 a2).rtc = s.rtc := by
  simp only [setUnc, apply_ite State.rtc, ite_self]

@[simp] theorem setUnc_pending (s : State) a1 a2 : (setUnc s a1 a2).pending = s.pending := by
  simp only [setUnc, apply_ite State.pending, ite_self]

@[simp] theorem enterHoldover_rtc (s : State) : (enterHoldover s).rtc = s.rtc := by
  simp [enterHoldover, apply_ite State.rtc]

@[simp] theorem enterHoldover_pending (s : State) : (enterHoldover s).pending = s.pending := by
  simp [enterHoldover, apply_ite State.pending]

@[simp] theorem toHoldover_rtc (s : State) : (toHoldover s).rtc = s.rtc := by
  simp [toHoldover, apply_ite State.rtc]

@[simp] theorem toHoldover_pending (s : State) : (toHoldover s).pending = s.pending := by
  simp [toHoldover, apply_ite State.pending]

@[simp] theorem addDelta_rtc (s : State) a1 : (addDelta s a1).rtc = s.rtc := by
  simp [addDelta, apply_ite State.rtc]

@[simp] theorem addDelta_pending (s : State) a1 : (addDelta s a1).pending = s.pending := by
  simp [addDelta, apply_ite State.pending]

@[simp] theorem shiftPulses_rtc (s : State) a1 : (shiftPulses s a1).rtc = s.rtc := by
  simp only [shiftPulses, apply_ite State.rtc, ite_self]

@[simp] theorem shiftPulses_pending (s : State) a1 : (shiftPulses s a1).pending = s.pending := by
  simp only [shiftPulses, apply_ite State.pending, ite_self]

@[simp] theorem timeMoved_rtc (s : State) a1 a2 : (timeMoved s a1 a2).rtc = s.rtc := by
  simp only [timeMoved]; (repeat' split) <;> simp [apply_ite State.rtc]

@[simp] theorem timeMoved_pending (s : State) a1 a2 : (timeMoved s a1 a2).pending = s.pending := by
  simp only [timeMoved]; (repeat' split) <;> simp [apply_ite State.pending]

@[simp] theorem moveTime_rtc (s : State) a1 : (moveTime s a1).rtc = s.rtc := by
  simp [moveTime, apply_ite State.rtc]

@[simp] theorem moveTime_pending (s : State) a1 : (moveTime s a1).pending = s.pending := by
  simp [moveTime, apply_ite State.pending]

@[simp] theorem setTime_rtc (s : State) a1 a2 : (setTime s a1 a2).rtc = s.rtc := by
  simp only [setTime]; (repeat' split) <;> simp [apply_ite State.rtc]

@[simp] theorem setTime_pending (s : State) a1 a2 : (setTime s a1 a2).pending = s.pending := by
  simp only [setTime]; (repeat' split) <;> simp [apply_ite State.pending]

@[simp] theorem applyStep_rtc (s : State) a1 : (applyStep s a1).rtc = s.rtc := by
  simp [applyStep, apply_ite State.rtc]

@[simp] theorem applyStep_pending (s : State) a1 : (applyStep s a1).pending = s.pending := by
  simp [applyStep, apply_ite State.pending]

/-! ### Supply -/

@[simp] theorem noteSupply_rtc (s : State) a1 a2 : (noteSupply s a1 a2).rtc = s.rtc := by
  simp [noteSupply, apply_ite State.rtc]

@[simp] theorem noteSupply_pending (s : State) a1 a2 : (noteSupply s a1 a2).pending = s.pending := by
  simp [noteSupply, apply_ite State.pending]

@[simp] theorem postSupplyHeld_rtc (s : State) : (postSupplyHeld s).rtc = s.rtc := by
  unfold postSupplyHeld
  rw [foldl_rtc _ (fun s p => postImm_rtc s _ _)]

@[simp] theorem postSupplyHeld_pending (s : State) : (postSupplyHeld s).pending = s.pending := by
  unfold postSupplyHeld
  rw [foldl_pending _ (fun s p => postImm_pending s _ _)]

@[simp] theorem slewDone_rtc (s : State) : (slewDone s).rtc = s.rtc := by
  simp [slewDone, apply_ite State.rtc]

@[simp] theorem slewDone_pending (s : State) : (slewDone s).pending = s.pending := by
  simp [slewDone, apply_ite State.pending]

@[simp] theorem cmdVcore_rtc (s : State) a1 : (cmdVcore s a1).rtc = s.rtc := by
  simp only [cmdVcore, apply_ite State.rtc, ite_self]

@[simp] theorem cmdVcore_pending (s : State) a1 : (cmdVcore s a1).pending = s.pending := by
  simp only [cmdVcore, apply_ite State.pending, ite_self]

@[simp] theorem paceCmd_rtc (s : State) a1 : (paceCmd s a1).rtc = s.rtc := by
  simp [paceCmd, apply_ite State.rtc]

@[simp] theorem paceCmd_pending (s : State) a1 : (paceCmd s a1).pending = s.pending := by
  simp [paceCmd, apply_ite State.pending]

@[simp] theorem startSoft_rtc (s : State) : (startSoft s).rtc = s.rtc := by
  simp only [startSoft, apply_ite State.rtc, ite_self]

@[simp] theorem startSoft_pending (s : State) : (startSoft s).pending = s.pending := by
  simp only [startSoft, apply_ite State.pending, ite_self]

@[simp] theorem reclip_rtc (s : State) : (reclip s).rtc = s.rtc := by
  simp [reclip, apply_ite State.rtc]
@[simp] theorem reclip_pending (s : State) : (reclip s).pending = s.pending := by
  simp [reclip, apply_ite State.pending]

@[simp] theorem softDone_rtc (s : State) : (softDone s).rtc = s.rtc := by
  simp only [softDone, apply_ite State.rtc, ite_self]

@[simp] theorem softDone_pending (s : State) : (softDone s).pending = s.pending := by
  simp only [softDone, apply_ite State.pending, ite_self]

@[simp] theorem railFail_rtc (s : State) : (railFail s).rtc = s.rtc := by
  simp [railFail, apply_ite State.rtc]

@[simp] theorem railFail_pending (s : State) : (railFail s).pending = s.pending := by
  simp [railFail, apply_ite State.pending]

@[simp] theorem antOff_rtc (s : State) a1 : (antOff s a1).rtc = s.rtc := by
  simp only [antOff, apply_ite State.rtc, ite_self]

@[simp] theorem antOff_pending (s : State) a1 : (antOff s a1).pending = s.pending := by
  simp only [antOff, apply_ite State.pending, ite_self]

@[simp] theorem antShort_rtc (s : State) : (antShort s).rtc = s.rtc := by
  simp only [antShort]; (repeat' split) <;> simp [apply_ite State.rtc]

@[simp] theorem antShort_pending (s : State) : (antShort s).pending = s.pending := by
  simp only [antShort]; (repeat' split) <;> simp [apply_ite State.pending]

@[simp] theorem antMeas_rtc (s : State) a1 : (antMeas s a1).rtc = s.rtc := by
  simp only [antMeas, apply_ite State.rtc, ite_self]

@[simp] theorem antMeas_pending (s : State) a1 : (antMeas s a1).pending = s.pending := by
  simp only [antMeas, apply_ite State.pending, ite_self]

@[simp] theorem antUnlatch_rtc (s : State) : (antUnlatch s).rtc = s.rtc := by
  simp [antUnlatch, apply_ite State.rtc]

@[simp] theorem antUnlatch_pending (s : State) : (antUnlatch s).pending = s.pending := by
  simp [antUnlatch, apply_ite State.pending]

/-! ### Power -/

@[simp] theorem notePower_rtc (s : State) a1 a2 a3 : (notePower s a1 a2 a3).rtc = s.rtc := by
  simp [notePower, apply_ite State.rtc]

@[simp] theorem notePower_pending (s : State) a1 a2 a3 : (notePower s a1 a2 a3).pending = s.pending := by
  simp [notePower, apply_ite State.pending]

@[simp] theorem releaseCores_rtc (s : State) : (releaseCores s).rtc = s.rtc := by
  simp [releaseCores, apply_ite State.rtc]

@[simp] theorem releaseCores_pending (s : State) : (releaseCores s).pending = s.pending := by
  simp [releaseCores, apply_ite State.pending]

@[simp] theorem endAttempt_rtc (s : State) : (endAttempt s).rtc = s.rtc := by
  simp [endAttempt, apply_ite State.rtc]

@[simp] theorem endAttempt_pending (s : State) : (endAttempt s).pending = s.pending := by
  simp [endAttempt, apply_ite State.pending]

@[simp] theorem refuse_rtc (s : State) a1 a2 : (refuse s a1 a2).rtc = s.rtc := by
  simp [refuse, apply_ite State.rtc]

@[simp] theorem refuse_pending (s : State) a1 a2 : (refuse s a1 a2).pending = s.pending := by
  simp [refuse, apply_ite State.pending]

@[simp] theorem abandon_rtc (s : State) a1 : (abandon s a1).rtc = s.rtc := by
  simp [abandon, apply_ite State.rtc]

@[simp] theorem abandon_pending (s : State) a1 : (abandon s a1).pending = s.pending := by
  simp [abandon, apply_ite State.pending]

@[simp] theorem wakeEvent_rtc (s : State) a1 : (wakeEvent s a1).rtc = s.rtc := by
  simp [wakeEvent, apply_ite State.rtc]

@[simp] theorem wakeEvent_pending (s : State) a1 : (wakeEvent s a1).pending = s.pending := by
  simp [wakeEvent, apply_ite State.pending]

@[simp] theorem askBlocks_rtc (s : State) : (askBlocks s).rtc = s.rtc := by
  simp only [askBlocks]; (repeat' split) <;> simp [apply_ite State.rtc]

@[simp] theorem askBlocks_pending (s : State) : (askBlocks s).pending = s.pending := by
  simp only [askBlocks]; (repeat' split) <;> simp [apply_ite State.pending]

@[simp] theorem checkReplies_rtc (s : State) : (checkReplies s).rtc = s.rtc := by
  simp [checkReplies, apply_ite State.rtc]

@[simp] theorem checkReplies_pending (s : State) : (checkReplies s).pending = s.pending := by
  simp [checkReplies, apply_ite State.pending]

@[simp] theorem coreRefuses_rtc (s : State) a1 : (coreRefuses s a1).rtc = s.rtc := by
  simp [coreRefuses, apply_ite State.rtc]

@[simp] theorem coreRefuses_pending (s : State) a1 : (coreRefuses s a1).pending = s.pending := by
  simp [coreRefuses, apply_ite State.pending]

@[simp] theorem writeReq_rtc (s : State) a1 a2 : (writeReq s a1 a2).rtc = s.rtc := by
  simp [writeReq, apply_ite State.rtc]

@[simp] theorem writeReq_pending (s : State) a1 a2 : (writeReq s a1 a2).pending = s.pending := by
  simp [writeReq, apply_ite State.pending]

@[simp] theorem idleNow_rtc (s : State) : (idleNow s).rtc = s.rtc := by
  simp only [idleNow, apply_ite State.rtc, ite_self]

@[simp] theorem idleNow_pending (s : State) : (idleNow s).pending = s.pending := by
  simp only [idleNow, apply_ite State.pending, ite_self]

@[simp] theorem parkCore_rtc (s : State) a1 : (parkCore s a1).rtc = s.rtc := by
  simp [parkCore, apply_ite State.rtc]

@[simp] theorem parkCore_pending (s : State) a1 : (parkCore s a1).pending = s.pending := by
  simp [parkCore, apply_ite State.pending]

@[simp] theorem leaveWait_rtc (s : State) a1 : (leaveWait s a1).rtc = s.rtc := by
  simp [leaveWait, apply_ite State.rtc]

@[simp] theorem leaveWait_pending (s : State) a1 : (leaveWait s a1).pending = s.pending := by
  simp [leaveWait, apply_ite State.pending]

/-! ### Gauge -/

@[simp] theorem noteGauge_rtc (s : State) a1 a2 : (noteGauge s a1 a2).rtc = s.rtc := by
  simp [noteGauge, apply_ite State.rtc]

@[simp] theorem noteGauge_pending (s : State) a1 a2 : (noteGauge s a1 a2).pending = s.pending := by
  simp [noteGauge, apply_ite State.pending]

@[simp] theorem postGaugeHeld_rtc (s : State) : (postGaugeHeld s).rtc = s.rtc := by
  unfold postGaugeHeld
  rw [foldl_rtc _ (fun s p => postImm_rtc s _ _)]

@[simp] theorem postGaugeHeld_pending (s : State) : (postGaugeHeld s).pending = s.pending := by
  unfold postGaugeHeld
  rw [foldl_pending _ (fun s p => postImm_pending s _ _)]

@[simp] theorem setCharge_rtc (s : State) a1 : (setCharge s a1).rtc = s.rtc := by
  simp [setCharge, apply_ite State.rtc]

@[simp] theorem setCharge_pending (s : State) a1 : (setCharge s a1).pending = s.pending := by
  simp [setCharge, apply_ite State.pending]

@[simp] theorem setStat_rtc (s : State) a1 a2 : (setStat s a1 a2).rtc = s.rtc := by
  simp [setStat, apply_ite State.rtc]

@[simp] theorem setStat_pending (s : State) a1 a2 : (setStat s a1 a2).pending = s.pending := by
  simp [setStat, apply_ite State.pending]

@[simp] theorem gauEvent_rtc (s : State) a1 : (gauEvent s a1).rtc = s.rtc := by
  simp [gauEvent, apply_ite State.rtc]

@[simp] theorem gauEvent_pending (s : State) a1 : (gauEvent s a1).pending = s.pending := by
  simp [gauEvent, apply_ite State.pending]

@[simp] theorem gauCheck_rtc (s : State) a1 a2 a3 : (gauCheck s a1 a2 a3).rtc = s.rtc := by
  simp [gauCheck, apply_ite State.rtc]

@[simp] theorem gauCheck_pending (s : State) a1 a2 a3 : (gauCheck s a1 a2 a3).pending = s.pending := by
  simp [gauCheck, apply_ite State.pending]

@[simp] theorem addCharge_rtc (s : State) a1 a2 : (addCharge s a1 a2).rtc = s.rtc := by
  simp [addCharge, apply_ite State.rtc]

@[simp] theorem addCharge_pending (s : State) a1 a2 : (addCharge s a1 a2).pending = s.pending := by
  simp [addCharge, apply_ite State.pending]

@[simp] theorem moveDisp_rtc (s : State) a1 a2 : (moveDisp s a1 a2).rtc = s.rtc := by
  simp only [moveDisp, apply_ite State.rtc, ite_self]

@[simp] theorem moveDisp_pending (s : State) a1 a2 : (moveDisp s a1 a2).pending = s.pending := by
  simp only [moveDisp, apply_ite State.pending, ite_self]

@[simp] theorem shutdownZero_rtc (s : State) a1 a2 : (shutdownZero s a1 a2).rtc = s.rtc := by
  simp only [shutdownZero, apply_ite State.rtc, ite_self]

@[simp] theorem shutdownZero_pending (s : State) a1 a2 : (shutdownZero s a1 a2).pending = s.pending := by
  simp only [shutdownZero, apply_ite State.pending, ite_self]

@[simp] theorem gauMode_rtc (s : State) a1 a2 a3 : (gauMode s a1 a2 a3).rtc = s.rtc := by
  simp [gauMode, apply_ite State.rtc]

@[simp] theorem gauMode_pending (s : State) a1 a2 a3 : (gauMode s a1 a2 a3).pending = s.pending := by
  simp [gauMode, apply_ite State.pending]

@[simp] theorem gauEvents_rtc (s : State) a1 a2 : (gauEvents s a1 a2).rtc = s.rtc := by
  simp [gauEvents, apply_ite State.rtc]

@[simp] theorem gauEvents_pending (s : State) a1 a2 : (gauEvents s a1 a2).pending = s.pending := by
  simp [gauEvents, apply_ite State.pending]

@[simp] theorem gauFault_rtc (s : State) : (gauFault s).rtc = s.rtc := by
  simp [gauFault, apply_ite State.rtc]

@[simp] theorem gauFault_pending (s : State) : (gauFault s).pending = s.pending := by
  simp [gauFault, apply_ite State.pending]

@[simp] theorem gauDisable_rtc (s : State) : (gauDisable s).rtc = s.rtc := by
  simp [gauDisable, apply_ite State.rtc]

@[simp] theorem gauDisable_pending (s : State) : (gauDisable s).pending = s.pending := by
  simp [gauDisable, apply_ite State.pending]

@[simp] theorem gauStart_rtc (s : State) : (gauStart s).rtc = s.rtc := by
  simp only [gauStart, apply_ite State.rtc, ite_self]

@[simp] theorem gauStart_pending (s : State) : (gauStart s).pending = s.pending := by
  simp only [gauStart, apply_ite State.pending, ite_self]

@[simp] theorem gauFirst_rtc (s : State) a1 a2 : (gauFirst s a1 a2).rtc = s.rtc := by
  simp [gauFirst, apply_ite State.rtc]

@[simp] theorem gauFirst_pending (s : State) a1 a2 : (gauFirst s a1 a2).pending = s.pending := by
  simp [gauFirst, apply_ite State.pending]

@[simp] theorem gauRescale_rtc (s : State) a1 : (gauRescale s a1).rtc = s.rtc := by
  simp [gauRescale, apply_ite State.rtc]

@[simp] theorem gauRescale_pending (s : State) a1 : (gauRescale s a1).pending = s.pending := by
  simp [gauRescale, apply_ite State.pending]

/-! ### Tick -/

@[simp] theorem tickDtc_rtc (s : State) : (tickDtc s).rtc = s.rtc := by
  simp only [tickDtc, apply_ite State.rtc, ite_self]

@[simp] theorem tickDtc_pending (s : State) : (tickDtc s).pending = s.pending := by
  simp only [tickDtc, apply_ite State.pending, ite_self]

@[simp] theorem drainBrine_rtc (s : State) : (drainBrine s).rtc = s.rtc := by
  simp only [drainBrine]; (repeat' split) <;> first | rfl | simp [apply_ite State.rtc]

@[simp] theorem drainBrine_pending (s : State) : (drainBrine s).pending = s.pending := by
  simp only [drainBrine]; (repeat' split) <;> first | rfl | simp [apply_ite State.pending]

@[simp] theorem tick_rtc (s : State) : (tick s).rtc = s.rtc := by
  simp [tick, apply_ite State.rtc]

@[simp] theorem tick_pending (s : State) : (tick s).pending = s.pending := by
  simp [tick, apply_ite State.pending]

/-! ### Start -/

@[simp] theorem putProg_rtc (s : State) a1 a2 a3 : (putProg s a1 a2 a3).rtc = s.rtc := by
  simp only [putProg, apply_ite State.rtc, ite_self]

@[simp] theorem putProg_pending (s : State) a1 a2 a3 : (putProg s a1 a2 a3).pending = s.pending := by
  simp only [putProg, apply_ite State.pending, ite_self]

@[simp] theorem takeCrc_rtc (s : State) (k : CoreId) : (takeCrc s k).rtc = s.rtc := rfl

@[simp] theorem takeCrc_pending (s : State) (k : CoreId) : (takeCrc s k).pending = s.pending := rfl

@[simp] theorem startCore_rtc (s : State) a1 : (startCore s a1).rtc = s.rtc := by
  simp [startCore, apply_ite State.rtc]

@[simp] theorem startCore_pending (s : State) a1 : (startCore s a1).pending = s.pending := by
  simp [startCore, apply_ite State.pending]

@[simp] theorem noteBoot_rtc (s : State) a1 a2 a3 : (noteBoot s a1 a2 a3).rtc = s.rtc := by
  simp [noteBoot, apply_ite State.rtc]

@[simp] theorem noteBoot_pending (s : State) a1 a2 a3 : (noteBoot s a1 a2 a3).pending = s.pending := by
  simp [noteBoot, apply_ite State.pending]

@[simp] theorem absentRules_rtc (s : State) : (absentRules s).rtc = s.rtc := by
  simp only [absentRules, apply_ite State.rtc, ite_self]

@[simp] theorem absentRules_pending (s : State) : (absentRules s).pending = s.pending := by
  simp only [absentRules, apply_ite State.pending, ite_self]

@[simp] theorem runtimeStart_rtc (s : State) : (runtimeStart s).rtc = s.rtc := by
  simp [runtimeStart, apply_ite State.rtc]

@[simp] theorem runtimeStart_pending (s : State) : (runtimeStart s).pending = s.pending := by
  simp [runtimeStart, apply_ite State.pending]

@[simp] theorem releaseBoot_rtc (s : State) : (releaseBoot s).rtc = s.rtc := by
  rw [releaseBoot, runtimeStart_rtc, startCore_rtc, startCore_rtc]
  dsimp only
  rw [takeCrc_rtc, takeCrc_rtc]

@[simp] theorem releaseBoot_pending (s : State) : (releaseBoot s).pending = s.pending := by
  rw [releaseBoot, runtimeStart_pending, startCore_pending, startCore_pending]
  dsimp only
  rw [takeCrc_pending, takeCrc_pending]

@[simp] theorem resumeCore_rtc (s : State) a1 : (resumeCore s a1).rtc = s.rtc := by
  simp [resumeCore, apply_ite State.rtc]

@[simp] theorem resumeCore_pending (s : State) a1 : (resumeCore s a1).pending = s.pending := by
  simp [resumeCore, apply_ite State.pending]

@[simp] theorem updateFe_rtc (s : State) : (updateFe s).rtc = s.rtc := by
  simp only [updateFe, apply_ite State.rtc, ite_self]

@[simp] theorem updateFe_pending (s : State) : (updateFe s).pending = s.pending := by
  simp only [updateFe, apply_ite State.pending, ite_self]

/-! ### Acq -/

@[simp] theorem putPan_rtc (s : State) a1 a2 : (putPan s a1 a2).rtc = s.rtc := by
  simp only [putPan, apply_ite State.rtc, ite_self]

@[simp] theorem putPan_pending (s : State) a1 a2 : (putPan s a1 a2).pending = s.pending := by
  simp only [putPan, apply_ite State.pending, ite_self]

@[simp] theorem modPan_rtc (s : State) a1 a2 : (modPan s a1 a2).rtc = s.rtc := by
  simp only [modPan]; (repeat' split) <;> simp [apply_ite State.rtc]

@[simp] theorem modPan_pending (s : State) a1 a2 : (modPan s a1 a2).pending = s.pending := by
  simp only [modPan]; (repeat' split) <;> simp [apply_ite State.pending]

@[simp] theorem placePan_rtc (s : State) a1 a2 : (placePan s a1 a2).rtc = s.rtc := by
  simp only [placePan]; (repeat' split) <;> simp [apply_ite State.rtc]

@[simp] theorem placePan_pending (s : State) a1 a2 : (placePan s a1 a2).pending = s.pending := by
  simp only [placePan]; (repeat' split) <;> simp [apply_ite State.pending]

@[simp] theorem startPan_rtc (s : State) a1 a2 a3 a4 a5 a6 : (startPan s a1 a2 a3 a4 a5 a6).rtc = s.rtc := by
  simp [startPan, apply_ite State.rtc]

@[simp] theorem startPan_pending (s : State) a1 a2 a3 a4 a5 a6 : (startPan s a1 a2 a3 a4 a5 a6).pending = s.pending := by
  simp [startPan, apply_ite State.pending]

@[simp] theorem servePending_rtc (l : List Hit) : ∀ s : State, (servePending s l).rtc = s.rtc := by
  induction l with
  | nil => intro s; rfl
  | cons h hs ih =>
    intro s
    rw [servePending]
    generalize freePan s none = q
    cases q with
    | none => rfl
    | some p => dsimp only; split <;> simp [ih, apply_ite State.rtc]

@[simp] theorem servePending_pending (l : List Hit) : ∀ s : State, (servePending s l).pending = s.pending := by
  induction l with
  | nil => intro s; rfl
  | cons h hs ih =>
    intro s
    rw [servePending]
    generalize freePan s none = q
    cases q with
    | none => rfl
    | some p => dsimp only; split <;> simp [ih, apply_ite State.pending]

@[simp] theorem releasePan_rtc (s : State) a1 : (releasePan s a1).rtc = s.rtc := by
  simp only [releasePan]; (repeat' split) <;> simp [apply_ite State.rtc]

@[simp] theorem releasePan_pending (s : State) a1 : (releasePan s a1).pending = s.pending := by
  simp only [releasePan]; (repeat' split) <;> simp [apply_ite State.pending]

theorem requestTwin_rtc {s : State} {prn : Nat} {r : State × Nat} (h : requestTwin s prn = some r) : r.1.rtc = s.rtc := by
  revert h; unfold requestTwin; (repeat' split) <;> intro h <;> first | (simp at h; done) | (cases h; simp)

theorem requestTwin_pending {s : State} {prn : Nat} {r : State × Nat} (h : requestTwin s prn = some r) :
    r.1.pending = s.pending := by
  revert h; unfold requestTwin; (repeat' split) <;> intro h <;> first | (simp at h; done) | (cases h; simp)

@[simp] theorem endSearch_rtc (s : State) a1 : (endSearch s a1).rtc = s.rtc := by
  simp [endSearch, apply_ite State.rtc]

@[simp] theorem endSearch_pending (s : State) a1 : (endSearch s a1).pending = s.pending := by
  simp [endSearch, apply_ite State.pending]

@[simp] theorem addPending_rtc (s : State) a1 : (addPending s a1).1.rtc = s.rtc := by
  simp only [addPending]; (repeat' split) <;> simp [apply_ite State.rtc]

@[simp] theorem addPending_pending (s : State) a1 : (addPending s a1).1.pending = s.pending := by
  simp only [addPending]; (repeat' split) <;> simp [apply_ite State.pending]

@[simp] theorem newCell_rtc (s : State) a1 a2 a3 a4 a5 a6 a7 a8 : (newCell s a1 a2 a3 a4 a5 a6 a7 a8).rtc = s.rtc := by
  simp [newCell, apply_ite State.rtc]

@[simp] theorem newCell_pending (s : State) a1 a2 a3 a4 a5 a6 a7 a8 : (newCell s a1 a2 a3 a4 a5 a6 a7 a8).pending = s.pending := by
  simp [newCell, apply_ite State.pending]

@[simp] theorem startPlanned_rtc (s : State) a1 a2 : (startPlanned s a1 a2).rtc = s.rtc := by
  simp only [startPlanned]; (repeat' split) <;> simp [apply_ite State.rtc]

@[simp] theorem startPlanned_pending (s : State) a1 a2 : (startPlanned s a1 a2).pending = s.pending := by
  simp only [startPlanned]; (repeat' split) <;> simp [apply_ite State.pending]

@[simp] theorem nextCell_rtc (l : List PlanItem) : ∀ s : State, (nextCell s l).rtc = s.rtc := by
  induction l with
  | nil => intro s; simp [nextCell]
  | cons i is ih =>
    intro s
    rw [nextCell]
    (repeat' split) <;> simp [ih]

@[simp] theorem nextCell_pending (l : List PlanItem) : ∀ s : State, (nextCell s l).pending = s.pending := by
  induction l with
  | nil => intro s; simp [nextCell]
  | cons i is ih =>
    intro s
    rw [nextCell]
    (repeat' split) <;> simp [ih]

@[simp] theorem advanceSearch_rtc (s : State) : (advanceSearch s).rtc = s.rtc := by
  simp only [advanceSearch]; (repeat' split) <;> simp [apply_ite State.rtc]

@[simp] theorem advanceSearch_pending (s : State) : (advanceSearch s).pending = s.pending := by
  simp only [advanceSearch]; (repeat' split) <;> simp [apply_ite State.pending]

@[simp] theorem beginSearch_rtc (s : State) a1 : (beginSearch s a1).rtc = s.rtc := by
  simp only [beginSearch]; (repeat' split) <;> simp [apply_ite State.rtc]

@[simp] theorem beginSearch_pending (s : State) a1 : (beginSearch s a1).pending = s.pending := by
  simp only [beginSearch]; (repeat' split) <;> simp [apply_ite State.pending]

@[simp] theorem queuePrn_rtc (s : State) a1 a2 : (queuePrn s a1 a2).rtc = s.rtc := by
  simp [queuePrn, apply_ite State.rtc]

@[simp] theorem queuePrn_pending (s : State) a1 a2 : (queuePrn s a1 a2).pending = s.pending := by
  simp [queuePrn, apply_ite State.pending]

@[simp] theorem releaseAndQueue_rtc (s : State) a1 : (releaseAndQueue s a1).rtc = s.rtc := by
  simp only [releaseAndQueue]; (repeat' split) <;> simp [apply_ite State.rtc]

@[simp] theorem releaseAndQueue_pending (s : State) a1 : (releaseAndQueue s a1).pending = s.pending := by
  simp only [releaseAndQueue]; (repeat' split) <;> simp [apply_ite State.pending]

@[simp] theorem releaseAll_rtc (s : State) (ps : List Nat) : (releaseAll s ps).rtc = s.rtc :=
  foldl_rtc _ releaseAndQueue_rtc ps s

@[simp] theorem releaseAll_pending (s : State) (ps : List Nat) : (releaseAll s ps).pending = s.pending :=
  foldl_pending _ releaseAndQueue_pending ps s

@[simp] theorem cryLost_rtc (s : State) : (cryLost s).rtc = s.rtc := by
  unfold cryLost
  dsimp only
  rw [foldl_rtc _ (fun s x => completeTag_rtc s _ _ _ _ _)]
  (repeat' split) <;> simp

@[simp] theorem cryLost_pending (s : State) : (cryLost s).pending = s.pending := by
  unfold cryLost
  dsimp only
  rw [foldl_pending _ (fun s x => completeTag_pending s _ _ _ _ _)]
  (repeat' split) <;> simp

@[simp] theorem cryBack_rtc (s : State) : (cryBack s).rtc = s.rtc := by
  simp [cryBack, apply_ite State.rtc]

@[simp] theorem cryBack_pending (s : State) : (cryBack s).pending = s.pending := by
  simp [cryBack, apply_ite State.pending]

@[simp] theorem startDwell_rtc (s : State) a1 : (startDwell s a1).rtc = s.rtc := by
  simp only [startDwell]; (repeat' split) <;> simp [apply_ite State.rtc]

@[simp] theorem startDwell_pending (s : State) a1 : (startDwell s a1).pending = s.pending := by
  simp only [startDwell]; (repeat' split) <;> simp [apply_ite State.pending]

@[simp] theorem runDwell_rtc (s : State) a1 a2 a3 a4 : (runDwell s a1 a2 a3 a4).rtc = s.rtc := by
  simp only [runDwell]; (repeat' split) <;> simp [apply_ite State.rtc]

@[simp] theorem runDwell_pending (s : State) a1 a2 a3 a4 : (runDwell s a1 a2 a3 a4).pending = s.pending := by
  simp only [runDwell]; (repeat' split) <;> simp [apply_ite State.pending]

@[simp] theorem stepDwell_rtc (s : State) a1 a2 a3 : (stepDwell s a1 a2 a3).rtc = s.rtc := by
  simp only [stepDwell]; (repeat' split) <;> simp [apply_ite State.rtc]

@[simp] theorem stepDwell_pending (s : State) a1 a2 a3 : (stepDwell s a1 a2 a3).pending = s.pending := by
  simp only [stepDwell]; (repeat' split) <;> simp [apply_ite State.pending]

@[simp] theorem dropDwell_rtc (s : State) : (dropDwell s).rtc = s.rtc := by
  simp only [dropDwell]; (repeat' split) <;> simp [apply_ite State.rtc]

@[simp] theorem dropDwell_pending (s : State) : (dropDwell s).pending = s.pending := by
  simp only [dropDwell]; (repeat' split) <;> simp [apply_ite State.pending]

@[simp] theorem narrow_rtc (s : State) a1 : (narrow s a1).rtc = s.rtc := by
  simp only [narrow, apply_ite State.rtc, ite_self]

@[simp] theorem narrow_pending (s : State) a1 : (narrow s a1).pending = s.pending := by
  simp only [narrow, apply_ite State.pending, ite_self]

@[simp] theorem countHit_rtc (s : State) : (countHit s).rtc = s.rtc := by
  simp only [countHit]; (repeat' split) <;> simp [apply_ite State.rtc]

@[simp] theorem countHit_pending (s : State) : (countHit s).pending = s.pending := by
  simp only [countHit]; (repeat' split) <;> simp [apply_ite State.pending]

@[simp] theorem hitNew_rtc (s : State) a1 : (hitNew s a1).rtc = s.rtc := by
  simp only [hitNew]; (repeat' split) <;> simp [apply_ite State.rtc]

@[simp] theorem hitNew_pending (s : State) a1 : (hitNew s a1).pending = s.pending := by
  simp only [hitNew]; (repeat' split) <;> simp [apply_ite State.pending]

@[simp] theorem hitTwin_rtc (s : State) a1 a2 : (hitTwin s a1 a2).rtc = s.rtc := by
  simp only [hitTwin]; (repeat' split) <;> simp [apply_ite State.rtc]

@[simp] theorem hitTwin_pending (s : State) a1 a2 : (hitTwin s a1 a2).pending = s.pending := by
  simp only [hitTwin]; (repeat' split) <;> simp [apply_ite State.pending]

@[simp] theorem useHit_rtc (s : State) a1 : (useHit s a1).rtc = s.rtc := by
  simp only [useHit]; (repeat' split) <;> simp [apply_ite State.rtc]

@[simp] theorem useHit_pending (s : State) a1 : (useHit s a1).pending = s.pending := by
  simp only [useHit]; (repeat' split) <;> simp [apply_ite State.pending]

@[simp] theorem dropItem_rtc (s : State) : (dropItem s).rtc = s.rtc := by
  simp only [dropItem, apply_ite State.rtc, ite_self]

@[simp] theorem dropItem_pending (s : State) : (dropItem s).pending = s.pending := by
  simp only [dropItem, apply_ite State.pending, ite_self]

@[simp] theorem afterCell_rtc (s : State) : (afterCell s).rtc = s.rtc := by
  simp only [afterCell]; (repeat' split) <;> simp [apply_ite State.rtc]

@[simp] theorem afterCell_pending (s : State) : (afterCell s).pending = s.pending := by
  simp only [afterCell]; (repeat' split) <;> simp [apply_ite State.pending]

@[simp] theorem confirmHit_rtc (s : State) a1 a2 : (confirmHit s a1 a2).rtc = s.rtc := by
  simp [confirmHit, apply_ite State.rtc]

@[simp] theorem confirmHit_pending (s : State) a1 a2 : (confirmHit s a1 a2).pending = s.pending := by
  simp [confirmHit, apply_ite State.pending]

@[simp] theorem cellDone_rtc (s : State) a1 a2 a3 a4 : (cellDone s a1 a2 a3 a4).rtc = s.rtc := by
  simp only [cellDone]; (repeat' split) <;> simp [apply_ite State.rtc]

@[simp] theorem cellDone_pending (s : State) a1 a2 a3 a4 : (cellDone s a1 a2 a3 a4).pending = s.pending := by
  simp only [cellDone]; (repeat' split) <;> simp [apply_ite State.pending]

/-! ### Track -/

@[simp] theorem holdEph_rtc (s : State) a1 a2 : (holdEph s a1 a2).rtc = s.rtc := by
  simp only [holdEph]; (repeat' split) <;> simp [apply_ite State.rtc]

@[simp] theorem holdEph_pending (s : State) a1 a2 : (holdEph s a1 a2).pending = s.pending := by
  simp only [holdEph]; (repeat' split) <;> simp [apply_ite State.pending]

@[simp] theorem useLnav_rtc (s : State) a1 a2 : (useLnav s a1 a2).rtc = s.rtc := by
  simp only [useLnav]; (repeat' split) <;> simp [apply_ite State.rtc]

@[simp] theorem useLnav_pending (s : State) a1 a2 : (useLnav s a1 a2).pending = s.pending := by
  simp only [useLnav]; (repeat' split) <;> simp [apply_ite State.pending]

@[simp] theorem passLead_rtc (s : State) (p : Nat) (x : Pan) : (passLead s p x).rtc = s.rtc := by
  unfold passLead
  split
  · rfl
  · split <;> simp

@[simp] theorem passLead_pending (s : State) (p : Nat) (x : Pan) : (passLead s p x).pending = s.pending := by
  unfold passLead
  split
  · rfl
  · split <;> simp

@[simp] theorem suspendPan_rtc (s : State) (p : Nat) : (suspendPan s p).rtc = s.rtc := by
  unfold suspendPan
  split
  · rfl
  · dsimp only; rw [modPan_rtc]; split <;> simp

@[simp] theorem suspendPan_pending (s : State) (p : Nat) : (suspendPan s p).pending = s.pending := by
  unfold suspendPan
  split
  · rfl
  · dsimp only; rw [modPan_pending]; split <;> simp

@[simp] theorem restorePan_rtc (s : State) : (restorePan s).rtc = s.rtc := by
  unfold restorePan
  cases s.pace.suspOrder <;> simp

@[simp] theorem restorePan_pending (s : State) : (restorePan s).pending = s.pending := by
  unfold restorePan
  cases s.pace.suspOrder <;> simp

/-! ### Solve -/

@[simp] theorem stepSpoof_rtc (s : State) a1 : (stepSpoof s a1).rtc = s.rtc := by
  simp [stepSpoof, apply_ite State.rtc]

@[simp] theorem stepSpoof_pending (s : State) a1 : (stepSpoof s a1).pending = s.pending := by
  simp [stepSpoof, apply_ite State.pending]

@[simp] theorem rebase_rtc (s : State) a1 a2 : (rebase s a1 a2).rtc = s.rtc := by
  simp [rebase, apply_ite State.rtc]

@[simp] theorem rebase_pending (s : State) a1 a2 : (rebase s a1 a2).pending = s.pending := by
  simp [rebase, apply_ite State.pending]

@[simp] theorem correct_rtc (s : State) a1 a2 : (correct s a1 a2).rtc = s.rtc := by
  simp [correct, apply_ite State.rtc]

@[simp] theorem correct_pending (s : State) a1 a2 : (correct s a1 a2).pending = s.pending := by
  simp [correct, apply_ite State.pending]

@[simp] theorem stepFine_rtc (s : State) a1 : (stepFine s a1).rtc = s.rtc := by
  simp only [stepFine]; (repeat' split) <;> simp [apply_ite State.rtc]

@[simp] theorem stepFine_pending (s : State) a1 : (stepFine s a1).pending = s.pending := by
  simp only [stepFine]; (repeat' split) <;> simp [apply_ite State.pending]

@[simp] theorem tqAccept_rtc (s : State) a1 : (tqAccept s a1).rtc = s.rtc := by
  simp only [tqAccept]; (repeat' split) <;> simp [apply_ite State.rtc]

@[simp] theorem tqAccept_pending (s : State) a1 : (tqAccept s a1).pending = s.pending := by
  simp only [tqAccept]; (repeat' split) <;> simp [apply_ite State.pending]

@[simp] theorem acceptTime_rtc (s : State) a1 a2 : (acceptTime s a1 a2).rtc = s.rtc := by
  simp [acceptTime, apply_ite State.rtc]

@[simp] theorem acceptTime_pending (s : State) a1 a2 : (acceptTime s a1 a2).pending = s.pending := by
  simp [acceptTime, apply_ite State.pending]

@[simp] theorem stepPos_rtc (s : State) a1 a2 : (stepPos s a1 a2).rtc = s.rtc := by
  simp only [stepPos, apply_ite State.rtc, ite_self]

@[simp] theorem stepPos_pending (s : State) a1 a2 : (stepPos s a1 a2).pending = s.pending := by
  simp only [stepPos, apply_ite State.pending, ite_self]

@[simp] theorem stepSurvey_rtc (s : State) a1 a2 : (stepSurvey s a1 a2).rtc = s.rtc := by
  simp only [stepSurvey]; (repeat' split) <;> simp [apply_ite State.rtc]

@[simp] theorem stepSurvey_pending (s : State) a1 a2 : (stepSurvey s a1 a2).pending = s.pending := by
  simp only [stepSurvey]; (repeat' split) <;> simp [apply_ite State.pending]

@[simp] theorem takeRef_rtc (s : State) a1 a2 : (takeRef s a1 a2).rtc = s.rtc := by
  simp [takeRef, apply_ite State.rtc]

@[simp] theorem takeRef_pending (s : State) a1 a2 : (takeRef s a1 a2).pending = s.pending := by
  simp [takeRef, apply_ite State.pending]

@[simp] theorem accept_rtc (s : State) a1 a2 : (accept s a1 a2).1.rtc = s.rtc := by
  simp only [accept]; (repeat' split) <;> simp [apply_ite State.rtc]

@[simp] theorem accept_pending (s : State) a1 a2 : (accept s a1 a2).1.pending = s.pending := by
  simp only [accept]; (repeat' split) <;> simp [apply_ite State.pending]

@[simp] theorem newEphemeris_rtc (s : State) : (newEphemeris s).rtc = s.rtc := by
  simp only [newEphemeris, apply_ite State.rtc, ite_self]

@[simp] theorem newEphemeris_pending (s : State) : (newEphemeris s).pending = s.pending := by
  simp only [newEphemeris, apply_ite State.pending, ite_self]

@[simp] theorem mirrorSolution_rtc (s : State) : (mirrorSolution s).rtc = s.rtc := by
  simp [mirrorSolution, apply_ite State.rtc]

@[simp] theorem mirrorSolution_pending (s : State) : (mirrorSolution s).pending = s.pending := by
  simp [mirrorSolution, apply_ite State.pending]

@[simp] theorem endEpoch_rtc (s : State) : (endEpoch s).rtc = s.rtc := by
  simp [endEpoch, apply_ite State.rtc]

@[simp] theorem endEpoch_pending (s : State) : (endEpoch s).pending = s.pending := by
  simp [endEpoch, apply_ite State.pending]

@[simp] theorem rejectSol_rtc (s : State) : (rejectSol s).rtc = s.rtc := by
  simp only [rejectSol]; (repeat' split) <;> simp [apply_ite State.rtc]

@[simp] theorem rejectSol_pending (s : State) : (rejectSol s).pending = s.pending := by
  simp only [rejectSol]; (repeat' split) <;> simp [apply_ite State.pending]

@[simp] theorem autoTwin_rtc (s : State) a1 : (autoTwin s a1).rtc = s.rtc := by
  unfold autoTwin
  split
  · split
    · next h =>
      obtain ⟨x, -, h⟩ := Option.bind_eq_some_iff.mp h
      exact requestTwin_rtc h
    · rfl
  · rfl

@[simp] theorem autoTwin_pending (s : State) a1 : (autoTwin s a1).pending = s.pending := by
  unfold autoTwin
  split
  · split
    · next h =>
      obtain ⟨x, -, h⟩ := Option.bind_eq_some_iff.mp h
      exact requestTwin_pending h
    · rfl
  · rfl

@[simp] theorem solve_rtc (s : State) a1 : (solve s a1).rtc = s.rtc := by
  simp only [solve]; (repeat' split) <;> simp [apply_ite State.rtc]

@[simp] theorem solve_pending (s : State) a1 : (solve s a1).pending = s.pending := by
  simp only [solve]; (repeat' split) <;> simp [apply_ite State.pending]

@[simp] theorem restartSurvey_rtc (s : State) : (restartSurvey s).rtc = s.rtc := by
  simp only [restartSurvey, apply_ite State.rtc, ite_self]

@[simp] theorem restartSurvey_pending (s : State) : (restartSurvey s).pending = s.pending := by
  simp only [restartSurvey, apply_ite State.pending, ite_self]

@[simp] theorem rebaseInteg_rtc (s : State) : (rebaseInteg s).rtc = s.rtc := by
  simp [rebaseInteg, apply_ite State.rtc]

@[simp] theorem rebaseInteg_pending (s : State) : (rebaseInteg s).pending = s.pending := by
  simp [rebaseInteg, apply_ite State.pending]

/-! ### Write -/

@[simp] theorem mapPans_rtc (s : State) a1 : (mapPans s a1).rtc = s.rtc := by
  simp only [mapPans, apply_ite State.rtc, ite_self]

@[simp] theorem mapPans_pending (s : State) a1 : (mapPans s a1).pending = s.pending := by
  simp only [mapPans, apply_ite State.pending, ite_self]

@[simp] theorem placeRing_rtc (s : State) a1 : (placeRing s a1).rtc = s.rtc := by
  simp [placeRing, apply_ite State.rtc]

@[simp] theorem placeRing_pending (s : State) a1 : (placeRing s a1).pending = s.pending := by
  simp [placeRing, apply_ite State.pending]

@[simp] theorem keepPace_rtc (s : State) a1 a2 : (keepPace s a1 a2).rtc = s.rtc := by
  simp only [keepPace]; (repeat' split) <;> simp [apply_ite State.rtc]

@[simp] theorem keepPace_pending (s : State) a1 a2 : (keepPace s a1 a2).pending = s.pending := by
  simp only [keepPace]; (repeat' split) <;> simp [apply_ite State.pending]

@[simp] theorem paramHook_rtc (s : State) a1 a2 : (paramHook s a1 a2).rtc = s.rtc := by
  simp [paramHook, apply_ite State.rtc]

@[simp] theorem paramHook_pending (s : State) a1 a2 : (paramHook s a1 a2).pending = s.pending := by
  simp [paramHook, apply_ite State.pending]

@[simp] theorem markDirty_rtc (s : State) a1 : (markDirty s a1).rtc = s.rtc := by
  simp only [markDirty, apply_ite State.rtc, ite_self]

@[simp] theorem markDirty_pending (s : State) a1 : (markDirty s a1).pending = s.pending := by
  simp only [markDirty, apply_ite State.pending, ite_self]

@[simp] theorem hardLive_rtc (s : State) a1 a2 : (hardLive s a1 a2).rtc = s.rtc := by
  simp only [hardLive]; (repeat' split) <;> simp [apply_ite State.rtc]

@[simp] theorem hardLive_pending (s : State) a1 a2 : (hardLive s a1 a2).pending = s.pending := by
  simp only [hardLive]; (repeat' split) <;> simp [apply_ite State.pending]

@[simp] theorem paramLive_rtc (s : State) a1 a2 : (paramLive s a1 a2).rtc = s.rtc := by
  simp [paramLive, apply_ite State.rtc]

@[simp] theorem paramLive_pending (s : State) a1 a2 : (paramLive s a1 a2).pending = s.pending := by
  simp [paramLive, apply_ite State.pending]

@[simp] theorem paramsLive_rtc (s : State) (l : List (Nat × Int)) : (paramsLive s l).rtc = s.rtc := by
  unfold paramsLive
  dsimp only
  rw [foldl_rtc _ (fun s p => paramHook_rtc s _ _), foldl_rtc]
  intro s p
  simp

@[simp] theorem paramsLive_pending (s : State) (l : List (Nat × Int)) : (paramsLive s l).pending = s.pending := by
  unfold paramsLive
  dsimp only
  rw [foldl_pending _ (fun s p => paramHook_pending s _ _), foldl_pending]
  intro s p
  simp

@[simp] theorem setTxn_rtc (s : State) a1 a2 : (setTxn s a1 a2).rtc = s.rtc := by
  simp [setTxn, apply_ite State.rtc]

@[simp] theorem setTxn_pending (s : State) a1 a2 : (setTxn s a1 a2).pending = s.pending := by
  simp [setTxn, apply_ite State.pending]

@[simp] theorem paramWrite_rtc (s : State) a1 a2 a3 : (paramWrite s a1 a2 a3).1.rtc = s.rtc := by
  simp only [paramWrite]; (repeat' split) <;> simp [apply_ite State.rtc]

@[simp] theorem paramWrite_pending (s : State) a1 a2 a3 : (paramWrite s a1 a2 a3).1.pending = s.pending := by
  simp only [paramWrite]; (repeat' split) <;> simp [apply_ite State.pending]

@[simp] theorem txnBegin_rtc (s : State) a1 : (txnBegin s a1).1.rtc = s.rtc := by
  simp only [txnBegin]; (repeat' split) <;> simp [apply_ite State.rtc]

@[simp] theorem txnBegin_pending (s : State) a1 : (txnBegin s a1).1.pending = s.pending := by
  simp only [txnBegin]; (repeat' split) <;> simp [apply_ite State.pending]

@[simp] theorem txnCommit_rtc (s : State) a1 a2 : (txnCommit s a1 a2).1.rtc = s.rtc := by
  simp only [txnCommit]; (repeat' split) <;> simp [apply_ite State.rtc]

@[simp] theorem txnCommit_pending (s : State) a1 a2 : (txnCommit s a1 a2).1.pending = s.pending := by
  simp only [txnCommit]; (repeat' split) <;> simp [apply_ite State.pending]

@[simp] theorem txnRollback_rtc (s : State) a1 : (txnRollback s a1).1.rtc = s.rtc := by
  simp only [txnRollback]; (repeat' split) <;> simp [apply_ite State.rtc]

@[simp] theorem txnRollback_pending (s : State) a1 : (txnRollback s a1).1.pending = s.pending := by
  simp only [txnRollback]; (repeat' split) <;> simp [apply_ite State.pending]

@[simp] theorem applyPending_rtc (s : State) a1 : (applyPending s a1).rtc = s.rtc := by
  simp [applyPending, apply_ite State.rtc]

@[simp] theorem applyPending_pending (s : State) a1 : (applyPending s a1).pending = s.pending := by
  simp [applyPending, apply_ite State.pending]

@[simp] theorem applyAllPending_rtc (s : State) : (applyAllPending s).rtc = s.rtc :=
  foldl_rtc _ applyPending_rtc allCls s

@[simp] theorem applyAllPending_pending (s : State) : (applyAllPending s).pending = s.pending :=
  foldl_pending _ applyPending_pending allCls s

@[simp] theorem loseTxn_rtc (s : State) a1 : (loseTxn s a1).rtc = s.rtc := by
  simp [loseTxn, apply_ite State.rtc]

@[simp] theorem loseTxn_pending (s : State) a1 : (loseTxn s a1).pending = s.pending := by
  simp [loseTxn, apply_ite State.pending]

@[simp] theorem loseAllTxn_rtc (s : State) : (loseAllTxn s).rtc = s.rtc := foldl_rtc _ loseTxn_rtc allCls s

@[simp] theorem loseAllTxn_pending (s : State) : (loseAllTxn s).pending = s.pending := foldl_pending _ loseTxn_pending allCls s

@[simp] theorem slotCall_rtc (s : State) (f : State → State) (h : (f s).rtc = s.rtc) : (slotCall s f).rtc = s.rtc := by
  unfold slotCall; split <;> simp [h]

@[simp] theorem slotCall_pending (s : State) (f : State → State) (h : (f s).pending = s.pending) : (slotCall s f).pending = s.pending := by
  unfold slotCall; split <;> simp [h]

@[simp] theorem rtCall_rtc (s : State) a1 a2 : (rtCall s a1 a2).rtc = s.rtc := by
  simp only [rtCall]; (repeat' split) <;> simp [apply_ite State.rtc]

@[simp] theorem rtCall_pending (s : State) a1 a2 : (rtCall s a1 a2).pending = s.pending := by
  simp only [rtCall]; (repeat' split) <;> simp [apply_ite State.pending]

@[simp] theorem rtCalls_rtc (s : State) (k : CoreId) (l : List RtCall) : (rtCalls s k l).rtc = s.rtc :=
  foldl_rtc _ (fun s x => rtCall_rtc s k x) l s

@[simp] theorem rtCalls_pending (s : State) (k : CoreId) (l : List RtCall) : (rtCalls s k l).pending = s.pending :=
  foldl_pending _ (fun s x => rtCall_pending s k x) l s

@[simp] theorem errResponse_rtc (s : State) a1 a2 a3 a4 : (errResponse s a1 a2 a3 a4).rtc = s.rtc := by
  simp [errResponse, apply_ite State.rtc]

@[simp] theorem errResponse_pending (s : State) a1 a2 a3 a4 : (errResponse s a1 a2 a3 a4).pending = s.pending := by
  simp [errResponse, apply_ite State.pending]

/-! ### Calib -/

@[simp] theorem calApply_rtc (s : State) : (calApply s).rtc = s.rtc := by
  unfold calApply
  rw [foldl_rtc]
  intro s p
  rfl

@[simp] theorem calApply_pending (s : State) : (calApply s).pending = s.pending := by
  unfold calApply
  rw [foldl_pending]
  intro s p
  rfl

@[simp] theorem calLoad_rtc (s : State) : (calLoad s).rtc = s.rtc := by
  unfold calLoad
  dsimp only
  rw [calApply_rtc, foldl_rtc]
  intro s p
  rfl

@[simp] theorem calLoad_pending (s : State) : (calLoad s).pending = s.pending := by
  unfold calLoad
  dsimp only
  rw [calApply_pending, foldl_pending]
  intro s p
  rfl

@[simp] theorem calOp_rtc (s : State) a1 : (calOp s a1).1.rtc = s.rtc := by
  simp only [calOp]; (repeat' split) <;> simp [apply_ite State.rtc]

@[simp] theorem calOp_pending (s : State) a1 : (calOp s a1).1.pending = s.pending := by
  simp only [calOp]; (repeat' split) <;> simp [apply_ite State.pending]

@[simp] theorem writeRtcTime_pending (s : State) a1 a2 a3 : (writeRtcTime s a1 a2 a3).1.pending = s.pending := by
  simp only [writeRtcTime]; (repeat' split) <;> simp [apply_ite State.pending]

@[simp] theorem writeRtcDate_pending (s : State) a1 a2 a3 : (writeRtcDate s a1 a2 a3).1.pending = s.pending := by
  simp only [writeRtcDate]; (repeat' split) <;> simp [apply_ite State.pending]

@[simp] theorem writeAlm_pending (s : State) a1 a2 a3 a4 : (writeAlm s a1 a2 a3 a4).1.pending = s.pending := by
  simp only [writeAlm]; (repeat' split) <;> simp [apply_ite State.pending]

@[simp] theorem writeHalt_pending (s : State) a1 : (writeHalt s a1).pending = s.pending := by
  simp only [writeHalt]; (repeat' split) <;> simp [apply_ite State.pending]

@[simp] theorem setOwner_rtc (s : State) (b : Nat) (o : BankOwner) : (setOwner s b o).rtc = s.rtc := by
  unfold setOwner
  dsimp only
  split
  · rfl
  · (repeat' split) <;> simp [State.nextFree]

@[simp] theorem setOwner_pending (s : State) (b : Nat) (o : BankOwner) : (setOwner s b o).pending = s.pending := by
  unfold setOwner
  dsimp only
  split
  · rfl
  · (repeat' split) <;> simp [State.nextFree]

@[simp] theorem setOwners_rtc (s : State) (v : Nat) : (setOwners s v).rtc = s.rtc :=
  foldl_rtc _ (fun s b => setOwner_rtc s _ _) (List.range 8) s

@[simp] theorem setOwners_pending (s : State) (v : Nat) : (setOwners s v).pending = s.pending :=
  foldl_pending _ (fun s b => setOwner_pending s _ _) (List.range 8) s

@[simp] theorem writeOwner_rtc (s : State) a1 a2 : (writeOwner s a1 a2).1.rtc = s.rtc := by
  simp only [writeOwner]; (repeat' split) <;> simp [apply_ite State.rtc]

@[simp] theorem writeOwner_pending (s : State) a1 a2 : (writeOwner s a1 a2).1.pending = s.pending := by
  simp only [writeOwner]; (repeat' split) <;> simp [apply_ite State.pending]

end Sys2Proof.Machine
end

