-- ==== Sys2Proof/Laws/FrameBlock.lean ====
section
/-! SUPPORT. Two frames of every operation: the RTC and the command queue. Here: the register, mirror, epoch, pace and command operations. -/

set_option linter.unusedSimpArgs false

namespace Sys2Proof.Machine

/-! ### Regs -/

@[simp] theorem bankRead_rtc (s : State) a1 a2 : (bankRead s a1 a2).1.rtc = s.rtc := by
  simp only [bankRead]; (repeat' split) <;> simp [apply_ite State.rtc]

@[simp] theorem bankRead_pending (s : State) a1 a2 : (bankRead s a1 a2).1.pending = s.pending := by
  simp only [bankRead]; (repeat' split) <;> simp [apply_ite State.pending]

@[simp] theorem regRead_rtc (s : State) a1 a2 a3 : (regRead s a1 a2 a3).1.rtc = s.rtc := by
  simp only [regRead]; (repeat' split) <;> simp [apply_ite State.rtc]

@[simp] theorem regRead_pending (s : State) a1 a2 a3 : (regRead s a1 a2 a3).1.pending = s.pending := by
  simp only [regRead]; (repeat' split) <;> simp [apply_ite State.pending]

@[simp] theorem takeLatch_rtc (s : State) a1 : (takeLatch s a1).rtc = s.rtc := by
  simp [takeLatch, apply_ite State.rtc]

@[simp] theorem takeLatch_pending (s : State) a1 : (takeLatch s a1).pending = s.pending := by
  simp [takeLatch, apply_ite State.pending]

@[simp] theorem popLog_rtc (s : State) : (popLog s).rtc = s.rtc := by
  simp only [popLog, apply_ite State.rtc, ite_self]

@[simp] theorem popLog_pending (s : State) : (popLog s).pending = s.pending := by
  simp only [popLog, apply_ite State.pending, ite_self]

@[simp] theorem readLo_rtc (s : State) a1 a2 : (readLo s a1 a2).rtc = s.rtc := by
  simp only [readLo]; (repeat' split) <;> simp [apply_ite State.rtc]

@[simp] theorem readLo_pending (s : State) a1 a2 : (readLo s a1 a2).pending = s.pending := by
  simp only [readLo]; (repeat' split) <;> simp [apply_ite State.pending]

@[simp] theorem readHi_rtc (s : State) a1 a2 : (readHi s a1 a2).rtc = s.rtc := by
  simp only [readHi]; (repeat' split) <;> simp [apply_ite State.rtc]

@[simp] theorem readHi_pending (s : State) a1 a2 : (readHi s a1 a2).pending = s.pending := by
  simp only [readHi]; (repeat' split) <;> simp [apply_ite State.pending]

@[simp] theorem disarm_rtc (s : State) a1 a2 : (disarm s a1 a2).rtc = s.rtc := by
  simp [disarm, apply_ite State.rtc]

@[simp] theorem disarm_pending (s : State) a1 a2 : (disarm s a1 a2).pending = s.pending := by
  simp [disarm, apply_ite State.pending]

@[simp] theorem progWrite_rtc (s : State) a1 a2 a3 : (progWrite s a1 a2 a3).1.rtc = s.rtc := by
  simp only [progWrite]; (repeat' split) <;> simp [apply_ite State.rtc]

@[simp] theorem progWrite_pending (s : State) a1 a2 a3 : (progWrite s a1 a2 a3).1.pending = s.pending := by
  simp only [progWrite]; (repeat' split) <;> simp [apply_ite State.pending]

@[simp] theorem bankWrite_rtc (s : State) a1 : (bankWrite s a1).1.rtc = s.rtc := by
  simp only [bankWrite]; (repeat' split) <;> simp [apply_ite State.rtc]

@[simp] theorem bankWrite_pending (s : State) a1 : (bankWrite s a1).1.pending = s.pending := by
  simp only [bankWrite]; (repeat' split) <;> simp [apply_ite State.pending]

@[simp] theorem writeDb_rtc (s : State) a1 a2 : (writeDb s a1 a2).1.rtc = s.rtc := by
  simp only [writeDb]; (repeat' split) <;> simp [apply_ite State.rtc]

@[simp] theorem writeDb_pending (s : State) a1 a2 : (writeDb s a1 a2).1.pending = s.pending := by
  simp only [writeDb]; (repeat' split) <;> simp [apply_ite State.pending]

@[simp] theorem writeWcs_rtc (s : State) a1 : (writeWcs s a1).1.rtc = s.rtc := by
  simp only [writeWcs]; (repeat' split) <;> simp [apply_ite State.rtc]

@[simp] theorem writeWcs_pending (s : State) a1 : (writeWcs s a1).1.pending = s.pending := by
  simp only [writeWcs]; (repeat' split) <;> simp [apply_ite State.pending]

@[simp] theorem writeTxn_rtc (s : State) a1 a2 : (writeTxn s a1 a2).1.rtc = s.rtc := by
  simp only [writeTxn]; (repeat' split) <;> simp [apply_ite State.rtc]

@[simp] theorem writeTxn_pending (s : State) a1 a2 : (writeTxn s a1 a2).1.pending = s.pending := by
  simp only [writeTxn]; (repeat' split) <;> simp [apply_ite State.pending]

@[simp] theorem writeDbg_rtc (s : State) a1 : (writeDbg s a1).rtc = s.rtc := by
  simp [writeDbg, apply_ite State.rtc]

@[simp] theorem writeDbg_pending (s : State) a1 : (writeDbg s a1).pending = s.pending := by
  simp [writeDbg, apply_ite State.pending]

@[simp] theorem writeIrq_rtc (s : State) a1 a2 a3 a4 : (writeIrq s a1 a2 a3 a4).rtc = s.rtc := by
  simp [writeIrq, apply_ite State.rtc]

@[simp] theorem writeIrq_pending (s : State) a1 a2 a3 a4 : (writeIrq s a1 a2 a3 a4).pending = s.pending := by
  simp [writeIrq, apply_ite State.pending]

@[simp] theorem writeStat_pending (s : State) a1 a2 a3 a4 : (writeStat s a1 a2 a3 a4).pending = s.pending := by
  simp only [writeStat]; (repeat' split) <;> simp [apply_ite State.pending]

@[simp] theorem regPut_pending (s : State) a1 a2 a3 a4 a5 : (regPut s a1 a2 a3 a4 a5).1.pending = s.pending := by
  simp only [regPut]; (repeat' split) <;> simp_all [apply_ite State.pending]

@[simp] theorem autoInc_rtc (s : State) a1 a2 a3 a4 : (autoInc s a1 a2 a3 a4).rtc = s.rtc := by
  simp [autoInc, apply_ite State.rtc]

@[simp] theorem autoInc_pending (s : State) a1 a2 a3 a4 : (autoInc s a1 a2 a3 a4).pending = s.pending := by
  simp [autoInc, apply_ite State.pending]

/-! ### Bus -/

@[simp] theorem dropHold_rtc (s : State) a1 : (dropHold s a1).rtc = s.rtc := by
  simp [dropHold, apply_ite State.rtc]

@[simp] theorem dropHold_pending (s : State) a1 : (dropHold s a1).pending = s.pending := by
  simp [dropHold, apply_ite State.pending]

@[simp] theorem advance_rtc (s : State) a1 : (advance s a1).rtc = s.rtc := by
  simp only [advance, apply_ite State.rtc, ite_self]

@[simp] theorem advance_pending (s : State) a1 : (advance s a1).pending = s.pending := by
  simp only [advance, apply_ite State.pending, ite_self]

@[simp] theorem busPut_pending (s : State) a1 a2 a3 : (busPut s a1 a2 a3).1.pending = s.pending := by
  simp only [busPut]; (repeat' split) <;> simp [apply_ite State.pending]

@[simp] theorem hostWrite_pending (s : State) a1 : (hostWrite s a1).pending = s.pending := by
  simp only [hostWrite]; (repeat' split) <;> simp [apply_ite State.pending]

@[simp] theorem hostRead_rtc (s : State) a1 : (hostRead s a1).rtc = s.rtc := by
  simp only [hostRead]; (repeat' split) <;> simp [apply_ite State.rtc]

@[simp] theorem hostRead_pending (s : State) a1 : (hostRead s a1).pending = s.pending := by
  simp only [hostRead]; (repeat' split) <;> simp [apply_ite State.pending]

/-! ### Mirror -/

@[simp] theorem noteMirror_rtc (s : State) a1 a2 : (noteMirror s a1 a2).rtc = s.rtc := by
  simp [noteMirror, apply_ite State.rtc]

@[simp] theorem noteMirror_pending (s : State) a1 a2 : (noteMirror s a1 a2).pending = s.pending := by
  simp [noteMirror, apply_ite State.pending]

@[simp] theorem setMirStat_rtc (s : State) a1 a2 : (setMirStat s a1 a2).rtc = s.rtc := by
  simp [setMirStat, apply_ite State.rtc]

@[simp] theorem setMirStat_pending (s : State) a1 a2 : (setMirStat s a1 a2).pending = s.pending := by
  simp [setMirStat, apply_ite State.pending]

@[simp] theorem mirrorPans_rtc (s : State) : (mirrorPans s).rtc = s.rtc :=
  foldl_rtc _ (fun s y => queueFrame_rtc s _ _) _ s

@[simp] theorem mirrorPans_pending (s : State) : (mirrorPans s).pending = s.pending :=
  foldl_pending _ (fun s y => queueFrame_pending s _ _) _ s

@[simp] theorem mirrorWords_rtc (s : State) (b w n : Nat) : (mirrorWords s b w n).rtc = s.rtc := by
  unfold mirrorWords
  split
  · refine foldl_rtc _ (fun s i => ?_) _ s
    split <;> simp
  · simp

@[simp] theorem mirrorWords_pending (s : State) (b w n : Nat) : (mirrorWords s b w n).pending = s.pending := by
  unfold mirrorWords
  split
  · refine foldl_pending _ (fun s i => ?_) _ s
    split <;> simp
  · simp

@[simp] theorem mirrorB4_rtc (s : State) : (mirrorB4 s).rtc = s.rtc := by
  unfold mirrorB4
  split
  · rfl
  · exact foldl_rtc _ (fun s c => mirrorWords_rtc s _ _ _) _ s

@[simp] theorem mirrorB4_pending (s : State) : (mirrorB4 s).pending = s.pending := by
  unfold mirrorB4
  split
  · rfl
  · exact foldl_pending _ (fun s c => mirrorWords_pending s _ _ _) _ s

@[simp] theorem mirrorSlots_rtc (s : State) : (mirrorSlots s).rtc = s.rtc :=
  foldl_rtc _ (fun s y => mirrorSlot_rtc s _) _ s

@[simp] theorem mirrorSlots_pending (s : State) : (mirrorSlots s).pending = s.pending :=
  foldl_pending _ (fun s y => mirrorSlot_pending s _) _ s

@[simp] theorem mirrorPass_rtc (s : State) : (mirrorPass s).rtc = s.rtc := by
  simp [mirrorPass, apply_ite State.rtc]

@[simp] theorem mirrorPass_pending (s : State) : (mirrorPass s).pending = s.pending := by
  simp [mirrorPass, apply_ite State.pending]

@[simp] theorem mirrorEpoch_rtc (s : State) : (mirrorEpoch s).rtc = s.rtc := by
  simp [mirrorEpoch, apply_ite State.rtc]

@[simp] theorem mirrorEpoch_pending (s : State) : (mirrorEpoch s).pending = s.pending := by
  simp [mirrorEpoch, apply_ite State.pending]

@[simp] theorem drawNonce_rtc (s : State) : (drawNonce s).rtc = s.rtc := by
  simp [drawNonce, apply_ite State.rtc]

@[simp] theorem drawNonce_pending (s : State) : (drawNonce s).pending = s.pending := by
  simp [drawNonce, apply_ite State.pending]

@[simp] theorem pcuOff_rtc (s : State) : (pcuOff s).rtc = s.rtc := by
  simp [pcuOff, apply_ite State.rtc]

@[simp] theorem pcuOff_pending (s : State) : (pcuOff s).pending = s.pending := by
  simp [pcuOff, apply_ite State.pending]

@[simp] theorem pcuStart_rtc (s : State) : (pcuStart s).rtc = s.rtc := by
  simp [pcuStart, apply_ite State.rtc]

@[simp] theorem pcuStart_pending (s : State) : (pcuStart s).pending = s.pending := by
  simp [pcuStart, apply_ite State.pending]

@[simp] theorem endHeldOps_rtc (s : State) : (endHeldOps s).rtc = s.rtc := by
  unfold endHeldOps
  dsimp only
  rw [foldl_rtc]
  intro s n
  split <;> rfl

@[simp] theorem endHeldOps_pending (s : State) : (endHeldOps s).pending = s.pending := by
  unfold endHeldOps
  dsimp only
  rw [foldl_pending]
  intro s n
  split <;> rfl

@[simp] theorem linkStart_rtc (s : State) : (linkStart s).rtc = s.rtc := by
  simp only [linkStart, apply_ite State.rtc, ite_self]

@[simp] theorem linkStart_pending (s : State) : (linkStart s).pending = s.pending := by
  simp only [linkStart, apply_ite State.pending, ite_self]

@[simp] theorem linkStop_rtc (s : State) : (linkStop s).rtc = s.rtc := by
  simp [linkStop, apply_ite State.rtc]

@[simp] theorem linkStop_pending (s : State) : (linkStop s).pending = s.pending := by
  simp [linkStop, apply_ite State.pending]

@[simp] theorem setRole_rtc (s : State) a1 : (setRole s a1).rtc = s.rtc := by
  simp only [setRole]; (repeat' split) <;> simp [apply_ite State.rtc]

@[simp] theorem setRole_pending (s : State) a1 : (setRole s a1).pending = s.pending := by
  simp only [setRole]; (repeat' split) <;> simp [apply_ite State.pending]

@[simp] theorem stepConflict_rtc (s : State) a1 : (stepConflict s a1).rtc = s.rtc := by
  simp only [stepConflict]; (repeat' split) <;> simp [apply_ite State.rtc]

@[simp] theorem stepConflict_pending (s : State) a1 : (stepConflict s a1).pending = s.pending := by
  simp only [stepConflict]; (repeat' split) <;> simp [apply_ite State.pending]

@[simp] theorem goodFrame_rtc (s : State) : (goodFrame s).rtc = s.rtc := by
  simp [goodFrame, apply_ite State.rtc]

@[simp] theorem goodFrame_pending (s : State) : (goodFrame s).pending = s.pending := by
  simp [goodFrame, apply_ite State.pending]

@[simp] theorem ackOf_rtc (s : State) a1 : (ackOf s a1).rtc = s.rtc := by
  simp [ackOf, apply_ite State.rtc]

@[simp] theorem ackOf_pending (s : State) a1 : (ackOf s a1).pending = s.pending := by
  simp [ackOf, apply_ite State.pending]

@[simp] theorem stepFireSeen_rtc (s : State) a1 : (stepFireSeen s a1).rtc = s.rtc := by
  simp only [stepFireSeen, apply_ite State.rtc, ite_self]

@[simp] theorem stepFireSeen_pending (s : State) a1 : (stepFireSeen s a1).pending = s.pending := by
  simp only [stepFireSeen, apply_ite State.pending, ite_self]

@[simp] theorem takeIdle_rtc a0 (s : State) : (takeIdle a0 s).rtc = s.rtc := by
  simp [takeIdle, apply_ite State.rtc]

@[simp] theorem takeIdle_pending a0 (s : State) : (takeIdle a0 s).pending = s.pending := by
  simp [takeIdle, apply_ite State.pending]

@[simp] theorem gotContent_rtc (s : State) : (gotContent s).rtc = s.rtc := by
  simp only [gotContent, apply_ite State.rtc, ite_self]

@[simp] theorem gotContent_pending (s : State) : (gotContent s).pending = s.pending := by
  simp only [gotContent, apply_ite State.pending, ite_self]

@[simp] theorem standbyPan_rtc (s : State) a1 : (standbyPan s a1).rtc = s.rtc := by
  simp only [standbyPan]; (repeat' split) <;> simp [apply_ite State.rtc]

@[simp] theorem standbyPan_pending (s : State) a1 : (standbyPan s a1).pending = s.pending := by
  simp only [standbyPan]; (repeat' split) <;> simp [apply_ite State.pending]

@[simp] theorem takeState_rtc a0 (s : State) : (takeState a0 s).rtc = s.rtc := by
  simp [takeState, apply_ite State.rtc]

@[simp] theorem takeState_pending a0 (s : State) : (takeState a0 s).pending = s.pending := by
  simp [takeState, apply_ite State.pending]

@[simp] theorem putMirrored_rtc (b : Nat) (lost : List (BitVec 14)) (l : List Word) :
    ∀ (s : State) (w : Nat), (putMirrored s b lost w l).rtc = s.rtc := by
  induction l with
  | nil => intro s w; rfl
  | cons v vs ih => intro s w; rw [putMirrored, ih]; split <;> rfl

@[simp] theorem putMirrored_pending (b : Nat) (lost : List (BitVec 14)) (l : List Word) :
    ∀ (s : State) (w : Nat), (putMirrored s b lost w l).pending = s.pending := by
  induction l with
  | nil => intro s w; rfl
  | cons v vs ih => intro s w; rw [putMirrored, ih]; split <;> rfl

@[simp] theorem takeWords_rtc a0 a1 (s : State) : (takeWords a0 a1 s).rtc = s.rtc := by
  simp [takeWords, apply_ite State.rtc]

@[simp] theorem takeWords_pending a0 a1 (s : State) : (takeWords a0 a1 s).pending = s.pending := by
  simp [takeWords, apply_ite State.pending]

@[simp] theorem takeSlot_rtc a0 (s : State) : (takeSlot a0 s).rtc = s.rtc := by
  simp only [takeSlot]; (repeat' split) <;> simp [apply_ite State.rtc]

@[simp] theorem takeSlot_pending a0 (s : State) : (takeSlot a0 s).pending = s.pending := by
  simp only [takeSlot]; (repeat' split) <;> simp [apply_ite State.pending]

@[simp] theorem adoptLevels_rtc (s : State) a1 : (adoptLevels s a1).rtc = s.rtc := by
  simp [adoptLevels, apply_ite State.rtc]

@[simp] theorem adoptLevels_pending (s : State) a1 : (adoptLevels s a1).pending = s.pending := by
  simp [adoptLevels, apply_ite State.pending]

@[simp] theorem takeTake_rtc a0 (s : State) : (takeTake a0 s).rtc = s.rtc := by
  simp only [takeTake]; (repeat' split) <;> simp [apply_ite State.rtc]

@[simp] theorem takeTake_pending a0 (s : State) : (takeTake a0 s).pending = s.pending := by
  simp only [takeTake]; (repeat' split) <;> simp [apply_ite State.pending]

@[simp] theorem sendPairs_rtc : ∀ (s : State) (l : List Word), (sendPairs s l).rtc = s.rtc
  | s, [] => rfl
  | s, [_] => rfl
  | s, b :: w :: ws => by rw [sendPairs, sendPairs_rtc _ ws]; split <;> simp

@[simp] theorem sendPairs_pending : ∀ (s : State) (l : List Word), (sendPairs s l).pending = s.pending
  | s, [] => rfl
  | s, [_] => rfl
  | s, b :: w :: ws => by rw [sendPairs, sendPairs_pending _ ws]; split <;> simp

@[simp] theorem sendOut_rtc (s : State) a1 : (sendOut s a1).rtc = s.rtc := by
  simp only [sendOut, apply_ite State.rtc, ite_self]

@[simp] theorem sendOut_pending (s : State) a1 : (sendOut s a1).pending = s.pending := by
  simp only [sendOut, apply_ite State.pending, ite_self]

@[simp] theorem becomePrimary_rtc (s : State) a1 a2 : (becomePrimary s a1 a2).rtc = s.rtc := by
  simp [becomePrimary, apply_ite State.rtc]

@[simp] theorem becomePrimary_pending (s : State) a1 a2 : (becomePrimary s a1 a2).pending = s.pending := by
  simp [becomePrimary, apply_ite State.pending]

@[simp] theorem becomeStandby_rtc (s : State) a1 a2 : (becomeStandby s a1 a2).rtc = s.rtc := by
  simp [becomeStandby, apply_ite State.rtc]

@[simp] theorem becomeStandby_pending (s : State) a1 a2 : (becomeStandby s a1 a2).pending = s.pending := by
  simp [becomeStandby, apply_ite State.pending]

@[simp] theorem carryLattice_rtc (s : State) : (carryLattice s).rtc = s.rtc := by
  simp only [carryLattice]; (repeat' split) <;> simp [apply_ite State.rtc]

@[simp] theorem carryLattice_pending (s : State) : (carryLattice s).pending = s.pending := by
  simp only [carryLattice]; (repeat' split) <;> simp [apply_ite State.pending]

@[simp] theorem performMissed_rtc (s : State) : (performMissed s).rtc = s.rtc := by
  simp [performMissed, apply_ite State.rtc]

@[simp] theorem performMissed_pending (s : State) : (performMissed s).pending = s.pending := by
  simp [performMissed, apply_ite State.pending]

@[simp] theorem compareLost_rtc (s : State) a1 : (compareLost s a1).rtc = s.rtc := by
  simp [compareLost, apply_ite State.rtc]

@[simp] theorem compareLost_pending (s : State) a1 : (compareLost s a1).pending = s.pending := by
  simp [compareLost, apply_ite State.pending]

@[simp] theorem selfTest_rtc (s : State) a1 : (selfTest s a1).rtc = s.rtc := by
  simp [selfTest, apply_ite State.rtc]

@[simp] theorem selfTest_pending (s : State) a1 : (selfTest s a1).pending = s.pending := by
  simp [selfTest, apply_ite State.pending]

@[simp] theorem stepLocked_rtc (s : State) a1 : (stepLocked s a1).rtc = s.rtc := by
  simp [stepLocked, apply_ite State.rtc]

@[simp] theorem stepLocked_pending (s : State) a1 : (stepLocked s a1).pending = s.pending := by
  simp [stepLocked, apply_ite State.pending]

@[simp] theorem stepAccuse_rtc (s : State) : (stepAccuse s).rtc = s.rtc := by
  simp [stepAccuse, apply_ite State.rtc]

@[simp] theorem stepAccuse_pending (s : State) : (stepAccuse s).pending = s.pending := by
  simp [stepAccuse, apply_ite State.pending]

@[simp] theorem compareOnce_rtc (s : State) a1 : (compareOnce s a1).rtc = s.rtc := by
  simp only [compareOnce]; (repeat' split) <;> simp [apply_ite State.rtc]

@[simp] theorem compareOnce_pending (s : State) a1 : (compareOnce s a1).pending = s.pending := by
  simp only [compareOnce]; (repeat' split) <;> simp [apply_ite State.pending]

@[simp] theorem mirCompare_rtc (s : State) a1 : (mirCompare s a1).rtc = s.rtc := by
  simp [mirCompare, apply_ite State.rtc]

@[simp] theorem mirCompare_pending (s : State) a1 : (mirCompare s a1).pending = s.pending := by
  simp [mirCompare, apply_ite State.pending]

/-! ### Epoch -/

@[simp] theorem setNotch_rtc (s : State) a1 a2 : (setNotch s a1 a2).rtc = s.rtc := by
  simp [setNotch, apply_ite State.rtc]

@[simp] theorem setNotch_pending (s : State) a1 a2 : (setNotch s a1 a2).pending = s.pending := by
  simp [setNotch, apply_ite State.pending]

@[simp] theorem notchTo_rtc (s : State) a1 a2 a3 : (notchTo s a1 a2 a3).rtc = s.rtc := by
  simp [notchTo, apply_ite State.rtc]

@[simp] theorem notchTo_pending (s : State) a1 a2 a3 : (notchTo s a1 a2 a3).pending = s.pending := by
  simp [notchTo, apply_ite State.pending]

@[simp] theorem notchObs_rtc (q s : State) a1 a2 : (notchObs q s a1 a2).rtc = s.rtc := by
  simp [notchObs, apply_ite State.rtc]

@[simp] theorem notchObs_pending (q s : State) a1 a2 : (notchObs q s a1 a2).pending = s.pending := by
  simp [notchObs, apply_ite State.pending]

@[simp] theorem notchMode_rtc (q s : State) a1 : (notchMode q s a1).rtc = s.rtc := by
  simp [notchMode, apply_ite State.rtc]

@[simp] theorem notchMode_pending (q s : State) a1 : (notchMode q s a1).pending = s.pending := by
  simp [notchMode, apply_ite State.pending]

@[simp] theorem notchApart_rtc (q s : State) a1 : (notchApart q s a1).rtc = s.rtc := by
  simp [notchApart, apply_ite State.rtc]

@[simp] theorem notchApart_pending (q s : State) a1 : (notchApart q s a1).pending = s.pending := by
  simp [notchApart, apply_ite State.pending]

@[simp] theorem notchRestart_rtc (s : State) : (notchRestart s).rtc = s.rtc := by
  simp only [notchRestart, apply_ite State.rtc, ite_self]

@[simp] theorem notchRestart_pending (s : State) : (notchRestart s).pending = s.pending := by
  simp only [notchRestart, apply_ite State.pending, ite_self]

@[simp] theorem stepNotches_rtc (q s : State) a1 a2 : (stepNotches q s a1 a2).rtc = s.rtc := by
  simp [stepNotches, apply_ite State.rtc]

@[simp] theorem stepNotches_pending (q s : State) a1 a2 : (stepNotches q s a1 a2).pending = s.pending := by
  simp [stepNotches, apply_ite State.pending]

@[simp] theorem jamNote_rtc (s : State) a1 a2 a3 : (jamNote s a1 a2 a3).rtc = s.rtc := by
  simp [jamNote, apply_ite State.rtc]

@[simp] theorem jamNote_pending (s : State) a1 a2 a3 : (jamNote s a1 a2 a3).pending = s.pending := by
  simp [jamNote, apply_ite State.pending]

@[simp] theorem stepJam_rtc (s : State) a1 : (stepJam s a1).rtc = s.rtc := by
  simp [stepJam, apply_ite State.rtc]

@[simp] theorem stepJam_pending (s : State) a1 : (stepJam s a1).pending = s.pending := by
  simp [stepJam, apply_ite State.pending]

@[simp] theorem markGap_rtc (s : State) : (markGap s).rtc = s.rtc := by
  simp [markGap, apply_ite State.rtc]

@[simp] theorem markGap_pending (s : State) : (markGap s).pending = s.pending := by
  simp [markGap, apply_ite State.pending]

@[simp] theorem admitNow_rtc (s : State) a1 : (admitNow s a1).rtc = s.rtc := by
  simp [admitNow, apply_ite State.rtc]

@[simp] theorem admitNow_pending (s : State) a1 : (admitNow s a1).pending = s.pending := by
  simp [admitNow, apply_ite State.pending]

@[simp] theorem useTrims_rtc (s : State) : (useTrims s).rtc = s.rtc := by
  simp only [useTrims]; (repeat' split) <;> simp [apply_ite State.rtc]

@[simp] theorem useTrims_pending (s : State) : (useTrims s).pending = s.pending := by
  simp only [useTrims]; (repeat' split) <;> simp [apply_ite State.pending]

@[simp] theorem boundary_rtc (s : State) (o : EpochObs) : (boundary s o).rtc = s.rtc := by
  have calls (l : List (CoreId × RtCall)) (t : State) : (l.foldl (fun s x => rtCall s x.1 x.2) t).rtc = t.rtc :=
    foldl_rtc _ (fun s x => rtCall_rtc s x.1 x.2) l t
  unfold boundary
  dsimp only
  simp only [apply_ite State.rtc, calls, mirrorEpoch_rtc, State.modCores_rtc, ite_self, stepDwell_rtc, mapPans_rtc, admitNow_rtc,
    stepJam_rtc, stepNotches_rtc, markGap_rtc]
  split <;> simp

@[simp] theorem boundary_pending (s : State) (o : EpochObs) : (boundary s o).pending = s.pending := by
  have calls (l : List (CoreId × RtCall)) (t : State) : (l.foldl (fun s x => rtCall s x.1 x.2) t).pending = t.pending :=
    foldl_pending _ (fun s x => rtCall_pending s x.1 x.2) l t
  unfold boundary
  dsimp only
  simp only [apply_ite State.pending, calls, mirrorEpoch_pending, State.modCores_pending, ite_self, stepDwell_pending, mapPans_pending, admitNow_pending,
    stepJam_pending, stepNotches_pending, markGap_pending]
  split <;> simp

@[simp] theorem loadCalendar_pending (s : State) a1 : (loadCalendar s a1).pending = s.pending := by
  simp only [loadCalendar, apply_ite State.pending, ite_self]

/-! ### Pace -/

@[simp] theorem countSample_rtc (s : State) a1 : (countSample s a1).rtc = s.rtc := by
  simp only [countSample, apply_ite State.rtc, ite_self]

@[simp] theorem countSample_pending (s : State) a1 : (countSample s a1).pending = s.pending := by
  simp only [countSample, apply_ite State.pending, ite_self]

@[simp] theorem overrunSample_rtc (s : State) : (overrunSample s).rtc = s.rtc := by
  simp [overrunSample, apply_ite State.rtc]

@[simp] theorem overrunSample_pending (s : State) : (overrunSample s).pending = s.pending := by
  simp [overrunSample, apply_ite State.pending]

@[simp] theorem setUnread_rtc (s : State) a1 : (setUnread s a1).rtc = s.rtc := by
  simp only [setUnread]; repeat' (first | rfl | (split <;> simp [apply_ite State.rtc]))

@[simp] theorem setUnread_pending (s : State) a1 : (setUnread s a1).pending = s.pending := by
  simp only [setUnread]; repeat' (first | rfl | (split <;> simp [apply_ite State.pending]))

@[simp] theorem releaseBrine_rtc (s : State) : (releaseBrine s).rtc = s.rtc := by
  simp only [releaseBrine]; repeat' (first | rfl | (split <;> simp [apply_ite State.rtc]))

@[simp] theorem releaseBrine_pending (s : State) : (releaseBrine s).pending = s.pending := by
  simp only [releaseBrine]; repeat' (first | rfl | (split <;> simp [apply_ite State.pending]))

@[simp] theorem pushSample_rtc (s : State) a1 : (pushSample s a1).rtc = s.rtc := by
  simp only [pushSample]; (repeat' split) <;> simp [apply_ite State.rtc]

@[simp] theorem pushSample_pending (s : State) a1 : (pushSample s a1).pending = s.pending := by
  simp only [pushSample]; (repeat' split) <;> simp [apply_ite State.pending]

@[simp] theorem sclkFault_rtc (s : State) : (sclkFault s).rtc = s.rtc := by
  simp [sclkFault, apply_ite State.rtc]

@[simp] theorem sclkFault_pending (s : State) : (sclkFault s).pending = s.pending := by
  simp [sclkFault, apply_ite State.pending]

@[simp] theorem checkSclk_rtc (s : State) a1 : (checkSclk s a1).rtc = s.rtc := by
  simp [checkSclk, apply_ite State.rtc]

@[simp] theorem checkSclk_pending (s : State) a1 : (checkSclk s a1).pending = s.pending := by
  simp [checkSclk, apply_ite State.pending]

@[simp] theorem capturePhase_rtc (s : State) a1 : (capturePhase s a1).rtc = s.rtc := by
  simp [capturePhase, apply_ite State.rtc]

@[simp] theorem capturePhase_pending (s : State) a1 : (capturePhase s a1).pending = s.pending := by
  simp [capturePhase, apply_ite State.pending]

@[simp] theorem shedTo_rtc (s : State) : (shedTo s).rtc = s.rtc := by
  simp only [shedTo]; (repeat' split) <;> simp [apply_ite State.rtc]

@[simp] theorem shedTo_pending (s : State) : (shedTo s).pending = s.pending := by
  simp only [shedTo]; (repeat' split) <;> simp [apply_ite State.pending]

@[simp] theorem shedOne_rtc (n top : Nat) : ∀ s : State, (shedOne n top s).rtc = s.rtc := by
  induction n with
  | zero => intro s; rfl
  | succ n ih => intro s; rw [shedOne]; split <;> (try rfl); dsimp only; split <;> simp [ih]

@[simp] theorem shedOne_pending (n top : Nat) : ∀ s : State, (shedOne n top s).pending = s.pending := by
  induction n with
  | zero => intro s; rfl
  | succ n ih => intro s; rw [shedOne]; split <;> (try rfl); dsimp only; split <;> simp [ih]

@[simp] theorem shedAll_rtc (n top : Nat) : ∀ s : State, (shedAll n top s).rtc = s.rtc := by
  induction n with
  | zero => intro s; rfl
  | succ n ih => intro s; rw [shedAll]; split <;> simp [ih]

@[simp] theorem shedAll_pending (n top : Nat) : ∀ s : State, (shedAll n top s).pending = s.pending := by
  induction n with
  | zero => intro s; rfl
  | succ n ih => intro s; rw [shedAll]; split <;> simp [ih]

@[simp] theorem addShed_rtc (s : State) a1 : (addShed s a1).rtc = s.rtc := by
  simp only [addShed, apply_ite State.rtc, ite_self]

@[simp] theorem addShed_pending (s : State) a1 : (addShed s a1).pending = s.pending := by
  simp only [addShed, apply_ite State.pending, ite_self]

@[simp] theorem closeWindows_rtc (s : State) : (closeWindows s).rtc = s.rtc := by
  simp only [closeWindows]; repeat' (first | rfl | (split <;> simp [apply_ite State.rtc]))

@[simp] theorem closeWindows_pending (s : State) : (closeWindows s).pending = s.pending := by
  simp only [closeWindows]; repeat' (first | rfl | (split <;> simp [apply_ite State.pending]))

@[simp] theorem relapse_rtc (s : State) a1 : (relapse s a1).rtc = s.rtc := by
  simp only [relapse]; (repeat' split) <;> simp [apply_ite State.rtc]

@[simp] theorem relapse_pending (s : State) a1 : (relapse s a1).pending = s.pending := by
  simp only [relapse]; (repeat' split) <;> simp [apply_ite State.pending]

@[simp] theorem afterShed_rtc (s : State) a1 : (afterShed s a1).rtc = s.rtc := by
  simp [afterShed, apply_ite State.rtc]

@[simp] theorem afterShed_pending (s : State) a1 : (afterShed s a1).pending = s.pending := by
  simp [afterShed, apply_ite State.pending]

@[simp] theorem jumpShed_rtc (s : State) : (jumpShed s).rtc = s.rtc := by
  simp [jumpShed, apply_ite State.rtc]

@[simp] theorem jumpShed_pending (s : State) : (jumpShed s).pending = s.pending := by
  simp [jumpShed, apply_ite State.pending]

@[simp] theorem jumpCheck_rtc (s : State) : (jumpCheck s).rtc = s.rtc := by
  simp [jumpCheck, apply_ite State.rtc]

@[simp] theorem jumpCheck_pending (s : State) : (jumpCheck s).pending = s.pending := by
  simp [jumpCheck, apply_ite State.pending]

@[simp] theorem stepShed_rtc (s : State) : (stepShed s).rtc = s.rtc := by
  simp [stepShed, apply_ite State.rtc]

@[simp] theorem stepShed_pending (s : State) : (stepShed s).pending = s.pending := by
  simp [stepShed, apply_ite State.pending]

@[simp] theorem restoreAll_rtc (n : Nat) : ∀ s : State, (restoreAll n s).rtc = s.rtc := by
  induction n with
  | zero => intro s; rfl
  | succ n ih => intro s; rw [restoreAll]; cases s.pace.suspOrder <;> simp [ih]

@[simp] theorem restoreAll_pending (n : Nat) : ∀ s : State, (restoreAll n s).pending = s.pending := by
  induction n with
  | zero => intro s; rfl
  | succ n ih => intro s; rw [restoreAll]; cases s.pace.suspOrder <;> simp [ih]

@[simp] theorem restoreStep_rtc (s : State) : (restoreStep s).rtc = s.rtc := by
  simp [restoreStep, apply_ite State.rtc]

@[simp] theorem restoreStep_pending (s : State) : (restoreStep s).pending = s.pending := by
  simp [restoreStep, apply_ite State.pending]

@[simp] theorem paceCommand_rtc (s : State) a1 : (paceCommand s a1).rtc = s.rtc := by
  simp [paceCommand, apply_ite State.rtc]

@[simp] theorem paceCommand_pending (s : State) a1 : (paceCommand s a1).pending = s.pending := by
  simp [paceCommand, apply_ite State.pending]

@[simp] theorem endPeriod_rtc (s : State) : (endPeriod s).rtc = s.rtc := by
  simp only [endPeriod]; repeat' (first | rfl | (split <;> simp [apply_ite State.rtc]))

@[simp] theorem endPeriod_pending (s : State) : (endPeriod s).pending = s.pending := by
  simp only [endPeriod]; repeat' (first | rfl | (split <;> simp [apply_ite State.pending]))

@[simp] theorem pacePeriod_rtc (s : State) : (pacePeriod s).rtc = s.rtc := by
  simp [pacePeriod, apply_ite State.rtc]

@[simp] theorem pacePeriod_pending (s : State) : (pacePeriod s).pending = s.pending := by
  simp [pacePeriod, apply_ite State.pending]

/-! ### Fire -/

@[simp] theorem dueWake_rtc (s : State) a1 : (dueWake s a1).rtc = s.rtc := by
  simp [dueWake, apply_ite State.rtc]

@[simp] theorem dueWake_pending (s : State) a1 : (dueWake s a1).pending = s.pending := by
  simp [dueWake, apply_ite State.pending]

/-! ### Command -/

@[simp] theorem readBlock_rtc (b : Nat) (n : Nat) : ∀ (s : State) (w : Nat), (readBlock s b w n).1.rtc = s.rtc := by
  induction n with
  | zero => intro s w; rfl
  | succ n ih => intro s w; rw [readBlock]; dsimp only; rw [ih, demandRead_rtc]

@[simp] theorem readBlock_pending (b : Nat) (n : Nat) : ∀ (s : State) (w : Nat), (readBlock s b w n).1.pending = s.pending := by
  induction n with
  | zero => intro s w; rfl
  | succ n ih => intro s w; rw [readBlock]; dsimp only; rw [ih, demandRead_pending]

@[simp] theorem readCmd_rtc (s : State) a1 : (readCmd s a1).1.rtc = s.rtc := by
  simp only [readCmd]; (repeat' split) <;> simp [apply_ite State.rtc]

@[simp] theorem readCmd_pending (s : State) a1 : (readCmd s a1).1.pending = s.pending := by
  simp only [readCmd]; (repeat' split) <;> simp [apply_ite State.pending]

@[simp] theorem finish_rtc (s : State) a1 a2 a3 : (finish s a1 a2 a3).rtc = s.rtc := by
  simp [finish, apply_ite State.rtc]

@[simp] theorem finish_pending (s : State) a1 a2 a3 : (finish s a1 a2 a3).pending = s.pending := by
  simp [finish, apply_ite State.pending]

@[simp] theorem rouseSvc_rtc (s : State) : (rouseSvc s).rtc = s.rtc := by
  simp [rouseSvc, apply_ite State.rtc]

@[simp] theorem rouseSvc_pending (s : State) : (rouseSvc s).pending = s.pending := by
  simp [rouseSvc, apply_ite State.pending]

/-! ### Rake -/

@[simp] theorem clearInteg_rtc (s : State) : (clearInteg s).rtc = s.rtc := by
  simp only [clearInteg]; repeat' (first | rfl | (split <;> simp [apply_ite State.rtc]))

@[simp] theorem clearInteg_pending (s : State) : (clearInteg s).pending = s.pending := by
  simp only [clearInteg]; repeat' (first | rfl | (split <;> simp [apply_ite State.pending]))

@[simp] theorem rebuild_rtc (s : State) a1 a2 : (rebuild s a1 a2).rtc = s.rtc := by
  simp [rebuild, apply_ite State.rtc]

@[simp] theorem rebuild_pending (s : State) a1 a2 : (rebuild s a1 a2).pending = s.pending := by
  simp [rebuild, apply_ite State.pending]

@[simp] theorem notifyPoison_rtc (s : State) a1 a2 : (notifyPoison s a1 a2).rtc = s.rtc := by
  simp only [notifyPoison]; (repeat' split) <;> simp [apply_ite State.rtc]

@[simp] theorem notifyPoison_pending (s : State) a1 a2 : (notifyPoison s a1 a2).pending = s.pending := by
  simp only [notifyPoison]; (repeat' split) <;> simp [apply_ite State.pending]

@[simp] theorem rakeBank_rtc (s : State) a1 a2 a3 : (rakeBank s a1 a2 a3).rtc = s.rtc := by
  simp only [rakeBank]; (repeat' split) <;> simp [apply_ite State.rtc]

@[simp] theorem rakeBank_pending (s : State) a1 a2 a3 : (rakeBank s a1 a2 a3).pending = s.pending := by
  simp only [rakeBank]; (repeat' split) <;> simp [apply_ite State.pending]

end Sys2Proof.Machine
end

