-- ==== Sys2Proof/Laws/FrameCore.lean ====
section
/-! SUPPORT. Two frames of every operation: the RTC and the command queue. Here: the Galros, coprocessor, power-state and debug operations. -/

set_option linter.unusedSimpArgs false

namespace Sys2Proof.Machine

/-! ### Operands -/

@[simp] theorem setW_rtc (s : State) a1 a2 a3 : (setW s a1 a2 a3).rtc = s.rtc := by
  simp [setW, apply_ite State.rtc]

@[simp] theorem setW_pending (s : State) a1 a2 a3 : (setW s a1 a2 a3).pending = s.pending := by
  simp [setW, apply_ite State.pending]

@[simp] theorem setFlags_rtc (s : State) a1 a2 : (setFlags s a1 a2).rtc = s.rtc := by
  simp [setFlags, apply_ite State.rtc]

@[simp] theorem setFlags_pending (s : State) a1 a2 : (setFlags s a1 a2).pending = s.pending := by
  simp [setFlags, apply_ite State.pending]

@[simp] theorem ownerWrite_rtc (s : State) a1 a2 a3 : (ownerWrite s a1 a2 a3).rtc = s.rtc := by
  simp only [ownerWrite]; (repeat' split) <;> simp [apply_ite State.rtc]

@[simp] theorem ownerWrite_pending (s : State) a1 a2 a3 : (ownerWrite s a1 a2 a3).pending = s.pending := by
  simp only [ownerWrite]; (repeat' split) <;> simp [apply_ite State.pending]

@[simp] theorem pageRead_rtc (s : State) a1 a2 : (pageRead s a1 a2).1.rtc = s.rtc := by
  simp only [pageRead]; (repeat' split) <;> simp [apply_ite State.rtc]

@[simp] theorem pageRead_pending (s : State) a1 a2 : (pageRead s a1 a2).1.pending = s.pending := by
  simp only [pageRead]; (repeat' split) <;> simp [apply_ite State.pending]

@[simp] theorem pageNotice_rtc (s : State) a1 a2 : (pageNotice s a1 a2).rtc = s.rtc := by
  simp [pageNotice, apply_ite State.rtc]

@[simp] theorem pageNotice_pending (s : State) a1 a2 : (pageNotice s a1 a2).pending = s.pending := by
  simp [pageNotice, apply_ite State.pending]

@[simp] theorem pageReq_rtc (s : State) a1 a2 : (pageReq s a1 a2).rtc = s.rtc := by
  simp [pageReq, apply_ite State.rtc]

@[simp] theorem pageReq_pending (s : State) a1 a2 : (pageReq s a1 a2).pending = s.pending := by
  simp [pageReq, apply_ite State.pending]

@[simp] theorem pageWrite_rtc (s : State) a1 a2 a3 : (pageWrite s a1 a2 a3).rtc = s.rtc := by
  simp [pageWrite, apply_ite State.rtc]

@[simp] theorem pageWrite_pending (s : State) a1 a2 a3 : (pageWrite s a1 a2 a3).pending = s.pending := by
  simp [pageWrite, apply_ite State.pending]

@[simp] theorem bumpBase_rtc (s : State) a1 a2 : (bumpBase s a1 a2).rtc = s.rtc := by
  simp only [bumpBase]; (repeat' split) <;> simp [apply_ite State.rtc]

@[simp] theorem bumpBase_pending (s : State) a1 a2 : (bumpBase s a1 a2).pending = s.pending := by
  simp only [bumpBase]; (repeat' split) <;> simp [apply_ite State.pending]

@[simp] theorem bitWrite_rtc (s : State) a1 a2 a3 : (bitWrite s a1 a2 a3).rtc = s.rtc := by
  simp [bitWrite, apply_ite State.rtc]

@[simp] theorem bitWrite_pending (s : State) a1 a2 a3 : (bitWrite s a1 a2 a3).pending = s.pending := by
  simp [bitWrite, apply_ite State.pending]

/-! ### Galros -/

@[simp] theorem haltCore_rtc (s : State) a1 a2 : (haltCore s a1 a2).rtc = s.rtc := by
  simp [haltCore, apply_ite State.rtc]

@[simp] theorem haltCore_pending (s : State) a1 a2 : (haltCore s a1 a2).pending = s.pending := by
  simp [haltCore, apply_ite State.pending]

@[simp] theorem frameHalt_rtc (s : State) a1 a2 : (frameHalt s a1 a2).rtc = s.rtc := by
  simp [frameHalt, apply_ite State.rtc]

@[simp] theorem frameHalt_pending (s : State) a1 a2 : (frameHalt s a1 a2).pending = s.pending := by
  simp [frameHalt, apply_ite State.pending]

@[simp] theorem withdrawCp3_rtc (s : State) a1 : (withdrawCp3 s a1).rtc = s.rtc := by
  simp only [withdrawCp3]; (repeat' split) <;> simp [apply_ite State.rtc]

@[simp] theorem withdrawCp3_pending (s : State) a1 : (withdrawCp3 s a1).pending = s.pending := by
  simp only [withdrawCp3]; (repeat' split) <;> simp [apply_ite State.pending]

@[simp] theorem abandonOps_rtc (s : State) a1 : (abandonOps s a1).rtc = s.rtc := by
  simp only [abandonOps]; (repeat' split) <;> simp [apply_ite State.rtc]

@[simp] theorem abandonOps_pending (s : State) a1 : (abandonOps s a1).pending = s.pending := by
  simp only [abandonOps]; (repeat' split) <;> simp [apply_ite State.pending]

@[simp] theorem restartCore_rtc (s : State) (k : CoreId) (v : Nat) : (restartCore s k v).rtc = s.rtc := by
  unfold restartCore
  dsimp only
  split
  · simp
  · simp only [relevel_rtc, noteBoot_rtc, idleNow_rtc]
    split
    · rw [foldl_rtc _ releasePan_rtc]; simp
    · simp

@[simp] theorem restartCore_pending (s : State) (k : CoreId) (v : Nat) : (restartCore s k v).pending = s.pending := by
  unfold restartCore
  dsimp only
  split
  · simp
  · simp only [relevel_pending, noteBoot_pending, idleNow_pending]
    split
    · rw [foldl_pending _ releasePan_pending]; simp
    · simp

@[simp] theorem handOver_rtc (s : State) a1 a2 : (handOver s a1 a2).rtc = s.rtc := by
  simp [handOver, apply_ite State.rtc]

@[simp] theorem handOver_pending (s : State) a1 a2 : (handOver s a1 a2).pending = s.pending := by
  simp [handOver, apply_ite State.pending]

@[simp] theorem trapResponse_rtc (s : State) a1 a2 a3 : (trapResponse s a1 a2 a3).rtc = s.rtc := by
  simp [trapResponse, apply_ite State.rtc]

@[simp] theorem trapResponse_pending (s : State) a1 a2 a3 : (trapResponse s a1 a2 a3).pending = s.pending := by
  simp [trapResponse, apply_ite State.pending]

@[simp] theorem settle_rtc (s : State) a1 a2 : (settle s a1 a2).rtc = s.rtc := by
  simp [settle, apply_ite State.rtc]

@[simp] theorem settle_pending (s : State) a1 a2 : (settle s a1 a2).pending = s.pending := by
  simp [settle, apply_ite State.pending]

@[simp] theorem stepEnd_rtc (s : State) a1 : (stepEnd s a1).rtc = s.rtc := by
  simp [stepEnd, apply_ite State.rtc]

@[simp] theorem stepEnd_pending (s : State) a1 : (stepEnd s a1).pending = s.pending := by
  simp [stepEnd, apply_ite State.pending]

/-! ### Control -/

@[simp] theorem setPc_rtc (s : State) a1 a2 : (setPc s a1 a2).rtc = s.rtc := by
  simp [setPc, apply_ite State.rtc]

@[simp] theorem setPc_pending (s : State) a1 a2 : (setPc s a1 a2).pending = s.pending := by
  simp [setPc, apply_ite State.pending]

@[simp] theorem hookReturn_rtc (s : State) (k : CoreId) (pc : BitVec 14) : (hookReturn s k pc).rtc = s.rtc := by
  unfold hookReturn
  dsimp only
  split
  · rfl
  · split
    · split <;> simp
    · simp

@[simp] theorem hookReturn_pending (s : State) (k : CoreId) (pc : BitVec 14) : (hookReturn s k pc).pending = s.pending := by
  unfold hookReturn
  dsimp only
  split
  · rfl
  · split
    · split <;> simp
    · simp

@[simp] theorem resumeAt_rtc (s : State) a1 a2 a3 a4 a5 : (resumeAt s a1 a2 a3 a4 a5).rtc = s.rtc := by
  simp [resumeAt, apply_ite State.rtc]

@[simp] theorem resumeAt_pending (s : State) a1 a2 a3 a4 a5 : (resumeAt s a1 a2 a3 a4 a5).pending = s.pending := by
  simp [resumeAt, apply_ite State.pending]

@[simp] theorem restoreMask_rtc (k : CoreId) (mask : Word) (n : Nat) :
    ∀ (s : State) (l : List Word), (restoreMask s k mask n l).rtc = s.rtc := by
  induction n with
  | zero => intro s l; unfold restoreMask; rfl
  | succ n ih =>
    intro s l
    unfold restoreMask
    split
    · cases l with
      | nil => rfl
      | cons v vs => dsimp only; rw [ih]; split <;> simp
    · exact ih s l

@[simp] theorem restoreMask_pending (k : CoreId) (mask : Word) (n : Nat) :
    ∀ (s : State) (l : List Word), (restoreMask s k mask n l).pending = s.pending := by
  induction n with
  | zero => intro s l; unfold restoreMask; rfl
  | succ n ih =>
    intro s l
    unfold restoreMask
    split
    · cases l with
      | nil => rfl
      | cons v vs => dsimp only; rw [ih]; split <;> simp
    · exact ih s l

/-! ### Coproc -/

@[simp] theorem putOp_rtc (s : State) a1 a2 a3 : (putOp s a1 a2 a3).rtc = s.rtc := by
  simp [putOp, apply_ite State.rtc]

@[simp] theorem putOp_pending (s : State) a1 a2 a3 : (putOp s a1 a2 a3).pending = s.pending := by
  simp [putOp, apply_ite State.pending]

@[simp] theorem issueDwell_rtc a0 a1 a2 (s : State) : (issueDwell a0 a1 a2 s).rtc = s.rtc := by
  simp [issueDwell, apply_ite State.rtc]

@[simp] theorem issueDwell_pending a0 a1 a2 (s : State) : (issueDwell a0 a1 a2 s).pending = s.pending := by
  simp [issueDwell, apply_ite State.pending]

@[simp] theorem freeWords_rtc (n : Nat) : ∀ s : State, (freeWords s n).1.rtc = s.rtc := by
  induction n with
  | zero => intro s; rfl
  | succ n ih => intro s; rw [freeWords]; dsimp only; rw [ih]; rfl

@[simp] theorem freeWords_pending (n : Nat) : ∀ s : State, (freeWords s n).1.pending = s.pending := by
  induction n with
  | zero => intro s; rfl
  | succ n ih => intro s; rw [freeWords]; dsimp only; rw [ih]; rfl

@[simp] theorem abortCell_rtc (s : State) : (abortCell s).rtc = s.rtc := by
  simp only [abortCell]; (repeat' split) <;> simp [apply_ite State.rtc]

@[simp] theorem abortCell_pending (s : State) : (abortCell s).pending = s.pending := by
  simp only [abortCell]; (repeat' split) <;> simp [apply_ite State.pending]

@[simp] theorem issueCp3_rtc a0 a1 a2 a3 (s : State) : (issueCp3 a0 a1 a2 a3 s).rtc = s.rtc := by
  simp [issueCp3, apply_ite State.rtc]

@[simp] theorem issueCp3_pending a0 a1 a2 a3 (s : State) : (issueCp3 a0 a1 a2 a3 s).pending = s.pending := by
  simp [issueCp3, apply_ite State.pending]

/-! ### Down -/

@[simp] theorem ringsDown_rtc (s : State) a1 : (ringsDown s a1).rtc = s.rtc := by
  simp [ringsDown, apply_ite State.rtc]

@[simp] theorem ringsDown_pending (s : State) a1 : (ringsDown s a1).pending = s.pending := by
  simp [ringsDown, apply_ite State.pending]

@[simp] theorem ringsOwned_rtc (s : State) : (ringsOwned s).rtc = s.rtc := by
  simp only [ringsOwned, apply_ite State.rtc, ite_self]

@[simp] theorem ringsOwned_pending (s : State) : (ringsOwned s).pending = s.pending := by
  simp only [ringsOwned, apply_ite State.pending, ite_self]

@[simp] theorem holdStats_rtc (s : State) : (holdStats s).rtc = s.rtc := by
  simp only [holdStats]; (repeat' split) <;> simp [apply_ite State.rtc]

@[simp] theorem holdStats_pending (s : State) : (holdStats s).pending = s.pending := by
  simp only [holdStats]; (repeat' split) <;> simp [apply_ite State.pending]

@[simp] theorem coreDown_rtc (s : State) a1 : (coreDown s a1).rtc = s.rtc := by
  simp [coreDown, apply_ite State.rtc]

@[simp] theorem coreDown_pending (s : State) a1 : (coreDown s a1).pending = s.pending := by
  simp [coreDown, apply_ite State.pending]

@[simp] theorem setLevel_rtc (s : State) a1 : (setLevel s a1).rtc = s.rtc := by
  simp only [setLevel, apply_ite State.rtc, ite_self]

@[simp] theorem setLevel_pending (s : State) a1 : (setLevel s a1).pending = s.pending := by
  simp only [setLevel, apply_ite State.pending, ite_self]

@[simp] theorem coreLoss_rtc (s : State) a1 : (coreLoss s a1).rtc = s.rtc := by
  simp [coreLoss, apply_ite State.rtc]

@[simp] theorem coreLoss_pending (s : State) a1 : (coreLoss s a1).pending = s.pending := by
  simp [coreLoss, apply_ite State.pending]

@[simp] theorem beginPowerUp_rtc (s : State) : (beginPowerUp s).rtc = s.rtc := by
  simp [beginPowerUp, apply_ite State.rtc]

@[simp] theorem beginPowerUp_pending (s : State) : (beginPowerUp s).pending = s.pending := by
  simp [beginPowerUp, apply_ite State.pending]

@[simp] theorem endStalls_rtc (s : State) : (endStalls s).rtc = s.rtc := by
  simp only [endStalls, apply_ite State.rtc, ite_self]

@[simp] theorem endStalls_pending (s : State) : (endStalls s).pending = s.pending := by
  simp only [endStalls, apply_ite State.pending, ite_self]

/-! ### Entry -/

@[simp] theorem aonStart_pending (s : State) a1 : (aonStart s a1).pending = s.pending := by
  simp [aonStart, apply_ite State.pending]

@[simp] theorem aonStart_rtc (s : State) a1 : (aonStart s a1).rtc = s.rtc := by
  simp [aonStart, apply_ite State.rtc]

@[simp] theorem exitOff_rtc (s : State) (c : Nat) : (exitOff s c).rtc = s.rtc := by
  unfold exitOff
  dsimp only
  rw [State.setParBit_rtc, aonStart_rtc]

@[simp] theorem exitOff_pending (s : State) (c : Nat) : (exitOff s c).pending = s.pending := by
  unfold exitOff
  dsimp only
  rw [State.setParBit_pending, aonStart_pending]

@[simp] theorem wakeFrom_rtc (s : State) a1 : (wakeFrom s a1).rtc = s.rtc := by
  simp [wakeFrom, apply_ite State.rtc]

@[simp] theorem wakeFrom_pending (s : State) a1 : (wakeFrom s a1).pending = s.pending := by
  simp [wakeFrom, apply_ite State.pending]

@[simp] theorem resumePan_rtc (s : State) a1 : (resumePan s a1).rtc = s.rtc := by
  simp only [resumePan]; (repeat' split) <;> simp [apply_ite State.rtc]

@[simp] theorem resumePan_pending (s : State) a1 : (resumePan s a1).pending = s.pending := by
  simp only [resumePan]; (repeat' split) <;> simp [apply_ite State.pending]

@[simp] theorem resumePans_rtc (s : State) : (resumePans s).rtc = s.rtc := foldl_rtc _ resumePan_rtc _ s

@[simp] theorem resumePans_pending (s : State) : (resumePans s).pending = s.pending := foldl_pending _ resumePan_pending _ s

@[simp] theorem softFail_rtc (s : State) : (softFail s).rtc = s.rtc := by
  simp [softFail, apply_ite State.rtc]

@[simp] theorem softFail_pending (s : State) : (softFail s).pending = s.pending := by
  simp [softFail, apply_ite State.pending]

@[simp] theorem railBack_rtc (s : State) : (railBack s).rtc = s.rtc := by
  simp only [railBack, apply_ite State.rtc, ite_self]

@[simp] theorem railBack_pending (s : State) : (railBack s).pending = s.pending := by
  simp only [railBack, apply_ite State.pending, ite_self]

@[simp] theorem banksUp_rtc (s : State) a1 : (banksUp s a1).rtc = s.rtc := by
  simp only [banksUp, apply_ite State.rtc, ite_self]

@[simp] theorem banksUp_pending (s : State) a1 : (banksUp s a1).pending = s.pending := by
  simp only [banksUp, apply_ite State.pending, ite_self]

@[simp] theorem coreIsUp_rtc (s : State) : (coreIsUp s).rtc = s.rtc := by
  simp [coreIsUp, apply_ite State.rtc]

@[simp] theorem coreIsUp_pending (s : State) : (coreIsUp s).pending = s.pending := by
  simp [coreIsUp, apply_ite State.pending]

@[simp] theorem bridge_rtc (s : State) a1 : (bridge s a1).rtc = s.rtc := by
  simp [bridge, apply_ite State.rtc]

@[simp] theorem bridge_pending (s : State) a1 : (bridge s a1).pending = s.pending := by
  simp [bridge, apply_ite State.pending]

@[simp] theorem afresh_rtc (s : State) : (afresh s).rtc = s.rtc := by
  simp only [afresh, apply_ite State.rtc, ite_self]

@[simp] theorem afresh_pending (s : State) : (afresh s).pending = s.pending := by
  simp only [afresh, apply_ite State.pending, ite_self]

@[simp] theorem coresStart_rtc (s : State) : (coresStart s).rtc = s.rtc := by
  simp [coresStart, apply_ite State.rtc]

@[simp] theorem coresStart_pending (s : State) : (coresStart s).pending = s.pending := by
  simp [coresStart, apply_ite State.pending]

@[simp] theorem coreServes_rtc (s : State) a1 : (coreServes s a1).rtc = s.rtc := by
  simp [coreServes, apply_ite State.rtc]

@[simp] theorem coreServes_pending (s : State) a1 : (coreServes s a1).pending = s.pending := by
  simp [coreServes, apply_ite State.pending]

@[simp] theorem postZero_rtc (s : State) : (postZero s).rtc = s.rtc := by
  simp only [postZero]; (repeat' split) <;> simp [apply_ite State.rtc]

@[simp] theorem postZero_pending (s : State) : (postZero s).pending = s.pending := by
  simp only [postZero]; (repeat' split) <;> simp [apply_ite State.pending]

@[simp] theorem wakeStart_rtc (s : State) a1 a2 : (wakeStart s a1 a2).rtc = s.rtc := by
  simp [wakeStart, apply_ite State.rtc]

@[simp] theorem wakeStart_pending (s : State) a1 a2 : (wakeStart s a1 a2).pending = s.pending := by
  simp [wakeStart, apply_ite State.pending]

@[simp] theorem coldStart_rtc (s : State) a1 : (coldStart s a1).rtc = s.rtc := by
  simp [coldStart, apply_ite State.rtc]

@[simp] theorem coldStart_pending (s : State) a1 : (coldStart s a1).pending = s.pending := by
  simp [coldStart, apply_ite State.pending]

@[simp] theorem stopBoundary_rtc (s : State) : (stopBoundary s).rtc = s.rtc := by
  simp only [stopBoundary]; (repeat' split) <;> simp [apply_ite State.rtc]

@[simp] theorem stopBoundary_pending (s : State) : (stopBoundary s).pending = s.pending := by
  simp only [stopBoundary]; (repeat' split) <;> simp [apply_ite State.pending]

@[simp] theorem endSlew_rtc (s : State) : (endSlew s).rtc = s.rtc := by
  simp [endSlew, apply_ite State.rtc]

@[simp] theorem endSlew_pending (s : State) : (endSlew s).pending = s.pending := by
  simp [endSlew, apply_ite State.pending]

@[simp] theorem afterPulses_rtc (s : State) a1 : (afterPulses s a1).rtc = s.rtc := by
  simp only [afterPulses]; (repeat' split) <;> simp [apply_ite State.rtc]

@[simp] theorem afterPulses_pending (s : State) a1 : (afterPulses s a1).pending = s.pending := by
  simp only [afterPulses]; (repeat' split) <;> simp [apply_ite State.pending]

@[simp] theorem stopOutputs_rtc (s : State) : (stopOutputs s).rtc = s.rtc := by
  simp only [stopOutputs, apply_ite State.rtc, ite_self]

@[simp] theorem stopOutputs_pending (s : State) : (stopOutputs s).pending = s.pending := by
  simp only [stopOutputs, apply_ite State.pending, ite_self]

@[simp] theorem stopBlocks_rtc (s : State) : (stopBlocks s).rtc = s.rtc := by
  simp only [stopBlocks]; (repeat' split) <;> simp [apply_ite State.rtc]

@[simp] theorem stopBlocks_pending (s : State) : (stopBlocks s).pending = s.pending := by
  simp only [stopBlocks]; (repeat' split) <;> simp [apply_ite State.pending]

@[simp] theorem blocksDone_rtc (s : State) : (blocksDone s).rtc = s.rtc := by
  simp [blocksDone, apply_ite State.rtc]

@[simp] theorem blocksDone_pending (s : State) : (blocksDone s).pending = s.pending := by
  simp [blocksDone, apply_ite State.pending]

@[simp] theorem commitEntry_rtc (s : State) a1 : (commitEntry s a1).rtc = s.rtc := by
  simp [commitEntry, apply_ite State.rtc]

@[simp] theorem commitEntry_pending (s : State) a1 : (commitEntry s a1).pending = s.pending := by
  simp [commitEntry, apply_ite State.pending]

@[simp] theorem enterSleep_rtc (s : State) : (enterSleep s).rtc = s.rtc := by
  simp [enterSleep, apply_ite State.rtc]

@[simp] theorem enterSleep_pending (s : State) : (enterSleep s).pending = s.pending := by
  simp [enterSleep, apply_ite State.pending]

@[simp] theorem enterDeep_rtc (s : State) : (enterDeep s).rtc = s.rtc := by
  simp [enterDeep, apply_ite State.rtc]

@[simp] theorem enterDeep_pending (s : State) : (enterDeep s).pending = s.pending := by
  simp [enterDeep, apply_ite State.pending]

@[simp] theorem storeEnds_rtc (s : State) : (storeEnds s).rtc = s.rtc := by
  unfold storeEnds; split <;> rfl

@[simp] theorem storeEnds_pending (s : State) : (storeEnds s).pending = s.pending := by
  unfold storeEnds; split <;> rfl

@[simp] theorem storeCut_rtc (s : State) : (storeCut s).rtc = s.rtc := by
  unfold storeCut; split <;> rfl

@[simp] theorem storeCut_pending (s : State) : (storeCut s).pending = s.pending := by
  unfold storeCut; split <;> rfl

@[simp] theorem enterOff_rtc (s : State) : (enterOff s).rtc = s.rtc := by
  simp [enterOff, apply_ite State.rtc]

@[simp] theorem enterOff_pending (s : State) : (enterOff s).pending = s.pending := by
  simp [enterOff, apply_ite State.pending]

@[simp] theorem leaveSleep_rtc (s : State) a1 : (leaveSleep s a1).rtc = s.rtc := by
  simp [leaveSleep, apply_ite State.rtc]

@[simp] theorem leaveSleep_pending (s : State) a1 : (leaveSleep s a1).pending = s.pending := by
  simp [leaveSleep, apply_ite State.pending]

@[simp] theorem postHeld_rtc (s : State) : (postHeld s).rtc = s.rtc := by
  simp [postHeld, apply_ite State.rtc]

@[simp] theorem postHeld_pending (s : State) : (postHeld s).pending = s.pending := by
  simp [postHeld, apply_ite State.pending]

@[simp] theorem sleepAgain_rtc (s : State) : (sleepAgain s).rtc = s.rtc := by
  simp [sleepAgain, apply_ite State.rtc]

@[simp] theorem sleepAgain_pending (s : State) : (sleepAgain s).pending = s.pending := by
  simp [sleepAgain, apply_ite State.pending]

/-! ### Debug -/

@[simp] theorem endSession_rtc (s : State) : (endSession s).rtc = s.rtc := by
  simp [endSession, apply_ite State.rtc]

@[simp] theorem endSession_pending (s : State) : (endSession s).pending = s.pending := by
  simp [endSession, apply_ite State.pending]

@[simp] theorem askHalt_rtc (s : State) a1 : (askHalt s a1).rtc = s.rtc := by
  simp [askHalt, apply_ite State.rtc]

@[simp] theorem askHalt_pending (s : State) a1 : (askHalt s a1).pending = s.pending := by
  simp [askHalt, apply_ite State.pending]

@[simp] theorem askStep_rtc (s : State) a1 : (askStep s a1).rtc = s.rtc := by
  simp [askStep, apply_ite State.rtc]

@[simp] theorem askStep_pending (s : State) a1 : (askStep s a1).pending = s.pending := by
  simp [askStep, apply_ite State.pending]

@[simp] theorem dctlWrite_rtc (s : State) a1 a2 : (dctlWrite s a1 a2).rtc = s.rtc := by
  simp [dctlWrite, apply_ite State.rtc]

@[simp] theorem dctlWrite_pending (s : State) a1 a2 : (dctlWrite s a1 a2).pending = s.pending := by
  simp [dctlWrite, apply_ite State.pending]

@[simp] theorem setBp_rtc (s : State) a1 a2 a3 : (setBp s a1 a2 a3).rtc = s.rtc := by
  simp [setBp, apply_ite State.rtc]

@[simp] theorem setBp_pending (s : State) a1 a2 a3 : (setBp s a1 a2 a3).pending = s.pending := by
  simp [setBp, apply_ite State.pending]

end Sys2Proof.Machine
end

