-- ==== Sys2Proof/Laws/FrameInstr.lean ====
section
/-! SUPPORT. What the Galros operations that may trap, wait or stop leave alone: the RTC and the command queue. -/

set_option linter.unusedSimpArgs false

namespace Sys2Proof.Machine

/-- Two states agree on the RTC and on the queue. -/
def Same (s t : State) : Prop := t.rtc = s.rtc ∧ t.pending = s.pending

theorem Same.refl (s : State) : Same s s := ⟨rfl, rfl⟩
theorem Same.trans {s t u : State} (h : Same s t) (k : Same t u) : Same s u := ⟨k.1.trans h.1, k.2.trans h.2⟩

/-- The states that a data access can leave. -/
def DAcc.keeps (s : State) : DAcc → Prop
  | .got t _ => Same s t
  | .trap t _ => Same s t
  | .wait => True

/-- The states that an instruction can end in. -/
def IRes.keeps (s : State) : IRes → Prop
  | .done t _ => Same s t
  | .trap t _ => Same s t
  | .frame t => Same s t
  | .rs _ => True
  | .wait => True

theorem DAcc.keeps_trans {s t : State} {r : DAcc} (h : Same s t) (k : r.keeps t) : r.keeps s := by
  cases r <;> first | exact h.trans k | trivial

theorem IRes.keeps_trans {s t : State} {r : IRes} (h : Same s t) (k : r.keeps t) : r.keeps s := by
  cases r <;> first | exact h.trans k | trivial

theorem dataRead_keeps (s : State) (k : CoreId) (g : Fin 4) (off : Word) (u : Option Upset) :
    (dataRead s k g off u).keeps s := by
  unfold dataRead
  dsimp only
  (repeat' split) <;> simp [DAcc.keeps, Same]

theorem dataWrite_keeps (s : State) (k : CoreId) (g : Fin 4) (off v : Word) : (dataWrite s k g off v).keeps s := by
  unfold dataWrite
  (repeat' split) <;> simp [DAcc.keeps, Same]

theorem pushWords_keeps (k : CoreId) (l : List Word) : ∀ (s : State) (sp : Word), (pushWords s k sp l).keeps s := by
  induction l with
  | nil => intro s sp; exact Same.refl s
  | cons v vs ih =>
    intro s sp
    have h := dataWrite_keeps s k 3 (sp - 1) v
    unfold pushWords
    cases hd : dataWrite s k 3 (sp - 1) v with
    | got t _ => rw [hd] at h; exact DAcc.keeps_trans h (ih t _)
    | trap t _ => rw [hd] at h; exact h
    | wait => trivial

theorem popWords_ok (k : CoreId) (n : Nat) : ∀ (s : State) (sp : Word) (acc : List Word) {r : State × List Word},
    popWords s k sp n acc = .ok r → Same s r.1 := by
  induction n with
  | zero => intro s sp acc r h; cases h; exact Same.refl s
  | succ n ih =>
    intro s sp acc r h
    have hd := dataRead_keeps s k 3 sp none
    unfold popWords at h
    cases hr : dataRead s k 3 sp none with
    | got t v => rw [hr] at h hd; exact Same.trans hd (ih t _ _ h)
    | trap t v => rw [hr] at h; cases h
    | wait => rw [hr] at h; cases h

theorem popWords_error (k : CoreId) (n : Nat) : ∀ (s : State) (sp : Word) (acc : List Word) {r : State × Nat},
    popWords s k sp n acc = .error (some r) → Same s r.1 := by
  induction n with
  | zero => intro s sp acc r h; cases h
  | succ n ih =>
    intro s sp acc r h
    have hd := dataRead_keeps s k 3 sp none
    unfold popWords at h
    cases hr : dataRead s k 3 sp none with
    | got t v => rw [hr] at h hd; exact Same.trans hd (ih t _ _ h)
    | trap t v => rw [hr] at h hd; cases h; exact hd
    | wait => rw [hr] at h; cases h

theorem pushRs_same {s t : State} {k : CoreId} {pc : BitVec 14} (h : pushRs s k pc = some t) : Same s t := by
  revert h
  unfold pushRs
  dsimp only
  (repeat' split) <;> intro h <;> cases h <;> simp [Same]

theorem popRs_same {s : State} {k : CoreId} {r : State × RsEntry} (h : popRs s k = some r) : Same s r.1 := by
  revert h
  unfold popRs
  dsimp only
  split <;> intro h <;> cases h
  simp [Same]

theorem rsTrap_same {s t : State} {k : CoreId} {pc : BitVec 14} {v : Nat} {u : Bool} (h : rsTrap s k pc v u = some t) :
    Same s t := by
  revert h
  unfold rsTrap
  dsimp only
  have hp := pushWords_keeps k [pc.setWidth 16, BitVec.ofNat 16 ((flBits (s.core k)).toNat + 32 * (s.core k).level.toNat +
    256 * bit (s.core k).ie), BitVec.ofNat 16 (v + 16 * bit u)] s (getW s k 7)
  revert hp
  generalize pushWords s k (getW s k 7) _ = r
  cases r <;> intro hp h <;> cases h
  · exact Same.trans hp (by simp [Same])
  · exact Same.trans hp (by simp [Same])

theorem trapTo_same {s t : State} {k : CoreId} {v : Nat} {pc : BitVec 14} (h : trapTo s k v pc = some t) : Same s t := by
  revert h
  unfold trapTo
  cases hp : pushRs s k pc with
  | some u => intro h; cases h; exact Same.trans (pushRs_same hp) (by simp [Same])
  | none => exact fun h => rsTrap_same h

theorem takeInt_same {s t : State} {k : CoreId} {v : Nat} (h : takeInt s k v = some t) : Same s t := by
  revert h
  unfold takeInt
  dsimp only
  cases hp : pushRs s k (s.core k).pc with
  | some u => intro h; cases h; exact Same.trans (pushRs_same hp) (by simp [Same])
  | none => exact fun h => rsTrap_same h

/-- An instruction leaves alone what its operation leaves alone. -/
theorem runInstr_same {k : CoreId} {c : Cond} {n : Nat} {f : State → IRes} {s t : State} (hf : ∀ u, (f u).keeps u)
    (h : runInstr k c n f s = .next t) : Same s t := by
  revert h
  unfold runInstr
  dsimp only
  split
  · intro h; cases h; exact Same.refl s
  · split
    · intro h; cases h; simp [Same]
    · split
      · intro h; cases h; simp [Same]
      · have hs : Same s (s.modCore k fun x => { x with pc := (s.core k).pc + BitVec.ofNat 14 n, bpSkip := false }) := by
          simp [Same]
        have hk := hf (s.modCore k fun x => { x with pc := (s.core k).pc + BitVec.ofNat 14 n, bpSkip := false })
        revert hk
        generalize (s.modCore k fun x => { x with pc := (s.core k).pc + BitVec.ofNat 14 n, bpSkip := false }) = u at hs ⊢
        generalize f u = r
        cases r with
        | done v ld =>
          intro hk h; cases h
          exact Same.trans hs (Same.trans hk (by simp [Same]))
        | trap v i =>
          intro hk
          dsimp only
          split
          · rename_i w hw
            intro h; cases h
            exact Same.trans hs (Same.trans hk (Same.trans (by simp [Same]) (Same.trans (trapTo_same hw) (by simp [Same]))))
          · intro h; cases h; exact Same.refl s
        | rs b =>
          intro _
          dsimp only
          split
          · rename_i w hw
            intro h; cases h
            exact Same.trans hs (Same.trans (by simp [Same]) (Same.trans (rsTrap_same hw) (by simp [Same])))
          · intro h; cases h; exact Same.refl s
        | frame v =>
          intro hk h; cases h
          exact Same.trans hs (Same.trans hk (by simp [Same]))
        | wait => intro _ h; cases h; exact Same.refl s

end Sys2Proof.Machine
end

