-- ==== Sys2Proof/Laws/Memory.lean ====
section
/-! SUPPORT. Laws of the sparse maps and byte memories: reading after writing, and that every memory operation keeps the
canonical form. -/

namespace Sys2Proof.Machine

/-! ### Sparse maps -/

theorem mget_mput {α : Type} (m : List (Nat × α)) (i j : Nat) (x : α) :
    mget (mput m i x) j = if i = j then some x else mget m j := by
  induction m with
  | nil => simp [mput, mget]
  | cons p m ih =>
    obtain ⟨k, v⟩ := p
    unfold mput
    split
    · simp [mget]
    · split
      · subst k; simp only [mget]; split <;> rfl
      · simp only [mget, ih]
        split
        · split
          · omega
          · rfl
        · rfl

theorem mget_mdel {α : Type} (m : List (Nat × α)) (i j : Nat) :
    mget (mdel m i) j = if i = j then none else mget m j := by
  induction m with
  | nil => simp [mdel, mget]
  | cons p m ih =>
    obtain ⟨k, v⟩ := p
    unfold mdel
    split
    · subst k; rw [ih]; simp only [mget]; split <;> rfl
    · simp only [mget, ih]
      split
      · split
        · omega
        · rfl
      · rfl

theorem mrisingFrom_mono {α : Type} {m : List (Nat × α)} {a b : Nat} (h : mrisingFrom b m = true) (hab : a ≤ b) :
    mrisingFrom a m = true := by
  cases m with
  | nil => rfl
  | cons p m => simp [mrisingFrom] at h ⊢; exact ⟨by omega, h.2⟩

theorem mrisingFrom_mput {α : Type} (m : List (Nat × α)) (lo i : Nat) (x : α) (h : mrisingFrom lo m = true)
    (hi : lo ≤ i) : mrisingFrom lo (mput m i x) = true := by
  induction m generalizing lo with
  | nil => simp [mput, mrisingFrom, hi]
  | cons p m ih =>
    obtain ⟨k, v⟩ := p
    simp only [mrisingFrom, Bool.and_eq_true, decide_eq_true_eq] at h
    unfold mput
    split
    · simp [mrisingFrom, hi, h.2]; omega
    · split
      · subst k; simp [mrisingFrom, hi, h.2]
      · simp [mrisingFrom, h.1, ih (k + 1) h.2 (by omega)]

theorem mrisingFrom_mdel {α : Type} (m : List (Nat × α)) (lo i : Nat) (h : mrisingFrom lo m = true) :
    mrisingFrom lo (mdel m i) = true := by
  induction m generalizing lo with
  | nil => rfl
  | cons p m ih =>
    obtain ⟨k, v⟩ := p
    simp only [mrisingFrom, Bool.and_eq_true, decide_eq_true_eq] at h
    unfold mdel
    split
    · exact ih lo (mrisingFrom_mono h.2 (by omega))
    · simp [mrisingFrom, h.1, ih _ h.2]

theorem mrisingFrom_filter {α : Type} (m : List (Nat × α)) (lo : Nat) (f : Nat × α → Bool)
    (h : mrisingFrom lo m = true) : mrisingFrom lo (m.filter f) = true := by
  induction m generalizing lo with
  | nil => rfl
  | cons p m ih =>
    simp only [mrisingFrom, Bool.and_eq_true, decide_eq_true_eq] at h
    rw [List.filter_cons]
    split
    · simp [mrisingFrom, h.1, ih _ h.2]
    · exact ih lo (mrisingFrom_mono h.2 (by omega))

theorem mput_subset {α : Type} (m : List (Nat × α)) (i : Nat) (x : α) (p : Nat × α) (h : p ∈ mput m i x) :
    p = (i, x) ∨ p ∈ m := by
  induction m with
  | nil => simpa [mput] using h
  | cons q m ih =>
    obtain ⟨k, v⟩ := q
    unfold mput at h
    split at h
    · simpa using h
    · split at h
      · simp at h ⊢; tauto
      · simp only [List.mem_cons] at h ⊢
        rcases h with h | h
        · exact .inr (.inl h)
        · rcases ih h with h | h
          · exact .inl h
          · exact .inr (.inr h)

theorem mdel_subset {α : Type} (m : List (Nat × α)) (i : Nat) (p : Nat × α) (h : p ∈ mdel m i) : p ∈ m := by
  induction m with
  | nil => simp [mdel] at h
  | cons q m ih =>
    obtain ⟨k, v⟩ := q
    unfold mdel at h
    split at h
    · exact .tail _ (ih h)
    · simp only [List.mem_cons] at h ⊢
      exact h.imp id ih

/-! ### Bytes and words -/

theorem cellGet_cellSet (m : List Host.Cell) (i j : Nat) (v : BitVec 8) :
    cellGet (cellSet m i v) j = if i = j then v else cellGet m j := by
  unfold cellGet cellSet
  split
  · subst v; rw [mget_mdel]; split <;> rfl
  · rw [mget_mput]; split <;> rfl

/-- A word reads as it was last written. -/
theorem wordGet_wordSet_self (m : List Host.Cell) (a : Nat) (w : Word) : wordGet (wordSet m a w) a = w := by
  simp only [wordGet, wordSet, cellGet_cellSet, if_true]
  rw [if_neg (by omega)]
  apply BitVec.eq_of_getLsbD_eq
  intro i hi
  rw [BitVec.getLsbD_append]
  by_cases h : i < 8
  · simp [h]
  · simp [h]
    rw [show 8 + (i - 8) = i from by omega, show decide (i - 8 < 8) = true from by simp; omega, Bool.true_and]

/-- Writing a word leaves every other word alone. -/
theorem wordGet_wordSet_ne (m : List Host.Cell) (a b : Nat) (w : Word) (h : a ≠ b) :
    wordGet (wordSet m a w) b = wordGet m b := by
  simp only [wordGet, wordSet, cellGet_cellSet]
  rw [if_neg (by omega), if_neg (by omega), if_neg (by omega), if_neg (by omega)]

/-! ### The canonical form -/

theorem Memory.wf_nil : Memory.wf [] = true := rfl

theorem Memory.wf_cellSet {m : List Host.Cell} (h : Memory.wf m = true) (a : Nat) (v : BitVec 8) :
    Memory.wf (cellSet m a v) = true := by
  simp only [Memory.wf, mrising, Bool.and_eq_true, List.all_eq_true] at h ⊢
  unfold cellSet
  split
  · exact ⟨mrisingFrom_mdel _ _ _ h.1, fun c hc => h.2 c (mdel_subset _ _ _ hc)⟩
  · next hv =>
    refine ⟨mrisingFrom_mput _ _ _ _ h.1 (Nat.zero_le _), fun c hc => ?_⟩
    rcases mput_subset _ _ _ _ hc with rfl | hc
    · simpa using hv
    · exact h.2 c hc

theorem Memory.wf_wordSet {m : List Host.Cell} (h : Memory.wf m = true) (a : Nat) (w : Word) :
    Memory.wf (wordSet m a w) = true := Memory.wf_cellSet (Memory.wf_cellSet h _ _) _ _

theorem Memory.wf_filter {m : List Host.Cell} (h : Memory.wf m = true) (f : Host.Cell → Bool) :
    Memory.wf (m.filter f) = true := by
  simp only [Memory.wf, mrising, Bool.and_eq_true, List.all_eq_true] at h ⊢
  exact ⟨mrisingFrom_filter _ _ _ h.1, fun c hc => h.2 c (List.mem_of_mem_filter hc)⟩

theorem putWord_wf {s : State} (h : Memory.wf s.bank.mem = true) (b w : Nat) (v : Word) :
    Memory.wf (putWord s b w v).bank.mem = true := Memory.wf_wordSet h _ _

theorem putWords_wf {s : State} (h : Memory.wf s.bank.mem = true) (b w : Nat) (vs : List Word) :
    Memory.wf (putWords s b w vs).bank.mem = true := by
  induction vs generalizing s w with
  | nil => exact h
  | cons v vs ih => exact ih (putWord_wf h b w v) (w + 1)

theorem putProg_wf {s : State} (h : Memory.wf s.cp.pram = true) (k : CoreId) (a v : BitVec 14) :
    Memory.wf (putProg s k a v).cp.pram = true := Memory.wf_wordSet h _ _

theorem banksUp_wf {s : State} (h : Memory.wf s.bank.mem = true) (keep : BitVec 8) :
    Memory.wf (banksUp s keep).bank.mem = true := Memory.wf_filter h _

/-! ### Bank words -/

theorem lin_inj {b w c x : Nat} (hb : b < 8) (hw : w < 16384) (hc : c < 8) (hx : x < 16384) :
    lin b w = lin c x ↔ b = c ∧ w = x := by unfold lin; omega

/-- A bank word reads as it was last written (spec/11 R276). -/
theorem bankWord_putWord_self (s : State) (b w : Nat) (v : Word) : bankWord (putWord s b w v) b w = v :=
  wordGet_wordSet_self _ _ _

/-- A write of a bank word leaves every other word alone. -/
theorem bankWord_putWord_ne (s : State) (b w c x : Nat) (v : Word) (h : lin b w ≠ lin c x) :
    bankWord (putWord s b w v) c x = bankWord s c x := wordGet_wordSet_ne _ _ _ _ h

/-- A write clears the poison of its word (spec/11 R292). -/
theorem bankErr_putWord_self (s : State) (b w : Nat) (v : Word) : bankErr (putWord s b w v) b w = none := by
  simp [bankErr, putWord, mget_mdel]

theorem bankErr_putWord_ne (s : State) (b w c x : Nat) (v : Word) (h : lin b w ≠ lin c x) :
    bankErr (putWord s b w v) c x = bankErr s c x := by
  simp [bankErr, putWord, mget_mdel, h]

/-! ### Parameters -/

/-- A parameter reads as it was last set. -/
theorem par_setPar_self (s : State) (k : Nat) (v : Int) : (s.setPar k v).par k = v := by
  unfold State.par State.setPar
  dsimp only
  split
  · next h => rw [mget_mdel, if_pos rfl, Option.getD_none, h]
  · rw [mget_mput, if_pos rfl]; rfl

/-- Setting a parameter leaves every other one alone. -/
theorem par_setPar_ne (s : State) (k j : Nat) (v : Int) (h : k ≠ j) : (s.setPar k v).par j = s.par j := by
  unfold State.par State.setPar
  dsimp only
  split
  · rw [mget_mdel, if_neg h]
  · rw [mget_mput, if_neg h]

/-- Setting a parameter keeps the canonical form of the map. -/
theorem paramsWf_setPar {s : State} (h : paramsWf s.params = true) (k : Nat) (v : Int)
    (hk : (paramRow k).isSome = true) : paramsWf (s.setPar k v).params = true := by
  simp only [paramsWf, mrising, Bool.and_eq_true, List.all_eq_true] at h ⊢
  unfold State.setPar
  dsimp only
  split
  · exact ⟨mrisingFrom_mdel _ _ _ h.1, fun c hc => h.2 c (mdel_subset _ _ _ hc)⟩
  · next hv =>
    refine ⟨mrisingFrom_mput _ _ _ _ h.1 (Nat.zero_le _), fun c hc => ?_⟩
    rcases mput_subset _ _ _ _ hc with rfl | hc
    · exact ⟨hk, by simpa using hv⟩
    · exact h.2 c hc

end Sys2Proof.Machine
end

