-- ==== Sys2Proof/Laws/PerInstr.lean ====
section
/-! SUPPORT. One lemma for each command: no word spells it, for the table gives bits for no row (log entry 12). -/

namespace Sys2Proof.Laws

/-- What holds of each command as syntax: no word of any length decodes to it. -/
def Family.Statement (i : Instr) : Prop := ∀ nbits w, decodeTableWord nbits w ≠ some i

theorem no_word_decodes (i : Instr) : Family.Statement i := fun _ _ h => nomatch h

theorem Family.dtcLatchRead : Family.Statement (.dtcLatchRead) := no_word_decodes _
theorem Family.timeLatchExpiry (cls : Cls) : Family.Statement (.timeLatchExpiry cls) := no_word_decodes _
theorem Family.dtcWrap : Family.Statement (.dtcWrap) := no_word_decodes _
theorem Family.epochBoundary (o : EpochObs) : Family.Statement (.epochBoundary o) := no_word_decodes _
theorem Family.solutionEpoch (o : SolObs) : Family.Statement (.solutionEpoch o) := no_word_decodes _
theorem Family.gnssFineEntry : Family.Statement (.gnssFineEntry) := no_word_decodes _
theorem Family.holdoverEntry : Family.Statement (.holdoverEntry) := no_word_decodes _
theorem Family.spoofSuspectClear (o : SolObs) : Family.Statement (.spoofSuspectClear o) := no_word_decodes _
theorem Family.surveyComplete : Family.Statement (.surveyComplete) := no_word_decodes _
theorem Family.calendarLoad : Family.Statement (.calendarLoad) := no_word_decodes _
theorem Family.leapSecondApply : Family.Statement (.leapSecondApply) := no_word_decodes _
theorem Family.pacePeriodEnd (o : SclkObs) : Family.Statement (.pacePeriodEnd o) := no_word_decodes _
theorem Family.relapseWindowExpiry : Family.Statement (.relapseWindowExpiry) := no_word_decodes _
theorem Family.sclkAbsence : Family.Statement (.sclkAbsence) := no_word_decodes _
theorem Family.sampleArrival (sdata : BitVec 4) : Family.Statement (.sampleArrival sdata) := no_word_decodes _
theorem Family.feSettleExpiry : Family.Statement (.feSettleExpiry) := no_word_decodes _
theorem Family.cellSearchEnd (o : CellObs) : Family.Statement (.cellSearchEnd o) := no_word_decodes _
theorem Family.pendingHitExpiry : Family.Statement (.pendingHitExpiry) := no_word_decodes _
theorem Family.integrationEnd (p : Fin 32) (o : IntegObs) : Family.Statement (.integrationEnd p o) := no_word_decodes _
theorem Family.pullComplete (p : Fin 32) : Family.Statement (.pullComplete p) := no_word_decodes _
theorem Family.codeLockLoss (p : Fin 32) : Family.Statement (.codeLockLoss p) := no_word_decodes _
theorem Family.reacqTimeout (p : Fin 32) : Family.Statement (.reacqTimeout p) := no_word_decodes _
theorem Family.panGroupStall (g : Fin 4) : Family.Statement (.panGroupStall g) := no_word_decodes _
theorem Family.crystallizerStall : Family.Statement (.crystallizerStall) := no_word_decodes _
theorem Family.tpoutActiveEdge : Family.Statement (.tpoutActiveEdge) := no_word_decodes _
theorem Family.tpoutInactiveEdge : Family.Statement (.tpoutInactiveEdge) := no_word_decodes _
theorem Family.tpoutDeferredPulse : Family.Statement (.tpoutDeferredPulse) := no_word_decodes _
theorem Family.tpSettingsApply : Family.Statement (.tpSettingsApply) := no_word_decodes _
theorem Family.wcsEnable (d : Word) : Family.Statement (.wcsEnable d) := no_word_decodes _
theorem Family.wcsDisable (d : Word) : Family.Statement (.wcsDisable d) := no_word_decodes _
theorem Family.pllLockAcquired : Family.Statement (.pllLockAcquired) := no_word_decodes _
theorem Family.wcsOutputStart : Family.Statement (.wcsOutputStart) := no_word_decodes _
theorem Family.wcsPhaseMeasure (phi : Int) : Family.Statement (.wcsPhaseMeasure phi) := no_word_decodes _
theorem Family.wcsRealignRequest (d : Word) : Family.Statement (.wcsRealignRequest d) := no_word_decodes _
theorem Family.realignStop : Family.Statement (.realignStop) := no_word_decodes _
theorem Family.realignRestart : Family.Statement (.realignRestart) := no_word_decodes _
theorem Family.pllLockLoss : Family.Statement (.pllLockLoss) := no_word_decodes _
theorem Family.wcsSleepStop : Family.Statement (.wcsSleepStop) := no_word_decodes _
theorem Family.slotCommitPoint (i : Fin 1024) : Family.Statement (.slotCommitPoint i) := no_word_decodes _
theorem Family.slotFire (i : Fin 1024) : Family.Statement (.slotFire i) := no_word_decodes _
theorem Family.slotLateFire (i : Fin 1024) : Family.Statement (.slotLateFire i) := no_word_decodes _
theorem Family.evoutPulseEnd (pin : Fin 4) : Family.Statement (.evoutPulseEnd pin) := no_word_decodes _
theorem Family.tmarkEdge (k : Fin 2) (rising : Bool) (step : Fin 64) : Family.Statement (.tmarkEdge k rising step) := no_word_decodes _
theorem Family.tmarkRecordPost (k : Fin 2) : Family.Statement (.tmarkRecordPost k) := no_word_decodes _
theorem Family.evsTmarkRead : Family.Statement (.evsTmarkRead) := no_word_decodes _
theorem Family.busAddressPhase (off : Word) (wr sec : Bool) : Family.Statement (.busAddressPhase off wr sec) := no_word_decodes _
theorem Family.registerWrite (d : Word) : Family.Statement (.registerWrite d) := no_word_decodes _
theorem Family.hbErrRead : Family.Statement (.hbErrRead) := no_word_decodes _
theorem Family.parameterWrite (d : Word) : Family.Statement (.parameterWrite d) := no_word_decodes _
theorem Family.parameterRead : Family.Statement (.parameterRead) := no_word_decodes _
theorem Family.programWindowWrite (d : Word) : Family.Statement (.programWindowWrite d) := no_word_decodes _
theorem Family.bankWindowWrite (d : Word) : Family.Statement (.bankWindowWrite d) := no_word_decodes _
theorem Family.bankWindowRead (u : Option Upset) : Family.Statement (.bankWindowRead u) := no_word_decodes _
theorem Family.txnBegin (d : Word) : Family.Statement (.txnBegin d) := no_word_decodes _
theorem Family.txnCommit (d : Word) : Family.Statement (.txnCommit d) := no_word_decodes _
theorem Family.txnRollback (d : Word) : Family.Statement (.txnRollback d) := no_word_decodes _
theorem Family.pwrPaceCntRead : Family.Statement (.pwrPaceCntRead) := no_word_decodes _
theorem Family.sluRingRead : Family.Statement (.sluRingRead) := no_word_decodes _
theorem Family.bnkLogRead : Family.Statement (.bnkLogRead) := no_word_decodes _
theorem Family.vregStatRead : Family.Statement (.vregStatRead) := no_word_decodes _
theorem Family.bnkOwnerWrite (d : Word) : Family.Statement (.bnkOwnerWrite d) := no_word_decodes _
theorem Family.handoverDrainEnd (b : Fin 8) : Family.Statement (.handoverDrainEnd b) := no_word_decodes _
theorem Family.rtcHaltSet (d : Word) : Family.Statement (.rtcHaltSet d) := no_word_decodes _
theorem Family.rtcHaltClear (d : Word) : Family.Statement (.rtcHaltClear d) := no_word_decodes _
theorem Family.rtcCalendarWrite (d : Word) : Family.Statement (.rtcCalendarWrite d) := no_word_decodes _
theorem Family.rtcSwstampRearm (d : Word) : Family.Statement (.rtcSwstampRearm d) := no_word_decodes _
theorem Family.antUnlatch (d : Word) : Family.Statement (.antUnlatch d) := no_word_decodes _
theorem Family.calLoad (d : Word) : Family.Statement (.calLoad d) := no_word_decodes _
theorem Family.calStore (d : Word) : Family.Statement (.calStore d) := no_word_decodes _
theorem Family.calStoreEnd (ok : Bool) : Family.Statement (.calStoreEnd ok) := no_word_decodes _
theorem Family.dbgHaltRequest (d : Word) : Family.Statement (.dbgHaltRequest d) := no_word_decodes _
theorem Family.dbgResumeRequest (d : Word) : Family.Statement (.dbgResumeRequest d) := no_word_decodes _
theorem Family.sysBootRelease (d : Word) : Family.Statement (.sysBootRelease d) := no_word_decodes _
theorem Family.ringReadIndexWrite (d : Word) : Family.Statement (.ringReadIndexWrite d) := no_word_decodes _
theorem Family.ringPlace (d : Word) : Family.Statement (.ringPlace d) := no_word_decodes _
theorem Family.doorbellRing (d : Word) : Family.Statement (.doorbellRing d) := no_word_decodes _
theorem Family.doorbellTake (d : Word) : Family.Statement (.doorbellTake d) := no_word_decodes _
theorem Family.channelTimeout (ch : Fin 64) : Family.Statement (.channelTimeout ch) := no_word_decodes _
theorem Family.timeSet : Family.Statement (.timeSet) := no_word_decodes _
theorem Family.posSet : Family.Statement (.posSet) := no_word_decodes _
theorem Family.freqAid : Family.Statement (.freqAid) := no_word_decodes _
theorem Family.search (a : Assist) : Family.Statement (.search a) := no_word_decodes _
theorem Family.searchStop : Family.Statement (.searchStop) := no_word_decodes _
theorem Family.panStart : Family.Statement (.panStart) := no_word_decodes _
theorem Family.panStop : Family.Statement (.panStop) := no_word_decodes _
theorem Family.twin : Family.Statement (.twin) := no_word_decodes _
theorem Family.intRebase : Family.Statement (.intRebase) := no_word_decodes _
theorem Family.slotArm : Family.Statement (.slotArm) := no_word_decodes _
theorem Family.slotModify : Family.Statement (.slotModify) := no_word_decodes _
theorem Family.slotCancel : Family.Statement (.slotCancel) := no_word_decodes _
theorem Family.slotCancelClient : Family.Statement (.slotCancelClient) := no_word_decodes _
theorem Family.slotQuery : Family.Statement (.slotQuery) := no_word_decodes _
theorem Family.progLoad : Family.Statement (.progLoad) := no_word_decodes _
theorem Family.power : Family.Statement (.power) := no_word_decodes _
theorem Family.bankLend : Family.Statement (.bankLend) := no_word_decodes _
theorem Family.bankRecall : Family.Statement (.bankRecall) := no_word_decodes _
theorem Family.mirRole : Family.Statement (.mirRole) := no_word_decodes _
theorem Family.mirTakeover : Family.Statement (.mirTakeover) := no_word_decodes _
theorem Family.mirCompare : Family.Statement (.mirCompare) := no_word_decodes _
theorem Family.nopCommand : Family.Statement (.nopCommand) := no_word_decodes _
theorem Family.customerCommand (o : HookRun) : Family.Statement (.customerCommand o) := no_word_decodes _
theorem Family.rakeCheck (u : List (Option Upset)) : Family.Statement (.rakeCheck u) := no_word_decodes _
theorem Family.bankClearEnd (b : Fin 8) : Family.Statement (.bankClearEnd b) := no_word_decodes _
theorem Family.retainedBankReady : Family.Statement (.retainedBankReady) := no_word_decodes _
theorem Family.mov (k : CoreId) (c : Cond) (d s : Reg) : Family.Statement (.mov k c d s) := no_word_decodes _
theorem Family.add (k : CoreId) (c : Cond) (d s : Reg) : Family.Statement (.add k c d s) := no_word_decodes _
theorem Family.adc (k : CoreId) (c : Cond) (d s : Reg) : Family.Statement (.adc k c d s) := no_word_decodes _
theorem Family.sub (k : CoreId) (c : Cond) (d s : Reg) : Family.Statement (.sub k c d s) := no_word_decodes _
theorem Family.sbc (k : CoreId) (c : Cond) (d s : Reg) : Family.Statement (.sbc k c d s) := no_word_decodes _
theorem Family.and (k : CoreId) (c : Cond) (d s : Reg) : Family.Statement (.and k c d s) := no_word_decodes _
theorem Family.or (k : CoreId) (c : Cond) (d s : Reg) : Family.Statement (.or k c d s) := no_word_decodes _
theorem Family.xor (k : CoreId) (c : Cond) (d s : Reg) : Family.Statement (.xor k c d s) := no_word_decodes _
theorem Family.cmp (k : CoreId) (c : Cond) (d s : Reg) : Family.Statement (.cmp k c d s) := no_word_decodes _
theorem Family.tst (k : CoreId) (c : Cond) (d s : Reg) : Family.Statement (.tst k c d s) := no_word_decodes _
theorem Family.dadd (k : CoreId) (c : Cond) (d s : Reg) : Family.Statement (.dadd k c d s) := no_word_decodes _
theorem Family.dsub (k : CoreId) (c : Cond) (d s : Reg) : Family.Statement (.dsub k c d s) := no_word_decodes _
theorem Family.ldi (k : CoreId) (c : Cond) (d : Reg) (h : BitVec 2) (w2 : BitVec 14) : Family.Statement (.ldi k c d h w2) := no_word_decodes _
theorem Family.addi (k : CoreId) (c : Cond) (d : Reg) (w2 : BitVec 14) : Family.Statement (.addi k c d w2) := no_word_decodes _
theorem Family.subi (k : CoreId) (c : Cond) (d : Reg) (w2 : BitVec 14) : Family.Statement (.subi k c d w2) := no_word_decodes _
theorem Family.andi (k : CoreId) (c : Cond) (d : Reg) (w2 : BitVec 14) : Family.Statement (.andi k c d w2) := no_word_decodes _
theorem Family.ori (k : CoreId) (c : Cond) (d : Reg) (w2 : BitVec 14) : Family.Statement (.ori k c d w2) := no_word_decodes _
theorem Family.xori (k : CoreId) (c : Cond) (d : Reg) (w2 : BitVec 14) : Family.Statement (.xori k c d w2) := no_word_decodes _
theorem Family.cmpi (k : CoreId) (c : Cond) (d : Reg) (w2 : BitVec 14) : Family.Statement (.cmpi k c d w2) := no_word_decodes _
theorem Family.tsti (k : CoreId) (c : Cond) (d : Reg) (w2 : BitVec 14) : Family.Statement (.tsti k c d w2) := no_word_decodes _
theorem Family.daddi (k : CoreId) (c : Cond) (d : Reg) (w2 : BitVec 14) : Family.Statement (.daddi k c d w2) := no_word_decodes _
theorem Family.ld (k : CoreId) (c : Cond) (r : Reg) (m : MemForm) (u : Option Upset) : Family.Statement (.ld k c r m u) := no_word_decodes _
theorem Family.st (k : CoreId) (c : Cond) (r : Reg) (m : MemForm) : Family.Statement (.st k c r m) := no_word_decodes _
theorem Family.push (k : CoreId) (c : Cond) (r : Reg) : Family.Statement (.push k c r) := no_word_decodes _
theorem Family.pop (k : CoreId) (c : Cond) (r : Reg) : Family.Statement (.pop k c r) := no_word_decodes _
theorem Family.shl (k : CoreId) (c : Cond) (r : Reg) : Family.Statement (.shl k c r) := no_word_decodes _
theorem Family.shr (k : CoreId) (c : Cond) (r : Reg) : Family.Statement (.shr k c r) := no_word_decodes _
theorem Family.asr (k : CoreId) (c : Cond) (r : Reg) : Family.Statement (.asr k c r) := no_word_decodes _
theorem Family.rol (k : CoreId) (c : Cond) (r : Reg) : Family.Statement (.rol k c r) := no_word_decodes _
theorem Family.ror (k : CoreId) (c : Cond) (r : Reg) : Family.Statement (.ror k c r) := no_word_decodes _
theorem Family.rlc (k : CoreId) (c : Cond) (r : Reg) : Family.Statement (.rlc k c r) := no_word_decodes _
theorem Family.rrc (k : CoreId) (c : Cond) (r : Reg) : Family.Statement (.rrc k c r) := no_word_decodes _
theorem Family.swab (k : CoreId) (c : Cond) (r : Reg) : Family.Statement (.swab k c r) := no_word_decodes _
theorem Family.not (k : CoreId) (c : Cond) (r : Reg) : Family.Statement (.not k c r) := no_word_decodes _
theorem Family.neg (k : CoreId) (c : Cond) (r : Reg) : Family.Statement (.neg k c r) := no_word_decodes _
theorem Family.inc (k : CoreId) (c : Cond) (r : Reg) : Family.Statement (.inc k c r) := no_word_decodes _
theorem Family.dec (k : CoreId) (c : Cond) (r : Reg) : Family.Statement (.dec k c r) := no_word_decodes _
theorem Family.clr (k : CoreId) (c : Cond) (r : Reg) : Family.Statement (.clr k c r) := no_word_decodes _
theorem Family.sexb (k : CoreId) (c : Cond) (r : Reg) : Family.Statement (.sexb k c r) := no_word_decodes _
theorem Family.sgld (k : CoreId) (c : Cond) (g : Fin 4) (a : Reg) : Family.Statement (.sgld k c g a) := no_word_decodes _
theorem Family.sgst (k : CoreId) (c : Cond) (g : Fin 4) (a : Reg) : Family.Statement (.sgst k c g a) := no_word_decodes _
theorem Family.mfs (k : CoreId) (c : Cond) (spec : Fin 4) (r : Reg) : Family.Statement (.mfs k c spec r) := no_word_decodes _
theorem Family.mts (k : CoreId) (c : Cond) (spec : Fin 4) (r : Reg) : Family.Statement (.mts k c spec r) := no_word_decodes _
theorem Family.btst (k : CoreId) (c : Cond) (w2 : BitVec 14) : Family.Statement (.btst k c w2) := no_word_decodes _
theorem Family.bset (k : CoreId) (c : Cond) (w2 : BitVec 14) : Family.Statement (.bset k c w2) := no_word_decodes _
theorem Family.bclr (k : CoreId) (c : Cond) (w2 : BitVec 14) : Family.Statement (.bclr k c w2) := no_word_decodes _
theorem Family.bmov (k : CoreId) (c : Cond) (w2 : BitVec 14) : Family.Statement (.bmov k c w2) := no_word_decodes _
theorem Family.btstr (k : CoreId) (c : Cond) (r : Reg) : Family.Statement (.btstr k c r) := no_word_decodes _
theorem Family.bsetr (k : CoreId) (c : Cond) (r : Reg) : Family.Statement (.bsetr k c r) := no_word_decodes _
theorem Family.bclrr (k : CoreId) (c : Cond) (r : Reg) : Family.Statement (.bclrr k c r) := no_word_decodes _
theorem Family.bmovr (k : CoreId) (c : Cond) (r : Reg) : Family.Statement (.bmovr k c r) := no_word_decodes _
theorem Family.nop (k : CoreId) (c : Cond) : Family.Statement (.nop k c) := no_word_decodes _
theorem Family.wait (k : CoreId) (c : Cond) : Family.Statement (.wait k c) := no_word_decodes _
theorem Family.waitResume (k : CoreId) : Family.Statement (.waitResume k) := no_word_decodes _
theorem Family.brk (k : CoreId) (c : Cond) : Family.Statement (.brk k c) := no_word_decodes _
theorem Family.ret (k : CoreId) (c : Cond) : Family.Statement (.ret k c) := no_word_decodes _
theorem Family.reti (k : CoreId) (c : Cond) : Family.Statement (.reti k c) := no_word_decodes _
theorem Family.retm (k : CoreId) (c : Cond) : Family.Statement (.retm k c) := no_word_decodes _
theorem Family.retf (k : CoreId) (c : Cond) : Family.Statement (.retf k c) := no_word_decodes _
theorem Family.jmp (k : CoreId) (c : Cond) (target : BitVec 14) : Family.Statement (.jmp k c target) := no_word_decodes _
theorem Family.call (k : CoreId) (c : Cond) (target : BitVec 14) : Family.Statement (.call k c target) := no_word_decodes _
theorem Family.callm (k : CoreId) (c : Cond) (mask : BitVec 14) (target : BitVec 14) : Family.Statement (.callm k c mask target) := no_word_decodes _
theorem Family.jmpr (k : CoreId) (c : Cond) (r : Reg) : Family.Statement (.jmpr k c r) := no_word_decodes _
theorem Family.callr (k : CoreId) (c : Cond) (r : Reg) : Family.Statement (.callr k c r) := no_word_decodes _
theorem Family.rpt (k : CoreId) (c : Cond) (r : Reg) (ic : Cond) (body : RepBody) (n : Nat) : Family.Statement (.rpt k c r ic body n) := no_word_decodes _
theorem Family.rptu (k : CoreId) (c : Cond) (r : Reg) (ic : Cond) (body : RepBody) : Family.Statement (.rptu k c r ic body) := no_word_decodes _
theorem Family.illegalInstruction (k : CoreId) (c : Cond) : Family.Statement (.illegalInstruction k c) := no_word_decodes _
theorem Family.interruptEntry (k : CoreId) : Family.Statement (.interruptEntry k) := no_word_decodes _
theorem Family.fetch (k : CoreId) (c : Cond) (t : Fin 4) (r : Reg) : Family.Statement (.fetch k c t r) := no_word_decodes _
theorem Family.ncoSet (k : CoreId) (c : Cond) (t : Fin 4) (r : Reg) : Family.Statement (.ncoSet k c t r) := no_word_decodes _
theorem Family.phase (k : CoreId) (c : Cond) (t : Fin 4) (r : Reg) : Family.Statement (.phase k c t r) := no_word_decodes _
theorem Family.start (k : CoreId) (c : Cond) (t : Fin 4) (r : Reg) : Family.Statement (.start k c t r) := no_word_decodes _
theorem Family.stop (k : CoreId) (c : Cond) (t : Fin 4) (r : Reg) : Family.Statement (.stop k c t r) := no_word_decodes _
theorem Family.taps (k : CoreId) (c : Cond) (t : Fin 4) (r : Reg) : Family.Statement (.taps k c t r) := no_word_decodes _
theorem Family.intlen (k : CoreId) (c : Cond) (t : Fin 4) (r : Reg) : Family.Statement (.intlen k c t r) := no_word_decodes _
theorem Family.dwell (k : CoreId) (c : Cond) (t : Fin 4) (r : Reg) : Family.Statement (.dwell k c t r) := no_word_decodes _
theorem Family.result (k : CoreId) (c : Cond) (t : Fin 4) (r : Reg) : Family.Statement (.result k c t r) := no_word_decodes _
theorem Family.abort (k : CoreId) (c : Cond) (t : Fin 4) (r : Reg) : Family.Statement (.abort k c t r) := no_word_decodes _
theorem Family.mulu (k : CoreId) (c : Cond) (t : Fin 4) (r : Reg) : Family.Statement (.mulu k c t r) := no_word_decodes _
theorem Family.muls (k : CoreId) (c : Cond) (t : Fin 4) (r : Reg) : Family.Statement (.muls k c t r) := no_word_decodes _
theorem Family.divu (k : CoreId) (c : Cond) (t : Fin 4) (r : Reg) : Family.Statement (.divu k c t r) := no_word_decodes _
theorem Family.divs (k : CoreId) (c : Cond) (t : Fin 4) (r : Reg) : Family.Statement (.divs k c t r) := no_word_decodes _
theorem Family.rot (k : CoreId) (c : Cond) (t : Fin 4) (r : Reg) : Family.Statement (.rot k c t r) := no_word_decodes _
theorem Family.atan2 (k : CoreId) (c : Cond) (t : Fin 4) (r : Reg) : Family.Statement (.atan2 k c t r) := no_word_decodes _
theorem Family.sqrt (k : CoreId) (c : Cond) (t : Fin 4) (r : Reg) : Family.Statement (.sqrt k c t r) := no_word_decodes _
theorem Family.cp3Operation (k : CoreId) (c : Cond) (t : Fin 4) (r : Reg) (fn : BitVec 14) : Family.Statement (.cp3Operation k c t r fn) := no_word_decodes _
theorem Family.cpOperationComplete (k : CoreId) (t : Fin 4) : Family.Statement (.cpOperationComplete k t) := no_word_decodes _
theorem Family.cprd (k : CoreId) (c : Cond) (slot : Fin 4) (t : Fin 4) (r : Reg) : Family.Statement (.cprd k c slot t r) := no_word_decodes _
theorem Family.cpst (k : CoreId) (c : Cond) (slot : Fin 4) (t : Fin 4) (r : Reg) : Family.Statement (.cpst k c slot t r) := no_word_decodes _
theorem Family.waitcp (k : CoreId) (c : Cond) (slot : Fin 4) (t : Fin 4) (r : Reg) : Family.Statement (.waitcp k c slot t r) := no_word_decodes _
theorem Family.softStartEnd (vOk ilimHeld : Bool) : Family.Statement (.softStartEnd vOk ilimHeld) := no_word_decodes _
theorem Family.vddinMeasure (mv : Nat) : Family.Statement (.vddinMeasure mv) := no_word_decodes _
theorem Family.antSoftStartPass (ma : Nat) : Family.Statement (.antSoftStartPass ma) := no_word_decodes _
theorem Family.antOpenDetect (ma : Nat) : Family.Statement (.antOpenDetect ma) := no_word_decodes _
theorem Family.antOpenClear (ma : Nat) : Family.Statement (.antOpenClear ma) := no_word_decodes _
theorem Family.antCurrentHigh (ma : Nat) : Family.Statement (.antCurrentHigh ma) := no_word_decodes _
theorem Family.pwrModeRequest (k : CoreId) (v : BitVec 3) : Family.Statement (.pwrModeRequest k v) := no_word_decodes _
theorem Family.coreReplyTimeout (k : CoreId) : Family.Statement (.coreReplyTimeout k) := no_word_decodes _
theorem Family.entryCommit (delayUs : Nat) : Family.Statement (.entryCommit delayUs) := no_word_decodes _
theorem Family.sleepExit (ms : Nat) : Family.Statement (.sleepExit ms) := no_word_decodes _
theorem Family.deepSleepExit (ms : Nat) : Family.Statement (.deepSleepExit ms) := no_word_decodes _
theorem Family.refinStable (gap : Nat) (prescMoved : Bool) : Family.Statement (.refinStable gap prescMoved) := no_word_decodes _
theorem Family.wakePattern (n : Nat) : Family.Statement (.wakePattern n) := no_word_decodes _
theorem Family.gaugeSample (vbatMv : Nat) (ua : Int) : Family.Statement (.gaugeSample vbatMv ua) := no_word_decodes _
theorem Family.comparatorTrip (us : Nat) : Family.Statement (.comparatorTrip us) := no_word_decodes _
theorem Family.idleFrame (f : Frame) : Family.Statement (.idleFrame f) := no_word_decodes _
theorem Family.stateFrame (f : Frame) : Family.Statement (.stateFrame f) := no_word_decodes _
theorem Family.wordsFrame (f : Frame) (lost : List (BitVec 14)) : Family.Statement (.wordsFrame f lost) := no_word_decodes _
theorem Family.slotFrame (f : Frame) : Family.Statement (.slotFrame f) := no_word_decodes _
theorem Family.takeFrame (f : Frame) : Family.Statement (.takeFrame f) := no_word_decodes _
theorem Family.ackFrame (f : Frame) : Family.Statement (.ackFrame f) := no_word_decodes _
theorem Family.resendFrame (f : Frame) : Family.Statement (.resendFrame f) := no_word_decodes _
theorem Family.linkLossEdgeCheck (seen : Bool) : Family.Statement (.linkLossEdgeCheck seen) := no_word_decodes _
theorem Family.tpcmpEdge (delayed capture : Int) : Family.Statement (.tpcmpEdge delayed capture) := no_word_decodes _
theorem Family.coreRestart (k : CoreId) : Family.Statement (.coreRestart k) := no_word_decodes _
theorem Family.sdpSessionAttach (key : Word) : Family.Statement (.sdpSessionAttach key) := no_word_decodes _
theorem Family.sdpReadFrame (space : BitVec 3) (addr : BitVec 24) (crcOk : Bool) : Family.Statement (.sdpReadFrame space addr crcOk) := no_word_decodes _
theorem Family.sdpWriteFrame (space : BitVec 3) (addr : BitVec 24) (data : BitVec 32) (crcOk : Bool) : Family.Statement (.sdpWriteFrame space addr data crcOk) := no_word_decodes _
theorem Family.sdpHalt (k : CoreId) : Family.Statement (.sdpHalt k) := no_word_decodes _
theorem Family.sdpResume (k : CoreId) : Family.Statement (.sdpResume k) := no_word_decodes _
theorem Family.sdpStep (k : CoreId) : Family.Statement (.sdpStep k) := no_word_decodes _
theorem Family.coreHalt (k : CoreId) : Family.Statement (.coreHalt k) := no_word_decodes _
theorem Family.breakpointHit (k : CoreId) : Family.Statement (.breakpointHit k) := no_word_decodes _
theorem Family.cp3Serve : Family.Statement (.cp3Serve) := no_word_decodes _
theorem Family.cp3Timeout : Family.Statement (.cp3Timeout) := no_word_decodes _
theorem Family.coreRailRetry : Family.Statement (.coreRailRetry) := no_word_decodes _
theorem Family.coreRailFault : Family.Statement (.coreRailFault) := no_word_decodes _
theorem Family.regulatorTargetReached : Family.Statement (.regulatorTargetReached) := no_word_decodes _
theorem Family.antShort : Family.Statement (.antShort) := no_word_decodes _
theorem Family.antRetry : Family.Statement (.antRetry) := no_word_decodes _
theorem Family.antCurrentLimitExpiry : Family.Statement (.antCurrentLimitExpiry) := no_word_decodes _
theorem Family.antoutWantedChange : Family.Statement (.antoutWantedChange) := no_word_decodes _
theorem Family.autoSleepTimeout : Family.Statement (.autoSleepTimeout) := no_word_decodes _
theorem Family.wakePin : Family.Statement (.wakePin) := no_word_decodes _
theorem Family.mirrorLinkActivity : Family.Statement (.mirrorLinkActivity) := no_word_decodes _
theorem Family.rtcSecondTick : Family.Statement (.rtcSecondTick) := no_word_decodes _
theorem Family.vbakSwitchOver : Family.Statement (.vbakSwitchOver) := no_word_decodes _
theorem Family.vddinSwitchBack : Family.Statement (.vddinSwitchBack) := no_word_decodes _
theorem Family.bakReset : Family.Statement (.bakReset) := no_word_decodes _
theorem Family.gaugeSecondTasks : Family.Statement (.gaugeSecondTasks) := no_word_decodes _
theorem Family.frameSend : Family.Statement (.frameSend) := no_word_decodes _
theorem Family.linkLoss : Family.Statement (.linkLoss) := no_word_decodes _
theorem Family.takeoverSwitch : Family.Statement (.takeoverSwitch) := no_word_decodes _
theorem Family.vddinPowerOn : Family.Statement (.vddinPowerOn) := no_word_decodes _
theorem Family.aonReset : Family.Statement (.aonReset) := no_word_decodes _
theorem Family.rstNAssert : Family.Statement (.rstNAssert) := no_word_decodes _
theorem Family.rstNRelease : Family.Statement (.rstNRelease) := no_word_decodes _
theorem Family.refinLoss : Family.Statement (.refinLoss) := no_word_decodes _
theorem Family.sdpBreak : Family.Statement (.sdpBreak) := no_word_decodes _
theorem Family.dErrRead : Family.Statement (.dErrRead) := no_word_decodes _
theorem Family.sdpDetach : Family.Statement (.sdpDetach) := no_word_decodes _
theorem Family.programWindowRead : Family.Statement (.programWindowRead) := no_word_decodes _
theorem Family.registerRead : Family.Statement (.registerRead) := no_word_decodes _
theorem Family.standbyOutputRelease : Family.Statement (.standbyOutputRelease) := no_word_decodes _
theorem Family.takeoverWcsDrive : Family.Statement (.takeoverWcsDrive) := no_word_decodes _
theorem Family.mirrorSyncLoss : Family.Statement (.mirrorSyncLoss) := no_word_decodes _

end Sys2Proof.Laws
end

