-- ==== Sys2Proof/Machine/Encoding.lean ====
section
/-! DEFINITION. The words of the Galros instructions (spec/13 R329-R341, spec/14 R352-R355): what the words at a core's PC
spell, as a command of the table. The commands themselves carry their operands (log entry 47). -/

namespace Sys2Proof.Machine

/-- The condition field, bits 13:11 of word 1 (spec/13 R329). -/
def condOf (a : BitVec 14) : Cond :=
  match (a.extractLsb' 11 3).toNat with
  | 0 => .al | 1 => .eq | 2 => .ne | 3 => .cs | 4 => .cc | 5 => .mi | 6 => .ts | _ => .tc

/-- A register number at bits `lo` + 2 to `lo`. -/
def regOf (a : BitVec 14) (lo : Nat) : Reg := (a.extractLsb' lo 3).toFin

/-- A two-bit field at bits `lo` + 1 to `lo`. -/
def fieldOf (a : BitVec 14) (lo : Nat) : Fin 4 := (a.extractLsb' lo 2).toFin

/-- The two-register rows, of the register ALU group (0x000-0x1FF) and of the compare and decimal group (0x200-0x2FF), by
bits 9:6 (spec/13 R330, R333). -/
def twoRegOf (n : Nat) (k : CoreId) (c : Cond) (d s : Reg) : Instr :=
  match n with
  | 0 => .mov k c d s | 1 => .add k c d s | 2 => .adc k c d s | 3 => .sub k c d s | 4 => .sbc k c d s | 5 => .and k c d s
  | 6 => .or k c d s | 7 => .xor k c d s | 8 => .cmp k c d s | 9 => .tst k c d s | 10 => .dadd k c d s | _ => .dsub k c d s

/-- The immediate rows by bits 5:3 less 4 (spec/13 R335). -/
def immediateOf (n : Nat) (k : CoreId) (c : Cond) (d : Reg) (b : BitVec 14) : Instr :=
  match n with
  | 0 => .addi k c d b | 1 => .subi k c d b | 2 => .andi k c d b | 3 => .ori k c d b | 4 => .xori k c d b | 5 => .cmpi k c d b
  | 6 => .tsti k c d b | _ => .daddi k c d b

/-- The one-register rows by bits 6:3 (spec/13 R337). -/
def oneRegOf (n : Nat) (k : CoreId) (c : Cond) (r : Reg) : Instr :=
  match n with
  | 0 => .shl k c r | 1 => .shr k c r | 2 => .asr k c r | 3 => .rol k c r | 4 => .ror k c r | 5 => .rlc k c r | 6 => .rrc k c r
  | 7 => .swab k c r | 8 => .not k c r | 9 => .neg k c r | 10 => .inc k c r | 11 => .dec k c r | 12 => .clr k c r
  | 13 => .sexb k c r | 14 => .push k c r | _ => .pop k c r

/-- The control and bit group by k (spec/13 R339, R340); `b` and `d` are words 2 and 3. -/
def controlOf (n : Nat) (k : CoreId) (c : Cond) (b d : BitVec 14) : Instr :=
  match n with
  | 0 => .nop k c | 1 => .wait k c | 2 => .brk k c | 3 => .ret k c | 4 => .reti k c | 5 => .retm k c | 6 => .retf k c
  | 7 => .jmp k c b | 8 => .call k c b | 9 => .callm k c b d | 10 => .btst k c b | 11 => .bset k c b | 12 => .bclr k c b
  | _ => .bmov k c b

/-- Words of an instruction, from bits 10:0 of its first word (spec/13 R330, R340, R341). -/
def lengthOf (op : Nat) : Fin 4 :=
  if 0x300 ≤ op ∧ op < 0x360 then 2
  else if 0x3A7 ≤ op ∧ op ≤ 0x3AD then (if op = 0x3A9 then 3 else 2)
  else if 0x480 ≤ op ∧ op < 0x4C0 then 2
  else if 0x600 ≤ op ∧ op / 32 % 4 = 0 then 2
  else 1

/-- The instruction behind a repeat prefix, as RPT and RPTU take it (spec/13 R344). -/
def repBodyOf (a : BitVec 14) : RepBody :=
  let op := (a.extractLsb' 0 11).toNat
  let r := regOf a 0
  let d := regOf a 3
  if op < 0x300 then
    match op / 64 with
    | 0 => .mov d r | 1 => .add d r | 2 => .adc d r | 3 => .sub d r | 4 => .sbc d r | 5 => .and d r | 6 => .or d r | 7 => .xor d r
    | 8 => .cmp d r | 9 => .tst d r | 10 => .dadd d r | _ => .dsub d r
  else if 0x500 ≤ op ∧ op < 0x580 then
    match op / 8 % 16 with
    | 0 => .shl r | 1 => .shr r | 2 => .asr r | 3 => .rol r | 4 => .ror r | 5 => .rlc r | 6 => .rrc r | 7 => .swab r | 8 => .not r
    | 9 => .neg r | 10 => .inc r | 11 => .dec r | 12 => .clr r | 13 => .sexb r | 14 => .push r | _ => .other 1
  else if 0x440 ≤ op ∧ op < 0x480 then .st (regOf a 2) (fieldOf a 0) (a.getLsbD 5)
  else if 0x360 ≤ op ∧ op < 0x380 then .mfs r (fieldOf a 3)
  else if 0x5A0 ≤ op ∧ op < 0x5C0 then
    match op / 8 % 4 with
    | 0 => .btstr r | 1 => .bsetr r | 2 => .bclrr r | _ => .bmovr r
  else if op = 0x3A0 then .nop
  else .other (lengthOf op)

/-- A CPOP by slot and function, word 2 (spec/13 R341, spec/14 R352-R355): an undefined function is ILL. -/
def cpopOf (slot : Fin 4) (fn : BitVec 14) (k : CoreId) (c : Cond) (t : Fin 4) (r : Reg) : Instr :=
  match slot, fn.toNat with
  | 0, 1 => .fetch k c t r | 0, 2 => .ncoSet k c t r | 0, 3 => .phase k c t r | 0, 4 => .start k c t r | 0, 5 => .stop k c t r
  | 0, 6 => .taps k c t r | 0, 7 => .intlen k c t r
  | 1, 1 => .dwell k c t r | 1, 2 => .result k c t r | 1, 3 => .abort k c t r
  | 2, 1 => .mulu k c t r | 2, 2 => .muls k c t r | 2, 3 => .divu k c t r | 2, 4 => .divs k c t r | 2, 5 => .rot k c t r
  | 2, 6 => .atan2 k c t r | 2, 7 => .sqrt k c t r
  | 3, _ => .cp3Operation k c t r fn
  | _, _ => .illegalInstruction k c

/-- The instruction that words `a`, `b` and `d` spell (spec/13 R329, R330); an undefined code is ILLEGAL_INSTRUCTION
(R331), and a field that a rule marks as illegal is ILL when the instruction executes. -/
def spelled (k : CoreId) (a b d : BitVec 14) : Instr :=
  let c := condOf a
  let op := (a.extractLsb' 0 11).toNat
  let r := regOf a 0
  let m := regOf a 3
  if op < 0x300 then twoRegOf (op / 64) k c m r
  else if op < 0x320 then .ldi k c r (a.extractLsb' 3 2) b
  else if op < 0x360 then immediateOf ((op - 0x320) / 8) k c r b
  else if op < 0x380 then .mfs k c (fieldOf a 3) r
  else if op < 0x3A0 then .mts k c (fieldOf a 3) r
  else if op < 0x3AE then controlOf (op - 0x3A0) k c b d
  else if op < 0x400 then .illegalInstruction k c
  else if op < 0x440 then .ld k c (regOf a 2) (.short (fieldOf a 0) (a.getLsbD 5)) none
  else if op < 0x480 then .st k c (regOf a 2) (.short (fieldOf a 0) (a.getLsbD 5))
  else if op < 0x4A0 then .ld k c r (.offset (fieldOf a 3) (regOf b 11) (b.extractLsb' 0 11)) none
  else if op < 0x4C0 then .st k c r (.offset (fieldOf a 3) (regOf b 11) (b.extractLsb' 0 11))
  else if op < 0x4E0 then .sgld k c (fieldOf a 3) r
  else if op < 0x500 then .sgst k c (fieldOf a 3) r
  else if op < 0x580 then oneRegOf (op / 8 % 16) k c r
  else if op < 0x588 then .jmpr k c r
  else if op < 0x590 then .callr k c r
  else if op < 0x598 then .rpt k c r (condOf b) (repBodyOf b) 65536
  else if op < 0x5A0 then .rptu k c r (condOf b) (repBodyOf b)
  else if op < 0x5A8 then .btstr k c r
  else if op < 0x5B0 then .bsetr k c r
  else if op < 0x5B8 then .bclrr k c r
  else if op < 0x5C0 then .bmovr k c r
  else if op < 0x600 then .illegalInstruction k c
  else
    let slot := fieldOf a 7
    let t := fieldOf a 3
    match (a.extractLsb' 5 2).toNat with
    | 0 => cpopOf slot b k c t r
    | 1 => .cprd k c slot t r
    | 2 => .cpst k c slot t r
    | _ => .waitcp k c slot t r

/-- The instruction at a core's PC: its words come from program memory, whose addresses wrap at 0x3FFF (spec/12 R304,
spec/13 R329). -/
def codeAt (s : State) (k : CoreId) : Instr :=
  let pc := (s.core k).pc
  spelled k (progWord s k pc) (progWord s k (pc + 1)) (progWord s k (pc + 2))

end Sys2Proof.Machine
end

