-- ==== Sys2Proof/Machine/Pins.lean ====
section
/-! DEFINITION. The levels of the output pins, as the state sets them (spec/06 R147, R153-R157, spec/07 R181, spec/08 R200,
R209, spec/15 R377, spec/16 R394, R395, spec/19 R441, spec/20 R470, spec/23 R532). -/

namespace Sys2Proof.Machine

/-- A pin: not driven, in high impedance, low or high. -/
inductive PinLevel
  | off
  | hiZ
  | low
  | high
deriving DecidableEq, Repr

/-- A driven level. -/
def driven (b : Bool) : PinLevel := if b then .high else .low

/-- A pin of AON: not driven without AON (spec/16 R395, spec/23 R532). -/
def aonPin (s : State) (b : Bool) : PinLevel := if s.pwr.aonUp then driven b else .off

/-- A shared-net pin: high impedance on a standby and with CORE down (spec/19 R441, spec/23 R532). -/
def netPin (s : State) (b : Bool) : PinLevel :=
  if ¬ s.pwr.aonUp then .off else if s.mir.hiZ then .hiZ else driven b

/-- TPOUT (spec/06 R147): tp.pol 1 makes the active level low. -/
def tpoutPin (s : State) : PinLevel := netPin s (s.tp.level != s.tp.pol)

/-- A pin that the new primary drives only from its next lattice point on (spec/19 R459). -/
def lateNetPin (s : State) (b : Bool) : PinLevel := if s.mir.wcsWait ∧ s.pwr.aonUp then .hiZ else netPin s b

/-- EVOUTk (spec/07 R181): evs.evoutK_pol 1 makes the active level low. -/
def evoutPin (s : State) (k : Fin 4) : PinLevel := lateNetPin s (s.evs.ev[k].active != s.parB (pEvsEvout0Pol + k.val))

/-- The position of the output lattice in half MCLK periods, and the number of these in a WALIGN period: the lattice of
R154, late by the output phase (spec/06 R153-R155). -/
def halfMclk (s : State) : Int × Int :=
  let per := 2 * mclkPer s
  ((16 * wcsTime s - s.wcs.phi) * wcsFs s * per / (16 * ticksPerSec) % per, per)

/-- WCLK_OUT (spec/06 R153, R154, R156): a rising edge at each lattice point, an even duty cycle, low while it does not run
(log entry 100). -/
def wclkPin (s : State) : PinLevel := lateNetPin s (s.wcs.running && (halfMclk s).1 % 2 == 0)

/-- WALIGN is at its active level (spec/06 R154): from half an MCLK period before the lattice point, for wcs.walign_w MCLK
periods, or for half its period. -/
def walignActive (s : State) : Bool :=
  let h := halfMclk s
  let v := (h.1 + 1) % h.2
  s.wcs.running && (if s.wcs.square then decide (2 * v < h.2) else decide (v < 2 * s.par pWcsWalignW))

/-- WALIGN (spec/06 R154): walign_pol 1 makes the active level low. -/
def walignPin (s : State) : PinLevel := lateNetPin s (walignActive s != s.wcs.lowAct)

/-- FE_EN (spec/03 R74, spec/23 R532). -/
def feEnPin (s : State) : PinLevel := aonPin s s.samp.feEn

/-- HIRQ_N and HSIRQ_N, low when asserted (spec/08 R209). -/
def irqPin (s : State) (c : Cls) : PinLevel := aonPin s (!irqLine s c)

/-- FAULT_N, open-drain: low when asserted (spec/15 R377). -/
def faultPin (s : State) : PinLevel := if ¬ s.pwr.aonUp then .off else if faultN s then .low else .hiZ

/-- HERR_N in the present data phase, low for an error response; not driven while RST_N is low (spec/08 R199, R200). -/
def herrPin (s : State) : PinLevel := if s.pwr.rstLow then .off else aonPin s (!s.bus.herr)

/-- HACK_N at the end of a data phase: low once it is acknowledged, high while it is held (spec/08 R196, R199). -/
def hackPin (s : State) : PinLevel := if s.pwr.rstLow then .off else aonPin s s.bus.held

/-- REFOUT, a copy of REFIN while it is driven, shown here by its high level; low until CORE is up (spec/16 R394, spec/20
R470). -/
def refoutPin (s : State) : PinLevel := aonPin s s.pin.refout

/-- MLTX while no frame is sent: high, and high impedance with CORE down (spec/23 R532). -/
def mltxPin (s : State) : PinLevel :=
  if ¬ s.pwr.aonUp then .off else if s.pwr.coresUp ∨ s.pwr.state = .deep then .high else .hiZ

end Sys2Proof.Machine
end

