-- ==== Sys2Proof/WellFormed.lean ====
section
/-! DEFINITION. Which commands are well formed: what an event brings from outside lies where the spec lets it lie. The types
of the operands say the rest. -/

namespace Sys2Proof

/-- The PRNs predicted are GPS PRNs, each once, and code phases lie in the 1,023 chips (spec/04 R88, R97). -/
def assistWf (a : Assist) : Bool :=
  a.all (fun v => decide (1 ≤ v.prn) && decide (v.prn ≤ 63) && decide (v.code < 32736)) && decide ((a.map (·.prn)).Nodup)

/-- Each pan gives at most one measurement (spec/05 R124). -/
def solWf (o : SolObs) : Bool := decide ((o.sats.map (·.pan)).Nodup)

/-- A phase capture lies within one SCLK period, of at most 128 ticks (spec/03 R70). -/
def sclkWf (o : SclkObs) : Bool :=
  match o.capture with
  | some c => decide (-128 < c) && decide (c < 128)
  | none => true

/-- Powers are those of the 2,046 x 32 cells of a search, each once (spec/04 R87). -/
def cellsWf (l : List (Nat × Nat)) : Bool := l.all (fun c => decide (c.1 < 65472)) && decide ((l.map (·.1)).Nodup)

/-- What ends with an epoch is well formed. -/
def epochWf (o : EpochObs) : Bool := assistWf o.assist && cellsWf o.cells

/-- The correlators hold I and Q of 7 taps and of the noise floor's 31 codes, and an edge lies in one of 20 ms (spec/14 R352,
spec/04 R102, R105). -/
def integWf (o : IntegObs) : Bool := o.result.length == 14 && o.noise.length == 31 && decide (o.predEdge < 20)

/-- An instruction that RPT does not repeat has 1 to 3 words (spec/13 R331). -/
def repWf : RepBody → Bool
  | .other n => n != 0
  | .mov _ _ | .add _ _ | .adc _ _ | .sub _ _ | .sbc _ _ | .and _ _ | .or _ _ | .xor _ _ | .cmp _ _ | .tst _ _
  | .dadd _ _ | .dsub _ _ | .shl _ | .shr _ | .asr _ | .rol _ | .ror _ | .rlc _ | .rrc _ | .swab _ | .not _ | .neg _
  | .inc _ | .dec _ | .clr _ | .sexb _ | .push _ | .st _ _ _ | .mfs _ _ | .btstr _ | .bsetr _ | .bclrr _ | .bmovr _
  | .nop => true

/-- The payload length of a frame is 0-32 (spec/19 R445). -/
def frameWf (f : Frame) : Bool := decide (f.payload.length ≤ 32)

/-- The words lost are among the words carried (spec/11 R285, spec/19 R446). -/
def lostWf (f : Frame) (lost : List (BitVec 14)) : Bool :=
  lost.all (fun w => (List.range (f.payload.length - 2)).any (fun i => w == (f.payload.getD 1 0).setWidth 14 + BitVec.ofNat 14 i))

/-- A command is well formed. -/
def wellFormed : Instr → Bool
  | .dtcLatchRead => true
  | .timeLatchExpiry _ => true
  | .dtcWrap => true
  | .epochBoundary o => epochWf o
  | .solutionEpoch o => solWf o
  | .gnssFineEntry => true
  | .holdoverEntry => true
  | .spoofSuspectClear o => solWf o
  | .surveyComplete => true
  | .calendarLoad => true
  | .leapSecondApply => true
  | .pacePeriodEnd o => sclkWf o
  | .relapseWindowExpiry => true
  | .sclkAbsence => true
  | .sampleArrival _ => true
  | .feSettleExpiry => true
  | .cellSearchEnd _ => true
  | .pendingHitExpiry => true
  | .integrationEnd _ o => integWf o
  | .pullComplete _ => true
  | .codeLockLoss _ => true
  | .reacqTimeout _ => true
  | .panGroupStall _ => true
  | .crystallizerStall => true
  | .tpoutActiveEdge => true
  | .tpoutInactiveEdge => true
  | .tpoutDeferredPulse => true
  | .tpSettingsApply => true
  | .wcsEnable _ => true
  | .wcsDisable _ => true
  | .pllLockAcquired => true
  | .wcsOutputStart => true
  | .wcsPhaseMeasure _ => true
  | .wcsRealignRequest _ => true
  | .realignStop => true
  | .realignRestart => true
  | .pllLockLoss => true
  | .wcsSleepStop => true
  | .slotCommitPoint _ => true
  | .slotFire _ => true
  | .slotLateFire _ => true
  | .evoutPulseEnd _ => true
  | .tmarkEdge _ _ _ => true
  | .tmarkRecordPost _ => true
  | .evsTmarkRead => true
  | .busAddressPhase _ _ _ => true
  | .registerWrite _ => true
  | .hbErrRead => true
  | .parameterWrite _ => true
  | .parameterRead => true
  | .programWindowWrite _ => true
  | .bankWindowWrite _ => true
  | .bankWindowRead _ => true
  | .txnBegin _ => true
  | .txnCommit _ => true
  | .txnRollback _ => true
  | .pwrPaceCntRead => true
  | .sluRingRead => true
  | .bnkLogRead => true
  | .vregStatRead => true
  | .bnkOwnerWrite _ => true
  | .handoverDrainEnd _ => true
  | .rtcHaltSet _ => true
  | .rtcHaltClear _ => true
  | .rtcCalendarWrite _ => true
  | .rtcSwstampRearm _ => true
  | .antUnlatch _ => true
  | .calLoad _ => true
  | .calStore _ => true
  | .calStoreEnd _ => true
  | .dbgHaltRequest _ => true
  | .dbgResumeRequest _ => true
  | .sysBootRelease _ => true
  | .ringReadIndexWrite _ => true
  | .ringPlace _ => true
  | .doorbellRing _ => true
  | .doorbellTake _ => true
  | .channelTimeout _ => true
  | .timeSet => true
  | .posSet => true
  | .freqAid => true
  | .search a => assistWf a
  | .searchStop => true
  | .panStart => true
  | .panStop => true
  | .twin => true
  | .intRebase => true
  | .slotArm => true
  | .slotModify => true
  | .slotCancel => true
  | .slotCancelClient => true
  | .slotQuery => true
  | .progLoad => true
  | .power => true
  | .bankLend => true
  | .bankRecall => true
  | .mirRole => true
  | .mirTakeover => true
  | .mirCompare => true
  | .nopCommand => true
  | .customerCommand _ => true
  | .rakeCheck u => u.length == 8
  | .bankClearEnd _ => true
  | .retainedBankReady => true
  | .mov _ _ _ _ => true
  | .add _ _ _ _ => true
  | .adc _ _ _ _ => true
  | .sub _ _ _ _ => true
  | .sbc _ _ _ _ => true
  | .and _ _ _ _ => true
  | .or _ _ _ _ => true
  | .xor _ _ _ _ => true
  | .cmp _ _ _ _ => true
  | .tst _ _ _ _ => true
  | .dadd _ _ _ _ => true
  | .dsub _ _ _ _ => true
  | .ldi _ _ _ _ _ => true
  | .addi _ _ _ _ => true
  | .subi _ _ _ _ => true
  | .andi _ _ _ _ => true
  | .ori _ _ _ _ => true
  | .xori _ _ _ _ => true
  | .cmpi _ _ _ _ => true
  | .tsti _ _ _ _ => true
  | .daddi _ _ _ _ => true
  | .ld _ _ _ _ _ => true
  | .st _ _ _ _ => true
  | .push _ _ _ => true
  | .pop _ _ _ => true
  | .shl _ _ _ => true
  | .shr _ _ _ => true
  | .asr _ _ _ => true
  | .rol _ _ _ => true
  | .ror _ _ _ => true
  | .rlc _ _ _ => true
  | .rrc _ _ _ => true
  | .swab _ _ _ => true
  | .not _ _ _ => true
  | .neg _ _ _ => true
  | .inc _ _ _ => true
  | .dec _ _ _ => true
  | .clr _ _ _ => true
  | .sexb _ _ _ => true
  | .sgld _ _ _ _ => true
  | .sgst _ _ _ _ => true
  | .mfs _ _ _ _ => true
  | .mts _ _ _ _ => true
  | .btst _ _ _ => true
  | .bset _ _ _ => true
  | .bclr _ _ _ => true
  | .bmov _ _ _ => true
  | .btstr _ _ _ => true
  | .bsetr _ _ _ => true
  | .bclrr _ _ _ => true
  | .bmovr _ _ _ => true
  | .nop _ _ => true
  | .wait _ _ => true
  | .waitResume _ => true
  | .brk _ _ => true
  | .ret _ _ => true
  | .reti _ _ => true
  | .retm _ _ => true
  | .retf _ _ => true
  | .jmp _ _ _ => true
  | .call _ _ _ => true
  | .callm _ _ _ _ => true
  | .jmpr _ _ _ => true
  | .callr _ _ _ => true
  | .rpt _ _ _ _ body _ => repWf body
  | .rptu _ _ _ _ body => repWf body
  | .illegalInstruction _ _ => true
  | .interruptEntry _ => true
  | .fetch _ _ _ _ => true
  | .ncoSet _ _ _ _ => true
  | .phase _ _ _ _ => true
  | .start _ _ _ _ => true
  | .stop _ _ _ _ => true
  | .taps _ _ _ _ => true
  | .intlen _ _ _ _ => true
  | .dwell _ _ _ _ => true
  | .result _ _ _ _ => true
  | .abort _ _ _ _ => true
  | .mulu _ _ _ _ => true
  | .muls _ _ _ _ => true
  | .divu _ _ _ _ => true
  | .divs _ _ _ _ => true
  | .rot _ _ _ _ => true
  | .atan2 _ _ _ _ => true
  | .sqrt _ _ _ _ => true
  | .cp3Operation _ _ _ _ _ => true
  | .cpOperationComplete _ _ => true
  | .cprd _ _ _ _ _ => true
  | .cpst _ _ _ _ _ => true
  | .waitcp _ _ _ _ _ => true
  | .softStartEnd _ _ => true
  | .vddinMeasure _ => true
  | .antSoftStartPass _ => true
  | .antOpenDetect _ => true
  | .antOpenClear _ => true
  | .antCurrentHigh _ => true
  | .pwrModeRequest _ _ => true
  | .coreReplyTimeout _ => true
  | .entryCommit _ => true
  | .sleepExit _ => true
  | .deepSleepExit _ => true
  | .refinStable _ _ => true
  | .wakePattern _ => true
  | .gaugeSample _ _ => true
  | .comparatorTrip _ => true
  | .idleFrame f => frameWf f
  | .stateFrame f => frameWf f
  | .wordsFrame f lost => frameWf f && lostWf f lost
  | .slotFrame f => frameWf f
  | .takeFrame f => frameWf f
  | .ackFrame f => frameWf f
  | .resendFrame f => frameWf f
  | .linkLossEdgeCheck _ => true
  | .tpcmpEdge _ _ => true
  | .coreRestart _ => true
  | .sdpSessionAttach _ => true
  | .sdpReadFrame _ _ _ => true
  | .sdpWriteFrame _ _ _ _ => true
  | .sdpHalt _ => true
  | .sdpResume _ => true
  | .sdpStep _ => true
  | .coreHalt _ => true
  | .breakpointHit _ => true
  | .cp3Serve => true
  | .cp3Timeout => true
  | .coreRailRetry => true
  | .coreRailFault => true
  | .regulatorTargetReached => true
  | .antShort => true
  | .antRetry => true
  | .antCurrentLimitExpiry => true
  | .antoutWantedChange => true
  | .autoSleepTimeout => true
  | .wakePin => true
  | .mirrorLinkActivity => true
  | .rtcSecondTick => true
  | .vbakSwitchOver => true
  | .vddinSwitchBack => true
  | .bakReset => true
  | .gaugeSecondTasks => true
  | .frameSend => true
  | .linkLoss => true
  | .takeoverSwitch => true
  | .vddinPowerOn => true
  | .aonReset => true
  | .rstNAssert => true
  | .rstNRelease => true
  | .refinLoss => true
  | .sdpBreak => true
  | .dErrRead => true
  | .sdpDetach => true
  | .programWindowRead => true
  | .registerRead => true
  | .standbyOutputRelease => true
  | .takeoverWcsDrive => true
  | .mirrorSyncLoss => true

end Sys2Proof
end

