-- ==== Sys2Proof/Tests/Slice0.lean ====
section
/-! SUPPORT. The model's own tests: for every statement with hypotheses a state and operands that meet them (witness_<the
statement's name>, clause by clause, at the edges of their ranges), terms that WellFormed refuses, and one-step tests whose
expected values come from the rules of spec/ named beside them. -/

namespace Sys2Proof.Tests

open Sys2Proof Sys2Proof.Machine Sys2Proof.Spec

/-- The machine with CORE up in RUN, both cores free to run and the epoch time running. -/
def up : State :=
  let s := State.reset
  { s with pwr := { s.pwr with coreUp := true, coresUp := true, bnkOut := 0 },
           vreg := { s.vreg with softst := false, out := 40 * 16368, target := 40 }, bank := { s.bank with clearing := 0, wakeWait := 0 },
           time := { s.time with running := true }, trk := { s.trk with held := false }, svc := { s.svc with held := false } }

/-- `up` with the TRK core in a customer's program at 0x2000, its segments over banks B0 to B2, and its registers small. -/
def prog : State := up.modCore .trk (fun x =>
  { x with pc := 0x2000, base := 256, w := ⟨#[5, 2, 3, 4, 0x20, 0x30, 0x40, 100], rfl⟩,
           sg := ⟨#[⟨0, 0x3FFF⟩, ⟨0x20000, 11⟩, ⟨0x4000, 0x3FFF⟩, ⟨0, 0x3FFF⟩], rfl⟩ })

/-- The outcome is a next state with `p`. -/
def holds (o : Host.Outcome State Fault Refusal) (p : State → Bool) : Bool :=
  match o with
  | .next t => p t
  | _ => false

/-! ### Galros -/

/-- Both conditions of a core's turn, the true and the false one. -/
theorem witness_TwoRegisterInstructions :
    runs up .trk .al = true ∧ runs up .svc .ne = true ∧ isBcd 0x9999 = true ∧ isBcd 0 = true := by decide

theorem witness_ImmediateInstructions : runs up .trk .cc = true ∧ runs up .svc .al = true := by decide

theorem witness_OneRegisterInstructions : runs up .trk .tc = true ∧ runs up .svc .al = true := by decide

/-- A load that is on its way, and a condition that is false. -/
def loading : State := prog.modCore .trk (fun x => { x with delay := some (7, 0xFFFF) })

theorem witness_FalseConditionPassesTheWords :
    parts (.callm .trk .eq 1 0) = some (.trk, .eq, 3) ∧ coreReady loading .trk = true ∧ bpHit (loading.core .trk) = none ∧
    (loading.core .trk).stepReq = false ∧ condHolds (loading.core .trk) .eq = false ∧
    (loading.core .trk).delay = some (7, 0xFFFF) := by decide

/-- Bank words 0 and 16383 of B0 carry a single and a double error, word 0x100 of B5 is poisoned, and B1 is withdrawn. -/
def flawed : State :=
  { prog with bank := { prog.bank with errs := [(0, .single), (16383, .double), (5 * 16384 + 0x3000, .poison)] },
              pwr := { prog.pwr with bnkOut := 2 } }

theorem witness_LoadsAndStores :
    runs prog .trk .al = true ∧ memInc (.short 0 true) ≠ some 3 ∧
    onBank prog .trk (operand prog .trk (.offset 0 0 0)).1 (operand prog .trk (.offset 0 0 0)).2 0 5 = true ∧
    onBank prog .trk 0 0x3FFF 0 16383 = true ∧ onBank prog .trk 2 0x3FFF 1 16383 = true ∧
    atOnce prog .trk 0 = true ∧ sound flawed 0 0 = true ∧ mayStore prog .trk 0 = true ∧
    onPage prog .trk 1 0 0 = true ∧ onPage prog .trk 1 11 11 = true ∧
    onPage prog .trk (operand prog .trk (.offset 1 0 0)).1 (operand prog .trk (.offset 1 0 0)).2 5 = true ∧
    room prog .trk = true ∧ memInc (.short 1 true) = some 5 ∧
    ((prog.core .trk).sg.get 1).lim.toNat < (operand prog .trk (.short 1 false)).2.toNat ∧
    onBank flawed .trk (operand flawed .trk (.short 2 false)).1 (operand flawed .trk (.short 2 false)).2 1 0x40 = true ∧
    bankOut flawed 1 = true ∧ coreOwns prog .trk 1 = false := by decide

theorem witness_LoadsAndStores_poison :
    let s := flawed.modCore .trk (fun x => { x with sg := x.sg.set 0 ⟨5 * 16384, 0x3FFF⟩, w := x.w.set 4 0x3000 })
    runs s .trk .al = true ∧ room s .trk = true ∧ memInc (.short 0 true) ≠ some 0 ∧
    onBank s .trk (operand s .trk (.short 0 true)).1 (operand s .trk (.short 0 true)).2 5 0x3000 = true ∧
    atOnce s .trk 5 = true ∧ bankErr s 5 0x3000 = some .poison ∧ rtWord 5 0x3000 = false := by decide

theorem witness_PushAndPop :
    runs prog .trk .al = true ∧ onBank prog .trk 3 (Spec.w prog .trk 7 - 1) 0 99 = true ∧ mayStore prog .trk 0 = true ∧
    onBank prog .trk 3 (Spec.w prog .trk 7) 0 100 = true ∧ atOnce prog .trk 0 = true ∧ sound prog 0 100 = true ∧
    room prog .trk = true ∧
    (let s := prog.modCore .trk (fun x => { x with w := x.w.set 7 0 })
     Spec.w s .trk 7 = 0 ∧ runs s .trk .al = true ∧ room s .trk = true ∧
     ((s.core .trk).sg.get 3).lim.toNat < (Spec.w s .trk 7 - 1).toNat) ∧
    (let s := prog.modCore .trk (fun x => { x with w := x.w.set 7 0x4000 })
     runs s .trk .al = true ∧ ((s.core .trk).sg.get 3).lim.toNat < (Spec.w s .trk 7).toNat) := by decide

theorem witness_LoadDelay :
    coreReady loading .trk = true ∧ bpHit (loading.core .trk) = none ∧ condHolds (loading.core .trk) .al = true ∧
    (loading.core .trk).stepReq = false ∧ (loading.core .trk).delay = some ((7 : Reg).val, 0xFFFF) := by decide

/-- R307: base 0x10000 may be loaded with limit 0xFFFF, base 0x10001 may not; page bases 0x20000 to 0x2000B may. -/
theorem witness_SegmentsAndSpecialRegisters :
    runs prog .trk .al = true ∧ room prog .trk = true ∧ segmentAllowed 0x10000 0xFFFF = true ∧
    segmentAllowed 0x10001 0xFFFF = false ∧ segmentAllowed 0x1FFFF 0 = true ∧ segmentAllowed 0x2000B 0 = true ∧
    segmentAllowed 0x2000B 1 = false ∧ segmentAllowed 0x2000C 0 = false ∧
    ((prog.core .trk).w.get 0).toNat / 8 % 16 ≤ 8 ∧ (5 : Reg).val ≥ 5 ∧
    (let s := prog.modCore .trk (fun x => { x with w := (x.w.set 0 0x48).set 1 0x40 })
     runs s .trk .al = true ∧ room s .trk = true ∧ 8 < (Spec.w s .trk 0).toNat / 8 % 16 ∧
       (Spec.w s .trk 1).toNat / 8 % 16 ≤ 8) := by decide

theorem witness_BitInstructions :
    runs prog .trk .al = true ∧ room prog .trk = true ∧ (4095#14).toNat < 4096 ∧ 4096 ≤ (4096#14).toNat ∧
    bitIsRw 0x18 = true ∧ bitIsRw 0x1F = true ∧ bitIsRw 0x800 = true ∧ bitIsRw 0xFFF = true ∧
    bitIsEv 0x03 = true ∧ bitIsEv 0x340 = true ∧ bitIsEv 0x3BF = true ∧ bitIsEv 0x7FF = true ∧
    bitIsRw 0x3C0 = false ∧ bitIsEv 0x3C0 = false ∧ bitIsRw 0x20 = false ∧ bitIsEv 0x20 = false := by decide

/-- The TRK core waits with a notice of vector 9 due, in IDLE. -/
def waits (ie : Bool) : State :=
  let s := prog.modCore .trk (fun x => { x with waiting := true, ie := ie, ipEpoch := true, ieBits := 0xFF, level := 0 })
  let s := s.modCore .svc (fun x => { x with waiting := true })
  { s with pwr := { s.pwr with state := .idle } }

theorem witness_NopWaitAndBreak :
    runs prog .trk .al = true ∧ prog.pwr.attempt = false ∧ prog.pwr.state = .run ∧ prog.dbg.session = false ∧
    room prog .trk = true ∧ runs { prog with dbg := { prog.dbg with session := true } } .trk .al = true ∧
    coreRuns (waits true) .trk = true ∧ ((waits true).core .trk).waiting = true ∧ (waits true).pwr.attempt = false ∧
    (waits true).pwr.state = .idle ∧ ipNext (waits true) .trk = some 9 ∧ ((waits true).core .trk).ie = true ∧
    room (waits true) .trk = true ∧ ((waits false).core .trk).ie = false ∧ ipNext (waits false) .trk = some 9 ∧
    coreRuns (waits false) .trk = true := by decide

/-- The TRK core's return stack is full in trap mode. -/
def fullStack : State := (prog.setPar pSysRsTrap 1).modCore .trk (fun x => { x with rsCount := 8 })

/-- The TRK core's return stack holds one entry, of a customer's program. -/
def called : State := prog.modCore .trk (fun x =>
  { x with rsTop := 1, rsCount := 1, rs := x.rs.set 0 ⟨0x2010, 3, 2, true⟩ })

/-- `called` with the words of a CALLM of FL and W0 below the stack pointer. -/
def calledM : State := putWord (putWord (putWord called 0 100 0x0081) 0 101 0x1F) 0 102 0xABCD

theorem witness_JumpsCallsAndReturns :
    runs prog .trk .al = true ∧ room prog .trk = true ∧ 0x2000 ≤ (prog.core .trk).pc.toNat ∧
    (let s := fullStack
     runs s .trk .al = true ∧ room s .trk = false ∧ 0x2000 ≤ (s.core .trk).pc.toNat ∧ (s.core .trk).base ≠ 0 ∧
     mayStore s .trk 0 = true ∧ onBank s .trk 3 (Spec.w s .trk 7 - 1) 0 (97 + 2) = true ∧
     onBank s .trk 3 (Spec.w s .trk 7 - 2) 0 (97 + 1) = true ∧ onBank s .trk 3 (Spec.w s .trk 7 - 3) 0 97 = true ∧
     s.mir.role ≠ 1) ∧
    (let s := calledM
     runs s .trk .al = true ∧ (s.core .trk).rsCount ≠ 0 ∧
     0x2000 ≤ ((s.core .trk).rs.getD ((s.core .trk).rsTop - 1).toNat .reset).addr.toNat ∧
     onBank s .trk 3 (Spec.w s .trk 7) 0 100 = true ∧ onBank s .trk 3 (Spec.w s .trk 7 + 1) 0 (100 + 1) = true ∧
     onBank s .trk 3 (Spec.w s .trk 7 + 2) 0 (100 + 2) = true ∧ atOnce s .trk 0 = true ∧ sound s 0 100 = true ∧
     sound s 0 101 = true ∧ sound s 0 102 = true ∧ bankWord s 0 100 = 0x0081) ∧
    256 ≤ (256#14).toNat ∧
    onBank prog .trk 3 (Spec.w prog .trk 7 - 1) 0 99 = true ∧ mayStore prog .trk 0 = true ∧ prog.mir.role ≠ 1 ∧
    onBank prog .trk 3 (Spec.w prog .trk 7 - 1) 0 (97 + 2) = true := by decide

/-- A repeat of INC W1, five times, runs to its end; a repeat of NOP is interrupted. -/
theorem witness_RepeatPrefixes :
    runs prog .trk .al = true ∧ room prog .trk = true ∧ Spec.w prog .trk 0 ≠ 0 ∧ (prog.core .trk).ie = false ∧
    (prog.core .trk).haltReq = false ∧ (prog.core .trk).haltSdp = false ∧
    (∃ f, repBody .trk (.inc 1) = some f ∧
      ((repeated .trk 0 .al f 5 (after prog .trk 1 id)).map (fun t => Spec.w t .trk 1)) = some 7 ∧
      ((repeated .trk 0 .al f 65536 (after prog .trk 1 id)).map (fun t => Spec.w t .trk 1)) = some 7) ∧
    (let s := prog.modCore .trk (fun x => { x with w := x.w.set 0 0 })
     runs s .trk .al = true ∧ Spec.w s .trk 0 = 0) ∧
    (let s := prog.modCore .trk (fun x => { x with ie := true, ipEpoch := true, ieBits := 0xFF, level := 0 })
     runs s .trk .al = true ∧ 1 < (Spec.w s .trk 0).toNat ∧ (s.core .trk).ie = true ∧ (s.core .trk).haltReq = false ∧
     (s.core .trk).haltSdp = false ∧ ipNext s .trk = some 9 ∧ room s .trk = true) := by
  refine ⟨by decide, by decide, by decide, by decide, by decide, by decide, ⟨_, rfl, by decide, by decide⟩, by decide, by decide⟩

theorem witness_TrapsAndInterrupts :
    runs prog .trk .al = true ∧ room prog .trk = true ∧ (prog.core .trk).base ≠ 0 ∧
    (let s := prog.modCore .trk (fun x => { x with ie := true, ipEpoch := true, ieBits := 0xFF, level := 0 })
     coreReady s .trk = true ∧ (s.core .trk).delay = none ∧ (s.core .trk).ie = true ∧ (s.core .trk).stepReq = false ∧
     room s .trk = true ∧ ipDue s .trk 9 = true ∧
     ∀ u < 16, 8 ≤ u → ipDue s .trk u = true → vecLevel u < vecLevel 9 ∨ (vecLevel u = vecLevel 9 ∧ 9 ≤ u)) ∧
    bpHit (prog.core .trk) = none ∧ bpHit ((prog.modCore .trk (fun x => { x with bp := x.bp.set 3 ⟨0x2000, true⟩ })).core .trk) = some 3 ∧
    (prog.core .trk).ie = false ∧ (loading.core .trk).delay ≠ none ∧
    (let s := prog.modCore .trk (fun x => { x with ie := true })
     ∀ v < 16, 8 ≤ v → ipDue s .trk v = false) := by decide

theorem witness_RuntimeTrapResponse :
    (prog.core .trk).base ≠ 0 ∧ (up.core .trk).base = 0 ∧ 0x2000 ≤ (0x3FFF#14).toNat ∧ (0x1FFF#14).toNat < 0x2000 ∧
    (up.setPar pSysPramEn 3).parBit pSysPramEn (coreNum .trk) = true ∧ (up.core .trk).trapVec = none ∧
    up.parBit pSysPramEn (coreNum .trk) = false ∧ (up.core .trk).hook = none ∧ keyPending up pSysPramEn = false ∧
    keyPending (up.modCls .sec (fun b => { b with txn := { b.txn with pend := true, shadow := [(pSysPramEn, 0)] } })) pSysPramEn = true ∧
    ((up.core .trk).restarts.filter (fun t => decide (dtcNow up - t < 163680000))).length < 2 ∧
    (let s := up.modCore .trk (fun x => { x with restarts := [0, 0] })
     2 ≤ ((s.core .trk).restarts.filter (fun t => decide (dtcNow s - t < 163680000))).length) := by decide

/-! ### The coprocessor block -/

/-- `prog` with tag 0 busy, tag 1 completed with one word, and a cell search running. -/
def tagged : State :=
  let s := prog.modCore .trk (fun x =>
    { x with tag := (x.tag.set 0 ⟨true, 2, 0, [], some ⟨2, 1, [1, 0, 2, 0], 0⟩⟩).set 1 ⟨false, 0, 0, [0x77], none⟩ })
  { s with cp := { s.cp with issued := 1 } }

theorem witness_CoprocessorIssue :
    runs tagged .trk .al = true ∧ room tagged .trk = true ∧ (4 : Reg).val + 4 ≤ 8 ∧ 8 < (5 : Reg).val + 4 ∧
    (tagOf tagged .trk 1).busy = false ∧ (tagOf tagged .trk 0).busy = true := by decide

theorem witness_CoprocessorResults :
    runs tagged .trk .al = true ∧ room tagged .trk = true ∧ (tagOf tagged .trk 1).words = 0x77 :: [] ∧
    (tagOf tagged .trk 1).busy = false ∧ (tagOf tagged .trk 0).words = [] ∧ (tagOf tagged .trk 0).busy = true ∧
    (tagOf tagged .trk 2).words = [] ∧ (tagOf tagged .trk 2).busy = false := by decide

/-- A core with an operation of coprocessor `unit`, function `fn` and operands `a` outstanding on tag 0. -/
def opOn (s : State) (unit : Fin 4) (fn : Nat) (a : List Word) : State :=
  s.modCore .trk (fun x => { x with tag := x.tag.set 0 ⟨true, 2, 0, [], some ⟨unit, fn, a, 0⟩⟩ })

theorem witness_ArithmeticUnitResults :
    mayComplete (opOn up 2 1 [1, 0, 2, 0]) .trk 0 ⟨2, 1, [1, 0, 2, 0], 0⟩ = true ∧
    cp2Arg 3 [1, 0, 0, 0] = some 2 ∧ mayComplete (opOn up 2 3 [1, 0, 0, 0]) .trk 0 ⟨2, 3, [1, 0, 0, 0], 0⟩ = true ∧
    cp2Arg 4 [0, 0x8000, 0xFFFF, 0xFFFF] = some 0 ∧ cp2Arg 1 [1, 0, 2, 0] = none ∧
    mayComplete (opOn up 2 4 [0, 0x8000, 0xFFFF, 0xFFFF]) .trk 0 ⟨2, 4, [0, 0x8000, 0xFFFF, 0xFFFF], 0⟩ = true := by decide

theorem witness_CoprocessorIssue_dwell :
    let s := { tagged with acq := { tagged.acq with cell := some ⟨1, 0, 1, 1, true, 0, none, none, 0, none, [], 0⟩ } }
    runs s .trk .al = true ∧ (5 : Reg).val ≤ 5 ∧ 5 < (6 : Reg).val ∧ (tagOf s .trk 1).busy = false ∧ cryOff s = false ∧
    prnOk s (Spec.w s .trk 2).toNat = true ∧ s.acq.cell ≠ none ∧ room s .trk = true := by decide

/-- `up` with pan 31 active on PRN 7, its sixteen result words at hand. -/
def panned : State :=
  putPan up 31 { Pan.reset with prn := 7, result := List.replicate 16 0x8000 }

theorem witness_PanControlOperations :
    mayComplete (opOn up 0 1 [32]) .trk 0 ⟨0, 1, [32], 0⟩ = true ∧ 32 ≤ (wordAt [32] 0).toNat ∧
    (wordAt [31] 0).toNat < 32 ∧ panAt up 31 = none ∧ (panAt panned 31).isSome = true ∧
    (∀ x, panAt panned 31 = some x → x.result.length = 16) ∧
    mayComplete (opOn panned 0 6 [31, 1, 2, 0, 0]) .trk 0 ⟨0, 6, [31, 16, 32, 0, 0], 0⟩ = false ∧
    mayComplete (opOn panned 0 6 [31, 16, 32, 0, 0]) .trk 0 ⟨0, 6, [31, 16, 32, 0, 0], 0⟩ = true ∧
    inRange pTrkElSp (wordAt [31, 16, 32, 0, 0] 1).toNat = true ∧ inRange pTrkVelSp (wordAt [31, 16, 32, 0, 0] 2).toNat = true ∧
    inRange pTrkXaOff (wordAt [31, 16, 32, 0, 0] 3).toInt = true ∧ inRange pTrkXbOff (wordAt [31, 16, 32, 0, 0] 4).toInt = true ∧
    mayComplete (opOn panned 0 7 [31, 20]) .trk 0 ⟨0, 7, [31, 20], 0⟩ = true ∧ (wordAt [31, 20] 1).toNat ∈ [1, 2, 4, 5, 10, 20] ∧
    (wordAt [31, 3] 1).toNat ∉ [1, 2, 4, 5, 10, 20] ∧
    mayComplete (opOn up 0 4 [31, 32, 32735, 0]) .trk 0 ⟨0, 4, [31, 32, 32735, 0], 0⟩ = true ∧
    prnOk up (wordAt [31, 32, 32735, 0] 1).toNat = true ∧ pansOf up (wordAt [31, 32, 32735, 0] 1).toNat = [] ∧
    (wordAt [31, 32, 32735, 0] 2).toNat ≤ 32735 ∧ groupOk up (31 / 8) = true := by decide

/-- FETCH by TRK and by SVC, of a pan that tracks and of one that reacquires. -/
theorem witness_PanControlOperations_fetch :
    mayComplete (opOn panned 0 1 [31]) .trk 0 ⟨0, 1, [31], 0⟩ = true ∧ (panAt panned 31).any (fun x => x.reacq.isNone) = true ∧
    (let s := panned.modCore .svc (fun x => { x with tag := x.tag.set 0 ⟨true, 2, 0, [], some ⟨0, 1, [31], 0⟩⟩ })
     mayComplete s .svc 0 ⟨0, 1, [31], 0⟩ = true) ∧
    (panAt (putPan panned 31 { Pan.reset with prn := 7, reacq := some freshSearch, result := List.replicate 16 0x8000 }) 31).any
      (fun x => x.reacq.isSome && x.result.length == 16) = true := by decide

/-- A core with `off` and `w1` in W0 and W1. -/
def cp3On (off w1 : Word) : State := prog.modCore .trk (fun x => { x with w := (x.w.set 0 off).set 1 w1 })

/-- The queue of CP3 holds one operation, and channel 40 is set as CP3's with receiver `rcv`. -/
def cp3Queue (rcv : Int) : State :=
  { ((up.setPar pSysCp3Chan 40).setPar (pChCfg 40) rcv) with
    cp := { up.cp with queue := [⟨.trk, 0, 6, 16320, 5⟩] } }

theorem witness_HostEmulationQueue :
    runs (cp3On 0 512) .trk .al = true ∧ (0 : Reg).val < 7 ∧ (tagOf (cp3On 0 512) .trk 0).busy = false ∧
    60 < (0x1E8#16).toNat / 8 % 64 ∧ (0x1E8#16).toNat < 512 ∧
    (let s := cp3On 16322 (60 * 8)
     runs s .trk .al = true ∧ (Spec.w s .trk 1).toNat / 8 % 64 ≤ 60 ∧ (Spec.w s .trk 0).toNat + 60 + 2 ≤ 16384 ∧
     coreOwns s .trk 0 = true ∧ bankOut s 0 = false ∧ s.mir.role ≠ 1) ∧
    16384 < (Spec.w (cp3On 16323 (60 * 8)) .trk 0).toNat + 60 + 2 ∧ coreOwns (cp3On 0 1) .trk 1 = false ∧
    (let s := cp3Queue 0
     s.cp.serving = none ∧ s.cp.queue = ⟨.trk, 0, 6, 16320, 5⟩ :: [] ∧ s.pwr.coreUp = true ∧ s.pwr.state = .run ∧
     32 ≤ s.parN pSysCp3Chan ∧ s.parN pSysCp3Chan ≤ 63 ∧ rcvOf s 40 = 0 ∧ chanFull s 40 = none) ∧
    rcvOf (cp3Queue 1) 40 ≠ 0 ∧ ((cp3Queue 0).setPar pSysCp3Chan 31).parN pSysCp3Chan < 32 ∧
    ({ up with cp := { up.cp with serving := some ⟨.svc, 3, 6, 0, 0⟩ } } : State).cp.serving = some ⟨.svc, 3, 6, 0, 0⟩ := by
  decide

theorem witness_HaltsAndSteps :
    (let s := prog.modCore .trk (fun x => { x with haltSdp := true })
     coreRuns s .trk = true ∧ (s.core .trk).delay = none ∧ s.pwr.state = .run ∧ (s.core .trk).haltSdp = true) ∧
    (let s := prog.modCore .trk (fun x => { x with haltReq := true })
     coreRuns s .trk = true ∧ (s.core .trk).haltSdp = false ∧ (s.core .trk).haltReq = true) ∧
    (let s := prog.modCore .trk (fun x => { x with bp := x.bp.set 3 ⟨0x2000, true⟩ })
     coreReady s .trk = true ∧ bpHit (s.core .trk) = some 3) ∧
    (let s := { prog with dbg := { prog.dbg with session := true } }
     s.pwr.aonUp = true ∧ s.dbg.session = true ∧ (s.core .trk).halted = false) ∧
    (let s := ({ prog with dbg := { prog.dbg with session := true } } : State).modCore .trk
        (fun x => { x with halted := true, reason := 1 })
     s.pwr.aonUp = true ∧ s.dbg.session = true ∧ (s.core .trk).halted = true ∧ (s.core .trk).waiting = false ∧
     (s.core .trk).delay = none ∧ holds (exec (.sdpStep .trk) s) (fun t => coreReady t .trk) = true) ∧
    (let s := prog.modCore .trk (fun x => { x with halted := true, frameHalt := true })
     (s.core .trk).halted = true ∧ (s.core .trk).frameHalt = true ∧ s.dbg.session = false ∧ s.pwr.coresUp = true ∧
     ((s.core .trk).restarts.filter (fun t => decide (dtcNow s - t < 163680000))).length < 2) := by decide

/-! ### The host bus -/

/-- A write cycle is open at word offset `off`. -/
def cycW (s : State) (off : Word) (sec : Bool) : State := { s with bus := { s.bus with cyc := some ⟨off, true, sec⟩ } }

/-- A read cycle is open at word offset `off`. -/
def cycR (s : State) (off : Word) (sec : Bool) : State := { s with bus := { s.bus with cyc := some ⟨off, false, sec⟩ } }

/-- The class has the lower word of register `n` staged as `v`. -/
def staged (s : State) (sec : Bool) (n : Nat) (v : Word) : State :=
  s.modCls (hostOf sec) (fun b => { b with stage := [(n, v)] })

/-- Parameter `key` is selected with `lo` staged, and the write of HB_PDATA's upper word is due. -/
def selected (s : State) (sec : Bool) (key : Nat) (lo : Word) : State :=
  (staged (cycW s 0x11 sec) sec 8 lo).modCls (hostOf sec) (fun b =>
    { b with ppage := BitVec.ofNat 4 (key / 256), pindex := BitVec.ofNat 8 (key % 256) })

theorem witness_HostBusCycle :
    busOn up = true ∧ quiet up = true ∧ writing (cycW up 0x0C true) 0x0C true = true ∧
    writing (cycW up 0x18 false) 0x18 false = true ∧ up.pwr.coreUp = true ∧
    writing (cycW (staged up true 12 0x8001) 0x19 true) 0x19 true = true ∧
    mget ((staged up true 12 0x8001).cls (hostOf true)).stage 12 = some 0x8001 ∧
    plainReg 0 = true ∧ plainReg 42 = true ∧ plainReg 43 = false ∧ regAccess up .ns 0 false = none ∧
    reading (cycR up 0 false) 0 false = true ∧
    (let s := (cycR up 1 false).modCls .ns (fun b => { b with hold := some (0, 7) })
     reading s 1 false = true ∧ (s.cls .ns).hold = some (0, 7)) ∧
    (up.cls .ns).hold = none ∧ reading (cycR up 1 false) 1 false = true ∧
    writing (cycW up 88 true) 88 true = true ∧ reading (cycR up 0xFFFF true) 0xFFFF true = true ∧
    (∀ row ∈ [9, 15, 17, 23, 24, 31], reading (cycR up (BitVec.ofNat 16 (2 * row)) true) (BitVec.ofNat 16 (2 * row)) true = true) := by
  decide

theorem witness_TimeLatch :
    reading (cycR up 0x04 false) 0x04 false = true ∧ up.pwr.coreUp = true ∧ reading (cycR up 0x09 true) 0x09 true = true ∧
    (up.cls .sec).latch.armed = false ∧
    (let s := up.modCls .sec (fun b => { b with latch := ⟨true, 0, 0, 0⟩ })
     (s.cls .sec).latch.armed = true ∧ s.time.running = true ∧ dtcNow s ≤ (s.cls .sec).latch.takenAt + 16368) := by decide

/-- Parameters of each kind: acq.dwell (RW or RWX), a read-only one, one with a rule, one with no row. -/
theorem witness_ParameterWindow :
    (let s := selected up true pAcqDwell 1
     writesParam s true pAcqDwell 1 = true ∧ paramAccess s .sec pAcqDwell = none ∧ (paramRow pAcqDwell).isSome = true ∧
     keyPending s pAcqDwell = false ∧
     (∀ r, paramRow pAcqDwell = some r → r.acc = .rwx ∧ paramDecode pAcqDwell r (ofHalves 0 1) = some 1 ∧
        paramDecode pAcqDwell r (ofHalves 0 0) = none) ∧
     (txnOf s .sec).isOpen = false ∧ ruleOk s (fun k => if k = pAcqDwell then 1 else s.par k) pAcqDwell = true ∧
     (let u := s.modCls .sec (fun b => { b with txn := { b.txn with isOpen := true } })
      writesParam u true pAcqDwell 1 = true ∧ (txnOf u .sec).isOpen = true ∧ (txnOf u .sec).shadow.length < 64) ∧
     (let u := s.modCls .sec (fun b => { b with txn := { b.txn with pend := true, shadow := [(pAcqDwell, 2)] } })
      writesParam u true pAcqDwell 1 = true ∧ keyPending u pAcqDwell = true)) ∧
    (let s := selected up true pNtcMsrWr 0
     writesParam s true pNtcMsrWr 0 = true ∧ paramAccess s .sec pNtcMsrWr = none ∧
     (∀ r, paramRow pNtcMsrWr = some r → r.acc = .ro)) ∧
    (let s := selected up true pSysFineEnter 255
     writesParam s true pSysFineEnter 255 = true ∧
     (∀ r, paramRow pSysFineEnter = some r → paramDecode pSysFineEnter r (ofHalves 0 255) = some 255) ∧
     ruleOk s (fun k => if k = pSysFineEnter then 255 else s.par k) pSysFineEnter = false) ∧
    paramAccess (selected up true 255 0) .sec 255 = some .noIndex ∧
    (let s := cycR up 0x11 true
     reading s 0x11 true = true ∧ (s.cls .sec).hold = none ∧
     (paramRead s .sec (selKey (s.cls .sec))).2 = none) := by decide

theorem witness_RingPlacementAndBoot :
    (∀ x ∈ [(pNtcMsrRd, 64), (pNtcMsrRd, 63), (pNtcEvtRd, 1024), (pNtcEvtRd, 1023), (pNtcMsrBank, 8), (pNtcMsrBank, 7),
        (pNtcMailBank, 7), (pNtcMailBank, 0)],
      writesParam (selected up true x.1 (BitVec.ofNat 16 x.2)) true x.1 (BitVec.ofNat 16 x.2) = true ∧
      keyPending up x.1 = false) ∧ (txnOf up .sec).isOpen = false ∧ up.pwr.coreUp = true ∧
    (up.parN pNtcMsrWr + 128 - 64) % 128 ≤ 64 ∧ 64 < (up.parN pNtcMsrWr + 128 - 63) % 128 ∧
    (up.parN pNtcEvtWr + 2048 - 1024) % 2048 ≤ 1024 ∧ 1024 < (up.parN pNtcEvtWr + 2048 - 1023) % 2048 ∧
    hostBank up 7 = true ∧ hostBank up 0 = false ∧
    (let s := up.setPar pNtcEvtBank 8
     s.par pNtcMailBank ≠ 7 ∧ s.par pNtcMsrBank ≠ 7 ∧ s.par pNtcEvtBank ≠ 7) ∧ up.par pNtcEvtBank = 7 ∧
    (let s := (selected up true pSysBoot 0).modCore .trk (fun x => { x with held := true })
     let s := s.modCore .svc (fun x => { x with held := true })
     writesParam s true pSysBoot 0 = true ∧ keyPending s pSysBoot = false ∧ s.pwr.coresUp = true ∧ s.trk.held = true ∧
     s.svc.held = true ∧ (s.core .svc).stopped = false) := by decide

/-- A transaction of the secure class is open, with `sh` shadowed, and the write of HB_TXN is due. -/
def txnOn (open' pend dirty : Bool) (sh : List (Nat × Int)) : State :=
  (cycW up 0x16 true).modCls .sec (fun b =>
    { b with txn := { b.txn with isOpen := open', pend := pend, dirty := dirty, shadow := sh } })

theorem witness_Transactions :
    writing (txnOn false false false []) 0x16 true = true ∧ up.pwr.coreUp = true ∧ (1#16).getLsbD 5 = false ∧
    (1#16).toNat % 4 = 1 ∧ (txnOf (txnOn false true false []) .sec).pend = true ∧ (2#16).toNat % 4 = 2 ∧
    (6#16).getLsbD 2 = true ∧ (6#16).toNat % 4 = 2 ∧ (3#16).toNat % 4 = 3 ∧
    (txnOf (txnOn true false true [(pAcqDwell, 2)]) .sec).dirty = true ∧
    commitOk (txnOn true false false [(pSysFineEnter, 255)]) [(pSysFineEnter, 255)] = false ∧
    commitOk (txnOn true false false [(pAcqDwell, 2)]) [(pAcqDwell, 2)] = true := by decide

theorem witness_Transactions_plain : ∀ (u : State) (v : Int), paramHook u pAcqDwell v = u := by
  intro u v; rfl

theorem witness_ProgramAndBankWindows :
    writing (cycW up 0x56 true) 0x56 true = true ∧ reading (cycR up 0x56 true) 0x56 true = true ∧ up.pwr.coreUp = true ∧
    prgStopped up .trk = false ∧ prgStopped (up.modCore .trk (fun x => { x with held := true })) .trk = true ∧
    (let s := { up with cp := { up.cp with pAddr := 0x2000 } }
     0x2000 ≤ s.cp.pAddr.toNat) ∧ up.cp.pAddr.toNat < 0x2000 ∧
    (let s := { up with bank := { up.bank with wBank := 7, wAddr := 16383 } }
     writing (cycW s 0x26 false) 0x26 false = true ∧ reading (cycR s 0x26 false) 0x26 false = true ∧
     s.bank.clearing.getLsbD 7 = false ∧ s.bank.wakeWait.getLsbD 7 = false ∧ s.bank.drain.getLsbD 7 = false ∧
     hostBank s 7 = true ∧ ownerOf s 7 = .host ∧ bankOut s 7 = false ∧ sound s 7 16383 = true) ∧
    hostBank up 0 = false := by decide

/-- BNK_OWNER as it stands after reset, with bank `b`'s field set to `n`. -/
def owners (s : State) (b n : Nat) : BitVec 32 :=
  BitVec.ofNat 32 (((List.range 8).map (fun j => 8 ^ j * (if j = b then n else ownCode (ownerOf s j)))).sum)

theorem witness_BankOwnership :
    (∀ n ∈ [2, 3, 5],
      writesOwner (staged (cycW up 0x21 true) true 16 (loHalf (owners up 7 n))) true (owners up 7 n) = true) ∧
    (∀ b < 8, ownField (owners up 7 2) b ≤ 4) ∧
    (∀ b < 8, ownField (owners up 7 2) b = ownCode (ownerOf up b) ∨ secureMayGive up b (ownField (owners up 7 2) b) = true) ∧
    (ownField (owners up 7 3) 7 ≠ ownCode (ownerOf up 7) ∧ secureMayGive up 7 (ownField (owners up 7 3) 7) = false) ∧
    5 ≤ ownField (owners up 7 5) 7 ∧ writing (cycW up 0x21 false) 0x21 false = true := by decide

/-- Rake is at word `i`, and bank `b` holds an upset there. -/
def raking (b : Nat) (i : BitVec 14) (u : Upset) : State :=
  { up with bank := { up.bank with errs := [(16384 * b + i.toNat, u)], rakeAt := i } }

theorem witness_RakeAndBankStart :
    rakes up = true ∧ (∀ b < 8, rakeQuiet up b = true) ∧
    (let s := raking 6 0x3FFF .single
     rakes s = true ∧ (∀ j < 8, j ≠ 6 → rakeQuiet s j = true) ∧ bankOut s 6 = false ∧ s.bank.clearing.getLsbD 6 = false ∧
     s.bank.wakeWait.getLsbD 6 = false ∧ bankErr s 6 s.bank.rakeAt.toNat = some .single) ∧
    (let s := raking 6 0x2FFF .double
     rakes s = true ∧ (∀ j < 8, j ≠ 6 → rakeQuiet s j = true) ∧ bankErr s 6 s.bank.rakeAt.toNat = some .double ∧
     s.bank.poisonN.getD 6 0 < 15 ∧ coreRuns s .trk = true ∧ coreRuns s .svc = true ∧ s.bank.rakeAt.toNat < 0x3000 ∧
     ownerOf s 6 = .host ∧ s.bank.log.length < 8 ∧ s.slu.ntc.length < 496 ∧ mailOk s = true) ∧
    (let s := (raking 0 0x2FFF .double).modCore .trk (fun x => { x with held := true })
     rakes s = true ∧ (∀ j < 8, j ≠ 0 → rakeQuiet s j = true) ∧ ownerOf s 0 ≠ .host ∧ ownerOf s 0 = .trk ∧
     coreRuns s .trk = false ∧ bankErr s 0 s.bank.rakeAt.toNat = some .double) ∧
    (let s := raking 6 5 .double
     let s := { s with bank := { s.bank with poisonN := s.bank.poisonN.set 6 15, log := List.replicate 8 (0, 0) } }
     rakes s = true ∧ bankErr s 6 s.bank.rakeAt.toNat = some .double ∧ s.bank.poisonN.getD 6 0 = 15 ∧
     8 ≤ s.bank.log.length) ∧
    rakes State.reset = false := by decide

/-! ### RTC, calibration, doorbells, debug -/

/-- The calendar reads the last second of 31 December 2099. -/
def lastSecond : State :=
  { up with rtc := { up.rtc with sec := 0x59, min := 0x59, hour := 0x23, day := 0x31, month := 0x12, year := 0x99, wday := 7,
                                  halt := false, alm0 := 0x40808080 } }

theorem witness_RtcSecondTick :
    lastSecond.rtc.halt = false ∧ calendarOk lastSecond.rtc = true ∧
    (calendarSeconds lastSecond.rtc + 1) % century = 0 ∧ lastSecond.pwr.state = .run ∧ lastSecond.pwr.attempt = false ∧
    (lastSecond.trk.waiting && lastSecond.svc.waiting) = false ∧
    ({ up with rtc := { up.rtc with halt := true } } : State).rtc.halt = true := by decide

theorem witness_RtcRegistersAndSupply :
    [0x40, 0x42, 0x43, 0x44, 0x45, 0x4A].all (fun off => writing (cycW lastSecond off false) off false) = true ∧
    calendarOk lastSecond.rtc = true ∧ (1#16).getLsbD 0 = true ∧ (0x80#16).getLsbD 7 = true ∧
    (let s := { lastSecond with time := { lastSecond.time with tq := .gnssFine, utcValid := true } }
     tqGnss s.time.tq = true ∧ s.time.utcValid = true ∧ s.time.running = true ∧ coreRuns s .svc = true ∧ s.rtc.halt = false) ∧
    up.rtc.onVbak = false ∧
    (let s := { up with pwr := { up.pwr with aonUp := false, state := .run } }
     s.pwr.aonUp = false ∧ s.pwr.state ≠ .off) := by decide

theorem witness_CalibrationRegisters :
    writing (cycW up 0x52 true) 0x52 true = true ∧ writing (cycW up 0x52 false) 0x52 false = true ∧
    up.dbg.calBusy = false ∧ (1#16).toNat % 4 = 1 ∧ (2#16).toNat % 4 = 2 ∧ (2#16).getLsbD 3 = false ∧
    ({ up with dbg := { up.dbg with calBusy := true } } : State).dbg.calBusy = true ∧
    writing (cycW (up.setPar (pCal 0) 1) 0x52 true) 0x52 true = true ∧ (up.setPar (pCal 0) 1).par (pCal 0) = 1 := by decide

theorem witness_CalibrationRegisters_store : calFits (up.setPar (pCal 0) 1) = true := by decide +kernel

/-- `up` with a channel set to receiver `rcv`, and full or empty. -/
def chanUp (ch : Nat) (rcv : Int) (full : Bool) : State :=
  let s := up.setPar (pChCfg ch) rcv
  if full then { s with slu := { s.slu with chans := [(ch, ⟨⟨1, 2, 1, 7, 0⟩, 1, false, 0⟩)] } } else s

theorem witness_Doorbells :
    (let s := cycW (chanUp 0 1 false) 0x1A false
     writing s 0x1A false = true ∧ s.pwr.coreUp = true ∧ (0x40#16).getLsbD 11 = false ∧ (0x40#16).getLsbD 6 = true ∧
     (0x40#16).getLsbD 7 = false ∧ (hostNotice s false).kind ≠ 3 ∧ plainChan s 0 = true ∧ rcvDown s 0 = false ∧
     mget s.slu.chans 0 = none) ∧
    (let s := (chanUp 0 1 false).modCore .trk (fun x => { x with held := true })
     rcvDown s 0 = true ∧ plainChan s 0 = true) ∧
    (let s := cycW (chanUp 61 0 true) 0x1A true
     writing s 0x1A true = true ∧ plainChan s 61 = true ∧ rcvDown s 61 = false ∧ (mget s.slu.chans 61).isSome = true ∧
     rcvOf s 61 = 0 ∧ s.slu.cmd.length < 256) ∧
    (hostNotice (up.modCls .ns (fun b => { b with nKind := 3 })) false).kind = 3 ∧
    (let s := { up with slu := { up.slu with cmd := List.replicate 256 ⟨0, 0, 0, 0, 0⟩ } }
     256 ≤ s.slu.cmd.length) ∧ rcvOf (chanUp 0 1 false) 0 ≠ 0 ∧
    (0x80#16).getLsbD 6 = false ∧ (0x80#16).getLsbD 7 = true ∧
    (0x9E#16).toNat % 64 = 30 ∧ up.parB pNtcNtcSec = false ∧ up.slu.ntc = [] ∧ up.par pNtcCoalPend = 0 ∧
    (0xBE#16).toNat % 64 = 62 ∧ (up.setPar pNtcNtcSec 1).parB pNtcNtcSec = true ∧
    (let s := (chanUp 61 0 true).setPar (pChTmo 61) 1
     mget s.slu.chans (61 : Fin 64).val = some ⟨⟨1, 2, 1, 7, 0⟩, 1, false, 0⟩ ∧ s.par (pChTmo (61 : Fin 64).val) ≠ 0 ∧
     s.time.running = true ∧ s.cp.serving = none) := by decide +kernel

/-- A debug session is open, and the TRK core is halted. -/
def debugged : State :=
  ({ up with dbg := { up.dbg with session := true } } : State).modCore .trk (fun x => { x with halted := true, reason := 1 })

theorem witness_DebugRegistersAndPort :
    writing (cycW up 0x50 true) 0x50 true = true ∧ up.pwr.coreUp = true ∧ (3#16).getLsbD 7 = false ∧ (3#16).toNat % 4 ≠ 0 ∧
    (3#16).toNat / 4 % 4 = 0 ∧ (12#16).toNat % 4 = 0 ∧ (12#16).toNat / 4 % 4 ≠ 0 ∧ (12#16).getLsbD 7 = false ∧
    up.pwr.aonUp = true ∧ up.dbg.session = false ∧ ({ up with dbg := { up.dbg with afterBreak := true } } : State).dbg.afterBreak = true ∧
    debugged.dbg.session = true ∧ debugged.pwr.aonUp = true ∧ debugged.pwr.state ≠ .sleep ∧ bankOut debugged 7 = false ∧
    bankBusy debugged 7 = false ∧ sound debugged 7 16383 = true ∧ debugged.mir.role ≠ 1 ∧
    bankBusy { debugged with bank := { debugged.bank with clearing := 128 } } 7 = true ∧
    bankOut { debugged with bank := { debugged.bank with clearing := 128 } } 7 = false ∧
    prgStopped debugged .trk = true ∧ prgStopped debugged .svc = false ∧ (0x2000#14).toNat ≥ 0x2000 ∧ (0x1FFF#14).toNat < 0x2000 ∧
    (paramRead debugged .dbg (BitVec.ofNat 12 pAcqDwell).toNat).2 = none ∧ plainReg 42 = true ∧
    (debugged.core .trk).halted = true ∧ (debugged.core .svc).halted = false := by decide +kernel

/-! ### Clock outputs, events and timemarks -/

/-- The WCS locked with its outputs running. -/
def wcsUp : State := { up with wcs := { up.wcs with en := true, state := .locked, pllLk := true, running := true } }

theorem witness_WordClock :
    (∀ sec : Bool, writing (cycW up 0x38 sec) 0x38 sec = true) ∧ up.pwr.coreUp = true ∧ (1#16).getLsbD 0 = true ∧
    up.wcs.en = false ∧ (1#16).getLsbD 6 = false ∧ (0#16).getLsbD 0 = false ∧ wcsUp.wcs.en = true ∧
    (0#16).getLsbD 1 = wcsUp.wcs.fam ∧ (0#16).getLsbD 2 = wcsUp.wcs.x2 ∧ (0x41#16).getLsbD 0 = true ∧ (0x41#16).getLsbD 6 = true ∧
    ¬ ((0x43#16).getLsbD 1 = wcsUp.wcs.fam ∧ (0x43#16).getLsbD 2 = wcsUp.wcs.x2) ∧
    (let s := { up with wcs := { up.wcs with en := true, state := .start } }
     s.wcs.state = .start ∧ s.wcs.pllLk = false) ∧
    (let s := { up with wcs := { up.wcs with en := true, state := .start, pllLk := true } }
     s.wcs.state = .start ∧ s.wcs.pllLk = true) ∧
    wcsUp.wcs.running = true ∧ wcsUp.wcs.state = .locked ∧ wcsUp.mir.slewOut = false ∧
    ({ wcsUp with wcs := { wcsUp.wcs with pend := true } } : State).wcs.pend = true ∧
    ({ wcsUp with wcs := { wcsUp.wcs with stopped := true } } : State).wcs.stopped = true ∧
    wcsUp.wcs.pllLk = true ∧ wcsUp.slu.ntc.length < 496 ∧
    (let s := { wcsUp with pwr := { wcsUp.pwr with asked := true, tried := 3 } }
     s.pwr.asked = true ∧ s.wcs.running = true ∧ 3 ≤ s.pwr.tried) := by decide

/-- TPOUT with its mask open and no pulse in progress. -/
def tpUp : State :=
  { up with time := { up.time with tq := .gnssFine } }

theorem witness_TimingPulses :
    tpEmits tpUp = true ∧ 0 < ticksPerSec / tpHz tpUp.tp.rate ∧ tpUp.tp.level = false ∧
    (let s := { tpUp with tp := { tpUp.tp with level := true, endsAt := some (5, 0) } }
     tpEmits s = true ∧ s.tp.level = true ∧ s.tp.endsAt = some (5, 0)) ∧ tpEmits up = false ∧
    (let s := { tpUp with tp := { tpUp.tp with deferred := some (6, 0) } }
     s.tp.level = false ∧ s.tp.deferred = some (6, 0) ∧ tpEmits s = true) ∧
    up.time.running = true ∧ up.time.eps.natAbs < 100000000000 ∧ up.time.slewRate < 100000000 := by decide

/-- Slot 5 holds an image: EVOUT pulse on pin 2, ring of channel 40, a record, every time quality admitted. -/
def slot5 (period count : Nat) (com : Bool) (late : Option Int) : State :=
  let m : SlotImg := {
    lateOk := false, actions := 7, pin := 2, op := 3, chan := 40, tqMask := 0x3F, target := 1000000, period := period, count := count, pulse := 10 }
  { up with evs := { up.evs with slots := [(5, ⟨.sec, 3, m, if com then some m else none, late, false⟩)] } }

theorem witness_EventFiring :
    (slot5 0 0 false none).time.running = true ∧
    (∃ x, mget (slot5 0 0 false none).evs.slots (5 : Fin 1024).val = some x ∧ x.com = none ∧ x.late = none) ∧
    (∃ x, mget (slot5 2000000 2 true none).evs.slots (5 : Fin 1024).val = some x ∧ x.com = some x.img ∧ x.late = none ∧
      mayFire (slot5 2000000 2 true none) 5 x.img.target = true ∧ x.img.period ≠ 0 ∧ x.img.count ≠ 1) ∧
    (∃ x, mget (slot5 2000000 1 true none).evs.slots (5 : Fin 1024).val = some x ∧ x.com = some x.img ∧
      mayFire (slot5 2000000 1 true none) 5 x.img.target = true ∧ x.img.count = 1) ∧
    (∃ x, mget (slot5 2000000 0 false (some 1000001)).evs.slots (5 : Fin 1024).val = some x ∧ x.com = none ∧
      x.late = some 1000001 ∧ x.img.target ≤ 1000001 ∧ x.img.count = 0 ∧ x.img.period ≠ 0 ∧
      mayFire (slot5 2000000 0 false (some 1000001)) 5 1000001 = true) ∧
    (let s := ((slot5 0 0 true none).setPar pNtcEvtBank 6).setPar pNtcMailBank 7
     evtOpen s = true) := by
  refine ⟨by decide, ⟨_, rfl, by decide⟩, ⟨_, rfl, by decide⟩, ⟨_, rfl, by decide⟩, ⟨_, rfl, by decide⟩, by decide⟩

/-- The pins and timemark inputs with something to do. -/
def marked : State :=
  let s := { up with evs := { up.evs with ev := up.evs.ev.set 1 { (pinAt up 1) with ends := [7, 9], active := true } } }
  let a : Stamp := ⟨1000, List.replicate 7 0, false⟩
  { s with evs := { s.evs with tm := s.evs.tm.set 1 { (tmAt s 1) with buf := [a, a, a, a], lastEdge := some 1000 } } }

theorem witness_PulseEndsAndTimemarks :
    (pinAt marked 1).ends = 7 :: [9] ∧ marked.time.running = true ∧ (pinAt marked 1).lastAt ≠ some 7 ∧
    ((up.setPar (pEvsTm0Edge + 1) 1).parN (pEvsTm0Edge + 1)).testBit 1 = false ∧
    (let s := up.setPar (pEvsTm0Edge + 1) 1
     (s.parN (pEvsTm0Edge + 1)).testBit 0 = true ∧ s.time.running = true ∧ s.pwr.coreUp = true ∧ quiet s = true ∧
     (tmAt s 1).buf.length < 4 ∧ (tmAt s 1).lastEdge = none) ∧
    4 ≤ (tmAt marked 1).buf.length ∧ (tmAt marked 1).buf = ⟨1000, List.replicate 7 0, false⟩ :: ((tmAt marked 1).buf.drop 1) ∧
    (tmAt marked 0).buf = [] ∧ evtOpen marked = true ∧ marked.parN pNtcEvtBank ≠ 8 ∧
    (let s := { marked with slu := { marked.slu with evtSusp := true } }
     evtOpen s = false ∧ s.parN pNtcEvtBank ≠ 8) ∧ (marked.setPar pNtcEvtBank 8).parN pNtcEvtBank = 8 := by decide

/-! ### Runtime commands -/

/-- An immediate command. -/
def immN (cls : BitVec 3) (op arg : Nat) : Notice :=
  ⟨BitVec.ofNat 3 ((op * 512 + arg) / 16384), BitVec.ofNat 14 (op * 512 + arg), cls, 7, 1⟩

/-- A block command at word 0x100 of bank B7. -/
def blkN (cls : BitVec 3) : Notice := ⟨7, 0x100, cls, 7, 0⟩

/-- `s` with a notice at the head of CMD. -/
def onCmd (s : State) (n : Notice) : State := { s with slu := { s.slu with cmd := [n] } }

/-- `s` with a block of an opcode and argument words in B7, rung by a host class. -/
def onBlk (s : State) (cls : BitVec 3) (op : Nat) (args : List Word) : State :=
  onCmd (putWords s 7 0x100 ([BitVec.ofNat 16 (op + 256 * args.length), 0, 0] ++ args)) (blkN cls)

/-- Both forms of a command may stand at the head of CMD. -/
theorem witness_RuntimeCommandForms :
    immCmd (onCmd up (immN 0 0x01 511)) (immN 0 0x01 511) [] 0x01 511 = true ∧
    blockCmd (onBlk up 0 0x16 []) (blkN 0) [] 0x16 [] = true ∧
    immCmd (onCmd up (immN 0 0x09 0)) (immN 0 0x09 0) [] 0x09 0 = true ∧ (immN 0 0x09 0).cls = 0 ∧
    blockCmd (onBlk up 1 0x02 [1]) (blkN 1) [] 0x02 [1] = true ∧ [1].length ≠ 8 ∧
    headIs (onCmd up ⟨7, 0x101, 0, 7, 0⟩) ⟨7, 0x101, 0, 7, 0⟩ [] = true ∧ blockFits (onCmd up ⟨7, 0x101, 0, 7, 0⟩) 7 0x101 3 = false ∧
    blockFits up 0 0x100 3 = false ∧ blockFits up 7 16382 3 = false ∧
    immCmd (onCmd up (immN 0 0x17 0)) (immN 0 0x17 0) [] 0x17 0 = true ∧
    immCmd (onCmd up (immN 0 0 0)) (immN 0 0 0) [] 0 0 = true ∧
    blockCmd (onBlk up 0 0x80 [1, 2]) (blkN 0) [] 0x80 [1, 2] = true ∧
    (up.setPar pSysPramEn 3).parBit pSysPramEn 1 = true ∧ up.parBit pSysPramEn 1 = false ∧ up.svc.parked = false := by decide

theorem witness_RuntimeCommandForms_poison :
    let s := onBlk up 0 0x02 [1, 2]
    let s := { s with bank := { s.bank with errs := [(7 * 16384 + 0x104, .poison)] } }
    headIs s (blkN 0) [] = true ∧ (blkN 0).kind = 0 ∧ blockFits s 7 0x100 (3 + 2) = true ∧
    bankWord s 7 0x100 = BitVec.ofNat 16 (2 + 256 * 2) ∧ 3 < 2 + 2 ∧ bankErr s 7 (0x100 + 1 + 3) = some .poison ∧
    (∀ j < 3 + 2, bankErr s 7 (0x100 + j) ≠ some .double) ∧ sound s 7 0x100 = true := by decide

/-- TIME_SET at DTC 2^32 + 5, for GNSS week 5, with an uncertainty of 100 ns. -/
theorem witness_RuntimeTimeCommands :
    (let w : List Word := [5, 0, 0, 0, 5, 0, 0, 0, 0, 100]
     let s := onBlk { up with time := { up.time with dtc := 0x100000005 } } 0 0x01 w
     w.length = 10 ∧ blockCmd s (blkN 0) [] 0x01 w = true ∧ (s.time.dtc.toNat + 2 ^ 52 - 5) % 2 ^ 52 ≤ 2 ^ 32 ∧
     argN w 9 ≠ 0xFFFF ∧ argN w 5 + 65536 * argN w 6 < 604800 ∧ tqGnss s.time.tq = false ∧ s.time.tq = .unknown) ∧
    (let w : List Word := [5, 0, 0, 0, 5, 0x3A80, 9, 0, 0, 100]
     w.length = 10 ∧ blockCmd (onBlk up 0 0x01 w) (blkN 0) [] 0x01 w = true ∧ ¬ argN w 5 + 65536 * argN w 6 < 604800) ∧
    (let w : List Word := [0, 0, 0, 0, 5, 0, 0, 0, 0, 100]
     let s := onBlk { up with time := { up.time with tq := .gnssFine } } 0 0x01 w
     blockCmd s (blkN 0) [] 0x01 w = true ∧ tqGnss s.time.tq = true ∧ argN w 9 ≠ 0xFFFF) ∧
    (let w : List Word := [0, 0x4000, 0, 0, 0, 0, 1, 1]
     w.length = 8 ∧ blockCmd (onBlk up 0 0x02 w) (blkN 0) [] 0x02 w = true ∧ (argS w 0).natAbs ≤ 2 ^ 30 ∧
     2 ^ 30 < (argS [1, 0x4000, 0, 0, 0, 0, 1, 1] 0).natAbs) ∧
    (let w : List Word := [1, 0, 9]
     blockCmd (onBlk up 0 0x03 w) (blkN 0) [] 0x03 w = true ∧ argN w 2 ≠ 0 ∧ tqGnss up.time.tq = false ∧ argN [1, 0, 0] 2 = 0) ∧
    (immN 1 0x09 0).cls ≠ 0 ∧ immCmd (onCmd up (immN 1 0x09 0)) (immN 1 0x09 0) [] 0x09 0 = true ∧
    immCmd (onCmd up (immN 1 0x09 511)) (immN 1 0x09 511) [] 0x09 511 = true := by decide

theorem witness_RuntimeDeviceCommands :
    ([0x0F, 0x10, 0x11, 0x12, 0x13, 0x14, 0x15].all (fun op => [0, 1, 2, 3, 4, 5, 6, 511].all (fun arg =>
      immCmd (onCmd up (immN 1 op arg)) (immN 1 op arg) [] op arg))) = true ∧
    (immN 1 0x0F 0).cls ≠ 0 ∧ (up.core .svc).held = false ∧ (up.core .trk).halted = false ∧
    ((up.modCore .trk (fun x => { x with halted := true })).core .trk).halted = true ∧
    quiet up = true ∧ up.trk.waiting = false ∧
    up.bank.lent = false ∧ up.mir.role = 0 ∧ bankOut up 5 = false ∧ ownerOf up 5 = .svc ∧
    (let s := { up with bank := { up.bank with lent := true } }
     s.bank.lent = true ∧ s.par pNtcMailBank ≠ 5 ∧ s.par pNtcMsrBank ≠ 5 ∧ s.par pNtcEvtBank ≠ 5) ∧
    unitOk up 5 = true ∧ up.mir.heldOps = [] ∧
    (let s := { up with mir := { up.mir with role := 2 } }
     s.mir.role = 2 ∧ s.mir.take = none ∧ immCmd (onCmd s (immN 1 0x14 0)) (immN 1 0x14 0) [] 0x14 0 = true) := by decide

/-- A slot image for slot `i`: EVOUT toggle on pin 1 at second `tow` of week 1, with `sel` behind it. -/
def imgWords' (i tow period : Nat) : List Word :=
  [BitVec.ofNat 16 i, 0x0091, 0x3F, 1, BitVec.ofNat 16 tow, BitVec.ofNat 16 (tow / 65536), 0, 0, BitVec.ofNat 16 period, 0, 0, 0, 0]

/-- `up` with a one-shot slot 3 and a periodic slot 4 of a non-secure client. -/
def slots34 (committed : Bool) : State :=
  let m : SlotImg := slotImage (imgWords' 3 10 0)
  let c (m : SlotImg) : Option SlotImg := if committed then some m else none
  { up with evs := { up.evs with slots := [(3, ⟨.ns, 7, m, c m, none, false⟩),
      (4, ⟨.ns, 7, { m with period := 100000000 }, c { m with period := 100000000 }, none, false⟩)] } }

theorem witness_SlotCommands :
    hostCode (blkN 0) = true ∧ hostCode (blkN 1) = true ∧
    (let s := { up with mir := { up.mir with role := 2 } }
     s.mir.role = 2 ∧ blockCmd (onBlk s 0 0x0A (imgWords' 3 10 0)) (blkN 0) [] 0x0A (imgWords' 3 10 0) = true ∧
     blockCmd (onBlk s 0 0x0B (imgWords' 3 10 0 ++ [4])) (blkN 0) [] 0x0B (imgWords' 3 10 0 ++ [4]) = true ∧
     blockCmd (onBlk s 0 0x0C [3]) (blkN 0) [] 0x0C [3] = true) ∧
    (let s := onBlk (slots34 false) 0 0x0A (imgWords' 3 10 0)
     s.mir.role = 0 ∧ blockCmd s (blkN 0) [] 0x0A (imgWords' 3 10 0) = true ∧
     (∀ k < 1024, argN (imgWords' 3 10 0) 0 = k ∨ argN (imgWords' 3 10 0) 0 = 0xFFFF → (mget s.evs.slots k).isSome = true)) ∧
    (let w := imgWords' 0xFFFF 10 0
     let s := onBlk up 0 0x0A w
     blockCmd s (blkN 0) [] 0x0A w = true ∧ mget s.evs.slots 0 = none ∧ decide (s.parN pEvsNsQuota ≤ nsSlots s) = false ∧
     imgSecure s (slotImage w) = false ∧ (imgBad (slotImage w) || !slotTimeOk w) = false ∧
     past s (slotImage w).target = false) ∧
    past up (slotImage [5, 0x91, 0x3F, 0, 0, 0, 0, 0, 0, 0, 0, 0, 0]).target = true ∧
    slotTimeOk [5, 0x91, 0x3F, 0, 0x3A80, 9, 0, 0, 0, 0, 0, 0, 0] = false ∧
    (let w := imgWords' 3 11 0 ++ [4]
     let s := onBlk (slots34 false) 0 0x0B w
     blockCmd s (blkN 0) [] 0x0B w = true ∧ (mget s.evs.slots (argN w 0)).isSome = true ∧
     argN w 13 / 2 ^ 2 % 2 = 1 ∧ past s (slotImage w).target = false) ∧
    mget (slots34 false).evs.slots 5 = none ∧
    ((mget (slots34 true).evs.slots 3).any (fun x => x.img.period == 0 && x.com.isSome)) = true ∧
    ((mget (slots34 true).evs.slots 4).any (fun x => x.img.period != 0 && x.com.isSome)) = true ∧
    blockCmd (onBlk (slots34 true) 0 0x0C [4]) (blkN 0) [] 0x0C [4] = true ∧
    (let s := onBlk (slots34 false) 1 0x0D [0, 7]
     blockCmd s (blkN 1) [] 0x0D [0, 7] = true ∧ mrising s.evs.slots = true ∧ argN [0, 7] 0 % 8 ≤ 5 ∧ argN [0, 7] 1 < 1024 ∧
     s.evs.slots.all (fun y => y.2.com.isNone && y.2.late.isNone) = true) ∧
    (let w := [1023] ++ List.replicate 13 0
     let s := onBlk (slots34 false) 0 0x0E w
     w.length = 14 ∧ blockCmd s (blkN 0) [] 0x0E w = true ∧ argN w 0 < 1024 ∧ mget s.evs.slots (argN w 0) = none ∧
     1024 ≤ argN ([1024] ++ List.replicate 13 0) 0) := by decide +kernel

/-! ### Search and pans -/

/-- A cell search for PRN 5 whose one dwell epoch is done. -/
def theCell : Cell := ⟨5, 0, 1, 1, true, 0, none, none, 1, none, [], 0⟩

/-- The plan of a SEARCH without assistance for PRN 1, and for none. -/
theorem witness_RuntimeSearchCommands_plan :
    IsPlan up [] 1 false [⟨1, 0, up.parN pAcqDopSpan, none, none, false, 0⟩] ∧ IsPlan up [] 0 true [] ∧
    (let l : List (Int × Nat) := [(0, 2)]
     Windows 2 0 0 l) := by
  refine ⟨⟨[], List.Perm.refl _, List.Pairwise.nil, by decide⟩, ⟨[], List.Perm.refl _, List.Pairwise.nil, by decide⟩,
    by decide, by decide, ?_, ?_⟩
  · intro _ f hf
    exact ⟨(0, 2), by decide, by simp at hf ⊢; omega⟩
  · intro i j x y hij hx hy
    have : i = 0 := by
      rcases i with _ | i
      · rfl
      · simp at hx
    have : j = 0 := by
      rcases j with _ | j
      · rfl
      · simp at hy
    omega

theorem witness_RuntimeSearchCommands :
    (let w : List Word := [1, 0, 1]
     let s := onBlk up 0 0x04 w
     w.length = 3 ∧ blockCmd s (blkN 0) [] 0x04 w = true ∧ s.par pAcqMode ≠ 2 ∧ s.acq.searching = false ∧ s.acq.cell = none ∧
     s.acq.dwellQ = [] ∧ cryOff s = false ∧ 0 < s.parN pAcqDwell ∧ canMsg s = true) ∧
    (up.setPar pAcqMode 2).par pAcqMode = 2 ∧
    (let s := { up with acq := { up.acq with searching := true, cell := some theCell } }
     s.acq.searching = true ∧ s.acq.cell ≠ none ∧ immCmd (onCmd s (immN 0 0x05 0)) (immN 0 0x05 0) [] 0x05 0 = true ∧
     canMsg s = true ∧ s.acq.dwellQ = [] ∧ (∀ d, s.acq.cell = some d → d.op = none)) ∧
    (let w : List Word := [0xFFFF, 63, 32735, 0]
     blockCmd (onBlk (up.setPar pAcqTestPrnEn 1) 0 0x06 w) (blkN 0) [] 0x06 w = true ∧ argN w 0 = 0xFFFF ∧ free up 0 = true ∧
     (argN w 1 = 63 ∧ up.parN pTrkNfPrn = 63) ∧ tracked up 62 = false) ∧
    (let w : List Word := [31, 32, 0, 0]
     blockCmd (onBlk panned 0 0x06 w) (blkN 0) [] 0x06 w = true ∧ argN w 0 < 32 ∧ (mget panned.pans.act (argN w 0)).isSome = true ∧
     mget up.pans.act 31 = none ∧ unitOk up (1 + 31 / 8) = true) ∧
    (∀ p < 32, free (up.setPar pTrkPanMask 0) p = false) ∧
    immCmd (onCmd panned (immN 0 0x07 31)) (immN 0 0x07 31) [] 0x07 31 = true ∧ (mget panned.pans.act 31).isSome = true ∧
    panned.acq.pendHits = [] ∧ mrising panned.pans.act = true ∧
    immCmd (onCmd panned (immN 0 0x08 7)) (immN 0 0x08 7) [] 0x08 7 = true ∧
    (panned.pans.act.filter (fun y => y.2.prn == 7)).length = 1 ∧ free panned 0 = true ∧ 0 / 8 ≠ 31 / 8 := by decide +kernel

/-- A search for PRN 5 is in progress with its last dwell epoch done: `pow` in the cell of bin 16 and phase 5, and `conf`
confirmations left of a hit there. -/
def searching (conf pow : Nat) : State :=
  let h : Hit := ⟨5, 80, 250, 200, 60, 400, 0⟩
  { (up.setPar pAcqDetThr 150).setPar pAcqDwell 1 with acq := { up.acq with
      searching := true, plan := [⟨5, 0, 1000, some [(500, 1), (-500, 1)], none, false, 0⟩],
      cell := some { theCell with conf := conf, sums := if pow = 0 then [] else [(16 * 2046 + 5, pow)]
                                  first := if conf = 0 then none else some ⟨h, 5, 630000⟩ } } }

/-- A cell search that was spoiled by nothing. -/
def clean : CellObs := ⟨false, false⟩

/-- PRN 6, with windows laid out, follows PRN 5 on the plan. -/
def twoPrns (s : State) : State :=
  { s with acq := { s.acq with plan := s.acq.plan ++ [⟨6, 0, 1000, some [(0, 1)], none, false, 0⟩] } }

theorem witness_CellSearchesHitsAndStalls :
    (let s := searching 0 9
     ∃ c, s.acq.cell = some c ∧ cellEnds s c clean = true ∧ c.op = none ∧ s.acq.searching = true ∧ s.acq.newPlan = none ∧
       s.acq.dwellQ = [] ∧ s.acq.plan = [{ (⟨5, 0, 1000, none, none, false, 0⟩ : PlanItem) with wins := some ((500, 1) :: [(-500, 1)]) }] ∧
       s.parN pAcqDwell = 1 ∧ c.first = none ∧ isHit s c = true ∧ 0 < s.parN pAcqConfirm ∧ canMsg s = true ∧
       mrising s.pans.act = true) ∧
    (let s := searching 0 0
     ∃ c, s.acq.cell = some c ∧ cellEnds s c clean = true ∧ isHit s c = false ∧ c.sums = []) ∧
    (let s := searching 2 9
     ∃ c f, s.acq.cell = some c ∧ c.first = some f ∧ 1 < c.conf ∧ cellEnds s c clean = true ∧ confirms s c f = true) ∧
    (let s := searching 2 0
     ∃ c f, s.acq.cell = some c ∧ c.first = some f ∧ cellEnds s c clean = true ∧ confirms s c f = false) ∧
    (let s := twoPrns (searching 1 9)
     ∃ (c : Cell) (f : FirstHit) (i j : PlanItem), s.acq.cell = some c ∧ c.first = some f ∧ c.conf ≤ 1 ∧ cellEnds s c clean = true ∧ confirms s c f = true ∧
       f.hit.prn = 5 ∧ s.acq.plan = i :: { j with wins := some ((0, 1) :: []) } :: [] ∧ i.prn = 5 ∧ j.direct = false ∧
       tracked s 5 = false ∧ s.parBit pAcqPrnMask (5 - 1) = true ∧ free s 0 = true ∧ s.pwr.coreUp = true) ∧
    (let s := (searching 0 9).setPar pAcqConfirm 0
     ∃ c, s.acq.cell = some c ∧ c.first = none ∧ s.parN pAcqConfirm = 0 ∧ isHit s c = true ∧ cellEnds s c clean = true) ∧
    (let s := { searching 0 0 with acq := { (searching 0 0).acq with plan := [⟨5, 0, 1000, some [], none, false, 0⟩] } }
     s.acq.plan = [{ (⟨5, 0, 1000, none, none, false, 0⟩ : PlanItem) with wins := some [] }]) := by
  refine ⟨⟨_, rfl, by decide +kernel⟩, ⟨_, rfl, by decide +kernel⟩, ⟨_, _, rfl, rfl, by decide +kernel⟩,
    ⟨_, _, rfl, rfl, by decide +kernel⟩,
    ⟨_, _, ⟨5, 0, 1000, some [(500, 1), (-500, 1)], none, false, 0⟩, ⟨6, 0, 1000, none, none, false, 0⟩, rfl, rfl, by decide +kernel⟩,
    ⟨_, rfl, by decide +kernel⟩, by decide⟩

theorem witness_CellSearchesHitsAndStalls_others :
    (let s := { up with acq := { up.acq with cell := some { theCell with op := some (.trk, 0) }, dwellQ := [(.svc, 3)] } }
     ∃ c, s.acq.cell = some c ∧ c.op = some (.trk, 0) ∧ s.acq.searching = false ∧ unitOk s 0 = true ∧
       (.svc, 3) ∈ s.acq.dwellQ ∧ cellEnds { s with acq := { s.acq with dwellQ := [] } } c clean = true) ∧
    (let s := { up with acq := { up.acq with cell := some { theCell with done := 0 } } }
     ∃ c, s.acq.cell = some c ∧ c.done < c.ncoh) ∧
    (let s := { searching 0 9 with bank := { up.bank with errs := [(2 * 16384 + 16383, .poison)] } }
     ∃ c, s.acq.cell = some c ∧ cellOver s c = true ∧ accPoison s = true) ∧
    (let s := { up with acq := { up.acq with pendHits := [⟨5, 0, 0, 0, 0, 0, 0⟩] } }
     s.acq.pendHits = ⟨5, 0, 0, 0, 0, 0, 0⟩ :: [] ∧ prnOk s 5 = true ∧ s.acq.searching = false ∧
     (s.setPar pAcqMode 1).par pAcqMode ≠ 0) ∧ up.acq.pendHits = [] ∧ unitOk up 0 = true ∧ unitOk up (1 + 3) = true ∧
    up.acq.cell = none ∧ up.pans.act.any (fun y => y.1 / 8 == (3 : Fin 4).val && !y.2.susp) = false ∧
    (let s := { panned with acq := { panned.acq with searching := true } }
     s.pans.act.any (fun y => y.1 / 8 == (3 : Fin 4).val && !y.2.susp) = true ∧ s.acq.pendHits = [] ∧ mrising s.pans.act = true) := by
  refine ⟨⟨_, rfl, by decide +kernel⟩, ⟨_, rfl, by decide⟩, ⟨_, rfl, by decide +kernel⟩, by decide⟩

/-- R93: PRN 6 is tracked 20 dB above the hit, at a Doppler that differs by 3000 Hz. -/
theorem witness_CellSearchesHitsAndStalls_crossed :
    crossed (putPan (searching 1 9) 2 { Pan.reset with prn := 6, codeLk := true, cn0 := 601, carNco := BitVec.ofNat 32 1705630 })
      ⟨5, 80, 250, 200, 60, 400, 0⟩ 1 := by
  refine ⟨2, { Pan.reset with prn := 6, codeLk := true, cn0 := 601, carNco := BitVec.ofNat 32 1705630 }, rfl, rfl, by decide,
    by decide, 3, by decide +kernel⟩

/-- A pan that reacquires the PRN of a hit, one that tracks it, and one for whose PRN a twin is requested. -/
theorem witness_CellSearchesHitsAndStalls_tracked :
    (let s := putPan (searching 1 9) 2 { Pan.reset with prn := 5, reacq := some freshSearch }
     ∃ y, s.pans.act.filter (fun z => z.2.prn == 5) = [(2, y)] ∧ y.reacq.isSome = true) ∧
    (let s := putPan (searching 1 9) 2 { Pan.reset with prn := 5 }
     let s := { s with acq := { s.acq with twinReq := [5] } }
     (∃ y, s.pans.act.filter (fun z => z.2.prn == 5) = [(2, y)] ∧ y.reacq = none) ∧ 5 ∈ s.acq.twinReq ∧
     ∀ r, free (s.setPar pTrkPanMask 0x100) r = true → r / 8 ≠ 2 / 8) ∧
    5 ∉ (searching 1 9).acq.twinReq := by
  refine ⟨⟨_, rfl, rfl⟩, ⟨⟨_, rfl, rfl⟩, by decide, ?_⟩, by decide⟩
  intro r h hr
  have h8 : r < 8 := by omega
  have all : ∀ r < 8, free ((let s := putPan (searching 1 9) 2 { Pan.reset with prn := 5 }
     { s with acq := { s.acq with twinReq := [5] } } : State).setPar pTrkPanMask 0x100) r = false := by decide
  rw [all r h8] at h
  exact Bool.false_ne_true h

/-- A pan on PRN 9 that integrates, with `f` on it, and its twin on pan 20. -/
def tracking (f : Pan → Pan) : State :=
  let x : Pan := { Pan.reset with prn := 9, starting := false, codeLk := true, carLk := true, cn0 := 400, lead := true }
  putPan (putPan { up with acq := { up.acq with searching := true } } 3 (f x)) 20 { x with lead := false, susp := true }

/-- Pan 3 of `tracking f` is active with `q`. -/
def panOf (f : Pan → Pan) (q : State → Pan → Bool) : Bool := (mget (tracking f).pans.act (3 : Fin 32).val).any (q (tracking f))

theorem witness_Tracking :
    mget up.pans.act (3 : Fin 32).val = none ∧ panOf id (fun s x => integrates s x && !x.gapHit && x.reacq.isNone) = true ∧
    (mget (tracking id).pans.act (20 : Fin 32).val).any (fun x => !integrates (tracking id) x) = true ∧
    panOf (fun x => { x with gapHit := true }) (fun s x => x.gapHit && integrates s x) = true ∧
    panOf (fun x => { x with direct := true, carLk := false }) (fun s x => integrates s x && pullOver s x (200 * 16368)) = true ∧
    panOf id (fun s x => !pullOver s x (200 * 16368)) = true ∧
    panOf (fun x => { x with frmSync := true }) (fun s x => integrates s x && x.frmSync) = true ∧
    panOf (fun x => { x with reacq := some freshSearch }) (fun s x => integrates s x && x.reacq.isSome) = true ∧
    panOf id (fun _ x => x.phase == .pull && x.carLk && x.reacq.isNone) = true ∧
    panOf id (fun _ x => x.codeLk && x.lossMs.isNone) = true ∧
    (let s := tracking (fun x => { x with lossMs := some 999 })
     s.par pTrkReacqS ≠ 0 ∧ mrising s.pans.act = true ∧ (mget s.pans.act 3).any (fun x => x.lead && x.codeLk && x.lossMs == some 999) = true ∧
     (s.pans.act.filter (fun y => y.1 != 3 && y.2.prn == 9 && y.2.codeLk && y.2.lossMs.isNone)).length = 1) ∧
    (let s := (putPan { up with acq := { up.acq with searching := true } } 3
        { Pan.reset with prn := 9, starting := false, codeLk := true, lossMs := some 0 }).setPar pTrkReacqS 0
     ∃ x, mget s.pans.act 3 = some x ∧ s.pans.act.filter (fun z => z.2.prn == x.prn) = [((3 : Fin 32).val, x)] ∧ s.par pTrkReacqS = 0 ∧ s.acq.pendHits = [] ∧
       s.acq.searching = true ∧ prnOk s x.prn = true ∧ mrising s.pans.act = true ∧ x.codeLk = true ∧ x.lossMs = some 0) ∧
    (let s := tracking (fun x => { x with reacq := some freshSearch })
     ∃ x y, mget s.pans.act (3 : Fin 32).val = some x ∧ x.reacq.isSome = true ∧ mget s.pans.act 20 = some y ∧ y.prn = x.prn) := by
  refine ⟨by decide, by decide, by decide, by decide, by decide, by decide, by decide, by decide, by decide, by decide, by decide,
    ⟨_, rfl, by decide⟩, ⟨_, _, rfl, by decide, rfl, by decide⟩⟩

/-! ### Samples, pace, epochs and solutions -/

/-- Samples arrive and are admitted; pan 3 of group 0 tracks, and has `n` entries of Brine still to read. -/
def sampling (n : Nat) : State :=
  let s := putPan (up.setPar pSmpMode 1) 3 { Pan.reset with prn := 9, starting := false, cn0 := 400 }
  { s with
    samp := { up.samp with
      live := true, admitting := true, sclkOk := true, fifo := List.replicate n ⟨0, 0, false, 0⟩, unread := up.samp.unread.set 0 n }
    acq := { up.acq with begun := true } }

theorem witness_SamplesAndSclk :
    up.samp.live = false ∧ (sampling 0).samp.live = true ∧ (sampling 0).samp.admitting = true ∧ (sampling 0).samp.fifo.length < 4096 ∧
    (sampling 0).pwr.coreUp = true ∧ (sampling 0).slu.ntc.length < 490 ∧ (sampling 0).pace.level ≤ 63 ∧
    (sampling 0).samp.faulted = false ∧ pacing (sampling 0) = true ∧ up.samp.settling = false ∧
    ({ up with samp := { up.samp with settling := true } } : State).samp.settling = true ∧
    edgesRight (sampling 0) 512 = false ∧ (sampling 0).par pSmpMode = 1 ∧ edgesRight (sampling 0) 1025 = true ∧
    edgesRight (sampling 0) 1026 = false ∧
    (let s := { sampling 0 with samp := { (sampling 0).samp with faulted := true } }
     s.samp.live = true ∧ s.samp.faulted = true) ∧ (sampling 0).samp.phaseN < 16 ∧ trimPs (sampling 0) 13 = 0 ∧
    divNearest (0 * 67043328) 1000000000 = 0 ∧
    (let s := { sampling 0 with samp := { (sampling 0).samp with phaseN := 16 } }
     16 ≤ s.samp.phaseN ∧ (3 * 64 - s.samp.phase64 - 192) % (64 * sclkPeriod s) = 0 ∧ -(32 * sclkPeriod s) ≤ 192 ∧
     192 < 32 * sclkPeriod s ∧ (192 : Int) ≤ s.par pSmpSclkPhTol * 64 ∧
     s.par pSmpSclkPhTol * 64 < 1024 ∧ (16 * 64 - s.samp.phase64 - 1024) % (64 * sclkPeriod s) = 0) ∧
    (let s := { sampling 0 with samp := { (sampling 0).samp with admitting := false } }
     s.samp.live = true ∧ s.samp.admitting = false) ∧
    readsBrine (sampling 0) 0 = true ∧ readsBrine (sampling 0) 1 = false ∧ readsBrine (sampling 0) 4 = false := by decide

theorem witness_SamplesAndSclk_jump :
    (let s := ((sampling 5).setPar pPwrShedJump 6).setPar pPwrPanKeep 0
     s.samp.live = true ∧ s.samp.admitting = true ∧ s.samp.fifo.length < 4096 ∧ pacing s = true ∧ paceNum s pPwrShedJump = 6 ∧
     s.pace.level < lastLevel s) ∧ fill (sampling 5) = 5 := by decide

theorem witness_SamplesAndSclk_overrun : 4096 ≤ (sampling 4096).samp.fifo.length := by decide +kernel

/-- `sampling 5` with the Pace Monitor's thresholds low, so that five entries are a high fill. -/
def paced (jump : Int) : State :=
  ((((sampling 5).setPar pPwrPaceLo 1).setPar pPwrPaceHi 4).setPar pPwrShedJump jump).setPar pPwrPaceEn 1

theorem witness_PaceMonitor :
    (let s := paced 4000
     pacing s = true ∧ mrising s.pans.act = true ∧ 1 ≤ paceNum s pPwrShedWait ∧ 1 ≤ paceNum s pPwrPaceDnHold ∧
     1 ≤ paceNum s pPwrUnshedHold ∧
     s.vreg.softst = false ∧ (s.vreg.target : Int) ≤ 255 ∧ 0 ≤ s.par pVregFloor ∧ 0 ≤ s.par pVregCeil ∧
     s.par pVregFloor ≤ s.par pVregCeil ∧ s.par pVregFloor ≤ s.vreg.target ∧ (s.vreg.target : Int) ≤ s.par pVregCeil ∧
     paceVal s pPwrPaceEn ≠ 0 ∧ paceNum s pPwrPaceHi ≤ fill s ∧ jumps s = false ∧ shedDue s = false ∧ restores s = false) ∧
    (let s := { paced 4000 with pace := { (paced 4000).pace with level := 2, atCeil := true, hiRun := 10000, restores := [(3, 0, true)] } }
     shedDue s = true ∧ hasWork s 3 = false ∧ lastLevel s = 4 ∧ windowsOpen s (paceEnd s) = [(3, 0, true)]) ∧
    jumps (paced 5) = true ∧
    (let s := sampling 0
     let x : Pan := { Pan.reset with prn := 9, starting := false, susp := true }
     let s := putPan { s with pace := { s.pace with level := 6, suspOrder := [3], quietRun := 1000000 } } 3 x
     restores s = true ∧ 5 < s.pace.level ∧ s.pace.suspOrder = 3 :: [] ∧ mget s.pans.act 3 = some x) ∧
    (let s := sampling 0
     let s := { s with pace := { s.pace with level := 5, suspOrder := [3], quietRun := 1000000 } }
     restores s = true ∧ s.pace.level = 5 ∧ s.pace.suspOrder.length ≤ 32 ∧ s.pace.suspOrder.Nodup) ∧
    pacing { up with pwr := { up.pwr with state := .sleep } } = false ∧ up.pace.restores = [] ∧
    (let s := { sampling 0 with pace := { up.pace with old := [(pPwrPaceLo, 3)] } }
     paceNum s pPwrPaceLo = 3 ∧ stepsDown { s with pace := { s.pace with lowRun := 15 } } = true) := by decide

/-- A shed at level 4 with two pans and trk pans to keep 1: the worst pan goes. -/
theorem witness_PaceMonitor_pans :
    let x : Pan := { Pan.reset with prn := 10, starting := false, cn0 := 400 }
    let s := putPan ((paced 4000).setPar pPwrPanKeep 1) 4 x
    let s := { s with pace := { s.pace with atCeil := true, hiRun := 10000, level := 4 } }
    shedDue s = true ∧ paceNum s pPwrPanKeep < panCount s ∧ hasWork s 5 = true := by decide

/-- An epoch boundary with nothing measured. -/
def plainEpoch : EpochObs := ⟨⟨0, 0⟩, ⟨0, 0⟩, ⟨0, 0⟩, ⟨0, 0⟩, [], false, [], []⟩

theorem witness_EpochBoundary :
    up.time.running = true ∧ State.reset.time.running = false ∧ plainEpoch.calls = [] ∧ (sampling 0).samp.admitting = true ∧
    (sampling 0).par pSmpMode = 1 ∧ ((sampling 0).setPar pSmpMode 2).par pSmpMode = 2 ∧
    (txnOf up .ns).pend = false ∧ (txnOf up .sec).pend = false ∧ (txnOf up .trk).pend = false ∧ (txnOf up .svc).pend = false ∧
    (txnOf up .mir).pend = false ∧ (txnOf up .dbg).pend = false ∧
    (txnOf (up.modCls .ns (fun b => { b with txn := { b.txn with pend := true } })) .ns).pend = true ∧
    (∀ m ∈ [0, 1, 2], (up.setPar (pSmpN0Mode + 3) m).par (pSmpN0Mode + (3 : Fin 4).val) = m) ∧ (up.samp.notch.get 3).mode ≠ 0 ∧
    ((mget (sampling 0).pans.act 3).any (fun x => !x.starting) && (sampling 0).time.stepPend.isNone && (sampling 0).acq.begun) = true ∧
    (∀ c ∈ [{ theCell with done := 0, run := some (0, true) }, { theCell with done := 0, align := false, dwell := 2, run := some (0, false) },
        { theCell with done := 0, align := false }],
      let s := { sampling 0 with acq := { up.acq with cell := some c, begun := true, idle := some (0, 1) } }
      s.acq.cell = some c ∧ cryOff s = false ∧ c.done < c.ncoh ∧ s.pwr.state = .run) ∧
    (let s := (((sampling 0).setPar (pSmpN0Mode + 1) 0).setPar (pSmpN0Mode + 2) 0).setPar (pSmpN0Mode + 3) 0
     s.parN (pSmpN0Mode + (0 : Fin 4).val) = 2 ∧ (s.samp.notch.get 0).mode = 2 ∧ s.samp.admitting = true ∧
     (∀ j : Fin 4, j ≠ 0 → s.parN (pSmpN0Mode + j.val) = 0 ∧ (s.samp.notch.get j).mode ≠ 1 ∧
       ((s.samp.notch.get j).mode = 0 → (s.samp.notch.get j).engaged = false))) ∧
    (let s := { up with time := { up.time with leapNext := some ⟨2200, 6, 19⟩, utcValid := true } }
     s.time.leapNext = some ⟨2200, 6, 19⟩ ∧ s.time.utcValid = true ∧ s.time.running = true ∧ coreRuns s .svc = true) ∧
    up.time.leapNext = none := by decide

/-- Four usable lead pans, and no anchor. -/
def fourPans (tq : TimeQ) : State :=
  let x (n : Nat) : Pan := { Pan.reset with prn := n, starting := false, codeLk := true, lead := true, cn0 := 450 }
  { up with pans := { up.pans with act := [(0, x 1), (1, x 2), (2, x 3), (9, x 4)],
                                   eph := [(1, ⟨0, 0, true, 0⟩), (2, ⟨0, 0, true, 0⟩), (3, ⟨0, 0, true, 0⟩), (4, ⟨0, 0, true, 0⟩)] },
            time := { up.time with tq := tq } }

/-- The first instant of week sys.week_min. -/
def weekStart : Int := up.par pSysWeekMin * ticksPerWeek

/-- A solution at that instant. -/
def solved (sigma : Nat) : SolObs :=
  { sats := [], tSol := weekStart - up.par pTpFeDelay * ticksPerSec / 1000000000, iono := 0, tropo := 0, eps := 0, sigma := sigma,
    freqSigma := 1, pos := ⟨0, 0, 0, 1, 1⟩, velE := 0, velN := 0, velU := 0, tdop := 100 }

theorem witness_Solutions :
    solving State.reset = false ∧ solving (fourPans .unknown) = true ∧ NextEpoch (fourPans .unknown) 0 ∧
    (let u := newEphemeris (carryDtc (fourPans .unknown) 0)
     FullTime u (solved 10) weekStart ∧ nUsable u (solved 10) weekStart = 4 ∧ itsMode u (solved 10) weekStart = 2 ∧
     isAccepted u (solved 10) weekStart = true ∧ coarseOk u 10 = true ∧ coarseOk u 1000000000 = false ∧
     isAccepted { u with pans := up.pans } (solved 10) weekStart = false) := by
  refine ⟨by decide, by decide, ⟨0, by decide, by decide, by decide⟩, ⟨0, by decide, by decide, by decide⟩, by decide +kernel⟩

theorem witness_Solutions_others :
    isAccepted (fourPans .gnssCoarse) (solved 10) weekStart = true ∧ isBig (fourPans .gnssCoarse) 0 = false ∧
    isBig (fourPans .gnssCoarse) ticksPerSec = true ∧ (fourPans .unknown).integ.spoof = false ∧
    (let s := (fourPans .unknown).setPar pNtcMsrBank 7
     let s := s.setPar pNtcEvtBank 8
     msrOpen s = true ∧ s.slu.ntc.length < 470 ∧ s.pans.act.length ≤ 32 ∧ (s.setPar pMsrPost 1).parB pMsrPost = true ∧
     (s.setPar pMsrPost 0).parB pMsrPost = false) ∧
    (let s := { fourPans .gnssFine with integ := { up.integ with spoof := true, passT := some 100000 } }
     s.integ.spoof = true ∧ s.integ.passT.isSome = true ∧ 10 * s.parN pIntSpClearS ≤ passedFor s ∧
     everyPass s (solved 10) weekStart = true ∧ clearsSpoof s (solved 10) weekStart = true ∧
     passedFor { s with integ := { s.integ with passT := some 0 } } < 10 * s.parN pIntSpClearS) ∧
    (let s := fourPans .gnssCoarse
     let hold := s.parN pSysFineHold * 16368000
     let s := { s with time := { s.time with fineSince := some 0, lastAccept := hold } }
     s.time.tq = .gnssCoarse ∧ s.time.fineSince = some 0 ∧ solving s = true ∧ s.time.stepPend = none ∧ s.slu.ntc.length < 490 ∧
     dtcNow s ≤ 0 + s.parN pSysFineHold * 16368000 ∧ 0 + hold ≤ s.time.lastAccept + 16368000 / rateHz s) ∧
    tqGnss (fourPans .gnssFine).time.tq = true ∧ (fourPans .gnssFine).time.running = true ∧
    dtcNow (fourPans .gnssFine) ≤ (fourPans .gnssFine).time.lastAccept + (fourPans .gnssFine).parN pSysHoWait * 16368 ∧
    (let s := { up with time := { up.time with surveyN := 1, surveyT := 36000 } }
     let s := s.setPar pMsrSurveyS 3600
     s.par pMsrSurveyS ≠ 0 ∧ s.time.surveyHeld = false ∧ 0 < s.time.surveyN ∧ 10 * s.parN pMsrSurveyS ≤ s.time.surveyT) := by
  decide +kernel

/-! ### Supplies and power states -/

theorem witness_SupplyAndAntenna :
    up.vreg.softst = false ∧ State.reset.vreg.softst = true ∧ State.reset.pwr.aonUp = true ∧ State.reset.pwr.wakeDeep = false ∧
    State.reset.pwr.rstLow = false ∧ up.pwr.coreUp = true ∧ State.reset.pwr.coreUp = false ∧ up.slu.ntc.length < 490 ∧
    (∀ n < 5, ({ up with ant := { up.ant with state := n } } : State).ant.state = n) ∧
    writing (cycW up 0x33 false) 0x33 false = true ∧ (0x100#16).getLsbD 8 = true ∧
    ({ State.reset with pwr := { State.reset.pwr with wakeDeep := true } } : State).vreg.softst = true := by decide

/-- An attempt towards SLEEP runs; TRK has replied or not. -/
def attempting (replied : Bool) : State :=
  let s := prog.modCore .trk (fun x => { x with waiting := replied, req := 2 })
  { (s.modCore .svc (fun x => { x with req := 2, waiting := !replied })) with
    pwr := { up.pwr with attempt := true, tried := 2 } }

theorem witness_EntryAttempts :
    up.slu.ntc.length < 490 ∧ up.pwr.coreUp = true ∧ coreRuns up .trk = true ∧ (up.core .trk).waiting = false ∧
    up.pwr.state = .run ∧ up.pwr.attempt = false ∧ (attempting false).pwr.attempt = true ∧
    hasReplied ((attempting false).core .trk) = false ∧ idleTrue (attempting false) = true ∧ hasReplied ((attempting true).core .trk) = true ∧
    runs (attempting false) .trk .al = true ∧ (attempting false).pwr.asked = false ∧ 2 ≤ ((attempting false).core .trk).req ∧
    hasReplied ((attempting false).core (peer .trk)) = true ∧ up.svc.waiting = false ∧ up.par pPwrAutoSleep = 0 ∧
    (let s := up.setPar pPwrAutoSleep 1
     s.par pPwrAutoSleep ≠ 0 ∧ coreRuns s .svc = true ∧ s.pans.act = [] ∧ s.acq.searching = false ∧ s.slu.cmd = []) ∧
    idleTrue up = true ∧ up.pwr.state ≠ .off := by decide

/-- An attempt towards state `n` waits for its commit. -/
def committing (n : Nat) : State :=
  { up with pwr := { up.pwr with attempt := true, asked := true, tried := n, state := .idle },
            trk := { up.trk with waiting := true, req := n }, svc := { up.svc with waiting := true, req := n } }

/-- The device sleeps, and a wake source is held. -/
def asleep (st : PwrState) : State :=
  { up with pwr := { up.pwr with state := st, heldWakes := [9, 1] },
            trk := { up.trk with waiting := true, req := 2 }, svc := { up.svc with waiting := true, req := 2 } }

theorem witness_EntryAndExit :
    up.pwr.attempt = false ∧
    (∀ n ∈ [2, 3, 4], (committing n).pwr.attempt = true ∧ (committing n).pwr.asked = true ∧ noCommits (committing n) = true ∧
      (committing n).time.running = true ∧ (committing n).vreg.softst = false ∧ (committing n).pwr.coreUp = true ∧
      (committing n).pwr.tried = n) ∧
    (let s := { committing 2 with tp := { up.tp with endsAt := some (640000, 0) }, bank := { up.bank with drain := 1 } }
     ∃ n, LatticeIndex s (16 * wcsTime s - s.wcs.phi) 16 n ∧ Longest s (acceptsAt (s.setPar pWcsSleepRun 0) n) 7 10
       ((dtcNow s + 10000) * 1000 / 16368)) ∧
    (∃ n, LatticeIndex (committing 2) (16 * wcsTime (committing 2) - (committing 2).wcs.phi) 16 n ∧
      Longest (committing 2) (acceptsAt (committing 2) n) 7 0 0) ∧
    (committing 2).vreg.slewing = false ∧ (asleep .sleep).pwr.state = .sleep ∧ (asleep .sleep).pwr.heldWakes ≠ [] ∧
    (asleep .sleep).pwr.coreUp = true ∧ (asleep .sleep).vreg.softst = false ∧ (asleep .sleep).evs.held = [] ∧
    (asleep .sleep).slu.ntc.length < 400 ∧ (asleep .sleep).pwr.supplyHeld.length + (asleep .sleep).pwr.gaugeHeld.length < 80 ∧
    (asleep .sleep).pwr.attempt = false ∧ (asleep .sleep).acq.pendHits = [] ∧ (asleep .sleep).pans.act = [] ∧
    (asleep .deep).pwr.state = .deep ∧ (asleep .deep).pwr.heldWakes ≠ [] ∧ (asleep .deep).pwr.rstLow = false ∧
    (let s := { panned with pans := { panned.pans with eph := [(7, ⟨0, 0, true, 0⟩)] },
                            time := { panned.time with freqKnown := true, pos := some ⟨0, 0, 0, 1, 1⟩, tq := .hostSet, u0 := 10, unbounded := false } }
     hotFor s 7 = true ∧ hotFor s 8 = false ∧ (panAt s 31).isSome = true) ∧
    (let s := ((asleep .sleep).setPar pPwrWakeRun 1).setPar pPwrWakeSeen 0x0680
     s.parB pPwrWakeRun = true ∧ s.parN pPwrWakeSeen ≠ 0 ∧ s.parN pPwrWakeSeen &&& 0xF97F = 0 ∧ coreRuns s .svc = true) ∧
    (up.setPar pWcsSleepRun 0).parB pWcsSleepRun = false ∧ up.parB pWcsSleepRun = true ∧
    (asleep .sleep).wcs.sleepStop = false := by
  refine ⟨by decide, by decide, ⟨0, ⟨by decide, by decide⟩, Or.inr ⟨10000, by decide, by decide, by decide, by decide⟩⟩,
    ⟨0, ⟨by decide, by decide⟩, Or.inl ⟨by decide, by decide⟩⟩, by decide⟩

theorem witness_PowerUpAndLosses :
    up.pwr.aonUp = true ∧ ({ up with pwr := { up.pwr with aonUp := false, state := .off } } : State).pwr.state = .off ∧
    ({ up with pwr := { up.pwr with aonUp := false } } : State).pwr.state ≠ .off ∧ up.pwr.rstLow = false ∧
    (let s := { up with pwr := { up.pwr with rstLow := true } }
     s.pwr.rstLow = true ∧ s.pwr.aonUp = true ∧ s.vreg.failed = false ∧ s.vreg.softst = false) ∧
    ({ up with vreg := { up.vreg with failed := true } } : State).vreg.failed = true ∧
    State.reset.pwr.coresUp = false ∧ up.pwr.coresUp = true ∧ up.pwr.state = .run := by decide

/-- CORE is up, REFIN is not stable yet. -/
def powered (deep : Bool) : State :=
  { up with pwr := { up.pwr with coresUp := false, wakeDeep := deep }, trk := { up.trk with held := true }, svc := { up.svc with held := true } }

theorem witness_CoresStart :
    State.reset.pwr.coreUp = false ∧ (powered false).pwr.coreUp = true ∧ (powered false).pwr.coresUp = false ∧
    (powered false).pwr.supplyHeld = [] ∧ (powered false).pwr.gaugeHeld = [] ∧ (powered false).pwr.cancelled = 0 ∧
    (powered false).slu.ntc = [] ∧ (powered false).pwr.wakeDeep = false ∧ (powered false).parB pSysBoot = false ∧
    ((powered false).setPar pSysBoot 1).parB pSysBoot = true ∧ (powered true).pwr.wakeDeep = true ∧
    ((powered true).core .trk).stopped = false ∧ ((powered true).core .svc).halted = false ∧ (powered true).evs.slots = [] ∧
    (powered true).time.tq = .unknown ∧
    (let s := { powered true with time := { (powered true).time with tq := .holdover }, bank := { up.bank with retained := 0xFF } }
     s.time.tq ≠ .unknown ∧ resumable s = true ∧ s.acq.pendHits = []) ∧ resumable (powered true) = false := by decide

/-! ### Battery gauge -/

/-- The gauge samples. -/
def gauging (f : GauSt → GauSt) : State := let s := up.setPar pGauEn 1; { s with gau := f { s.gau with fault := false } }

theorem witness_Gauge :
    1 ≤ up.par pGauCapMah ∧ (∀ k < 10, up.par (pGauOcv0 + k) < up.par (pGauOcv0 + k + 1)) ∧ up.slu.ntc.length < 490 ∧
    up.parN pGauSocSd ≤ 5000 ∧ gauges (up.setPar pGauEn 0) = false ∧ gauges (gauging id) = true ∧
    7 ≤ (gauging (fun g => { g with absentRun := 7 })).gau.absentRun ∧
    (let s := gauging (fun g => { g with starting := true })
     gauges s = true ∧ s.gau.starting = true) ∧
    (let s := gauging (fun g => { g with starting := false, zeroHold := false, sdRun := 65535 })
     gauges s = true ∧ s.gau.starting = false ∧ s.gau.zeroHold = false ∧ gauCell s 1000 ≤ s.parN pGauVSd ∧
     s.parN pGauSdN ≤ s.gau.sdRun + 1 ∧ 1 ≤ s.parN pGauSdN ∧ s.parN pGauVSd < gauCell s 5000) ∧
    (∀ k < 3, (up.setPar pGauEvtEn 7).parBit pGauEvtEn k = true ∧ up.parBit pGauEvtEn k = up.parBit pGauEvtEn k) ∧
    tells up = true ∧ tells (asleep .sleep) = false ∧ (up.setPar pPwrWakeEn 256).parBit pPwrWakeEn 8 = true ∧
    (let s := (gauging id).setParBit pGauStat 0 true
     gauges s = true ∧ s.parBit pGauStat 0 = true) ∧
    (gauging id).parBit pGauStat 0 = false ∧ coreRuns (gauging id) .svc = true ∧ (gauging id).pwr.state = .run := by decide

theorem witness_Gauge_trims : Trimmed 3700 0 0 3700 ∧ Trimmed (-5000000) 32767 (305 * -128) (-7558483) :=
  ⟨Or.inl (by decide), Or.inl (by decide)⟩

/-! ### The mirrored pair -/

/-- A device of role `r` whose link has been up for a while. -/
def paired (r : Nat) : State :=
  { up with mir := { up.mir with role := r, linkRun := true, linkOk := true, goodRun := 16, pcuOn := r == 2,
                                 cmpA := dlyCopy (up.par pMirDlyCmp), cmpB := dlyCopy (up.par pMirDlyCmp),
                                 outA := dlyCopy (up.par pMirDlyOut), outB := dlyCopy (up.par pMirDlyOut) },
            bank := { up.bank with owners := if r = 0 then up.bank.owners else up.bank.owners.set 5 .mirror } }

/-- An IDLE frame of a partner. -/
def idleOf (role tq nonce : Nat) (locked sync : Bool) : Frame :=
  ⟨0, 3, [BitVec.ofNat 16 (role + 4 * tq + 32 * bit locked + 64 * bit sync), 5, BitVec.ofNat 16 nonce], true⟩

theorem witness_LinkReception :
    up.slu.ntc.length < 480 ∧ linked up = false ∧ linked (paired 2) = true ∧ frameValid ⟨0, 0, [], false⟩ = false ∧
    frameValid ⟨7, 0, [], true⟩ = false ∧ frameValid ⟨0, 0, List.replicate 33 0, true⟩ = false ∧
    frameValid ⟨0, 0, List.replicate 32 0, true⟩ = true ∧ (paired 2).mir.role ≠ 1 ∧ arrives (paired 2) ⟨5, 0, [1], true⟩ 5 = true ∧
    arrives (paired 2) (idleOf 1 4 9 true true) 0 = true ∧ (partnerOf (idleOf 1 4 9 true true)).role = 1 ∧
    arrives (paired 1) (idleOf 2 4 9 true true) 0 = true ∧ (partnerOf (idleOf 2 4 9 true true)).role ≠ 1 ∧
    (paired 1).mir.take = none ∧ (paired 1).time.tq ≠ .gnssCoarse ∧ (paired 1).time.tq ≠ .gnssFine ∧
    (partnerOf (idleOf 2 4 9 true true)).tq = 4 ∧ (partnerOf (idleOf 2 4 9 true true)).locked = true ∧
    (partnerOf (idleOf 2 4 9 true true)).sync = true ∧ ((paired 1).setPar pMirAutoTake 4).parBit pMirAutoTake 2 = true ∧
    arrives (paired 1) (idleOf 1 4 9 true true) 0 = true ∧ ((paired 1).setPar pMirAutoTake 0).parBit pMirAutoTake 2 = false ∧
    (let s := { paired 1 with mir := { (paired 1).mir with conflictRun := 15, nonce := 5 } }
     15 ≤ s.mir.conflictRun ∧ s.mir.nonce.toNat < (partnerOf (idleOf 1 4 9 true true)).nonce.toNat ∧ s.mir.heldOps = [] ∧
     (partnerOf (idleOf 1 4 5 true true)).nonce = s.mir.nonce ∧ (partnerOf (idleOf 1 4 4 true true)).nonce.toNat < s.mir.nonce.toNat) := by
  decide

theorem witness_MirrorContent :
    (∀ r < 3, ∀ type ∈ [1, 2, 3, 4, 6], arrives (paired r) ⟨BitVec.ofNat 4 type, 3, [32, 0, 7], true⟩ type = true ∧ (paired r).mir.role = r) ∧
    32 ≤ fw ⟨1, 3, [32, 0, 7], true⟩ 0 ∧ bankOut (paired 2) 5 = false ∧
    (let f : Frame := ⟨2, 3, [4, 16383, 7], true⟩
     arrives (paired 2) f 2 = true ∧ bankOut (paired 2) (fw f 0 % 8) = false ∧ ownerOf (paired 2) (fw f 0 % 8) = .svc ∧
     0 + 2 < f.payload.length ∧ fw f 1 + 0 < 16384) ∧
    ownerOf (paired 2) (fw ⟨2, 3, [6, 0, 7], true⟩ 0 % 8) = .host ∧
    (let f : Frame := ⟨3, 3, imgWords' 3 10 0 ++ [0x39], true⟩
     arrives (paired 2) f 3 = true ∧ (imgOf f.payload).actions ≠ 0 ∧ imgBad (imgOf f.payload) = false ∧ imgTimeOk f.payload = true) ∧
    (let m := imgOf (imgWords' 3 10 0 ++ [0x39])
     let x (c : Bool) : Slot := ⟨.ns, 7, m, if c then some m else none, none, false⟩
     let s (c : Bool) : State := { paired 2 with evs := { up.evs with slots := [(3, x c)] } }
     slotAt (s true) 3 = some (x true) ∧ (x true).com ≠ none ∧ (x false).com = none ∧ (x false).img.target = m.target ∧
     slotAt (s false) 3 = some (x false) ∧ 20952 ≤ m.target - gnssNow (paired 2) ∧ slotAt (paired 2) 3 = none ∧
     (imgOf (imgWords' 3 11 0 ++ [0x39])).target ≠ m.target) ∧
    (imgOf (3 :: List.replicate 13 0)).actions = 0 ∧ (paired 1).mir.take = none ∧
    ({ paired 1 with mir := { (paired 1).mir with take := some ⟨0, 0, none⟩ } } : State).mir.take ≠ none ∧
    (⟨6, 3, [4, 5], true⟩ : Frame).payload = [4, 5] ∧ arrives (paired 1) ⟨6, 3, [4, 5], true⟩ 6 = true ∧
    (paired 1).mir.conflictRun < 15 := by decide

theorem witness_MirroredPair :
    linked up = false ∧ linked (paired 1) = true ∧ (paired 1).mir.out = [] ∧ (paired 1).mir.resend = [] ∧ up.mir.take = none ∧
    (let f (r : Nat) (ok : Bool) : State := { paired r with mir := { (paired r).mir with
         take := some ⟨0, 0, none⟩, linkOk := ok, partner := some ⟨2, 4, true, true, 0, 0⟩ } }
     (f 2 true).mir.take = some ⟨0, 0, none⟩ ∧ (f 2 true).mir.role = 2 ∧ (f 2 true).pwr.coreUp = true ∧ (f 2 true).pwr.state = .run ∧
     (f 1 true).mir.role = 1 ∧ (f 1 true).mir.linkOk = true ∧ (f 1 false).mir.linkOk = false ∧ (f 1 true).mir.heldOps = [] ∧
     (f 1 true).mir.partner = some ⟨2, 4, true, true, 0, 0⟩) ∧
    (let s := ({ paired 2 with mir := { (paired 2).mir with lossWait := true } } : State).setPar pMirAutoTake 1
     s.mir.role = 2 ∧ s.mir.lossWait = true ∧ s.pwr.coreUp = true ∧ s.parBit pMirAutoTake 0 = true ∧ s.evs.shadow.length < 5) ∧
    ((paired 2).setPar pMirAutoTake 0).parBit pMirAutoTake 0 = false ∧
    (let s := (paired 2).setPar pMirAutoTake 0
     s.mir.pcuOn = true ∧ s.mir.cmpA = dlyCopy (s.par pMirDlyCmp) ∧ s.mir.cmpB = s.mir.cmpA ∧ s.mir.outA = dlyCopy (s.par pMirDlyOut) ∧
     s.mir.outB = s.mir.outA ∧ |(0 : Int) - 0| * 1000000000 ≤ s.par pMirWinNs * 1047552000 ∧
     s.par pMirWinNs * 1047552000 < |(1047552000 : Int) - 0| * 1000000000 ∧ s.parBit pMirAutoTake 1 = false ∧
     (s.mir.testDue = false ∨ s.mir.testDue = true)) ∧
    (let s := { paired 2 with mir := { (paired 2).mir with testDue := true, es := [1, 2, 3, 4] } }
     s.mir.testDue = true ∧ s.mir.es.length = 4) ∧
    (let s := { paired 2 with mir := { (paired 2).mir with testDue := false, pcu := 2 } }
     s.mir.testDue = false ∧ s.mir.pcu = 2) ∧
    (let s := { paired 2 with mir := { (paired 2).mir with cmpB := dlyCopy 7, testDue := false } }
     s.mir.cmpA.value ≠ s.mir.cmpB.value ∧ s.mir.pcu ≠ 2 ∧ s.mir.testDue = false) := by decide

/-- A standby in GNSS-FINE, whose pulse 5 is compared. -/
def comparing : State := { paired 2 with time := { up.time with tq := .gnssFine } }

theorem witness_MirroredPair_pulse :
    tpEmits comparing = true ∧ tpEmits (paired 2) = false ∧ NearestPulse comparing (tpPlace comparing 5).1 5 := by
  refine ⟨by decide, by decide, ?_⟩
  show |2 * (5 * (ticksPerSec / tpHz comparing.tp.rate) - (tpTime comparing (gnssAt comparing (tpPlace comparing 5).1) -
    nsTicks comparing.tp.userOff))| ≤ ticksPerSec / tpHz comparing.tp.rate
  decide

/-! ### The block -/

theorem witness_StepRunsFrontCommand : up.pending = [] := by decide

theorem witness_CalendarStaysLegal :
    calendarOk lastSecond.rtc = true ∧
    holds (step { lastSecond with pending := [.rtcSecondTick] }) (fun t => t.rtc.year == 0 && t.rtc.wday == 1) = true := by decide

/-! ### Well-formedness -/

theorem test_wf_epoch :
    wellFormed (.epochBoundary { plainEpoch with assist := [⟨5, 0, 0, 0⟩, ⟨5, 1, 0, 0⟩] }) = false ∧
    wellFormed (.epochBoundary { plainEpoch with cells := [(65472, 1)] }) = false ∧
    wellFormed (.epochBoundary { plainEpoch with cells := [(7, 1), (7, 2)] }) = false ∧
    wellFormed (.epochBoundary { plainEpoch with cells := [(0, 1), (65471, 2)] }) = true := by decide
theorem test_wf_search : wellFormed (.search [⟨32, 90, 0, 32735⟩]) = true ∧
    wellFormed (.search [⟨64, 0, 0, 0⟩]) = false ∧ wellFormed (.search [⟨1, 0, 0, 32736⟩]) = false := by decide
theorem test_wf_solution :
    wellFormed (.solutionEpoch { solved 1 with sats := [⟨3, none, none, 0, 0, 0, 0, 0⟩, ⟨3, none, none, 0, 0, 0, 0, 0⟩] }) = false ∧
    wellFormed (.spoofSuspectClear { solved 1 with sats := [⟨3, none, none, 0, 0, 0, 0, 0⟩, ⟨3, none, none, 0, 0, 0, 0, 0⟩] }) = false := by
  decide
theorem test_wf_pace : wellFormed (.pacePeriodEnd ⟨1024, some 128⟩) = false ∧ wellFormed (.pacePeriodEnd ⟨1024, some 127⟩) = true := by
  decide
theorem test_wf_integration :
    wellFormed (.integrationEnd 0 ⟨List.replicate 15 0, List.replicate 31 (0, 0), 0, none⟩) = false ∧
    wellFormed (.integrationEnd 0 ⟨List.replicate 14 0, [], 0, none⟩) = false ∧
    wellFormed (.integrationEnd 0 ⟨List.replicate 14 0, List.replicate 31 (0, 0), 20, none⟩) = false ∧
    wellFormed (.integrationEnd 0 ⟨List.replicate 14 0, List.replicate 31 (0, 0), 19, none⟩) = true := by
  decide
theorem test_wf_repeat : wellFormed (.rpt .trk .al 0 .al (.other 0) 1) = false ∧ wellFormed (.rptu .trk .al 0 .al (.other 0)) = false := by
  decide
theorem test_wf_frame : wellFormed (.stateFrame ⟨1, 0, List.replicate 33 0, true⟩) = false ∧
    wellFormed (.wordsFrame ⟨2, 0, [0, 5, 1], true⟩ [6]) = false ∧ wellFormed (.wordsFrame ⟨2, 0, [0, 5, 1], true⟩ [5]) = true := by
  decide
theorem test_wf_rake : wellFormed (.rakeCheck []) = false ∧ wellFormed (.rakeCheck noUpsets) = true := by decide

/-! ### The words of the instructions: the examples of spec/13 R330 -/

theorem test_word_add : spelled .trk 0x004A 0 0 = .add .trk .al 1 2 := by decide +kernel
theorem test_word_dadd : spelled .trk 0x0289 0 0 = .dadd .trk .al 1 1 := by decide +kernel
theorem test_word_ldi : spelled .svc 0x0306 0x3FFF 0 = .ldi .svc .al 6 0 0x3FFF ∧
    spelled .svc 0x0318 0x3FFF 0 = .ldi .svc .al 0 3 0x3FFF := by decide +kernel
theorem test_word_ld : spelled .trk 0x0424 0 0 = .ld .trk .al 1 (.short 0 true) none := by decide +kernel
theorem test_word_shr : spelled .trk 0x050B 0 0 = .shr .trk .al 3 := by decide +kernel
theorem test_word_clr : spelled .trk 0x0D60 0 0 = .clr .trk .eq 0 := by decide +kernel
theorem test_word_rpt : spelled .trk 0x0592 0x0460 0 = .rpt .trk .al 2 .al (.st 0 0 true) 65536 := by decide +kernel
theorem test_word_jmp : spelled .trk 0x13A7 0x2345 0 = .jmp .trk .ne 0x2345 := by decide +kernel
theorem test_word_call : spelled .trk 0x33A8 0x2345 0 = .call .trk .ts 0x2345 := by decide +kernel
theorem test_word_callm : spelled .trk 0x03A9 0x00F0 0x2345 = .callm .trk .al 0x00F0 0x2345 := by decide +kernel
theorem test_word_mts : spelled .trk 0x0390 0 0 = .mts .trk .al 2 0 := by decide +kernel
theorem test_word_cprd : spelled .trk 0x0624 0 0 = .cprd .trk .al 0 0 4 := by decide +kernel
/-- From R330's bases: ADDI W1, an offset store, SGST, JMPR, an undefined code and an undefined function. -/
theorem test_word_others :
    spelled .trk 0x0321 5 0 = .addi .trk .al 1 5 ∧ spelled .trk 0x04BA 0x2803 0 = .st .trk .al 2 (.offset 3 5 3) ∧
    spelled .trk 0x04E8 0 0 = .sgst .trk .al 1 0 ∧ spelled .trk 0x0585 0 0 = .jmpr .trk .al 5 ∧
    spelled .trk 0x03AE 0 0 = .illegalInstruction .trk .al ∧ spelled .trk 0x05C0 0 0 = .illegalInstruction .trk .al ∧
    spelled .trk 0x0700 8 0 = .illegalInstruction .trk .al ∧ spelled .trk 0x0602 1 0 = .fetch .trk .al 0 2 := by decide +kernel

/-! ### One step each, against the worked cases of the spec -/

/-- HOLDOVER entered at 6 ns with 0.5 ppb, `sec` seconds ago. -/
def inHoldover (sec : Nat) : State :=
  { up with time := { up.time with tq := .holdover, u0 := 6, unbounded := false, sigF := 50, uAt := 0,
                                   dtc := BitVec.ofNat 52 (sec * 16368000) } }

/-- spec/01 R27: 54 ns after 60 s, 2,106 ns after 600 s. -/
theorem test_uncertainty : uncNow (inHoldover 60) = some 54 ∧ uncNow (inHoldover 600) = some 2106 := by decide

/-- spec/09, "decoding the bank registers". -/
theorem test_bank_registers :
    regView up .sec 16 = 0x004890C8 ∧
    regView { up with bank := { up.bank with log := [(5, 0x1A3C)] } } .sec 17 = 0x00155A3C := by decide

/-- spec/08, "swapping jamming thresholds": 180 against an alarm threshold of 160 is refused with RULE; the index advances. -/
theorem test_jam_warn_rule :
    holds (exec (.parameterWrite 0) ((selected up false pSmpJamWarn 180).modCls .ns (fun b => { b with pinc := true })))
      (fun t => t.ns.errCause == 8 && t.ns.pindex == 0x0D && t.par pSmpJamWarn == 64) = true := by decide

/-- SVC at its ninth call, with Z set (spec/12, "nine calls deep in each mode"). -/
def nineDeep : State := (up.setPar pSysPramEn 3).modCore .svc (fun x =>
  { x with pc := 0x2284, rsCount := 8, z := true, ie := true, w := x.w.set 7 0x0400, sg := x.sg.set 3 ⟨0x4000, 0x3FFF⟩ })

theorem test_ninth_call :
    holds (exec (.call .svc .al 0x2300) nineDeep) (fun t => getWords t 1 0x3FD 3 == [0, 0x0101, 0x2284] &&
      Spec.w t .svc 7 == 0x03FD && (t.core .svc).level == 7) = true := by decide +kernel

/-- spec/14, "asking the host for its output latency": the words of the CPOP and WAITCP, and the block's header. -/
theorem test_latency_words :
    spelled .svc 0x0790 0x0101 0 = .cp3Operation .svc .al 2 0 0x0101 ∧ spelled .svc 0x07F3 0 0 = .waitcp .svc .al 3 2 3 := by
  decide +kernel

theorem test_latency_header :
    holds (exec (.cp3Operation .svc .al 2 0 0x0101)
      { (up.modCore .svc (fun x => { x with w := (x.w.set 0 0x3800).set 1 9 })) with cp := { up.cp with seq := 0x17 } })
      (fun t => getWords t 1 0x3800 2 == [0x8101, 0x1741]) = true := by decide +kernel

/-- The calendar at 14:02:07 on 18 June 2031, halted (spec/17, "a halt left set"). -/
def haltLeft : State :=
  { up with rtc := { up.rtc with sec := 0x07, min := 0x02, hour := 0x14, day := 0x18, month := 0x06, year := 0x31, wday := 3,
                                  halt := true } }

theorem test_halt_left_set :
    regView haltLeft .ns 33 = 0x03140207 ∧ regView haltLeft .ns 34 = 0x00310618 ∧
    holds (exec .vbakSwitchOver haltLeft) (fun t => regView t .ns 37 == 0x18140287) = true := by decide

/-- 2000 and 2096 are leap years: 28 February is followed by the 29th (spec/17 R410). -/
theorem test_leap_day :
    holds (exec .rtcSecondTick { lastSecond with rtc := { lastSecond.rtc with day := 0x28, month := 0x02, year := 0x96 } })
      (fun t => t.rtc.day == 0x29 && t.rtc.month == 0x02) = true := by decide

/-- spec/18 R432's example: soc_sd 200 at a mean of -600 mA, and a target of 1,836 for Raw SOC 2,000. -/
theorem test_soc_sd :
    holds (exec .gaugeSecondTasks { gauging id with gau := { (gauging id).gau with iHist := [(-600000, 1000000)] } })
      (fun t => t.par pGauSocSd == 200) = true := by decide
theorem test_soc_target : dispTarget (up.setPar pGauSocSd 200) 2000 = 1836 := by decide

/-- ANTOUT in soft start with `n` retries behind it (spec/15, "an antenna cable crushed at power-up"). -/
def crushed (n : Nat) : State := { up with ant := { up.ant with state := 1, tries := n } }

theorem test_antenna_latch :
    holds (exec .antShort (crushed 1)) (fun t => regView t .ns 25 == 0x00000113) = true ∧
    holds (exec .antShort (crushed 3)) (fun t => regView t .ns 25 == 0x00000314 &&
      t.slu.ntc.head? == some ⟨3, 0x1033, 3, 0, 1⟩) = true := by decide

/-- spec/11, "a poisoned EVT record": the read is refused with POISON, the stored data on HAD. -/
theorem test_poisoned_read :
    holds (exec (.bankWindowRead none) (cycR
        { up with bank := { (putWord up 7 0x2A37 0xB4C1).bank with errs := [(7 * 16384 + 0x2A37, .poison)], wBank := 7, wAddr := 0x2A37 } }
        0x26 true))
      (fun t => regView t .sec 9 == 0x0026010B && t.bus.rdata == 0xB4C1 && t.bus.herr) = true := by decide

/-- spec/21, "re-trimming TPOUT": CAL_CTRL after STORE, with 3 stores used. -/
theorem test_store_busy :
    holds (exec (.calStore 2) { (cycW up 0x52 true) with dbg := { up.dbg with cycles := 3, calValid := true } })
      (fun t => regView t .sec 41 == 0x00030014) = true := by decide

/-- TRK about to clear 100 words from offset 0x0100, with SG0's limit at `lim`. -/
def filling (lim : Word) : State := up.modCore .trk (fun x =>
  { x with pc := 0x2000, base := 256, w := (x.w.set 2 100).set 4 0x100, sg := x.sg.set 0 ⟨0, lim⟩ })

/-- spec/13, "a fill cut by an interrupt": after 37 stores W2 is 63 and W4 is 0x0125, with PC on the prefix. -/
theorem test_fill_cut :
    holds (exec (.rpt .trk .al 2 .al (.st 0 0 true) 37) (filling 0x3FFF))
      (fun t => Spec.w t .trk 2 == 63 && Spec.w t .trk 4 == 0x0125 && (t.core .trk).pc == 0x2000) = true := by decide +kernel

/-- The same with a limit of 0x0140: the 66th store traps SEG, W4 is 0x0141, W2 is 35, the saved PC is the prefix. -/
theorem test_fill_trap :
    holds (exec (.rpt .trk .al 2 .al (.st 0 0 true) 100) (filling 0x0140))
      (fun t => Spec.w t .trk 2 == 35 && Spec.w t .trk 4 == 0x0141 && (t.core .trk).pc == 0x2002 &&
        ((t.core .trk).rs.get 0).addr == 0x2000) = true := by decide +kernel

/-- A store with a post-increment of its own base stores the value before it (spec/13 R336). -/
theorem test_store_before_increment :
    holds (exec (.st .trk .al 4 (.short 0 true)) prog) (fun t => bankWord t 0 0x20 == 0x20 && Spec.w t .trk 4 == 0x21) = true := by
  decide

/-- DADD 99 + 1 with C clear gives 0100 (spec/13 R334). -/
theorem test_dadd :
    holds (exec (.dadd .trk .al 0 1) (prog.modCore .trk (fun x => { x with w := (x.w.set 0 0x0099).set 1 0x0001 })))
      (fun t => Spec.w t .trk 0 == 0x0100 && !(t.core .trk).c && !(t.core .trk).z) = true := by decide

/-- No word spells a command of the table (spec/opcode_table.json gives no bits). -/
theorem test_no_word (w : Nat) : decodeTableWord 16 w = none := rfl

end Sys2Proof.Tests
end

section
/-! PROOFS. One REFIN period, the state after reset, and the time latch. -/

namespace Sys2Proof.Proofs

open Sys2Proof Sys2Proof.Machine Sys2Proof.Spec

/-! ### One REFIN period -/

theorem dtcNow_tickDtc (s : State) : dtcNow (tickDtc s) = dtcNow s + (if s.time.running then 1 else 0) := by
  unfold tickDtc dtcNow
  split
  · by_cases h : s.time.dtc = BitVec.allOnes 52
    · simp [h]; omega
    · have hlt : s.time.dtc.toNat ≠ 2 ^ 52 - 1 := fun e => h (BitVec.eq_of_toNat_eq (by simpa using e))
      have := s.time.dtc.isLt
      have hone : (1 : BitVec 52).toNat = 1 := rfl
      simp only [h, if_false, BitVec.toNat_add, hone]
      omega
  · simp

/-- The fold by which Brine finds what it keeps is an upper bound, and is reached unless it is 0. -/
theorem foldl_max_zero_bounds (l : List Nat) :
    (∀ x ∈ l, x ≤ l.foldl max 0) ∧ (l.foldl max 0 ≠ 0 → l.foldl max 0 ∈ l) := by
  rw [List.foldl_max, Nat.zero_max]
  cases h : l.max? with
  | none => simp_all
  | some m =>
    obtain ⟨hm, hle⟩ := List.max?_eq_some_iff.mp h
    exact ⟨hle, fun _ => hm⟩

theorem readsBrine_eq_consumes (s : State) (i : Nat) : readsBrine s i = consumes s i := rfl

/-- What the consumers have still to read once a REFIN period has passed. -/
def unreadAfterTick (s : State) : Vector Nat 5 :=
  Vector.ofFn (fun i : Fin 5 =>
    if consumes s i.val then s.samp.unread.get i - Config.brineDrain s.free i.val else 0)

theorem tick_of_empty {s : State} (h : s.samp.fifo = []) : tick s = tickDtc s := by
  have : (tickDtc s).samp.fifo = [] := by unfold tickDtc; split <;> exact h
  simp [tick, drainBrine, this]

theorem tick_of_filled {s : State} (h : s.samp.fifo ≠ []) :
    tick s = { tickDtc s with
      free := s.free + 1,
      samp := { s.samp with
        unread := unreadAfterTick s,
        fifo := s.samp.fifo.drop (s.samp.fifo.length - (unreadAfterTick s).toList.foldl max 0) } } := by
  unfold tick tickDtc
  split <;> simp [drainBrine, h] <;> rfl

theorem onlyIn_tick (s : State) : onlyIn [.time, .samp] s (tick s) = true := by
  by_cases h : s.samp.fifo = []
  · rw [tick_of_empty h]; unfold tickDtc; split <;> simp [onlyIn, allParts, agree]
  · rw [tick_of_filled h]; unfold tickDtc; split <;> simp [onlyIn, allParts, agree]

theorem tick_time (s : State) : (tick s).time = (tickDtc s).time := by
  by_cases h : s.samp.fifo = []
  · rw [tick_of_empty h]
  · rw [tick_of_filled h]

theorem tickDtc_time (s : State) :
    (tickDtc s).time = { s.time with dtc := (tickDtc s).time.dtc, wraps := (tickDtc s).time.wraps } := by
  unfold tickDtc; split <;> rfl

theorem dtcNow_congr {s t : State} (h : t.time = s.time) : dtcNow t = dtcNow s := by simp [dtcNow, h]

theorem unreadAfterTick_get (s : State) (i : Fin 5) :
    (unreadAfterTick s).get i =
      if readsBrine s i.val then s.samp.unread.get i - Config.brineDrain s.free i.val else 0 := by
  simp [unreadAfterTick, readsBrine_eq_consumes, Vector.get]
  rfl

/-- Settles O58: a step on an empty queue is `tick`, the DTC's advance and the consumers' reads. -/
theorem stepRunsFrontCommand : Obligations.StepRunsFrontCommand := by
  refine ⟨fun c s rest => rfl, fun s hp => ⟨tick s, by simp [step, hp], onlyIn_tick s, ?_, ?_, ?_, ?_, ?_⟩⟩
  · rw [tick_time]; exact tickDtc_time s
  · rw [dtcNow_congr (tick_time s), dtcNow_tickDtc]
  · by_cases h : s.samp.fifo = []
    · rw [tick_of_empty h]; unfold tickDtc; split <;> rfl
    · rw [tick_of_filled h]
  · intro h; rw [tick_of_empty h]; unfold tickDtc; split <;> rfl
  · intro h
    rw [tick_of_filled h]
    refine ⟨fun i => ?_, (unreadAfterTick s).toList.foldl max 0, fun i => ?_, fun hm => ?_, rfl⟩
    · simp only [unreadAfterTick_get]; split <;> simp
    · exact (foldl_max_zero_bounds _).1 _ (by simp [Vector.get])
    · have := (foldl_max_zero_bounds _).2 hm
      obtain ⟨i, hi, he⟩ := List.mem_iff_getElem.mp this
      exact ⟨⟨i, by simpa using hi⟩, by simpa [Vector.get] using he⟩

/-! ### The state after reset -/

/-- The end of the soft start and then a stable REFIN start both cores at vector 0 (R470). -/
theorem reset_starts_both_cores :
    ∃ t u, step { State.reset with pending := [.softStartEnd true false, .refinStable 0 true] } = .next t ∧
      t.pwr.coreUp = true ∧ step t = .next u ∧ u.pwr.coresUp = true ∧ u.trk.held = false ∧ u.svc.held = false ∧
      u.trk.pc = 0 ∧ u.svc.pc = 0 ∧ u.pending = [] :=
  ⟨_, _, rfl, rfl, rfl, by decide⟩

/-- Settles O59, by evaluation of the closed state. -/
theorem resetState : Obligations.ResetState := by
  refine ⟨by decide, by decide, by decide, by decide, by decide, by decide, by decide, by decide, by decide, fun k => ?_,
    by decide, by decide, by decide, by decide, by decide, by decide, reset_starts_both_cores⟩
  cases k <;> decide

/-! ### Carrying the DTC -/

/-- The DTC has reached a count that it had not passed. -/
theorem dtcNow_carryDtc {s : State} {n : Nat} (hrun : s.time.running = true) (hle : dtcNow s ≤ n) :
    dtcNow (carryDtc s n) = n := by
  rw [carryDtc, if_pos ⟨hrun, hle⟩]
  simp only [dtcNow, BitVec.toNat_ofNat]
  omega

/-- Carrying the DTC changes the DTC and its wraps alone. -/
theorem carryDtc_eq (s : State) (n : Nat) : carryDtc s n =
    { s with time := { s.time with dtc := (carryDtc s n).time.dtc, wraps := (carryDtc s n).time.wraps } } := by
  unfold carryDtc; split <;> rfl

/-! ### Read data phases of the time registers -/

theorem reading_iff {s : State} {off : Word} {sec : Bool} :
    reading s off sec = true ↔ s.bus.cyc = some ⟨off, false, sec⟩ ∧ busOn s = true ∧ quiet s = true := by
  simp [reading, and_assoc]

theorem not_sleep_of_quiet {s : State} (h : quiet s = true) : s.pwr.state ≠ .sleep := by
  intro e; simp [quiet, e] at h

/-- At work, with no entry attempt, an access wakes nothing and the power state stands (R384, R396). -/
theorem idleNow_wakeEvent_of_quiet {s : State} (h : quiet s = true) (code : Nat) : idleNow (wakeEvent s code) = s := by
  simp only [quiet, Bool.and_eq_true, Bool.or_eq_true, Bool.not_eq_true', beq_iff_eq] at h
  obtain ⟨hatt, ⟨hst, hw⟩ | ⟨⟨hst, ht⟩, hv⟩⟩ := h
  · have : ¬ (s.trk.waiting = true ∧ s.svc.waiting = true) := by simpa using hw
    simp [wakeEvent, wakeEnabled, idleNow, hatt, hst, this]
  · simp [wakeEvent, wakeEnabled, idleNow, hatt, hst, ht, hv]

/-- The read data phase of the lower word of SYS_DTC_LO (R17, R202). -/
theorem hostRead_dtcLo {s : State} {sec : Bool} (hcore : s.pwr.coreUp = true) (h : reading s 0x04 sec = true) :
    hostRead s none = lowerRead (takeLatch s (hostOf sec)) sec 2 (s.time.dtc.setWidth 32) 0x05 := by
  obtain ⟨hcyc, hbus, hq⟩ := reading_iff.mp h
  have hview : s.time.dtc.extractLsb' 0 32 = s.time.dtc.setWidth 32 :=
    BitVec.eq_of_toNat_eq (by simp)
  cases sec <;>
    · simp [hostRead, hcyc, hbus, idleNow_wakeEvent_of_quiet hq, regAccess, regCore, hcore, regHeld,
        not_sleep_of_quiet hq, cycCls, regRead, readLo, autoInc, advance, nextOff, lowerRead, takeLatch, hostOf, dropHold,
        State.modCls, State.setCls, State.cls, hview, regView]
      exact ⟨rfl, rfl, rfl⟩

/-- The read data phase of the upper word of SYS_TIMEQ disarms the class's latch, from the holding word as well (R17). -/
theorem hostRead_timeqHi_disarms {s : State} {sec : Bool} (hcore : s.pwr.coreUp = true) (h : reading s 0x09 sec = true) :
    ((hostRead s none).cls (hostOf sec)).latch.armed = false := by
  obtain ⟨hcyc, hbus, hq⟩ := reading_iff.mp h
  cases hold : (s.cls (hostOf sec)).hold with
  | none =>
    cases sec <;>
      · simp [hostOf, State.cls] at hold
        simp [hostRead, hcyc, hbus, idleNow_wakeEvent_of_quiet hq, regAccess, regCore, hcore, regHeld,
          not_sleep_of_quiet hq, cycCls, hold, regRead, readHi, autoInc, advance, hostOf, disarm, dropHold, State.modCls,
          State.setCls, State.cls]
  | some w =>
    by_cases hw : w.1 = 4 <;> cases sec <;>
      · simp [hostOf, State.cls] at hold
        simp [hostRead, hcyc, hbus, idleNow_wakeEvent_of_quiet hq, regAccess, regCore, hcore, regHeld,
          not_sleep_of_quiet hq, cycCls, hold, hw, regRead, readHi, autoInc, advance, hostOf, disarm, dropHold,
          State.modCls, State.setCls, State.cls]

/-! ### The latched and the live values -/

theorem regView_dtcHi (s : State) (c : Cls) :
    regView s c 3 = if (s.cls c).latch.armed then (s.cls c).latch.hi else dtcHiLive s := rfl

theorem regView_timeq (s : State) (c : Cls) :
    regView s c 4 = if (s.cls c).latch.armed then (s.cls c).latch.timeq else timeqShown s := rfl

theorem exec_timeLatchExpiry_of_disarmed {s : State} {c : Cls} (h : (s.cls c).latch.armed = false) :
    exec (.timeLatchExpiry c) s = .next s := by
  simp [exec, execTimeLatchExpiry, h]

theorem exec_timeLatchExpiry_of_armed {s : State} {c : Cls} (h : (s.cls c).latch.armed = true) :
    exec (.timeLatchExpiry c) s = .next ((carryDtc s ((s.cls c).latch.takenAt + 16368)).modCls c
      (fun b => { b with latch := { b.latch with armed := false } })) := by
  simp [exec, execTimeLatchExpiry, h]

/-- Settles O22, by the two read data phases and the two cases of the latch. -/
theorem timeLatch : Obligations.TimeLatch := by
  refine ⟨fun s sec hcore h => ?_, fun s c => ⟨fun harm => ⟨?_, ?_, _, exec_timeLatchExpiry_of_armed harm, ?_⟩, fun h =>
    ⟨?_, ?_, exec_timeLatchExpiry_of_disarmed h⟩⟩, fun s sec hcore h => ?_⟩
  · obtain ⟨hcyc, -⟩ := reading_iff.mp h
    simp [exec, execDtcLatchRead, phaseRead, hcyc, hostRead_dtcLo hcore h, takeLatch, timeqShown]
  · simp [regView_dtcHi, harm]
  · simp [regView_timeq, harm]
  · have hcls : (carryDtc s ((s.cls c).latch.takenAt + 16368)).cls c = s.cls c := by rw [carryDtc_eq]; cases c <;> rfl
    refine ⟨by simp [hcls], fun hrun hle => ?_, ?_, ?_, ?_, ?_⟩
    · simpa [dtcNow] using dtcNow_carryDtc hrun hle
    all_goals rw [carryDtc_eq]; simp [State.core]
  · simp [regView_dtcHi, h]
  · simp [regView_timeq, h, timeqShown]
  · obtain ⟨hcyc, -⟩ := reading_iff.mp h
    exact ⟨hostRead s none, by simp [exec, execRegisterRead, hcyc], hostRead_timeqHi_disarms hcore h⟩

end Sys2Proof.Proofs
end

section
/-! PROOFS. Three statements that fail: at a jamming state outside R82's three, at DTC count 0, and with vreg.floor above
vreg.ceil. -/

namespace Sys2Proof.Proofs

open Sys2Proof Sys2Proof.Machine Sys2Proof.Spec

/-- CORE is up in RUN at DTC count 0, and both cores run. -/
def started : State :=
  { State.reset with
    pwr := { PwrSt.reset with coreUp := true, coresUp := true }
    vreg := { VregSt.reset with softst := false }
    time := { TimeSt.reset with running := true }
    trk := { Core.reset with held := false }
    svc := { Core.reset with held := false } }

/-- A command has one outcome: what holds of it for the next state that one proof names holds for every name it is given. -/
theorem next_unique {i : Instr} {s t u : State} (ht : exec i s = .next t) (hu : exec i s = .next u) : t = u :=
  Host.Outcome.next.inj (ht.symm.trans hu)

/-! ### The jamming indicator -/

/-- Real mode, samples admitted, JAM at 60 and the counts of a quiet epoch; the jamming state is 3, which R82 does not
have. -/
def jammed : State :=
  { (started.setPar pSmpMode 1) with
    samp := { SampSt.reset with
      live := true, admitting := true, jamA := { JamPath.reset with nM3 := 2677, nP3 := 2677, jam8 := 15360, state := 3 } } }

def quietEpoch : EpochObs := ⟨⟨0, 0⟩, ⟨0, 0⟩, ⟨0, 0⟩, ⟨0, 0⟩, [], false, [], []⟩

/-- JAM falls to 59.06, above smp.jam_warn - smp.jam_hyst = 48 and below smp.jam_warn = 64: the model ends the warning from
state 3. -/
theorem exec_epochBoundary_jammed : ∃ t, exec (.epochBoundary quietEpoch) jammed = .next t ∧
    t.samp.jamA.jam8 = 15120 ∧ t.samp.jamA.state = 0 :=
  ⟨boundary (carryDtc jammed 16368) quietEpoch, rfl, by decide +kernel⟩

/-- The statement's rule keeps the warning from every state from 1 on. -/
theorem jamNext_jammed : jamNext jammed 3 15120 = 1 := by decide

/-- Refutes O47: R82's states are 0, 1 and 2, and the statement has no premise that the jamming state before the boundary is one
of them. From state 3, with JAM between the two thresholds, the model goes to 0 and the statement's `jamNext` to 1. -/
theorem not_epochBoundary : ¬ Obligations.EpochBoundary := by
  intro h
  obtain ⟨hepoch, -⟩ := h jammed
  obtain ⟨-, hruns⟩ := hepoch quietEpoch
  obtain ⟨t, ht, hall⟩ := hruns rfl
  obtain ⟨-, -, -, -, -, -, hstill⟩ := hall rfl
  obtain ⟨-, -, -, -, -, -, hjam, -⟩ := hstill (fun c => by cases c <;> rfl)
  obtain ⟨hreal, -⟩ := hjam rfl
  obtain ⟨⟨-, -, -, -, hstate, -⟩, -⟩ := hreal (by decide)
  obtain ⟨u, hu, hjam8, hzero⟩ := exec_epochBoundary_jammed
  rw [next_unique ht hu, hjam8, hzero] at hstate
  exact absurd (hstate.trans jamNext_jammed) (by decide)

/-! ### The first solution epoch -/

/-- A solution epoch without a satellite, its time at the first instant of week sys.week_min. -/
def emptySolution : SolObs :=
  { sats := [], tSol := started.par pSysWeekMin * ticksPerWeek - started.par pTpFeDelay * ticksPerSec / 1000000000,
    iono := 0, tropo := 0, eps := 0, sigma := 0, freqSigma := 0, pos := ⟨0, 0, 0, 0, 0⟩, velE := 0, velN := 0, velU := 0,
    tdop := 0 }

/-- At DTC count 0 the first solution epoch is count 0, and SVC solves there. -/
theorem exec_solutionEpoch_started : ∃ t, exec (.solutionEpoch emptySolution) started = .next t ∧
    t.integ.solvedAt = some 0 := ⟨_, rfl, rfl⟩

/-- The bound `(k - 1) * P < max 1 lo` also admits k = 1 at DTC count 0. -/
theorem nextEpoch_started_one_second : NextEpoch started 16368000 := ⟨1, by decide, by decide, by decide⟩

theorem fullTime_started : FullTime (newEphemeris (carryDtc started 16368000)) emptySolution
    (started.par pSysWeekMin * ticksPerWeek) := ⟨0, by decide, by decide, by decide⟩

/-- Refutes O48: at DTC count 0, with no solution before, `NextEpoch` holds of count 0 and of the count one interval
later, so that the statement asks for two different counts of the same command. -/
theorem not_solutions : ¬ Obligations.Solutions := by
  intro h
  obtain ⟨-, hsolves, -⟩ := h started emptySolution
  obtain ⟨t, ht, -, -, hsolved, -⟩ := hsolves 16368000 _ (by decide) nextEpoch_started_one_second fullTime_started
  obtain ⟨u, hu, hzero⟩ := exec_solutionEpoch_started
  rw [next_unique ht hu, hzero] at hsolved
  exact absurd hsolved (by decide)

/-! ### The regulator after SLEEP -/

/-- SLEEP with a wake held, from a commit at code 70; vreg.floor is 60 and vreg.ceil 50. -/
def sleeping : State :=
  { ((started.setPar pVregFloor 60).setPar pVregCeil 50) with
    pwr := { started.pwr with state := .sleep, heldWakes := [4] }
    vreg := { started.vreg with atCommit := 70 } }

theorem exec_sleepExit_sleeping : ∃ t, exec (.sleepExit 0) sleeping = .next t ∧ t.vreg.target = 50 := ⟨_, rfl, rfl⟩

/-- Refutes O51: the statement has no premise vreg.floor ≤ vreg.ceil, which R367's refusals keep. With vreg.floor 60 above
vreg.ceil 50 the model clips the held target 70 to the ceiling, the statement to the floor. -/
theorem not_entryAndExit : ¬ Obligations.EntryAndExit := by
  intro h
  obtain ⟨-, hexit⟩ := h sleeping
  obtain ⟨-, -, hsleep, -⟩ := hexit 0
  obtain ⟨t, ht, -, -, -, -, -, -, -, -, htarget, -⟩ :=
    hsleep rfl (by decide) rfl rfl rfl (by decide) (by decide) rfl
  obtain ⟨u, hu, hfifty⟩ := exec_sleepExit_sleeping
  rw [next_unique ht hu, hfifty] at htarget
  exact absurd htarget (by decide)

end Sys2Proof.Proofs
end

section
/-! PROOFS. Pans after SLEEP or DEEP SLEEP (spec/04 R119): which resume in PULL, which are released, and what the searches
for the released ones leave alone. -/

namespace Sys2Proof.Proofs

open Sys2Proof Sys2Proof.Machine Sys2Proof.Spec

/-! ### What a search leaves alone -/

/-- What releasing pans and searching their PRNs leave alone. -/
structure SearchKeeps (s t : State) : Prop where
  time : t.time = s.time
  wcs : t.wcs = s.wcs
  integ : t.integ = s.integ
  trk : t.trk = s.trk
  svc : t.svc = s.svc
  pwr : t.pwr = { s.pwr with busyAt := t.pwr.busyAt }
  owners : t.bank.owners = s.bank.owners
  eph : t.pans.eph = s.pans.eph

/-- What queueing a PRN leaves alone besides: the pans and the hits that wait for one. -/
structure QueueKeeps (s t : State) : Prop extends SearchKeeps s t where
  pans : t.pans = s.pans
  hits : t.acq.pendHits = s.acq.pendHits

theorem SearchKeeps.exists_busyAt {s t : State} (h : SearchKeeps s t) : ∃ b, t.pwr = { s.pwr with busyAt := b } := ⟨_, h.pwr⟩

theorem SearchKeeps.refl (s : State) : SearchKeeps s s := ⟨rfl, rfl, rfl, rfl, rfl, rfl, rfl, rfl⟩

theorem SearchKeeps.trans {s t u : State} (h : SearchKeeps s t) (k : SearchKeeps t u) : SearchKeeps s u where
  time := k.time.trans h.time
  wcs := k.wcs.trans h.wcs
  integ := k.integ.trans h.integ
  trk := k.trk.trans h.trk
  svc := k.svc.trans h.svc
  pwr := by rw [k.pwr, h.pwr]
  owners := k.owners.trans h.owners
  eph := k.eph.trans h.eph

theorem QueueKeeps.refl (s : State) : QueueKeeps s s := ⟨.refl s, rfl, rfl⟩

theorem QueueKeeps.trans {s t u : State} (h : QueueKeeps s t) (k : QueueKeeps t u) : QueueKeeps s u :=
  ⟨h.toSearchKeeps.trans k.toSearchKeeps, k.pans.trans h.pans, k.hits.trans h.hits⟩

/-- A change of the search's own state that leaves the hits. -/
theorem QueueKeeps.of_acq (s : State) (a : AcqSt) (h : a.pendHits = s.acq.pendHits) : QueueKeeps s { s with acq := a } :=
  ⟨⟨rfl, rfl, rfl, rfl, rfl, rfl, rfl, rfl⟩, rfl, h⟩

theorem putWords_owners (s : State) (b w : Nat) (vs : List Word) : (putWords s b w vs).bank.owners = s.bank.owners := by
  induction vs generalizing s w with
  | nil => rfl
  | cons v vs ih => exact (ih (putWord s b w v) (w + 1)).trans rfl

theorem queueKeeps_postMsg (s : State) (n : Nat) (body : List Word) : QueueKeeps s (postMsg s n body) := by
  unfold postMsg
  split_ifs
  · exact ⟨⟨by simp [pushNtc], by simp [pushNtc], by simp [pushNtc], by simp [pushNtc], by simp [pushNtc],
      by simp [pushNtc], by simp [pushNtc, putWords_owners], by simp [pushNtc]⟩, by simp [pushNtc], by simp [pushNtc]⟩
  · simp only [coalesce]
    exact ⟨⟨by simp [coalBump], by simp [coalBump], by simp [coalBump], by simp [coalBump], by simp [coalBump],
      by simp [coalBump], by simp [coalBump], by simp [coalBump]⟩, by simp [coalBump], by simp [coalBump]⟩
  · exact .refl s

theorem queueKeeps_endSearch (s : State) (reason : Nat) : QueueKeeps s (endSearch s reason) := by
  unfold endSearch noteAcqEnd
  refine QueueKeeps.trans ?_ (queueKeeps_postMsg _ _ _)
  exact ⟨⟨rfl, rfl, rfl, rfl, rfl, rfl, rfl, rfl⟩, rfl, rfl⟩

theorem queueKeeps_newCell (s : State) (prn : Nat) (win : Int) (dwell ncoh : Nat) (align : Bool) (conf : Nat)
    (first : Option FirstHit) (op : Option (CoreId × Fin 4)) :
    QueueKeeps s (newCell s prn win dwell ncoh align conf first op) := .of_acq _ _ rfl

/-- A plan without a predicted code phase starts no pan. -/
theorem queueKeeps_nextCell (plan : List PlanItem) (hcode : ∀ i ∈ plan, i.code = none) (s : State) :
    QueueKeeps s (nextCell s plan) := by
  induction plan generalizing s with
  | nil => exact queueKeeps_endSearch s 0
  | cons i is ih =>
    have hi : i.code = none := hcode i List.mem_cons_self
    have hrest := ih fun j hj => hcode j (List.mem_cons_of_mem i hj)
    unfold nextCell
    split
    · next hc => exact absurd (hi.symm.trans hc) (Option.some_ne_none _).symm
    simp only [hi]
    split
    · exact QueueKeeps.trans (.of_acq _ _ (by rfl)) (hrest _)
    · split
      · exact hrest s
      · exact QueueKeeps.trans (.of_acq _ _ (by rfl)) (queueKeeps_newCell _ _ _ _ _ _ _ _ _)

theorem queueKeeps_advanceSearch (s : State) (hcode : ∀ i ∈ s.acq.plan, i.code = none) :
    QueueKeeps s (advanceSearch s) := by
  have hcell : QueueKeeps s { s with acq := { s.acq with cell := none } } := .of_acq _ _ rfl
  refine hcell.trans ?_
  unfold advanceSearch
  dsimp only
  split
  · split
    · exact QueueKeeps.trans (.of_acq _ _ (by rfl)) (queueKeeps_newCell _ _ _ _ _ _ _ _ _)
    · exact .of_acq _ _ rfl
  · split
    · exact queueKeeps_nextCell _ hcode _
    · exact .refl _

theorem queueKeeps_beginSearch (s : State) (plan : List PlanItem) (hcode : ∀ i ∈ plan, i.code = none) :
    QueueKeeps s (beginSearch s plan) := by
  unfold beginSearch
  dsimp only
  split
  · exact .of_acq _ _ rfl
  · exact (QueueKeeps.of_acq _ _ (by rfl)).trans (queueKeeps_advanceSearch _ hcode)

theorem queueKeeps_queuePrn (s : State) (prn : Nat) (dop : Int) : QueueKeeps s (queuePrn s prn dop) := by
  unfold queuePrn
  dsimp only
  split
  · exact .refl s
  · split
    · exact .of_acq _ _ rfl
    · exact queueKeeps_beginSearch s _ (by intro i hi; rw [List.mem_singleton.mp hi]; split <;> rfl)

/-! ### Releasing a pan -/

/-- The PRN and the carrier state of a pan. -/
def panView (s : State) (p : Nat) : Option (Nat × Carrier) := (panAt s p).map (fun x => (x.prn, x.phase))

theorem panView_congr {s t : State} (h : t.pans = s.pans) (p : Nat) : panView t p = panView s p := by
  simp only [panView, panAt, h]

/-- A map of the values of a sparse map. -/
theorem mget_map {α β : Type} (f : α → β) (m : List (Nat × α)) (i : Nat) :
    mget (m.map (fun y => (y.1, f y.2))) i = (mget m i).map f := by
  induction m with
  | nil => rfl
  | cons y m ih => by_cases h : y.1 = i <;> simp [mget, h, ih]

/-- Where a twin becomes the lead, every pan keeps its PRN and carrier state. -/
theorem mget_promote (prn : Nat) (m : List (Nat × Pan)) (i : Nat) :
    (mget (m.map (fun y => if y.2.prn = prn then (y.1, { y.2 with lead := true }) else y)) i).map
      (fun x => (x.prn, x.phase)) = (mget m i).map (fun x => (x.prn, x.phase)) := by
  have hpair : (fun y : Nat × Pan => if y.2.prn = prn then (y.1, { y.2 with lead := true }) else y) =
      fun y => (y.1, if y.2.prn = prn then { y.2 with lead := true } else y.2) := by
    funext y; split <;> rfl
  rw [hpair, mget_map (fun x : Pan => if x.prn = prn then { x with lead := true } else x), Option.map_map]
  congr 1
  funext x
  dsimp only [Function.comp]
  split <;> rfl

/-- The active pans once pan `p`, which holds `x`, is released: another pan on its PRN becomes the lead (R116). -/
def actWithout (s : State) (p : Nat) (x : Pan) : List (Nat × Pan) :=
  if x.lead then (mdel s.pans.act p).map (fun y => if y.2.prn = x.prn then (y.1, { y.2 with lead := true }) else y)
  else mdel s.pans.act p

theorem mget_actWithout (s : State) (p q : Nat) (x : Pan) :
    (mget (actWithout s p x) q).map (fun x => (x.prn, x.phase)) = if p = q then none else panView s q := by
  have hdel : (mget (mdel s.pans.act p) q).map (fun x => (x.prn, x.phase)) = if p = q then none else panView s q := by
    rw [mget_mdel]; split <;> rfl
  unfold actWithout
  split
  · exact (mget_promote x.prn _ q).trans hdel
  · exact hdel

/-- A hit that waited takes a pan: nothing else of what a search leaves alone changes. -/
theorem searchKeeps_startPan (s : State) (p prn code : Nat) (dop : Int) (at_ : Nat) (lead : Bool) :
    SearchKeeps s (startPan s p prn code dop at_ lead) := by
  unfold startPan placePan
  dsimp only
  split <;> exact ⟨rfl, rfl, rfl, rfl, rfl, rfl, rfl, rfl⟩

theorem searchKeeps_servePending (hits : List Hit) (s : State) : SearchKeeps s (servePending s hits) := by
  have hwait : ∀ l : List Hit, SearchKeeps s { s with acq := { s.acq with pendHits := l } } :=
    fun _ => ⟨rfl, rfl, rfl, rfl, rfl, rfl, rfl, rfl⟩
  induction hits generalizing s with
  | nil => exact hwait []
  | cons h hs ih =>
    unfold servePending
    dsimp only
    have hserved : ∀ u : State, SearchKeeps s u → SearchKeeps s (servePending u hs) := fun u hu =>
      hu.trans (ih u fun _ => ⟨rfl, rfl, rfl, rfl, rfl, rfl, rfl, rfl⟩)
    split
    · split
      · apply hserved
        split
        · exact searchKeeps_startPan _ _ _ _ _ _ _
        · exact .refl s
      · exact hwait _
    · exact hwait _

theorem searchKeeps_releasePan (s : State) (p : Nat) : SearchKeeps s (releasePan s p) := by
  unfold releasePan
  split
  · exact .refl s
  · dsimp only
    refine SearchKeeps.trans ?_ (searchKeeps_servePending _ _)
    split_ifs <;> exact ⟨rfl, rfl, rfl, rfl, rfl, rfl, rfl, rfl⟩

theorem searchKeeps_releaseAndQueue (s : State) (p : Nat) : SearchKeeps s (releaseAndQueue s p) := by
  unfold releaseAndQueue
  split
  · exact .refl s
  · dsimp only
    split
    · exact (searchKeeps_releasePan s p).trans (queueKeeps_queuePrn _ _ _).toSearchKeeps
    · exact searchKeeps_releasePan s p

/-- Without a pending hit a release frees the pan and starts none. -/
theorem releasePan_of_some {s : State} (hits : s.acq.pendHits = []) {p : Nat} {x : Pan} (hp : panAt s p = some x) :
    (releasePan s p).acq.pendHits = [] ∧ (releasePan s p).pans.act = actWithout s p x := by
  have hserve : ∀ u : State, u.acq.pendHits = [] → u.pans.act = actWithout s p x →
      (servePending u u.acq.pendHits).acq.pendHits = [] ∧
        (servePending u u.acq.pendHits).pans.act = actWithout s p x := by
    intro u hu hact
    rw [hu]
    exact ⟨rfl, hact⟩
  unfold releasePan
  rw [hp]
  apply hserve
  · split_ifs <;> exact hits
  · unfold actWithout; split_ifs <;> rfl

theorem panView_releasePan {s : State} (hits : s.acq.pendHits = []) (p q : Nat) :
    panView (releasePan s p) q = if p = q then none else panView s q := by
  cases hp : panAt s p with
  | none =>
    rw [show releasePan s p = s by simp [releasePan, hp]]
    split
    · next hpq => subst hpq; simp [panView, hp]
    · rfl
  | some x => rw [panView, panAt, (releasePan_of_some hits hp).2, mget_actWithout]

theorem pendHits_releasePan {s : State} (hits : s.acq.pendHits = []) (p : Nat) : (releasePan s p).acq.pendHits = [] := by
  cases hp : panAt s p with
  | none => rwa [show releasePan s p = s by simp [releasePan, hp]]
  | some x => exact (releasePan_of_some hits hp).1

theorem pendHits_releaseAndQueue {s : State} (hits : s.acq.pendHits = []) (p : Nat) :
    (releaseAndQueue s p).acq.pendHits = [] := by
  unfold releaseAndQueue
  split
  · exact hits
  · dsimp only
    split
    · exact (queueKeeps_queuePrn _ _ _).hits.trans (pendHits_releasePan hits p)
    · exact pendHits_releasePan hits p

theorem panView_releaseAndQueue {s : State} (hits : s.acq.pendHits = []) (p q : Nat) :
    panView (releaseAndQueue s p) q = if p = q then none else panView s q := by
  rw [← panView_releasePan hits]
  unfold releaseAndQueue
  split
  · next hp => simp [releasePan, hp]
  · dsimp only
    split
    · exact panView_congr (queueKeeps_queuePrn _ _ _).pans q
    · rfl

/-! ### Resuming the pans (spec/04 R119) -/

/-- The statement's condition of R97's fourth row is the model's. -/
theorem hotFor_eq_panHot (s : State) (prn : Nat) : hotFor s prn = panHot s prn := by
  have heph : ephValid s prn = (ephNow s prn).isSome := by
    unfold ephValid ephNow ephHeld ephAt
    by_cases hu : s.time.tq = .unknown
    · simp [hu]
    · cases he : mget s.pans.eph prn with
      | none => simp [hu]
      | some e =>
        simp only [hu, if_false, Option.filter]
        split <;> simp_all
  unfold hotFor panHot
  rw [heph]
  rfl

/-- In UNKNOWN and RTC-BRIDGED the fourth row of R97 rests on the time and the ephemeris held alone. -/
theorem panHot_congr {s t : State} (htime : t.time = s.time) (heph : t.pans.eph = s.pans.eph)
    (hq : s.time.tq = .unknown ∨ s.time.tq = .rtcBridged) (prn : Nat) : panHot t prn = panHot s prn := by
  have hgnss : gnssNow t = gnssNow s := by simp [gnssNow, gnssAt, dtcNow, slewed, epsNow, htime]
  have hunc : uncNow t = uncNow s := by rcases hq with hq | hq <;> simp [uncNow, htime, hq]
  simp [panHot, ephNow, ephAt, freqKnown, timeWithin, posWithin, htime, heph, hgnss, hunc]

/-- What becomes of a pan held: PULL for a PRN that satisfies `hot`, else its release. -/
def resumed (hot : Nat → Bool) (y : Nat × Carrier) : Option (Nat × Carrier) :=
  if hot y.1 then some (y.1, .pull) else none

theorem panView_resumePan {s : State} (hits : s.acq.pendHits = []) (p q : Nat) :
    panView (resumePan s p) q = if p = q then (panView s q).bind (resumed (panHot s)) else panView s q := by
  unfold resumePan
  split
  · next hp =>
    split
    · next hpq => subst hpq; simp [panView, hp]
    · rfl
  · next x hp =>
    split
    · next hot =>
      simp only [panView, panAt, putPan, mget_mput]
      split
      · next hpq =>
        subst hpq
        rw [show mget s.pans.act p = some x from hp]
        simp [resumed, hot]
        rfl
      · rfl
    · next cold =>
      rw [panView_releaseAndQueue hits]
      split
      · next hpq => subst hpq; simp [panView, hp, resumed, cold]
      · rfl

theorem searchKeeps_resumePan (s : State) (p : Nat) : SearchKeeps s (resumePan s p) := by
  unfold resumePan
  split
  · exact .refl s
  · split
    · exact ⟨rfl, rfl, rfl, rfl, rfl, rfl, rfl, rfl⟩
    · exact searchKeeps_releaseAndQueue s p

theorem pendHits_resumePan {s : State} (hits : s.acq.pendHits = []) (p : Nat) : (resumePan s p).acq.pendHits = [] := by
  unfold resumePan
  split
  · exact hits
  · split
    · exact hits
    · exact pendHits_releaseAndQueue hits p

theorem resumed_idem (hot : Nat → Bool) (o : Option (Nat × Carrier)) :
    (o.bind (resumed hot)).bind (resumed hot) = o.bind (resumed hot) := by
  cases o with
  | none => rfl
  | some y => by_cases h : hot y.1 = true <;> simp [resumed, h]

theorem searchKeeps_foldl_resumePan (ps : List Nat) (s : State) : SearchKeeps s (ps.foldl resumePan s) := by
  induction ps generalizing s with
  | nil => exact .refl s
  | cons p ps ih => exact (searchKeeps_resumePan s p).trans (ih _)

/-- The pans listed resume or are released, each by what the fourth row of R97 says at the wake. -/
theorem panView_foldl_resumePan (ps : List Nat) {s : State} (hits : s.acq.pendHits = [])
    (hq : s.time.tq = .unknown ∨ s.time.tq = .rtcBridged) (q : Nat) :
    panView (ps.foldl resumePan s) q = if q ∈ ps then (panView s q).bind (resumed (panHot s)) else panView s q := by
  induction ps generalizing s with
  | nil => simp
  | cons p ps ih =>
    have hkeep := searchKeeps_resumePan s p
    have hhot : panHot (resumePan s p) = panHot s := funext (panHot_congr hkeep.time hkeep.eph hq)
    rw [List.foldl_cons, ih (pendHits_resumePan hits p) (by rwa [hkeep.time]), hhot, panView_resumePan hits]
    by_cases hqp : p = q <;> by_cases hqs : q ∈ ps <;> simp [hqp, hqs, resumed_idem, Ne.symm]

theorem mem_keys_of_mget {α : Type} {m : List (Nat × α)} {i : Nat} {x : α} (h : mget m i = some x) : i ∈ m.map (·.1) := by
  induction m with
  | nil => cases h
  | cons y m ih =>
    by_cases hy : y.1 = i
    · simp [hy]
    · exact List.mem_cons_of_mem _ (ih (by simpa [mget, hy] using h))

theorem searchKeeps_resumePans (s : State) : SearchKeeps s (resumePans s) := searchKeeps_foldl_resumePan _ s

theorem panView_resumePans {s : State} (hits : s.acq.pendHits = [])
    (hq : s.time.tq = .unknown ∨ s.time.tq = .rtcBridged) (p : Nat) :
    panView (resumePans s) p = (panView s p).bind (resumed (panHot s)) := by
  unfold resumePans
  rw [panView_foldl_resumePan _ hits hq]
  split
  · rfl
  · next hp =>
    have hnone : panAt s p = none := by
      cases hx : panAt s p with
      | none => rfl
      | some x => exact absurd (mem_keys_of_mget hx) hp
    simp [panView, hnone]

end Sys2Proof.Proofs
end

section
/-! PROOFS. The start of the cores (spec/20 R470, R473-R475): what the Runtime posts at its start, what bridging the gap of
DEEP SLEEP does to the time, and O53 from them. -/

namespace Sys2Proof.Proofs

open Sys2Proof Sys2Proof.Machine Sys2Proof.Spec

/-! ### Device notices with room in NTC -/

theorem immNotice_eq_immWord (t d : Nat) : immNotice 3 0 (t * 4096 + d % 4096) = immWord t d := by
  have hhigh : (t * 4096 + d % 4096) / 16384 = t / 4 := by omega
  have hlow : BitVec.ofNat 14 (t * 4096 + d % 4096) = BitVec.ofNat 14 (t % 4 * 4096 + d % 4096) := by
    apply BitVec.eq_of_toNat_eq
    simp only [BitVec.toNat_ofNat]
    omega
  simp only [immNotice, immWord, hhigh, hlow]

/-- The state with notices appended to NTC. -/
def posted (s : State) (l : List Notice) : State := { s with slu := { s.slu with ntc := s.slu.ntc ++ l } }

theorem posted_nil (s : State) : posted s [] = s := by simp [posted]

theorem posted_posted (s : State) (k l : List Notice) : posted (posted s k) l = posted s (k ++ l) := by simp [posted]

/-- With CORE up and room in NTC an IMM notice is appended. -/
theorem postImm_of_room {s : State} (up : s.pwr.coreUp = true) (room : s.slu.ntc.length < 496) (t d : Nat) :
    postImm s t d = posted s [immWord t d] := by
  rw [postImm, if_pos up, if_pos room, immNotice_eq_immWord]
  rfl

theorem queueKeeps_postImm (s : State) (t d : Nat) : QueueKeeps s (postImm s t d) := by
  unfold postImm coalesce coalBump State.setParBit
  split_ifs <;> exact ⟨⟨rfl, rfl, rfl, rfl, rfl, rfl, rfl, rfl⟩, rfl, rfl⟩

/-! ### The Runtime's start -/

/-- The state with its level brought up to date and nothing posted. -/
def levelled (s : State) : State :=
  { s with pwr := { s.pwr with level := levelNow s, chg := s.pwr.chg || levelNow s != s.pwr.level } }

theorem relevel_eq_levelled (s : State) (always : Bool) (cause idx : Nat) : relevel s always cause idx =
    if coreRuns s .svc ∧ (always ∨ levelNow s ≠ s.pwr.level) then
      noteLevel (levelled s) (levelNow s) s.pwr.level cause idx else levelled s := by
  have hlevel : (if levelNow s = s.pwr.level then s else
      { s with pwr := { s.pwr with level := levelNow s, chg := true } }) = levelled s := by
    unfold levelled
    split_ifs with same
    · simp [same]
    · simp [same]
  have hruns : coreRuns (levelled s) .svc = coreRuns s .svc := rfl
  unfold relevel
  dsimp only
  rw [hlevel, hruns]

/-- Bringing the level up to date at most extends NTC. -/
theorem relevel_eq {s : State} (up : s.pwr.coreUp = true) (room : s.slu.ntc.length < 496) (always : Bool) (cause idx : Nat) :
    ∃ l, relevel s always cause idx = posted (levelled s) l := by
  rw [relevel_eq_levelled]
  split
  · exact ⟨_, postImm_of_room (s := levelled s) up room _ _⟩
  · exact ⟨[], (posted_nil _).symm⟩

/-- A start of the Runtime always posts LEVEL while SVC runs. -/
theorem relevel_always {s : State} (up : s.pwr.coreUp = true) (room : s.slu.ntc.length < 496)
    (runs : coreRuns s .svc = true) :
    relevel s true 0 0 = posted (levelled s) [immWord 11 (levelNow s + 4 * s.pwr.level)] := by
  rw [relevel_eq_levelled, if_pos ⟨runs, .inl rfl⟩]
  exact postImm_of_room (s := levelled s) up room _ _

theorem levelNow_posted_levelled (s : State) (l : List Notice) : levelNow (posted (levelled s) l) = levelNow s := rfl

/-- The notice with which the Runtime starts: POWER after DEEP SLEEP, else BOOT (R391, R475). -/
def startNotice (s : State) : Notice :=
  if s.pwr.wakeDeep then immWord 12 (3 + 8 + 32 * s.pwr.wake) else immWord 16 (bootData s s.pwr.prescOk s.pwr.bootHold)

theorem rtcUse_eq_calendarUse (s : State) : rtcUse s = calendarUse s s.pwr.prescOk := by
  unfold rtcUse calendarUse
  cases s.rtc.halt <;> cases s.pwr.prescOk <;> cases s.rtc.r34 <;> cases s.rtc.stamp.getLsbD 7 <;> rfl

theorem firstNotice_eq {s : State} (up : s.pwr.coreUp = true) (room : s.slu.ntc.length < 496) :
    (if s.pwr.wakeDeep then notePower s 3 1 s.pwr.wake else noteBoot s s.pwr.bootCause 0 0) = posted s [startNotice s] := by
  unfold startNotice notePower noteBoot
  rw [postImm_of_room up room, postImm_of_room up room, rtcUse_eq_calendarUse]
  split <;> rfl

theorem postSupplyHeld_of_nil {s : State} (h : s.pwr.supplyHeld = []) : postSupplyHeld s = s := by
  rw [postSupplyHeld, h, List.foldl_nil, ← h]

theorem postGaugeHeld_of_nil {s : State} (h : s.pwr.gaugeHeld = []) : postGaugeHeld s = s := by
  rw [postGaugeHeld, h, List.foldl_nil, ← h]

/-- The state in which the Runtime posts its first notice. -/
def busyStart (s : State) : State := absentRules { s with pwr := { s.pwr with busyAt := dtcNow s } }

/-- The Runtime starts: the fault rules for absent units, the level, and while SVC runs its two notices. -/
theorem runtimeStart_eq {s : State} (up : s.pwr.coreUp = true) (room : s.slu.ntc.length < 495)
    (supply : s.pwr.supplyHeld = []) (gauge : s.pwr.gaugeHeld = []) (cancelled : s.pwr.cancelled = 0) :
    ∃ l, runtimeStart s = posted (levelled (busyStart s)) l ∧
      (coreRuns s .svc = true → l = [startNotice s, immWord 11 (levelNow (busyStart s) + 4 * s.pwr.level)]) := by
  have hup : (busyStart s).pwr.coreUp = true := up
  have hfirst : (busyStart s).slu.ntc.length < 495 := room
  have hroom : (busyStart s).slu.ntc.length < 496 := Nat.lt_succ_of_lt hfirst
  have hruns : coreRuns (busyStart s) .svc = coreRuns s .svc := rfl
  unfold runtimeStart
  rw [← busyStart]
  dsimp only
  rw [hruns]
  by_cases runs : coreRuns s .svc = true
  · obtain ⟨t, ht⟩ : ∃ t, t = posted (levelled (busyStart s))
        [startNotice s, immWord 11 (levelNow (busyStart s) + 4 * s.pwr.level)] := ⟨_, rfl⟩
    have hlevel : relevel (posted (busyStart s) [startNotice (busyStart s)]) true 0 0 = t := by
      rw [relevel_always (s := posted (busyStart s) [startNotice (busyStart s)]) hup
        (by simpa [posted] using Nat.succ_lt_succ hfirst) runs, ht]
      exact posted_posted (levelled (busyStart s)) _ _
    have hcancelled : t.pwr.cancelled = 0 := ht ▸ cancelled
    have hsupply : t.pwr.supplyHeld = [] := ht ▸ supply
    have hgauge : t.pwr.gaugeHeld = [] := ht ▸ gauge
    rw [if_pos runs, firstNotice_eq hup hroom, hlevel, if_pos hcancelled, postSupplyHeld_of_nil hsupply,
      postGaugeHeld_of_nil hgauge]
    exact ⟨_, ht, fun _ => rfl⟩
  · obtain ⟨l, hl⟩ := relevel_eq hup hroom true 0 0
    exact ⟨l, by rw [if_neg runs, hl], fun h => absurd h runs⟩

/-! ### The cores -/

/-- What becomes of a core as the cores start: vector 0, unless R483 stopped it. -/
def startedCore (c : Core) : Core := if c.stopped then c else atVector0 c

theorem atVectorZero_startedCore {c : Core} (h : c.stopped = false) : AtVectorZero c (startedCore c) := by
  rw [startedCore, if_neg (by simp [h])]
  exact ⟨rfl, rfl, rfl, rfl, rfl, rfl, rfl, rfl, rfl, rfl, rfl, rfl, rfl, rfl, rfl, rfl, rfl⟩

theorem startedCore_of_stopped {c : Core} (h : c.stopped = true) : startedCore c = c := if_pos h

/-- The state in which CORE counts as started and the cores stand at vector 0. -/
def coresAtZero (s : State) (presc : Bool) : State :=
  startCore (startCore (coreServes s presc) .trk) .svc

theorem coresAtZero_eq (s : State) (presc : Bool) : coresAtZero s presc =
    { s with
      trk := startedCore s.trk, svc := startedCore s.svc,
      pwr := { s.pwr with coresUp := true, prescOk := presc }, mir := { s.mir with hiZ := false },
      samp := (coreServes s presc).samp } := rfl

theorem coreRuns_coresAtZero {s : State} (presc : Bool) (stopped : s.svc.stopped = false) (halted : s.svc.halted = false) :
    coreRuns (coresAtZero s presc) .svc = true := by
  simp [coresAtZero_eq, coreRuns, State.core, startedCore, stopped, halted, atVector0]

/-- What holds in `t` when the cores of `s` have started. -/
structure Started (s t : State) : Prop where
  coreUp : t.pwr.coreUp = true
  coresUp : t.pwr.coresUp = true
  level : t.pwr.level = levelNow t
  hiZ : t.mir.hiZ = false
  trk : t.trk = startedCore s.trk
  svc : t.svc = startedCore s.svc
  bank : t.bank = s.bank
  cp : t.cp = s.cp
  rtc : t.rtc = s.rtc
  params : t.params = s.params
  acq : t.acq = s.acq
  pace : t.pace = s.pace
  wcs : t.wcs = s.wcs
  time : t.time = s.time
  pans : t.pans = s.pans
  integ : t.integ = s.integ

/-- The cores and the Runtime start: what stays, and the two notices that SVC posts. -/
theorem runtimeStart_coresAtZero {s : State} (up : s.pwr.coreUp = true) (room : s.slu.ntc.length < 495)
    (supply : s.pwr.supplyHeld = []) (gauge : s.pwr.gaugeHeld = []) (cancelled : s.pwr.cancelled = 0) (presc : Bool) :
    Started s (runtimeStart (coresAtZero s presc)) ∧
      (s.svc.stopped = false → s.svc.halted = false → (runtimeStart (coresAtZero s presc)).slu.ntc =
        s.slu.ntc ++ [startNotice (coresAtZero s presc),
          immWord 11 ((runtimeStart (coresAtZero s presc)).pwr.level + 4 * s.pwr.level)]) := by
  obtain ⟨l, ht, hl⟩ := runtimeStart_eq (s := coresAtZero s presc) up room supply gauge cancelled
  rw [ht]
  constructor
  · rw [coresAtZero_eq]
    exact ⟨up, rfl, (levelNow_posted_levelled _ l).symm, rfl, rfl, rfl, rfl, rfl, rfl, rfl, rfl, rfl, rfl, rfl, rfl, rfl⟩
  · intro stopped halted
    rw [hl (coreRuns_coresAtZero presc stopped halted)]
    rfl

/-! ### The gap of DEEP SLEEP (spec/01 R30, R31) -/

theorem queueFrame_eq (s : State) (type : BitVec 4) (payload : List Word) :
    ∃ m, queueFrame s type payload = { s with mir := m } := by
  unfold queueFrame
  split
  · exact ⟨_, rfl⟩
  · exact ⟨s.mir, rfl⟩

theorem startTake_eq (s : State) (trig : Nat) : ∃ m, startTake s trig = { s with mir := m } := by
  unfold startTake
  dsimp only
  generalize tsbAt s _ ++ [BitVec.ofNat 16 trig] ++ _ = payload
  obtain ⟨m, hm⟩ := queueFrame_eq s 4 payload
  exact ⟨_, by rw [hm]⟩

theorem checkDegraded_eq (s : State) : ∃ m, checkDegraded s = { s with mir := m } := by
  unfold checkDegraded
  split
  · split
    · exact startTake_eq s 3
    · exact ⟨s.mir, rfl⟩
  · exact ⟨s.mir, rfl⟩

theorem wcsFollowTq_eq (s : State) : ∃ w, wcsFollowTq s = { s with wcs := w } ∧ w.en = s.wcs.en := by
  unfold wcsFollowTq
  split <;> exact ⟨_, rfl, rfl⟩

/-- The state with the time quality RTC-BRIDGED and no consequence drawn. -/
def markedBridged (s : State) : State := { s with time := { s.time with tq := .rtcBridged } }

theorem setTq_rtcBridged_eq (s : State) : setTq s .rtcBridged =
    if .rtcBridged = s.time.tq then markedBridged s
    else checkDegraded (wcsFollowTq (noteTimeq (markedBridged s) .rtcBridged s.time.tq)) := by
  unfold setTq
  dsimp only
  split
  · next same => rw [markedBridged, same]
  · have hcal : (s.time.calDue || TimeQ.rtcBridged == .gnssFine) = s.time.calDue := Bool.or_false _
    rw [hcal, if_neg (by decide), markedBridged]

/-- The time quality becomes RTC-BRIDGED: at most one notice, and what the WCS and the mirror take from the quality. -/
theorem setTq_rtcBridged {s : State} (up : s.pwr.coreUp = true) (room : s.slu.ntc.length < 496) :
    ∃ l w m, setTq s .rtcBridged = { posted (markedBridged s) l with wcs := w, mir := m } ∧
      l.length ≤ 1 ∧ w.en = s.wcs.en := by
  rw [setTq_rtcBridged_eq]
  split
  · exact ⟨[], s.wcs, s.mir, by rw [posted_nil]; rfl, Nat.zero_le 1, rfl⟩
  · rw [noteTimeq, postImm_of_room (s := markedBridged s) up room]
    obtain ⟨w, hw, hen⟩ := wcsFollowTq_eq
      (posted (markedBridged s) [immWord 1 (tqCode .rtcBridged + 8 * tqCode s.time.tq)])
    rw [hw]
    obtain ⟨m, hm⟩ := checkDegraded_eq
      { posted (markedBridged s) [immWord 1 (tqCode .rtcBridged + 8 * tqCode s.time.tq)] with wcs := w }
    exact ⟨_, w, m, hm, le_rfl, hen⟩

/-- What bridging a gap adds to an uncertainty: 122 ns and sys.bridge_ppm of the gap. -/
def bridgeWidening (s : State) (gap : Nat) : Nat := 122 + ceilDiv (s.parN pSysBridgePpm * 1000 * gap) 1047552000

/-- The state with its time and its reference anchor carried across the gap. -/
def carriedAcross (s : State) (gap more : Nat) : State :=
  { s with
    time := { s.time with running := true, anchorT := s.time.anchorT + gap, bridged := true, fineSince := none,
                          gapTicks := s.time.gapTicks + gap, u0 := s.time.uHeld + more, unbounded := false, sigF := 0,
                          uAt := dtcNow s }
    integ := { s.integ with ref := s.integ.ref.map (fun r => { r with t := r.t + gap, u := r.u + more }) } }

theorem bridge_of_unknown {s : State} (h : s.time.tq = .unknown) (gap : Nat) :
    bridge s gap = { s with time := { s.time with running := true } } := if_pos h

theorem bridge_of_known {s : State} (h : s.time.tq ≠ .unknown) (gap : Nat) :
    bridge s gap = setTq (carriedAcross s gap (bridgeWidening s gap)) .rtcBridged := by
  unfold bridge carriedAcross bridgeWidening
  dsimp only
  rw [if_neg h]
  simp only [Nat.add_assoc]
  rfl

/-- The state with the DTC resumed and what that carries across the gap. -/
def dtcBack (s : State) (gap : Nat) : State :=
  if s.time.tq = .unknown then { s with time := { s.time with running := true } }
  else markedBridged (carriedAcross s gap (bridgeWidening s gap))

theorem bridge_eq {s : State} (up : s.pwr.coreUp = true) (room : s.slu.ntc.length < 496) (gap : Nat) :
    ∃ l w m, bridge s gap = { posted (dtcBack s gap) l with wcs := w, mir := m } ∧ l.length ≤ 1 ∧ w.en = s.wcs.en := by
  unfold dtcBack
  split
  · next h => exact ⟨[], s.wcs, s.mir, by rw [bridge_of_unknown h, posted_nil], Nat.zero_le 1, rfl⟩
  · next h =>
    rw [bridge_of_known h]
    exact setTq_rtcBridged (s := carriedAcross s gap (bridgeWidening s gap)) up room

theorem onlyTime_dtcBack (s : State) (gap : Nat) :
    dtcBack s gap = { s with time := (dtcBack s gap).time, integ := (dtcBack s gap).integ } := by
  unfold dtcBack
  split <;> rfl

theorem dtcBack_running (s : State) (gap : Nat) : (dtcBack s gap).time.running = true := by
  unfold dtcBack
  split <;> rfl

theorem dtcBack_dtc (s : State) (gap : Nat) : (dtcBack s gap).time.dtc = s.time.dtc := by
  unfold dtcBack
  split <;> rfl

theorem dtcBack_pos (s : State) (gap : Nat) : (dtcBack s gap).time.pos = s.time.pos := by
  unfold dtcBack
  split <;> rfl

theorem dtcBack_tq (s : State) (gap : Nat) :
    (dtcBack s gap).time.tq = .unknown ∨ (dtcBack s gap).time.tq = .rtcBridged := by
  unfold dtcBack
  split
  · next h => exact .inl h
  · exact .inr rfl

/-! ### The wake from DEEP SLEEP -/

/-- What of the Runtime's state is there at the wake: all of it where the banks it needs were retained (R298). -/
def retainedPart (s : State) : State := if resumable s then s else afresh s

/-- After DEEP SLEEP and before the cores start: at most one notice is posted, and beside time, anchor and pans only the
WCS and the mirror have followed the time quality. -/
theorem retainedPart_bridge {s : State} (up : s.pwr.coreUp = true) (room : s.slu.ntc.length < 496) (gap : Nat) :
    ∃ l w m, retainedPart (bridge s gap) = { posted (retainedPart (dtcBack s gap)) l with wcs := w, mir := m } ∧
      l.length ≤ 1 ∧ w.en = s.wcs.en := by
  obtain ⟨l, w, m, hbridge, hl, hen⟩ := bridge_eq up room gap
  refine ⟨l, w, m, ?_, hl, hen⟩
  have hres : resumable (bridge s gap) = resumable (dtcBack s gap) := by rw [hbridge]; rfl
  unfold retainedPart
  rw [hres, hbridge]
  split <;> rfl

theorem resumable_dtcBack (s : State) (gap : Nat) : resumable (dtcBack s gap) = resumable s := by
  rw [onlyTime_dtcBack]; rfl

theorem retainedPart_of_resumable {s : State} (h : resumable s = true) (gap : Nat) :
    retainedPart (dtcBack s gap) = dtcBack s gap := if_pos ((resumable_dtcBack s gap).trans h)

theorem retainedPart_of_lost {s : State} (h : resumable s = false) (gap : Nat) :
    retainedPart (dtcBack s gap) = afresh (dtcBack s gap) :=
  if_neg (by rw [resumable_dtcBack, h]; exact Bool.false_ne_true)

theorem onlyTime_retainedPart (s : State) (gap : Nat) : retainedPart (dtcBack s gap) = { s with
    time := (retainedPart (dtcBack s gap)).time, integ := (retainedPart (dtcBack s gap)).integ,
    pans := (retainedPart (dtcBack s gap)).pans } := by
  unfold retainedPart
  rw [onlyTime_dtcBack]
  split <;> rfl

/-- The state after DEEP SLEEP in which the Runtime takes up its pans. -/
def woken (s : State) (gap : Nat) (presc : Bool) : State :=
  let t := runtimeStart (coresAtZero (retainedPart (bridge s gap)) presc)
  { t with pwr := { t.pwr with wakeDeep := false } }

/-- What holds in `t` when the cores of `s` have started after DEEP SLEEP and the Runtime takes up its pans. -/
structure Woken (s t : State) (gap : Nat) : Prop where
  coresUp : t.pwr.coresUp = true
  coreUp : t.pwr.coreUp = true
  wakeDeep : t.pwr.wakeDeep = false
  trk : t.trk = startedCore s.trk
  svc : t.svc = startedCore s.svc
  bank : t.bank = s.bank
  acq : t.acq = s.acq
  pace : t.pace = s.pace
  wcsEn : t.wcs.en = s.wcs.en
  time : t.time = (retainedPart (dtcBack s gap)).time
  integ : t.integ = (retainedPart (dtcBack s gap)).integ
  pans : t.pans = (retainedPart (dtcBack s gap)).pans
  told : ∃ l, l.length ≤ 1 ∧
    t.slu.ntc = l ++ [immWord 12 (3 + 8 + 32 * s.pwr.wake), immWord 11 (t.pwr.level + 4 * s.pwr.level)]

theorem woken_spec {s : State} (up : s.pwr.coreUp = true) (ntc : s.slu.ntc = []) (deep : s.pwr.wakeDeep = true)
    (supply : s.pwr.supplyHeld = []) (gauge : s.pwr.gaugeHeld = []) (cancelled : s.pwr.cancelled = 0)
    (stopped : s.svc.stopped = false) (halted : s.svc.halted = false) (gap : Nat) (presc : Bool) :
    Woken s (woken s gap presc) gap := by
  obtain ⟨l, w, m, hretained, hl, hen⟩ := retainedPart_bridge up (by simp [ntc]) gap
  rw [onlyTime_retainedPart] at hretained
  obtain ⟨b, hb⟩ : ∃ b, b = retainedPart (bridge s gap) := ⟨_, rfl⟩
  have hpwr : b.pwr = s.pwr := by rw [hb, hretained]; rfl
  have hslu : b.slu.ntc = l := by rw [hb, hretained]; simp [posted, ntc]
  have hsvc : b.svc = s.svc := by rw [hb, hretained]; rfl
  obtain ⟨hstart, htold⟩ := runtimeStart_coresAtZero (s := b) (by rw [hpwr, up]) (by rw [hslu]; omega)
    (by rw [hpwr, supply]) (by rw [hpwr, gauge]) (by rw [hpwr, cancelled]) presc
  rw [woken, ← hb]
  have hfirst : startNotice (coresAtZero b presc) = immWord 12 (3 + 8 + 32 * s.pwr.wake) := by
    rw [startNotice, coresAtZero_eq]
    simp [hpwr, deep]
  have hnotices := htold (by rw [hsvc, stopped]) (by rw [hsvc, halted])
  rw [hslu, hpwr, hfirst] at hnotices
  exact {
    coresUp := hstart.coresUp
    coreUp := hstart.coreUp
    wakeDeep := rfl
    trk := hstart.trk.trans (by rw [hb, hretained]; rfl)
    svc := hstart.svc.trans (by rw [hsvc])
    bank := hstart.bank.trans (by rw [hb, hretained]; rfl)
    acq := hstart.acq.trans (by rw [hb, hretained]; rfl)
    pace := hstart.pace.trans (by rw [hb, hretained]; rfl)
    wcsEn := (congrArg WcsSt.en hstart.wcs).trans (by rw [hb, hretained]; exact hen)
    time := hstart.time.trans (by rw [hb, hretained]; rfl)
    integ := hstart.integ.trans (by rw [hb, hretained]; rfl)
    pans := hstart.pans.trans (by rw [hb, hretained]; rfl)
    told := ⟨l, hl, hnotices⟩ }

/-! ### After the pans: the WCS, the PACE notice and the interrupts -/

/-- The WCS starts again where WCS_CTRL kept it enabled (R158). -/
def wcsResumed (s : State) : State := if s.wcs.en then wcsStart { s with wcs := { s.wcs with famUse := s.wcs.fam } } else s

theorem wakeStart_eq (s : State) (gap : Nat) (presc : Bool) :
    wakeStart s gap presc = irqWake (irqCore (postZero (wcsResumed (resumePans (woken s gap presc))))) := by
  unfold wakeStart woken retainedPart
  rfl

theorem wcsResumed_eq (s : State) : ∃ w, wcsResumed s = { s with wcs := w } ∧ (s.wcs.en = true → w.state = .start) := by
  unfold wcsResumed
  split
  · exact ⟨_, rfl, fun _ => rfl⟩
  · next h => exact ⟨s.wcs, rfl, fun he => absurd he h⟩

theorem queueKeeps_postZero (s : State) : QueueKeeps s (postZero s) := by
  unfold postZero
  split
  · exact QueueKeeps.trans (t := { s with pace := { s.pace with zeroHeld := false } })
      ⟨⟨rfl, rfl, rfl, rfl, rfl, rfl, rfl, rfl⟩, rfl, rfl⟩ (queueKeeps_postImm _ _ _)
  · exact .refl s

/-- With room in NTC a level that returned to 0 at the entry is told now (R56, R63). -/
theorem postZero_eq {s : State} (up : s.pwr.coreUp = true) (room : s.slu.ntc.length < 496) :
    postZero s = { posted s (if s.pace.zeroHeld then [immWord 3 (s.pace.level + 64)] else []) with
      pace := { s.pace with zeroHeld := false } } := by
  unfold postZero
  split
  · exact postImm_of_room (s := { s with pace := { s.pace with zeroHeld := false } }) up room _ _
  · next h =>
    rw [posted_nil, ← Bool.eq_false_of_not_eq_true h]

theorem resumePans_of_nil {s : State} (h : s.pans.act = []) : resumePans s = s := by rw [resumePans, h]; rfl

theorem queueKeeps_irqs (s : State) : QueueKeeps s (irqWake (irqCore s)) :=
  ⟨⟨rfl, rfl, rfl, rfl, rfl, rfl, rfl, rfl⟩, rfl, rfl⟩

/-- What holds in `t` when a wake from DEEP SLEEP has ended that took up its pans in `s`. -/
structure AfterPans (s t : State) : Prop where
  time : t.time = s.time
  integ : t.integ = s.integ
  trk : t.trk = s.trk
  svc : t.svc = s.svc
  pwr : ∃ b, t.pwr = { s.pwr with busyAt := b }
  owners : t.bank.owners = s.bank.owners
  eph : t.pans.eph = s.pans.eph
  wcs : s.wcs.en = true → t.wcs.state = .start
  view : ∀ p, panView t p = panView (resumePans s) p
  lost : s.pans.act = [] → t.pans = s.pans

theorem afterPans (s : State) : AfterPans s (irqWake (irqCore (postZero (wcsResumed (resumePans s))))) := by
  have hpans := searchKeeps_resumePans s
  obtain ⟨w, hw, hstart⟩ := wcsResumed_eq (resumePans s)
  obtain ⟨hkeep, hact, -⟩ := (queueKeeps_postZero (wcsResumed (resumePans s))).trans (queueKeeps_irqs _)
  have hpwr : (wcsResumed (resumePans s)).pwr = (resumePans s).pwr := by rw [hw]
  obtain ⟨b, hb⟩ := hkeep.exists_busyAt
  obtain ⟨c, hc⟩ := hpans.exists_busyAt
  exact {
    time := hkeep.time.trans (by rw [hw]; exact hpans.time)
    integ := hkeep.integ.trans (by rw [hw]; exact hpans.integ)
    trk := hkeep.trk.trans (by rw [hw]; exact hpans.trk)
    svc := hkeep.svc.trans (by rw [hw]; exact hpans.svc)
    pwr := ⟨b, by rw [hb, hpwr, hc]⟩
    owners := hkeep.owners.trans (by rw [hw]; exact hpans.owners)
    eph := hkeep.eph.trans (by rw [hw]; exact hpans.eph)
    wcs := fun hen => by
      rw [hkeep.wcs, hw]; exact hstart (by rw [hpans.wcs, hen])
    view := panView_congr (hact.trans (by rw [hw]))
    lost := fun h => hact.trans (by rw [hw, resumePans_of_nil h]) }

/-- With no pan to take up, the wake ends with at most a PACE notice. -/
theorem afterPans_of_nil {s : State} (none : s.pans.act = []) (up : s.pwr.coreUp = true) (room : s.slu.ntc.length < 496) :
    (irqWake (irqCore (postZero (wcsResumed (resumePans s))))).bank = s.bank ∧
      (irqWake (irqCore (postZero (wcsResumed (resumePans s))))).slu.ntc =
        s.slu.ntc ++ if s.pace.zeroHeld then [immWord 3 (s.pace.level + 64)] else [] := by
  obtain ⟨w, hw, -⟩ := wcsResumed_eq s
  rw [resumePans_of_nil none, hw, postZero_eq (s := { s with wcs := w }) up room]
  exact ⟨rfl, rfl⟩

/-! ### O53 -/

/-- What a loss of the Runtime's banks leaves of the time. -/
theorem retainedPart_clock (s : State) :
    (retainedPart s).time.running = s.time.running ∧ (retainedPart s).time.dtc = s.time.dtc ∧
      (retainedPart s).time.tq = s.time.tq ∧ (retainedPart s).time.anchorT = s.time.anchorT ∧
      (retainedPart s).time.anchorD = s.time.anchorD ∧ (retainedPart s).time.bridged = s.time.bridged ∧
      (retainedPart s).time.u0 = s.time.u0 := by
  unfold retainedPart
  split <;> exact ⟨rfl, rfl, rfl, rfl, rfl, rfl, rfl⟩

theorem retainedPart_clock_of_unknown {s : State} (h : s.time.tq = .unknown) (gap : Nat) :
    (retainedPart (dtcBack s gap)).time.tq = .unknown ∧ (retainedPart (dtcBack s gap)).time.anchorT = s.time.anchorT ∧
      (retainedPart (dtcBack s gap)).time.bridged = s.time.bridged := by
  obtain ⟨-, -, htq, hanchorT, -, hbridged, -⟩ := retainedPart_clock (dtcBack s gap)
  have hback : dtcBack s gap = { s with time := { s.time with running := true } } := if_pos h
  rw [htq, hanchorT, hbridged, hback]
  exact ⟨h, rfl, rfl⟩

/-- Unless time was UNKNOWN the gap is added to GNSS time, and the uncertainty widened (R30, R31). -/
theorem retainedPart_clock_of_known {s : State} (h : s.time.tq ≠ .unknown) (gap : Nat) :
    (retainedPart (dtcBack s gap)).time.tq = .rtcBridged ∧ (retainedPart (dtcBack s gap)).time.bridged = true ∧
      (retainedPart (dtcBack s gap)).time.anchorD = s.time.anchorD ∧
      (retainedPart (dtcBack s gap)).time.anchorT = s.time.anchorT + gap ∧
      (retainedPart (dtcBack s gap)).time.u0 = s.time.uHeld + bridgeWidening s gap := by
  obtain ⟨-, -, htq, hanchorT, hanchorD, hbridged, hu0⟩ := retainedPart_clock (dtcBack s gap)
  have hback : dtcBack s gap = markedBridged (carriedAcross s gap (bridgeWidening s gap)) := if_neg h
  rw [htq, hbridged, hanchorD, hanchorT, hu0, hback]
  exact ⟨rfl, rfl, rfl, rfl, rfl⟩

/-- The reference anchor kept is carried across the gap with GNSS time (R131). -/
theorem retainedPart_ref_of_known {s : State} (h : s.time.tq ≠ .unknown) (keep : resumable s = true) (gap : Nat) :
    (retainedPart (dtcBack s gap)).integ.ref =
      s.integ.ref.map (fun r => { r with t := r.t + gap, u := r.u + bridgeWidening s gap }) := by
  rw [retainedPart_of_resumable keep, dtcBack, if_neg h]
  rfl

/-- With no pan held before the wake there is none to take up. -/
theorem retainedPart_act_of_nil {s : State} (h : s.pans.act = []) : (retainedPart s).pans.act = [] := by
  unfold retainedPart
  split
  · exact h
  · rfl

theorem dtcBack_pans (s : State) (gap : Nat) : (dtcBack s gap).pans = s.pans := by rw [onlyTime_dtcBack]

/-- The fate of a pan held before the wake, by what the fourth row of R97 says once the wake has ended. -/
theorem wokenPan_fate {s w t : State} {gap : Nat} (hwoken : Woken s w gap) (hafter : AfterPans w t)
    (keep : resumable s = true) (hits : s.acq.pendHits = []) {p : Nat} {x : Pan} (hp : panAt s p = some x) :
    panView t p = resumed (hotFor t) (x.prn, x.phase) := by
  have hpans : w.pans = s.pans := by rw [hwoken.pans, retainedPart_of_resumable keep, dtcBack_pans]
  have htq : w.time.tq = .unknown ∨ w.time.tq = .rtcBridged := by
    rw [hwoken.time, retainedPart_of_resumable keep]
    exact dtcBack_tq s gap
  have hhot : hotFor t = panHot w := funext fun prn =>
    (hotFor_eq_panHot t prn).trans (panHot_congr hafter.time hafter.eph htq prn)
  have hview : panView w p = some (x.prn, x.phase) := by rw [panView_congr hpans, panView, hp]; rfl
  rw [hafter.view, panView_resumePans (by rw [hwoken.acq, hits]) htq, hview, hhot]
  rfl

theorem phase_of_panView {t : State} {p : Nat} {y : Nat × Carrier} (h : panView t p = some y) :
    (panAt t p).map (·.phase) = some y.2 := by
  have hmap := congrArg (Option.map Prod.snd) h
  rwa [panView, Option.map_map] at hmap

theorem panAt_of_panView_none {t : State} {p : Nat} (h : panView t p = none) : panAt t p = none := Option.map_eq_none_iff.mp h

/-- A wake from DEEP SLEEP with no pan held: the banks as they were, and POWER before LEVEL at the end of NTC. -/
theorem wakeStart_told {s : State} {gap : Nat} {presc : Bool} (hwoken : Woken s (woken s gap presc) gap)
    (hafter : AfterPans (woken s gap presc) (wakeStart s gap presc)) (none : s.pans.act = []) :
    (wakeStart s gap presc).bank = s.bank ∧
      [immWord 12 (3 + 8 + 32 * s.pwr.wake), immWord 11 ((wakeStart s gap presc).pwr.level + 4 * s.pwr.level)] ++
        (if s.pace.zeroHeld then [immWord 3 (s.pace.level + 64)] else []) <:+ (wakeStart s gap presc).slu.ntc := by
  obtain ⟨l, hl, hntc⟩ := hwoken.told
  obtain ⟨b, hb⟩ := hafter.pwr
  have hnone : (woken s gap presc).pans.act = [] := by
    rw [hwoken.pans]; exact retainedPart_act_of_nil (by rw [dtcBack_pans, none])
  have hroom : (woken s gap presc).slu.ntc.length < 496 := by
    rw [hntc]; simp only [List.length_append, List.length_cons, List.length_nil]; omega
  obtain ⟨hbank, htold⟩ := afterPans_of_nil hnone hwoken.coreUp hroom
  rw [← wakeStart_eq] at hbank htold
  refine ⟨hbank.trans hwoken.bank, ⟨l, ?_⟩⟩
  rw [htold, hntc, hb, hwoken.pace, List.append_assoc]

/-- The state at a power-up with the DTC started at zero in UNKNOWN. -/
def dtcAtZero (s : State) : State :=
  { s with time := { TimeSt.reset with running := true }, pwr := { s.pwr with bootHold := false } }

theorem coldStart_eq (s : State) (presc : Bool) : coldStart s presc =
    if s.parB pSysBoot then relevel (coreServes (dtcAtZero s) presc) false 0 0
    else runtimeStart (coresAtZero (dtcAtZero s) presc) := by
  unfold coldStart
  rfl

theorem coreServes_eq (s : State) (presc : Bool) : coreServes s presc =
    { s with
      pwr := { s.pwr with coresUp := true, prescOk := presc }, mir := { s.mir with hiZ := false },
      samp := (coreServes s presc).samp } := rfl

/-- What a power-up that is no wake leaves in `t`, whether the cores are held or start (R14, R532). -/
structure ColdStarted (s t : State) : Prop where
  coresUp : t.pwr.coresUp = true
  time : t.time = { TimeSt.reset with running := true }
  hiZ : t.mir.hiZ = false
  level : t.pwr.level = levelNow t
  rtc : t.rtc = s.rtc
  bank : t.bank = s.bank
  cp : t.cp = s.cp
  params : t.params = s.params

/-- With sys.boot 1 both cores stay as they are (R474). -/
theorem coldStart_held {s : State} (up : s.pwr.coreUp = true) (room : s.slu.ntc.length < 496) (presc : Bool)
    (boot : s.parB pSysBoot = true) :
    ColdStarted s (coldStart s presc) ∧ (coldStart s presc).trk = s.trk ∧ (coldStart s presc).svc = s.svc := by
  obtain ⟨l, hl⟩ := relevel_eq (s := coreServes (dtcAtZero s) presc) up room false 0 0
  rw [coldStart_eq, if_pos boot, hl, coreServes_eq]
  exact ⟨⟨rfl, rfl, rfl, (levelNow_posted_levelled _ l).symm, rfl, rfl, rfl, rfl⟩, rfl, rfl⟩

/-- With sys.boot 0 the cores start, and SVC posts BOOT, then LEVEL (R470, R473, R475). -/
theorem coldStart_runs {s : State} (up : s.pwr.coreUp = true) (supply : s.pwr.supplyHeld = [])
    (gauge : s.pwr.gaugeHeld = []) (cancelled : s.pwr.cancelled = 0) (ntc : s.slu.ntc = []) (cold : s.pwr.wakeDeep = false)
    (presc : Bool) (boot : s.parB pSysBoot = false) :
    ColdStarted s (coldStart s presc) ∧ (∀ k, (coldStart s presc).core k = startedCore (s.core k)) ∧
      (s.svc.stopped = false → s.svc.halted = false → (coldStart s presc).slu.ntc =
        [immWord 16 (bootData s presc false), immWord 11 ((coldStart s presc).pwr.level + 4 * s.pwr.level)]) := by
  have hroom : (dtcAtZero s).slu.ntc.length < 495 := by simp [dtcAtZero, ntc]
  rw [coldStart_eq, if_neg (by simp [boot])]
  obtain ⟨hstart, htold⟩ := runtimeStart_coresAtZero (s := dtcAtZero s) up hroom supply gauge cancelled presc
  refine ⟨⟨hstart.coresUp, hstart.time, hstart.hiZ, hstart.level, hstart.rtc, hstart.bank, hstart.cp, hstart.params⟩,
    fun k => ?_, fun stopped halted => ?_⟩
  · cases k
    · exact hstart.trk
    · exact hstart.svc
  · have hfirst : startNotice (coresAtZero (dtcAtZero s) presc) = immWord 16 (bootData s presc false) :=
      if_neg (by rw [coresAtZero_eq]; simp [dtcAtZero, cold])
    rw [htold stopped halted, hfirst, show (dtcAtZero s).slu.ntc = [] from ntc]
    rfl

/-- Settles O53: a power-up and a wake from DEEP SLEEP both start the cores by the same steps, and beside the time and the
pans a wake leaves the WCS, the PACE notice and the interrupts to follow. -/
theorem coresStart : Obligations.CoresStart := by
  unfold Obligations.CoresStart
  intro s gap presc
  have hexec : exec (.refinStable gap presc) s = execRefinStable gap presc s := rfl
  rw [hexec]
  constructor
  · intro idle
    exact if_neg (by rcases idle with h | h <;> simp [h])
  intro up notYet supply gauge cancelled ntc
  have hrun : execRefinStable gap presc s =
      if s.pwr.wakeDeep then .next (wakeStart s gap presc) else .next (coldStart s presc) :=
    if_pos ⟨up, by simp [notYet]⟩
  constructor
  · intro cold
    refine ⟨coldStart s presc, hrun.trans (if_neg (by simp [cold])), ?_⟩
    cases boot : s.parB pSysBoot with
    | true =>
      obtain ⟨hcold, hcores⟩ := coldStart_held up (by simp [ntc]) presc boot
      exact ⟨hcold.coresUp, hcold.time, hcold.hiZ, hcold.level, hcold.rtc, hcold.bank, hcold.cp, hcold.params,
        fun _ => hcores, fun h => absurd h Bool.true_eq_false.mp⟩
    | false =>
      obtain ⟨hcold, hcores, htold⟩ := coldStart_runs up supply gauge cancelled ntc cold presc boot
      refine ⟨hcold.coresUp, hcold.time, hcold.hiZ, hcold.level, hcold.rtc, hcold.bank, hcold.cp, hcold.params,
        fun h => absurd h Bool.false_ne_true, fun _ => ⟨fun k stopped => ?_, fun k stopped => ?_, htold⟩⟩
      · rw [hcores k]; exact atVectorZero_startedCore stopped
      · rw [hcores k]; exact startedCore_of_stopped stopped
  · intro deep trkStopped svcStopped _ svcHalted _
    have hwoken := woken_spec up ntc deep supply gauge cancelled svcStopped svcHalted gap presc
    have hafter := afterPans (woken s gap presc)
    rw [← wakeStart_eq] at hafter
    have htime := hafter.time.trans hwoken.time
    obtain ⟨hrunning, hdtc, -⟩ := retainedPart_clock (dtcBack s gap)
    obtain ⟨b, hb⟩ := hafter.pwr
    refine ⟨wakeStart s gap presc, hrun.trans (if_pos deep), ?_, ?_, ?_, ?_, rfl, rfl, rfl, rfl, ?_, ?_, ?_, ?_, ?_, ?_,
      ?_, rfl, ?_, ?_⟩
    · rw [hb, hwoken.coresUp]
    · rw [hb, hwoken.wakeDeep]
    · rw [hafter.trk, hwoken.trk]; exact atVectorZero_startedCore trkStopped
    · rw [hafter.svc, hwoken.svc]; exact atVectorZero_startedCore svcStopped
    · intro none
      obtain ⟨hbank, htold⟩ := wakeStart_told hwoken hafter none
      exact ⟨hbank, List.isSuffixOf_iff_suffix.mpr htold⟩
    · rw [htime, hrunning, dtcBack_running]
    · rw [htime, hdtc, dtcBack_dtc]
    · rw [hafter.owners, hwoken.bank]
    · intro en
      exact hafter.wcs (hwoken.wcsEn.trans en)
    · intro unknown
      rw [htime]
      exact retainedPart_clock_of_unknown unknown gap
    · intro known
      obtain ⟨htq, hbridged, hanchorD, hanchorT, hu0⟩ := retainedPart_clock_of_known known gap
      rw [htime, hafter.integ, hwoken.integ]
      exact ⟨htq, hbridged, hanchorD, hanchorT, hu0, fun keep => retainedPart_ref_of_known known keep gap⟩
    · intro keep
      refine ⟨by rw [htime, retainedPart_of_resumable keep, dtcBack_pos], fun hits =>
        ⟨fun p x hp hot => ?_, fun p x hp cold => ?_⟩⟩
      · exact phase_of_panView ((wokenPan_fate hwoken hafter keep hits hp).trans (if_pos hot))
      · exact panAt_of_panView_none ((wokenPan_fate hwoken hafter keep hits hp).trans (if_neg (by simp [cold])))
    · intro lost
      have hpans := hwoken.pans.trans (congrArg State.pans (retainedPart_of_lost lost gap))
      refine ⟨by rw [htime, retainedPart_of_lost lost]; rfl, ?_⟩
      exact (hafter.lost (by rw [hpans]; rfl)).trans hpans

end Sys2Proof.Proofs
end

section
/-! PROOFS. What the clockless fabric's commands share: frames, maps with rising keys, the parameters and notices that a
command keeps, the time that a command reaches, and changes of one pan. -/

namespace Sys2Proof.Proofs

open Sys2Proof Sys2Proof.Machine Sys2Proof.Spec

/-! ### Frames -/

theorem onlyIn_iff {l : List Part} {s t : State} :
    onlyIn l s t = true ↔ t.pending = s.pending ∧ ∀ p, p ∉ l → agree s t p = true := by
  have hall : ∀ p, p ∈ allParts := fun p => by cases p <;> decide
  simp only [onlyIn, Bool.and_eq_true, beq_iff_eq, List.all_eq_true, Bool.or_eq_true, List.contains_iff_mem]
  exact and_congr_right fun _ => ⟨fun h p hp => (h p (hall p)).resolve_left hp, fun h p _ => or_iff_not_imp_left.mpr (h p)⟩

/-- A part outside the frame is the same in both states. -/
theorem agree_of_onlyIn {l : List Part} {s t : State} (h : onlyIn l s t = true) (p : Part) (hp : p ∉ l) :
    agree s t p = true := (onlyIn_iff.mp h).2 p hp

theorem agree_refl (s : State) (p : Part) : agree s s p = true := by cases p <;> exact beq_self_eq_true _

theorem agree_trans {s t u : State} {p : Part} (h : agree s t p = true) (k : agree t u p = true) : agree s u p = true := by
  cases p <;> exact beq_iff_eq.mpr ((eq_of_beq k).trans (eq_of_beq h))

theorem onlyIn_refl (l : List Part) (s : State) : onlyIn l s s = true := onlyIn_iff.mpr ⟨rfl, fun p _ => agree_refl s p⟩

theorem onlyIn_trans {l : List Part} {s t u : State} (h : onlyIn l s t = true) (k : onlyIn l t u = true) :
    onlyIn l s u = true := by
  obtain ⟨hp, ha⟩ := onlyIn_iff.mp h
  obtain ⟨kp, ka⟩ := onlyIn_iff.mp k
  exact onlyIn_iff.mpr ⟨kp.trans hp, fun p q => agree_trans (ha p q) (ka p q)⟩

theorem onlyIn_mono {l m : List Part} {s t : State} (h : onlyIn l s t = true) (hl : l ⊆ m) : onlyIn m s t = true := by
  obtain ⟨hp, ha⟩ := onlyIn_iff.mp h
  exact onlyIn_iff.mpr ⟨hp, fun p q => ha p fun r => q (hl r)⟩

section
variable (s : State)

theorem onlyIn_time (x : TimeSt) : onlyIn [.time] s { s with time := x } = true := by simp [onlyIn, allParts, agree]
theorem onlyIn_pace (x : PaceSt) : onlyIn [.pace] s { s with pace := x } = true := by simp [onlyIn, allParts, agree]
theorem onlyIn_samp (x : SampSt) : onlyIn [.samp] s { s with samp := x } = true := by simp [onlyIn, allParts, agree]
theorem onlyIn_acq (x : AcqSt) : onlyIn [.acq] s { s with acq := x } = true := by simp [onlyIn, allParts, agree]
theorem onlyIn_integ (x : IntegSt) : onlyIn [.integ] s { s with integ := x } = true := by simp [onlyIn, allParts, agree]
theorem onlyIn_pans (x : PanSt) : onlyIn [.pans] s { s with pans := x } = true := by simp [onlyIn, allParts, agree]
theorem onlyIn_vreg (x : VregSt) : onlyIn [.vreg] s { s with vreg := x } = true := by simp [onlyIn, allParts, agree]
theorem onlyIn_slu (x : SluSt) : onlyIn [.slu] s { s with slu := x } = true := by simp [onlyIn, allParts, agree]
theorem onlyIn_params (x : List (Nat × Int)) : onlyIn [.params] s { s with params := x } = true := by
  simp [onlyIn, allParts, agree]

end

/-! ### Maps with rising keys -/

theorem pairwise_of_mrisingFrom {α : Type} {lo : Nat} {m : List (Nat × α)} (h : mrisingFrom lo m = true) :
    (∀ y ∈ m, lo ≤ y.1) ∧ m.Pairwise (fun a b => a.1 < b.1) := by
  induction m generalizing lo with
  | nil => simp
  | cons y m ih =>
    simp only [mrisingFrom, Bool.and_eq_true, decide_eq_true_eq] at h
    obtain ⟨hlo, hrest⟩ := h
    obtain ⟨hge, hpair⟩ := ih hrest
    refine ⟨?_, List.pairwise_cons.mpr ⟨fun z hz => hge z hz, hpair⟩⟩
    rintro z (_ | ⟨_, hz⟩)
    · exact hlo
    · exact le_trans hlo (le_trans (Nat.le_succ _) (hge z hz))

theorem mem_of_mget {α : Type} {m : List (Nat × α)} {i : Nat} {x : α} (h : mget m i = some x) : (i, x) ∈ m := by
  induction m with
  | nil => cases h
  | cons y m ih =>
    by_cases hy : y.1 = i
    · have hx : y.2 = x := by simpa [mget, hy] using h
      exact List.mem_cons.mpr (.inl (Prod.ext hy.symm hx.symm))
    · exact List.mem_cons_of_mem _ (ih (by simpa [mget, hy] using h))

/-- Of a map with rising keys each entry is the one found at its key. -/
theorem mget_eq_some_iff {α : Type} {m : List (Nat × α)} (h : mrising m = true) {i : Nat} {x : α} :
    mget m i = some x ↔ (i, x) ∈ m := by
  refine ⟨mem_of_mget, ?_⟩
  have hpair := (pairwise_of_mrisingFrom h).2
  clear h
  induction m with
  | nil => simp
  | cons y m ih =>
    obtain ⟨hlt, hrest⟩ := List.pairwise_cons.mp hpair
    intro hx
    rcases List.mem_cons.mp hx with rfl | hx
    · simp [mget]
    · have : y.1 ≠ i := (hlt _ hx).ne
      simpa [mget, this] using ih hrest hx

/-- What a change of the value at a key does to the number of entries that satisfy a condition. -/
theorem length_filter_mput {α : Type} (f : Nat × α → Bool) {i : Nat} {x : α} (y : α) {m : List (Nat × α)}
    (h : mrising m = true) (hx : mget m i = some x) :
    ((mput m i y).filter f).length + bit (f (i, x)) = (m.filter f).length + bit (f (i, y)) := by
  have hpair := (pairwise_of_mrisingFrom h).2
  clear h
  induction m with
  | nil => cases hx
  | cons z m ih =>
    obtain ⟨k, v⟩ := z
    obtain ⟨hlt, hrest⟩ := List.pairwise_cons.mp hpair
    unfold mput
    by_cases hk : k = i
    · subst hk
      have hv : v = x := by simpa [mget] using hx
      subst hv
      simp only [lt_irrefl, if_false, if_true, List.filter_cons]
      cases f (k, v) <;> cases f (k, y) <;> simp [bit]
    · have hm : mget m i = some x := by simpa [mget, hk] using hx
      have hki : k < i := hlt _ (mem_of_mget hm)
      rw [if_neg (by omega), if_neg hk]
      have := ih hm hrest
      simp only [List.filter_cons]
      cases f (k, v)
      · exact this
      · simp only [if_true, List.length_cons]; omega

theorem mrising_mput {α : Type} {m : List (Nat × α)} (h : mrising m = true) (i : Nat) (x : α) :
    mrising (mput m i x) = true := mrisingFrom_mput m 0 i x h (Nat.zero_le i)

/-! ### Parameters kept -/

/-- From `s` to `t` every parameter but those of `ks` reads the same. -/
def ParsKept (ks : List Nat) (s t : State) : Prop := ∀ k, k ∉ ks → t.par k = s.par k

theorem ParsKept.of_params {s t : State} (h : t.params = s.params) (ks : List Nat) : ParsKept ks s t :=
  fun k _ => State.par_congr h k

theorem ParsKept.trans {ks : List Nat} {s t u : State} (h : ParsKept ks s t) (k : ParsKept ks t u) : ParsKept ks s u :=
  fun i hi => (k i hi).trans (h i hi)

theorem ParsKept.mono {ks ls : List Nat} {s t : State} (h : ParsKept ks s t) (hl : ks ⊆ ls) : ParsKept ls s t :=
  fun i hi => h i fun hk => hi (hl hk)

theorem ParsKept.parN {ks : List Nat} {s t : State} (h : ParsKept ks s t) {k : Nat} (hk : k ∉ ks) : t.parN k = s.parN k :=
  congrArg Int.toNat (h k hk)

theorem parsKept_setPar (s : State) (k : Nat) (v : Int) : ParsKept [k] s (s.setPar k v) :=
  fun j hj => par_setPar_ne s k j v fun e => hj (by simp [e])

theorem parsKept_bumpPar (s : State) (k : Nat) : ParsKept [k] s (s.bumpPar k) := parsKept_setPar s k _

theorem parsKept_setParBit (s : State) (k i : Nat) (b : Bool) : ParsKept [k] s (s.setParBit k i b) := by
  unfold State.setParBit
  split
  · exact .of_params rfl _
  · exact parsKept_setPar s k _

/-! ### Notices -/

/-- What a device notice without a body changes: NTC grows, or the type is coalesced. -/
structure Notifies (s t : State) : Prop where
  frame : onlyIn [.slu, .params] s t = true
  pars : ParsKept [pNtcCoalPend] s t
  ntc : s.slu.ntc <+: t.slu.ntc
  length : t.slu.ntc.length ≤ s.slu.ntc.length + 1

theorem Notifies.refl (s : State) : Notifies s s := ⟨onlyIn_refl _ s, .of_params rfl _, List.prefix_rfl, Nat.le_succ _⟩

theorem notifies_postImm (s : State) (n d : Nat) : Notifies s (postImm s n d) := by
  unfold postImm
  split_ifs
  · exact ⟨onlyIn_mono (onlyIn_slu s _) (by simp), .of_params rfl _, List.prefix_append _ _, by simp [pushNtc]⟩
  · have hbit : ∀ u : State, onlyIn [.slu, .params] u (u.setParBit pNtcCoalPend n true) = true ∧
        (u.setParBit pNtcCoalPend n true).slu = u.slu := by
      intro u
      unfold State.setParBit State.setPar
      split
      · exact ⟨onlyIn_refl _ u, rfl⟩
      · exact ⟨onlyIn_mono (onlyIn_params u _) (by simp), rfl⟩
    have hslu : onlyIn [.slu, .params] s (coalBump s n) = true := onlyIn_mono (onlyIn_slu s _) (by simp)
    exact ⟨onlyIn_trans hslu (hbit _).1, ParsKept.trans (.of_params rfl _) (parsKept_setParBit (coalBump s n) _ _ _),
      by rw [coalesce, (hbit _).2]; exact List.prefix_rfl, by rw [coalesce, (hbit _).2]; exact Nat.le_succ _⟩
  · exact .refl s

/-- A notice posted with room in NTC is there. -/
theorem immWord_mem_postImm {s : State} (up : s.pwr.coreUp = true) (room : s.slu.ntc.length < 496) (n d : Nat) :
    immWord n d ∈ (postImm s n d).slu.ntc := by
  rw [postImm_of_room up room]
  simp [posted]

/-! ### The time that a command reaches -/

theorem carryDtc_reaches (s : State) (n : Nat) : Reaches s (carryDtc s n) n := by
  unfold Reaches
  split
  · next h => exact dtcNow_carryDtc h.1 h.2
  · next h => rw [carryDtc, if_neg h]

theorem onlyIn_carryDtc (s : State) (n : Nat) : onlyIn [.time] s (carryDtc s n) = true := by
  rw [carryDtc_eq]; exact onlyIn_time s _

theorem carryDtc_onlyTime (s : State) (n : Nat) : ∃ x, carryDtc s n = { s with time := x } := ⟨_, carryDtc_eq s n⟩

theorem carryDtc_params (s : State) (n : Nat) : (carryDtc s n).params = s.params := by rw [carryDtc_eq]

theorem sameTime_carryDtc (s : State) (n : Nat) : sameTime s (carryDtc s n) = true := by
  rw [carryDtc_eq]; simp [sameTime]

theorem Reaches.congr {s t u : State} {n : Nat} (h : Reaches s t n) (hu : u.time = t.time) : Reaches s u n :=
  (dtcNow_congr hu).trans h

theorem sameTime_congr {s t u : State} (h : sameTime s t = true) (hu : u.time = t.time) : sameTime s u = true := by
  unfold sameTime; rw [hu]; exact h

/-! ### A change of one pan -/

theorem onlyIn_putPan (s : State) (p : Nat) (x : Pan) : onlyIn [.pans] s (putPan s p x) = true := onlyIn_pans s _

theorem modPan_of_some {s : State} {p : Nat} {x : Pan} (h : panAt s p = some x) (f : Pan → Pan) :
    modPan s p f = putPan s p (f x) := by rw [modPan, h]

theorem modPan_of_none {s : State} {p : Nat} (h : panAt s p = none) (f : Pan → Pan) : modPan s p f = s := by rw [modPan, h]

theorem onlyIn_modPan (s : State) (p : Nat) (f : Pan → Pan) : onlyIn [.pans] s (modPan s p f) = true := by
  unfold modPan
  split
  · exact onlyIn_putPan s p _
  · exact onlyIn_refl _ s

theorem panAt_putPan (s : State) (p q : Nat) (x : Pan) : panAt (putPan s p x) q = if p = q then some x else panAt s q :=
  mget_mput _ _ _ _

theorem panAt_modPan (s : State) (p q : Nat) (f : Pan → Pan) :
    panAt (modPan s p f) q = if p = q then (panAt s q).map f else panAt s q := by
  cases h : panAt s p with
  | none =>
    rw [modPan_of_none h]
    split
    · next e => subst e; rw [h]; rfl
    · rfl
  | some x =>
    rw [modPan_of_some h, panAt_putPan]
    split
    · next e => subst e; rw [h]; rfl
    · rfl

theorem modPan_eq (s : State) (p : Nat) (f : Pan → Pan) : modPan s p f = { s with pans := (modPan s p f).pans } := by
  unfold modPan
  split <;> rfl

theorem mrising_modPan {s : State} (h : mrising s.pans.act = true) (p : Nat) (f : Pan → Pan) :
    mrising (modPan s p f).pans.act = true := by
  unfold modPan
  split
  · exact mrising_mput h p _
  · exact h

/-- A change of a pan that leaves it suspended, or not, leaves the number of pans at work. -/
theorem panCount_modPan {s : State} (h : mrising s.pans.act = true) (p : Nat) {f : Pan → Pan}
    (hf : ∀ x, (f x).susp = x.susp) : panCount (modPan s p f) = panCount s := by
  cases hp : panAt s p with
  | none => rw [modPan_of_none hp]
  | some x =>
    rw [modPan_of_some hp]
    have := length_filter_mput (fun y => !y.2.susp) (f x) h hp
    simp only [hf] at this
    exact Nat.add_right_cancel this

/-- A pan at work that is suspended counts no more. -/
theorem panCount_modPan_of_susp {s : State} (h : mrising s.pans.act = true) {p : Nat} {x : Pan} (hp : panAt s p = some x)
    (hx : x.susp = false) {f : Pan → Pan} (hf : (f x).susp = true) : panCount (modPan s p f) + 1 = panCount s := by
  rw [modPan_of_some hp]
  have := length_filter_mput (fun y => !y.2.susp) (f x) h hp
  simpa [hx, hf, bit, panCount, putPan] using this

end Sys2Proof.Proofs
end

section
/-! PROOFS. Shedding (spec/02 R51-R58): which pan is suspended, what a shed step and a move to the exhausted level change, and
what follows of the relapse windows. -/

namespace Sys2Proof.Proofs

open Sys2Proof Sys2Proof.Machine Sys2Proof.Spec

/-! ### The pan that is suspended next (spec/02 R52, R54) -/

/-- The worse of the pan found so far and the next one: of equals the later. -/
def worseOf (b : Option (Nat × Nat)) (y : Nat × Pan) : Option (Nat × Nat) :=
  match b with
  | none => some (y.1, y.2.cn0)
  | some (p, c) => if y.2.cn0 ≤ c then some (y.1, y.2.cn0) else some (p, c)

theorem worstPan_eq (s : State) :
    worstPan s = ((s.pans.act.filter (fun y => !y.2.susp)).foldl worseOf none).map (·.1) := rfl

/-- Pan `p` with C/N0 `c` is one of the list, none is lower, and of equals none has a higher number. -/
def IsWorst (l : List (Nat × Pan)) (p c : Nat) : Prop :=
  (∃ x, (p, x) ∈ l ∧ x.cn0 = c) ∧ ∀ y ∈ l, c < y.2.cn0 ∨ (c = y.2.cn0 ∧ y.1 ≤ p)

theorem foldl_worseOf (l : List (Nat × Pan)) (h : l.Pairwise (fun a b => a.1 < b.1)) :
    (l = [] ∧ l.foldl worseOf none = none) ∨ ∃ p c, l.foldl worseOf none = some (p, c) ∧ IsWorst l p c := by
  induction l using List.reverseRecOn with
  | nil => exact .inl ⟨rfl, rfl⟩
  | append_singleton l y ih =>
    obtain ⟨hl, -, hlast⟩ := List.pairwise_append.mp h
    refine .inr ?_
    rw [List.foldl_concat]
    rcases ih hl with ⟨rfl, hnone⟩ | ⟨p, c, hsome, ⟨x, hx, hc⟩, hmin⟩
    · exact ⟨y.1, y.2.cn0, rfl, ⟨y.2, by simp, rfl⟩, by simp⟩
    · rw [hsome]
      by_cases hle : y.2.cn0 ≤ c
      · refine ⟨y.1, y.2.cn0, if_pos hle, ⟨y.2, by simp, rfl⟩, fun z hz => ?_⟩
        rcases List.mem_append.mp hz with hz | hz
        · have hzy : z.1 < y.1 := hlast z hz y (by simp)
          rcases hmin z hz with h1 | h1 <;> omega
        · rw [List.mem_singleton.mp hz]; exact .inr ⟨rfl, le_rfl⟩
      · refine ⟨p, c, if_neg hle, ⟨x, by simp [hx], hc⟩, fun z hz => ?_⟩
        rcases List.mem_append.mp hz with hz | hz
        · exact hmin z hz
        · rw [List.mem_singleton.mp hz]; omega

/-- With a pan at work there is a worst one. -/
theorem worstPan_spec {s : State} (h : mrising s.pans.act = true) (hcount : 0 < panCount s) :
    ∃ p, worstPan s = some p ∧ Worst s p := by
  have hpair := (pairwise_of_mrisingFrom (mrisingFrom_filter _ 0 (fun y : Nat × Pan => !y.2.susp) h)).2
  rcases foldl_worseOf _ hpair with ⟨hnil, -⟩ | ⟨p, c, hp, ⟨x, hx, hc⟩, hmin⟩
  · simp [panCount, hnil] at hcount
  · obtain ⟨hmem, hsusp⟩ := List.mem_filter.mp hx
    refine ⟨p, by rw [worstPan_eq, hp]; rfl, x, (mget_eq_some_iff h).mpr hmem, by simpa using hsusp, fun q y hq hy => ?_⟩
    rw [hc]
    exact hmin (q, y) (List.mem_filter.mpr ⟨mem_of_mget hq, by simpa using hy⟩)

/-! ### The lead of a PRN passes to its twin (spec/04 R116) -/

/-- A pan apart from whether it is the lead. -/
def led (x : Pan) : Pan := { x with lead := true }

/-- Nothing but which pan is the lead changes. -/
structure LeadMoves (s t : State) : Prop where
  frame : onlyIn [.pans, .integ] s t = true
  pans : ∀ q, (panAt t q).map led = (panAt s q).map led
  rising : mrising s.pans.act = true → mrising t.pans.act = true
  count : mrising s.pans.act = true → panCount t = panCount s

theorem LeadMoves.refl (s : State) : LeadMoves s s := ⟨onlyIn_refl _ s, fun _ => rfl, id, fun _ => rfl⟩

theorem LeadMoves.trans {s t u : State} (h : LeadMoves s t) (k : LeadMoves t u) : LeadMoves s u where
  frame := onlyIn_trans h.frame k.frame
  pans q := (k.pans q).trans (h.pans q)
  rising r := k.rising (h.rising r)
  count r := (k.count (h.rising r)).trans (h.count r)

theorem leadMoves_modPan (s : State) (p : Nat) (b : Bool) : LeadMoves s (modPan s p (fun z => { z with lead := b })) where
  frame := onlyIn_mono (onlyIn_modPan s p _) (by simp)
  pans q := by
    rw [panAt_modPan]
    split
    · rw [Option.map_map]; rfl
    · rfl
  rising h := mrising_modPan h p _
  count h := panCount_modPan h p fun _ => rfl

theorem leadMoves_passLead (s : State) (p : Nat) (x : Pan) : LeadMoves s (passLead s p x) := by
  unfold passLead
  split
  · exact .refl s
  · split
    · have := (leadMoves_modPan s p false).trans (leadMoves_modPan _ (by assumption) true)
      exact ⟨onlyIn_trans this.frame (onlyIn_mono (onlyIn_integ _ _) (by simp)), this.pans, this.rising, this.count⟩
    · exact .refl s

/-! ### Suspension (spec/02 R52, R54) -/

/-- A pan as it is suspended at the present DTC count. -/
def suspended (s : State) (x : Pan) : Pan := { unlock (advancePan s x (dtcNow s)) with susp := true, reacq := none }

theorem suspendPan_of_some {s : State} {p : Nat} {x : Pan} (h : panAt s p = some x) :
    ∃ u, LeadMoves s u ∧ suspendPan s p =
      { modPan u p (suspended u) with pace := { s.pace with suspOrder := p :: s.pace.suspOrder } } := by
  obtain ⟨u, hu, hdef⟩ : ∃ u, LeadMoves s u ∧ suspendPan s p = { modPan u p (suspended u) with
      pace := { (modPan u p (suspended u)).pace with suspOrder := p :: (modPan u p (suspended u)).pace.suspOrder } } := by
    unfold suspendPan
    rw [h]
    refine ⟨if x.codeLk then passLead s p x else s, ?_, rfl⟩
    split
    · exact leadMoves_passLead s p x
    · exact .refl s
  have hpace : (modPan u p (suspended u)).pace = s.pace := by
    rw [modPan_eq]
    exact eq_of_beq (agree_of_onlyIn hu.frame .pace (by decide))
  exact ⟨u, hu, by rw [hdef, hpace]⟩

theorem suspendPan_of_none {s : State} {p : Nat} (h : panAt s p = none) : suspendPan s p = s := by rw [suspendPan, h]

theorem onlyIn_suspendPan (s : State) (p : Nat) : onlyIn [.pace, .pans, .integ] s (suspendPan s p) = true := by
  cases h : panAt s p with
  | none => rw [suspendPan_of_none h]; exact onlyIn_refl _ s
  | some x =>
    obtain ⟨u, hu, heq⟩ := suspendPan_of_some h
    rw [heq]
    have hframe := onlyIn_trans (l := [.pace, .pans, .integ]) (onlyIn_mono hu.frame (by simp))
      (onlyIn_mono (onlyIn_modPan u p (suspended u)) (by simp))
    exact onlyIn_trans hframe (onlyIn_mono (onlyIn_pace _ _) (by simp))

theorem suspendPan_pace (s : State) (p : Nat) :
    ∃ o, (suspendPan s p).pace = { s.pace with suspOrder := o } := by
  cases h : panAt s p with
  | none => rw [suspendPan_of_none h]; exact ⟨_, rfl⟩
  | some x =>
    obtain ⟨u, -, heq⟩ := suspendPan_of_some h
    exact ⟨_, by rw [heq]⟩

/-- The suspension of a pan at work (spec/02 R52, spec/04 R112): its lock indicators clear, it stands first in restore order,
and of the other pans at most the lead changes. -/
structure Suspends (s t : State) (p : Nat) : Prop where
  order : t.pace.suspOrder = p :: s.pace.suspOrder
  pan : ∃ x, panAt t p = some x ∧ x.susp = true ∧ x.codeLk = false ∧ x.carLk = false ∧
      x.bitSync = false ∧ x.frmSync = false
  others : ∀ q, q ≠ p → (panAt t q).map led = (panAt s q).map led
  count : panCount t + 1 = panCount s

theorem suspends_suspendPan {s : State} (h : mrising s.pans.act = true) {p : Nat} {x : Pan} (hp : panAt s p = some x)
    (hx : x.susp = false) : Suspends s (suspendPan s p) p := by
  obtain ⟨u, hu, heq⟩ := suspendPan_of_some hp
  obtain ⟨y, hy, hyx⟩ : ∃ y, panAt u p = some y ∧ led y = led x := by
    have := hu.pans p
    rw [hp] at this
    exact Option.map_eq_some_iff.mp this
  have hsusp : y.susp = false := (congrArg Pan.susp hyx).trans hx
  rw [heq]
  refine ⟨rfl, ⟨suspended u y, ?_, rfl, rfl, rfl, rfl, rfl⟩, fun q hq => ?_, ?_⟩
  · exact (panAt_modPan u p p _).trans (by rw [if_pos rfl, hy]; rfl)
  · exact (congrArg (Option.map led) ((panAt_modPan u p q _).trans (if_neg hq.symm))).trans (hu.pans q)
  · exact (panCount_modPan_of_susp (hu.rising h) hy hsusp rfl).trans (hu.count h)

/-! ### One level up (spec/02 R52) -/

/-- What shedding levels changes. -/
structure Sheds (s t : State) : Prop where
  frame : onlyIn [.pace, .pans, .integ] s t = true
  pace : ∃ l n o, t.pace = { s.pace with level := l, nAtFive := n, suspOrder := o }

theorem Sheds.refl (s : State) : Sheds s s := ⟨onlyIn_refl _ s, _, _, _, rfl⟩

theorem Sheds.trans {s t u : State} (h : Sheds s t) (k : Sheds t u) : Sheds s u := by
  obtain ⟨l, n, o, hp⟩ := h.pace
  obtain ⟨l', n', o', kp⟩ := k.pace
  exact ⟨onlyIn_trans h.frame k.frame, l', n', o', by rw [kp, hp]⟩

/-- The state one level up, with no pan suspended. -/
def oneUp (s : State) : State :=
  let l := s.pace.level + 1
  { s with pace := { s.pace with
      level := l, nAtFive := if l < 5 then s.pace.nAtFive else some (s.pace.nAtFive.getD (panCount s)) } }

theorem shedTo_eq (s : State) : shedTo s =
    if s.pace.level + 1 < 5 ∨ panCount s ≤ paceNum s pPwrPanKeep then oneUp s
    else match worstPan s with
      | some p => suspendPan (oneUp s) p
      | none => oneUp s := by
  by_cases hl : s.pace.level + 1 < 5
  · rw [if_pos (.inl hl)]; simp [shedTo, oneUp, hl]
  · have hfrom : ∀ u, u = oneUp s →
        (match worstPan u with
          | some p => if paceParN u pPwrPanKeep < tracking u then suspendPan u p else u
          | none => u) =
        match worstPan s with
          | some p => if paceNum s pPwrPanKeep < panCount s then suspendPan (oneUp s) p else oneUp s
          | none => oneUp s := by
      rintro _ rfl; rfl
    rw [shedTo.eq_1, if_neg hl]
    refine (hfrom _ ?_).trans ?_
    · unfold oneUp
      dsimp only
      rw [if_neg hl]
      split
      · next hn => rw [show s.pace.nAtFive = none from Option.isNone_iff_eq_none.mp hn]; rfl
      · next hn =>
        obtain ⟨v, hv⟩ := Option.ne_none_iff_exists'.mp fun e => hn (Option.isNone_iff_eq_none.mpr e)
        rw [show s.pace.nAtFive = some v from hv]
        rfl
    by_cases hk : panCount s ≤ paceNum s pPwrPanKeep
    · rw [if_pos (.inr hk)]
      cases worstPan s
      · rfl
      · exact if_neg (not_lt.mpr hk)
    · rw [if_neg (by simp [hl, hk])]
      cases worstPan s
      · rfl
      · exact if_pos (not_le.mp hk)

theorem sheds_oneUp (s : State) : Sheds s (oneUp s) := ⟨onlyIn_mono (onlyIn_pace s _) (by simp), _, _, _, rfl⟩

theorem sheds_shedTo (s : State) : Sheds s (shedTo s) := by
  rw [shedTo_eq]
  split
  · exact sheds_oneUp s
  · split
    · next p _ =>
      obtain ⟨o, ho⟩ := suspendPan_pace (oneUp s) p
      exact (sheds_oneUp s).trans ⟨onlyIn_suspendPan _ p, _, _, o, ho⟩
    · exact sheds_oneUp s

theorem shedTo_level (s : State) : (shedTo s).pace.level = s.pace.level + 1 := by
  rw [shedTo_eq]
  split
  · rfl
  · cases worstPan s with
    | none => rfl
    | some p =>
      obtain ⟨o, ho⟩ := suspendPan_pace (oneUp s) p
      exact congrArg PaceSt.level ho

/-- A step to a level below 5 changes no pan. -/
theorem shedTo_of_low {s : State} (h : s.pace.level + 1 < 5) : shedTo s = oneUp s := by rw [shedTo_eq, if_pos (.inl h)]

/-- A step that has no work changes no pan. -/
theorem shedTo_of_idle {s : State} (h : hasWork s (s.pace.level + 1) = false) : shedTo s = oneUp s := by
  by_cases hl : s.pace.level + 1 < 5
  · exact shedTo_of_low hl
  · have hkeep : panCount s ≤ paceNum s pPwrPanKeep := by
      simpa [hasWork, show ¬ s.pace.level + 1 ≤ 3 by omega, show s.pace.level + 1 ≠ 4 by omega] using h
    rw [shedTo_eq, if_pos (.inr hkeep)]

/-- A step to level 5 or above suspends the worst pan. -/
theorem shedTo_of_high {s : State} (h : mrising s.pans.act = true) (hl : 5 ≤ s.pace.level + 1)
    (hk : paceNum s pPwrPanKeep < panCount s) : ∃ p, Worst s p ∧ Suspends s (shedTo s) p := by
  obtain ⟨p, hp, hw⟩ := worstPan_spec h (by omega)
  have ⟨x, hx, hsusp, _⟩ := hw
  have hfrom := suspends_suspendPan (s := oneUp s) h hx hsusp
  refine ⟨p, hw, ?_⟩
  rw [shedTo_eq, if_neg (by omega), hp]
  exact ⟨hfrom.order, hfrom.pan, hfrom.others, hfrom.count⟩

/-! ### Levels up (spec/02 R53, R55) -/

/-- The state at a higher level with no pan suspended on the way. -/
def AtLevel (s w : State) (k : Nat) : Prop := ∃ n, w = { s with pace := { s.pace with level := k, nAtFive := n } }

/-- The level moves up until a step has had work, or to the top: where it stops, and from what state the last step goes. -/
theorem shedOne_spec (n top : Nat) (s : State) (hlt : s.pace.level < top) (hfuel : top ≤ s.pace.level + n) :
    ∃ w k, AtLevel s w k ∧ s.pace.level ≤ k ∧ k < top ∧ shedOne n top s = shedTo w ∧
      (∀ l, s.pace.level < l → l ≤ k → hasWork s l = false) ∧ (hasWork s (k + 1) = true ∨ k + 1 = top) := by
  induction n generalizing s with
  | zero => omega
  | succ n ih =>
    have hstep : shedOne (n + 1) top s =
        if hasWork s (s.pace.level + 1) then shedTo s else shedOne n top (shedTo s) := by
      rw [shedOne, if_neg (by omega)]; rfl
    rw [hstep]
    cases hwork : hasWork s (s.pace.level + 1) with
    | true => exact ⟨s, s.pace.level, ⟨_, rfl⟩, le_rfl, hlt, if_pos rfl, fun l h1 h2 => by omega, .inl hwork⟩
    | false =>
      rw [if_neg Bool.false_ne_true, shedTo_of_idle hwork]
      by_cases htop : s.pace.level + 1 = top
      · refine ⟨s, s.pace.level, ⟨_, rfl⟩, le_rfl, hlt, ?_, fun l h1 h2 => by omega, .inr htop⟩
        rw [shedTo_of_idle hwork]
        cases n with
        | zero => rfl
        | succ n => rw [shedOne, if_pos (by rw [← htop]; exact le_rfl)]
      · have hlevel : (oneUp s).pace.level = s.pace.level + 1 := rfl
        obtain ⟨w, k, ⟨a, ha⟩, h1, h2, h3, h4, h5⟩ := ih (oneUp s) (by omega) (by omega)
        refine ⟨w, k, ⟨a, ha⟩, by omega, h2, h3, fun l hl hk => ?_, h5⟩
        by_cases e : l = s.pace.level + 1
        · exact e ▸ hwork
        · exact h4 l (by omega) hk

theorem sheds_shedAll (n top : Nat) (s : State) : Sheds s (shedAll n top s) := by
  induction n generalizing s with
  | zero => exact .refl s
  | succ n ih =>
    rw [shedAll]
    split
    · exact .refl s
    · exact (sheds_shedTo s).trans (ih _)

theorem shedAll_level (n top : Nat) (s : State) (hle : s.pace.level ≤ top) (hfuel : top ≤ s.pace.level + n) :
    (shedAll n top s).pace.level = top := by
  induction n generalizing s with
  | zero => exact le_antisymm hle hfuel
  | succ n ih =>
    rw [shedAll]
    split
    · omega
    · exact ih _ (by rw [shedTo_level]; omega) (by rw [shedTo_level]; omega)

/-! ### Relapse windows (spec/02 R58) -/

theorem closeWindows_eq (s : State) : closeWindows s = { s with pace := { s.pace with
    restores := windowsOpen s (dtcNow s), backoff := backoffAt s (dtcNow s) } } := by
  have hopen : (fun r : Nat × Nat × Bool => !decide (r.2.1 + relapseWin s ≤ dtcNow s)) =
      fun r => decide (dtcNow s < r.2.1 + paceNum s pPwrRelapseWin * 16368) := by
    funext r
    rw [← decide_not, decide_eq_decide, not_le]
    rfl
  unfold closeWindows
  dsimp only
  rw [hopen]
  rfl

/-- The restores, inside their windows, of levels above `old` that are shed again. -/
def relapses (s : State) (old : Nat) : Nat :=
  ((windowsOpen s (dtcNow s)).filter (fun r => decide (old < r.1 ∧ r.1 ≤ s.pace.level))).length

/-- b after a shed step from level `old`. -/
def backoffAfter (s : State) (old : Nat) : Nat :=
  if relapses s old = 0 then backoffAt s (dtcNow s)
  else min (backoffAt s (dtcNow s) + relapses s old) (paceNum s pPwrBackoffMax)

theorem relapse_closeWindows_eq (s : State) (old : Nat) : ∃ l, relapse (closeWindows s) old =
    { s with pace := { s.pace with restores := l, backoff := backoffAfter s old } } := by
  rw [closeWindows_eq]
  unfold relapse backoffAfter relapses
  dsimp only
  split
  · exact ⟨_, rfl⟩
  · exact ⟨_, rfl⟩

theorem afterShed_eq (s : State) (old : Nat) : ∃ l, afterShed s old =
    (let u := { s with pace := { s.pace with restores := l, backoff := backoffAfter s old, hiRun := 0, quietRun := 0 } }
     if old = 0 ∧ s.pace.level ≠ 0 then notePace u 0 else u) := by
  obtain ⟨l, hl⟩ := relapse_closeWindows_eq s old
  exact ⟨l, by unfold afterShed; rw [hl]⟩

/-! ### What the Pace Monitor's actions leave alone -/

/-- What the Pace Monitor changes in raising or lowering the level. -/
structure PaceActs (s t : State) : Prop where
  frame : onlyIn [.pace, .pans, .params, .slu, .acq, .integ] s t = true
  pars : ParsKept [pNtcCoalPend] s t
  ntc : s.slu.ntc <+: t.slu.ntc
  gapNow : t.pace.gapNow = s.pace.gapNow
  atCeil : t.pace.atCeil = s.pace.atCeil

theorem PaceActs.refl (s : State) : PaceActs s s := ⟨onlyIn_refl _ s, .of_params rfl _, List.prefix_rfl, rfl, rfl⟩

theorem PaceActs.trans {s t u : State} (h : PaceActs s t) (k : PaceActs t u) : PaceActs s u where
  frame := onlyIn_trans h.frame k.frame
  pars := h.pars.trans k.pars
  ntc := h.ntc.trans k.ntc
  gapNow := k.gapNow.trans h.gapNow
  atCeil := k.atCeil.trans h.atCeil

/-- An action on other parts than the parameters and NTC. -/
theorem PaceActs.of_onlyIn {s t : State} (h : onlyIn [.pace, .pans, .acq, .integ] s t = true)
    (hgap : t.pace.gapNow = s.pace.gapNow) (hceil : t.pace.atCeil = s.pace.atCeil) : PaceActs s t where
  frame := onlyIn_mono h (by simp)
  pars := .of_params (eq_of_beq (agree_of_onlyIn h .params (by decide))) _
  ntc := by
    have : t.slu = s.slu := eq_of_beq (agree_of_onlyIn h .slu (by decide))
    rw [this]
  gapNow := hgap
  atCeil := hceil

theorem Sheds.acts {s t : State} (h : Sheds s t) : PaceActs s t := by
  obtain ⟨l, n, o, hp⟩ := h.pace
  exact .of_onlyIn (onlyIn_mono h.frame (by simp)) (by rw [hp]) (by rw [hp])

theorem paceActs_notePace (s : State) (e : Nat) : PaceActs s (notePace s e) := by
  have h := notifies_postImm s 3 (s.pace.level + 64 * e)
  have hpace : (notePace s e).pace = s.pace := eq_of_beq (agree_of_onlyIn h.frame .pace (by decide))
  exact ⟨onlyIn_mono h.frame (by simp), h.pars, h.ntc, by rw [hpace], by rw [hpace]⟩

theorem notePace_pace (s : State) (e : Nat) : (notePace s e).pace = s.pace :=
  eq_of_beq (agree_of_onlyIn (notifies_postImm s 3 _).frame .pace (by decide))

theorem notePace_acq (s : State) (e : Nat) : (notePace s e).acq = s.acq :=
  eq_of_beq (agree_of_onlyIn (notifies_postImm s 3 _).frame .acq (by decide))

theorem notePace_pans (s : State) (e : Nat) : (notePace s e).pans = s.pans :=
  eq_of_beq (agree_of_onlyIn (notifies_postImm s 3 _).frame .pans (by decide))

/-- What follows a shed step: runs and windows, and a notice. -/
structure AfterShed (s t : State) (old : Nat) : Prop where
  acts : PaceActs s t
  pace : ∃ l, t.pace = { s.pace with restores := l, backoff := backoffAfter s old, hiRun := 0, quietRun := 0 }
  acq : t.acq = s.acq
  pans : t.pans = s.pans
  told : old = 0 → s.pace.level ≠ 0 → s.pwr.coreUp = true → s.slu.ntc.length < 496 →
      immWord 3 s.pace.level ∈ t.slu.ntc

theorem afterShed_spec (s : State) (old : Nat) : AfterShed s (afterShed s old) old := by
  obtain ⟨l, hl⟩ := afterShed_eq s old
  rw [hl]
  dsimp only
  generalize hu : { s with pace := { s.pace with
    restores := l, backoff := backoffAfter s old, hiRun := 0, quietRun := 0 } } = u
  have hacts : PaceActs s u := hu ▸ .of_onlyIn (onlyIn_mono (onlyIn_pace s _) (by simp)) rfl rfl
  have hpace : u.pace = { s.pace with restores := l, backoff := backoffAfter s old, hiRun := 0, quietRun := 0 } := hu ▸ rfl
  split
  · refine ⟨hacts.trans (paceActs_notePace u 0), ⟨l, by rw [notePace_pace, hpace]⟩, ?_, ?_, fun _ _ up room => ?_⟩
    · rw [notePace_acq, ← hu]
    · rw [notePace_pans, ← hu]
    · have hnote : notePace u 0 = postImm u 3 s.pace.level := by unfold notePace; rw [hpace]; rfl
      rw [hnote]
      exact immWord_mem_postImm (by rw [← hu]; exact up) (by rw [← hu]; exact room) _ _
  · next hno => exact ⟨hacts, ⟨l, hpace⟩, by rw [← hu], by rw [← hu], fun h0 h1 => absurd ⟨h0, h1⟩ hno⟩

/-! ### A shed step (spec/02 R51) -/

theorem paceActs_addShed (s : State) (n : Nat) : PaceActs s (addShed s n) :=
  .of_onlyIn (onlyIn_mono (onlyIn_pace s _) (by simp)) rfl rfl

theorem toNat_shedCnt (n : Nat) : (BitVec.ofNat 16 (min 65535 n)).toNat = min 65535 n := by
  rw [BitVec.toNat_ofNat]; omega

/-! ### The move to the exhausted level (spec/02 R55) -/

theorem onlyIn_dropDwell (s : State) : onlyIn [.acq] s (dropDwell s) = true := by
  unfold dropDwell
  split
  · split
    · exact onlyIn_refl _ s
    · exact onlyIn_acq s _
  · exact onlyIn_refl _ s

/-- The dwell epoch in progress, if there is one, is abandoned. -/
theorem dropDwell_cell {s : State} {c : Cell} (h : s.acq.cell = some c) :
    (dropDwell s).acq.cell = some { c with run := none } := by
  unfold dropDwell
  rw [h]
  dsimp only
  split
  · next hrun => rw [h, ← hrun]
  · rfl

/-- The move to the exhausted level. -/
structure Jumps (s t : State) : Prop where
  acts : PaceActs s t
  level : t.pace.level = lastLevel s
  jump : t.pace.jump = true
  shedCnt : t.pace.shedCnt.toNat = min 65535 (s.pace.shedCnt.toNat + (lastLevel s - s.pace.level))
  cell : ∀ c, s.acq.cell = some c → t.acq.cell = some { c with run := none }

theorem jumpShed_spec {s : State} (h : s.pace.level < lastLevel s) : Jumps s (jumpShed s) := by
  obtain ⟨v, hv⟩ : ∃ v, v = shedAll (exhausted s) (exhausted s) s := ⟨_, rfl⟩
  have hsheds : Sheds s v := hv ▸ sheds_shedAll _ _ s
  have hlevel : v.pace.level = lastLevel s := hv ▸ shedAll_level _ _ s h.le (Nat.le_add_left _ _)
  have hacq : v.acq = s.acq := eq_of_beq (agree_of_onlyIn hsheds.frame .acq (by decide))
  have hdrop := onlyIn_dropDwell v
  have hpace : (dropDwell v).pace = v.pace := eq_of_beq (agree_of_onlyIn hdrop .pace (by decide))
  obtain ⟨w, hw⟩ : ∃ w, w = addShed { dropDwell v with pace := { (dropDwell v).pace with jump := true } }
    ((dropDwell v).pace.level - s.pace.level) := ⟨_, rfl⟩
  have hjump : jumpShed s = afterShed w s.pace.level := by rw [hw, hv]; rfl
  have hcnt : v.pace.shedCnt = s.pace.shedCnt := by
    obtain ⟨l, n, o, hp⟩ := hsheds.pace
    rw [hp]
  have hwpace : w.pace = { v.pace with jump := true, shedCnt := BitVec.ofNat 16 (min 65535
      (s.pace.shedCnt.toNat + (lastLevel s - s.pace.level))) } := by
    rw [hw, ← hlevel, ← hcnt, ← hpace]; rfl
  have hdropActs : PaceActs v (dropDwell v) := .of_onlyIn (onlyIn_mono hdrop (by simp)) (by rw [hpace]) (by rw [hpace])
  have hactsW : PaceActs (dropDwell v) w := hw ▸ .of_onlyIn (onlyIn_mono (onlyIn_pace _ _) (by simp)) rfl rfl
  obtain ⟨hafter, ⟨l, hl⟩, hacqW, -, -⟩ := afterShed_spec w s.pace.level
  rw [hjump]
  refine ⟨((hsheds.acts.trans hdropActs).trans hactsW).trans hafter, ?_, ?_, ?_, fun c hc => ?_⟩
  · rw [hl, hwpace]; exact hlevel
  · rw [hl, hwpace]
  · rw [hl, hwpace]; exact toNat_shedCnt _
  · rw [hacqW, hw]; exact dropDwell_cell (hacq ▸ hc)

/-- The jump is looked for at every sample admitted. -/
theorem jumpCheck_eq (s : State) : jumpCheck s =
    if pacing s && decide (paceNum s pPwrShedJump ≤ s.samp.fifo.length ∧ s.pace.level < lastLevel s) then jumpShed s else s := by
  unfold jumpCheck
  refine if_congr ?_ rfl rfl
  rw [Bool.and_eq_true, decide_eq_true_eq]
  rfl

end Sys2Proof.Proofs
end

section
/-! PROOFS. The end of a pace period (spec/02 R47-R58, spec/03 R70-R72): what the SCLK checks change, the Brine fill, the voltage
command, and the restore of a step. -/

namespace Sys2Proof.Proofs

open Sys2Proof Sys2Proof.Machine Sys2Proof.Spec

/-! ### SCLK (spec/03 R70-R72) -/

/-- What the SCLK checks of a pace period change. -/
structure Senses (s t : State) : Prop where
  frame : onlyIn [.samp, .pace, .params, .slu] s t = true
  pars : ParsKept [pSmpSclkFltCnt, pSmpSlipCnt, pNtcCoalPend] s t
  ntc : s.slu.ntc <+: t.slu.ntc
  pace : t.pace = { s.pace with gapNow := t.pace.gapNow }
  fifo : t.samp.fifo = s.samp.fifo
  unread : t.samp.unread = s.samp.unread

theorem Senses.refl (s : State) : Senses s s := ⟨onlyIn_refl _ s, .of_params rfl _, List.prefix_rfl, rfl, rfl, rfl⟩

theorem Senses.trans {s t u : State} (h : Senses s t) (k : Senses t u) : Senses s u where
  frame := onlyIn_trans h.frame k.frame
  pars := h.pars.trans k.pars
  ntc := h.ntc.trans k.ntc
  pace := k.pace.trans (by rw [h.pace])
  fifo := k.fifo.trans h.fifo
  unread := k.unread.trans h.unread

theorem sclkBad_eq (s : State) (n : Nat) : sclkBad s n = !edgesRight s n := by
  unfold sclkBad edgesRight
  dsimp only
  rw [← decide_not, decide_eq_decide]
  split <;> omega

/-- The machine in which an SCLK fault is declared, but for the notice. -/
def faultMarked (s : State) : State := { s.bumpPar pSmpSclkFltCnt with samp := sclkDown s }

theorem sclkFault_eq (s : State) : sclkFault s = postImm (faultMarked s) 4 0 := rfl

theorem sclkFault_of_room {s : State} (up : s.pwr.coreUp = true) (room : s.slu.ntc.length < 496) :
    sclkFault s = sclkDeclared s := (postImm_of_room (s := faultMarked s) up room 4 0).trans rfl

theorem sclkFault_samp (s : State) : (sclkFault s).samp = sclkDown s :=
  eq_of_beq (agree_of_onlyIn (notifies_postImm (faultMarked s) 4 0).frame .samp (by decide))

theorem senses_sclkFault (s : State) : Senses s (sclkFault s) := by
  have hnote := notifies_postImm (faultMarked s) 4 0
  have hpace : (postImm (faultMarked s) 4 0).pace = s.pace := eq_of_beq (agree_of_onlyIn hnote.frame .pace (by decide))
  have hmark : onlyIn [.samp, .pace, .params, .slu] s (faultMarked s) = true :=
    onlyIn_trans (t := s.bumpPar pSmpSclkFltCnt) (onlyIn_mono (onlyIn_params s _) (by simp))
      (onlyIn_mono (onlyIn_samp _ _) (by simp))
  have hpars : ParsKept [pSmpSclkFltCnt, pSmpSlipCnt, pNtcCoalPend] s (faultMarked s) :=
    ((parsKept_bumpPar s pSmpSclkFltCnt).mono (by simp)).trans (.of_params rfl _)
  rw [sclkFault_eq]
  refine ⟨onlyIn_trans hmark (onlyIn_mono hnote.frame (by simp)), hpars.trans (hnote.pars.mono (by simp)), hnote.ntc,
    by rw [hpace], ?_, ?_⟩ <;> rw [← sclkFault_eq, sclkFault_samp] <;> rfl

section
variable {s : State} {n : Nat}

theorem checkSclk_of_dead (h : s.samp.live = false) : checkSclk s n = s := by simp [checkSclk, h]

theorem checkSclk_of_wrong (h : s.samp.live = true) (he : edgesRight s n = false) (hf : s.samp.faulted = false) :
    checkSclk s n = sclkFault s := by simp [checkSclk, h, sclkBad_eq, he, hf]

theorem checkSclk_of_faulted (h : s.samp.live = true) (hf : s.samp.faulted = true) : checkSclk s n =
    { s with samp := { s.samp with goodRun := if edgesRight s n then s.samp.goodRun + 1 else 0 } } := by
  cases he : edgesRight s n <;> simp [checkSclk, h, sclkBad_eq, he, hf]

theorem checkSclk_of_right (h : s.samp.live = true) (he : edgesRight s n = true) (hf : s.samp.faulted = false) :
    checkSclk s n = s := by simp [checkSclk, h, sclkBad_eq, he, hf]

end

theorem senses_checkSclk (s : State) (n : Nat) : Senses s (checkSclk s n) := by
  cases hl : s.samp.live with
  | false => rw [checkSclk_of_dead hl]; exact .refl s
  | true =>
    cases hf : s.samp.faulted with
    | true =>
      rw [checkSclk_of_faulted hl hf]
      exact ⟨onlyIn_mono (onlyIn_samp s _) (by simp), .of_params rfl _, List.prefix_rfl, rfl, rfl, rfl⟩
    | false =>
      cases he : edgesRight s n with
      | true => rw [checkSclk_of_right hl he hf]; exact .refl s
      | false => rw [checkSclk_of_wrong hl he hf]; exact senses_sclkFault s

theorem length_ntc_checkSclk (s : State) (n : Nat) : (checkSclk s n).slu.ntc.length ≤ s.slu.ntc.length + 1 := by
  cases hl : s.samp.live with
  | false => rw [checkSclk_of_dead hl]; exact Nat.le_succ _
  | true =>
    cases hf : s.samp.faulted with
    | true => rw [checkSclk_of_faulted hl hf]; exact Nat.le_succ _
    | false =>
      cases he : edgesRight s n with
      | true => rw [checkSclk_of_right hl he hf]; exact Nat.le_succ _
      | false => rw [checkSclk_of_wrong hl he hf]; exact (notifies_postImm (faultMarked s) 4 0).length

/-! ### Phase captures (spec/03 R70, R72) -/

/-- A capture in 1/64 tick, less its path's trim. -/
def captured (s : State) (c : Int) : Int := 64 * c - divNearest (trimPs s 13 * 67043328) 1000000000

/-- How far a capture lies from the stored phase, within half an SCLK period to either side. -/
def phaseOff (s : State) (c : Int) : Int :=
  (captured s c - s.samp.phase64 + 32 * sclkPeriod s) % (64 * sclkPeriod s) - 32 * sclkPeriod s

theorem phaseOff_eq {s : State} {c d : Int} (hd : (captured s c - s.samp.phase64 - d) % (64 * sclkPeriod s) = 0)
    (hlo : -(32 * sclkPeriod s) ≤ d) (hhi : d < 32 * sclkPeriod s) : phaseOff s c = d := by
  have hper : sclkPeriod s = 64 ∨ sclkPeriod s = 128 := by unfold sclkPeriod; split <;> simp
  unfold phaseOff
  rcases hper with h | h <;> rw [h] at hd hlo hhi ⊢ <;> omega

theorem capturePhase_of_mean {s : State} (h : s.samp.phaseN < 16) (c : Int) : capturePhase s c =
    { s with samp := { s.samp with phase64 := s.samp.phase64 + captured s c / 16, phaseN := s.samp.phaseN + 1 } } :=
  if_pos h

theorem capturePhase_of_full {s : State} (h : 16 ≤ s.samp.phaseN) (c : Int) : capturePhase s c =
    if s.par pSmpSclkPhTol * 64 < ((phaseOff s c).natAbs : Int) then
      { s.bumpPar pSmpSlipCnt with
        samp := { s.samp with phase64 := captured s c, slip := true }, pace := { s.pace with gapNow := true } }
    else { s with samp := { s.samp with phase64 := s.samp.phase64 + phaseOff s c / 64 } } := by
  have hoff : (captured s c - s.samp.phase64 + (if s.par pSmpMode = 1 then 4096 else 8192) / 2) %
      (if s.par pSmpMode = 1 then 4096 else 8192) - (if s.par pSmpMode = 1 then 4096 else 8192) / 2 = phaseOff s c := by
    unfold phaseOff sclkPeriod
    split <;> rfl
  rw [← hoff]
  exact if_neg (not_lt.mpr h)

theorem senses_capturePhase (s : State) (c : Int) : Senses s (capturePhase s c) := by
  by_cases h : s.samp.phaseN < 16
  · rw [capturePhase_of_mean h]
    exact ⟨onlyIn_mono (onlyIn_samp s _) (by simp), .of_params rfl _, List.prefix_rfl, rfl, rfl, rfl⟩
  · rw [capturePhase_of_full (not_lt.mp h)]
    split
    · refine ⟨?_, ((parsKept_bumpPar s pSmpSlipCnt).mono (by simp)).trans (.of_params rfl _), List.prefix_rfl, rfl, rfl, rfl⟩
      simp [onlyIn, allParts, agree]
    · exact ⟨onlyIn_mono (onlyIn_samp s _) (by simp), .of_params rfl _, List.prefix_rfl, rfl, rfl, rfl⟩

theorem capturePhase_slu (s : State) (c : Int) : (capturePhase s c).slu = s.slu := by
  by_cases h : s.samp.phaseN < 16
  · rw [capturePhase_of_mean h]
  · rw [capturePhase_of_full (not_lt.mp h)]; split <;> rfl

theorem capturePhase_fault (s : State) (c : Int) :
    (capturePhase s c).samp.faulted = s.samp.faulted ∧ (capturePhase s c).samp.goodRun = s.samp.goodRun := by
  by_cases h : s.samp.phaseN < 16
  · rw [capturePhase_of_mean h]; exact ⟨rfl, rfl⟩
  · rw [capturePhase_of_full (not_lt.mp h)]; split <;> exact ⟨rfl, rfl⟩

/-- The machine when the period is over and SCLK has been checked. -/
def sensed (s : State) (o : SclkObs) : State :=
  let u := checkSclk (carryDtc s (paceEnd s)) o.edges
  match o.capture with
  | some c => if u.samp.admitting then capturePhase u c else u
  | none => u

theorem exec_pacePeriodEnd_of_pacing {s : State} (h : pacing s = true) (o : SclkObs) :
    exec (.pacePeriodEnd o) s = .next (pacePeriod (sensed s o)) := if_pos h

theorem exec_pacePeriodEnd_of_not_pacing {s : State} (h : pacing s = false) (o : SclkObs) :
    exec (.pacePeriodEnd o) s = .next s := if_neg (fun k => Bool.false_ne_true (h.symm.trans k))

/-- Nothing more than the checks follows without a capture that counts. -/
theorem sensed_of_none {s : State} {o : SclkObs}
    (h : o.capture = none ∨ (checkSclk (carryDtc s (paceEnd s)) o.edges).samp.admitting = false) :
    sensed s o = checkSclk (carryDtc s (paceEnd s)) o.edges := by
  unfold sensed
  dsimp only
  split
  · next c hc =>
    rcases h with h | h
    · exact absurd (hc.symm.trans h) (Option.some_ne_none c)
    · exact if_neg (by simp [h])
  · rfl

theorem sensed_of_some {s : State} {o : SclkObs} {c : Int} (hc : o.capture = some c)
    (h : (checkSclk (carryDtc s (paceEnd s)) o.edges).samp.admitting = true) :
    sensed s o = capturePhase (checkSclk (carryDtc s (paceEnd s)) o.edges) c := by
  unfold sensed
  rw [hc]
  exact if_pos h

/-- A capture leaves the fault and its run of correct periods. -/
theorem sensed_fault (s : State) (o : SclkObs) :
    (sensed s o).samp.faulted = (checkSclk (carryDtc s (paceEnd s)) o.edges).samp.faulted ∧
    (sensed s o).samp.goodRun = (checkSclk (carryDtc s (paceEnd s)) o.edges).samp.goodRun := by
  unfold sensed
  dsimp only
  split
  · split
    · exact capturePhase_fault _ _
    · exact ⟨rfl, rfl⟩
  · exact ⟨rfl, rfl⟩

theorem senses_sensed (s : State) (o : SclkObs) : Senses (carryDtc s (paceEnd s)) (sensed s o) := by
  unfold sensed
  dsimp only
  split
  · split
    · exact (senses_checkSclk _ _).trans (senses_capturePhase _ _)
    · exact senses_checkSclk _ _
  · exact senses_checkSclk _ _

theorem length_ntc_sensed (s : State) (o : SclkObs) : (sensed s o).slu.ntc.length ≤ s.slu.ntc.length + 1 := by
  have hslu : (sensed s o).slu = (checkSclk (carryDtc s (paceEnd s)) o.edges).slu := by
    unfold sensed
    dsimp only
    split
    · split
      · exact capturePhase_slu _ _
      · rfl
    · rfl
  have hcarry : (carryDtc s (paceEnd s)).slu = s.slu := by rw [carryDtc_eq]
  rw [hslu, ← hcarry]
  exact length_ntc_checkSclk _ _

theorem dtcNow_carryDtc_paceEnd {s : State} (h : pacing s = true) : dtcNow (carryDtc s (paceEnd s)) = paceEnd s := by
  simp only [pacing, Bool.and_eq_true] at h
  exact dtcNow_carryDtc h.1.1 (by unfold paceEnd; omega)

/-! ### The Brine fill (spec/03 R75) -/

/-- What each consumer has still to read, after `f`. -/
def unreadOf (s : State) (f : Nat → Nat → Nat) : Vector Nat 5 :=
  Vector.ofFn (fun i : Fin 5 => if consumes s i.val then f i.val (s.samp.unread.get i) else 0)

/-- The entries of Brine that a consumer has still to read, after `f`. -/
def kept (s : State) (f : Nat → Nat → Nat) : Nat := (unreadOf s f).toList.foldl max 0

theorem unreadOf_get (s : State) (f : Nat → Nat → Nat) (i : Fin 5) :
    (unreadOf s f).get i = if readsBrine s i.val then f i.val (s.samp.unread.get i) else 0 := by
  simp [unreadOf, readsBrine_eq_consumes, Vector.get]
  rfl

theorem unreadOf_le_kept (s : State) (f : Nat → Nat → Nat) (i : Fin 5) : (unreadOf s f).get i ≤ kept s f :=
  (foldl_max_zero_bounds _).1 _ (by simp [Vector.get])

theorem kept_eq_zero_or_unreadOf (s : State) (f : Nat → Nat → Nat) :
    kept s f = 0 ∨ ∃ i, (unreadOf s f).get i = kept s f := by
  refine or_iff_not_imp_left.mpr fun h => ?_
  obtain ⟨i, hi, he⟩ := List.mem_iff_getElem.mp ((foldl_max_zero_bounds _).2 h)
  exact ⟨⟨i, by simpa using hi⟩, by simpa [Vector.get, kept] using he⟩

theorem releaseBrine_setUnread_eq (s : State) (f : Nat → Nat → Nat) : releaseBrine (setUnread s f) =
    { s with samp := { s.samp with unread := unreadOf s f, fifo := s.samp.fifo.drop (s.samp.fifo.length - kept s f) } } := rfl

/-- The statement's fill is what release leaves in Brine. -/
theorem fill_eq (s : State) : fill s = min s.samp.fifo.length (kept s (fun _ n => n)) := by
  have hlist : (List.finRange 5).map (fun i => if readsBrine s i.val then s.samp.unread.get i else 0) =
      (unreadOf s (fun _ n => n)).toList := by
    unfold unreadOf
    rw [Vector.toList_ofFn, List.ofFn_eq_map]
    rfl
  unfold fill kept
  rw [hlist]

theorem unreadOf_congr {s t : State} (hacq : t.acq = s.acq) (hpans : t.pans = s.pans) (hunread : t.samp.unread = s.samp.unread)
    (f : Nat → Nat → Nat) : unreadOf t f = unreadOf s f := by
  unfold unreadOf consumes; rw [hacq, hpans, hunread]

theorem length_drop_fill (s : State) :
    (s.samp.fifo.drop (s.samp.fifo.length - fill s)).length = fill s := by
  rw [List.length_drop, fill_eq]; omega

/-- The machine with Brine released and the relapse windows brought up to date. -/
def settled (s : State) : State := closeWindows (releaseBrine (setUnread s (fun _ n => n)))

theorem settled_eq (s : State) : settled s = { s with
    samp := { s.samp with unread := unreadOf s (fun _ n => n), fifo := s.samp.fifo.drop (s.samp.fifo.length - fill s) }
    pace := { s.pace with restores := windowsOpen s (dtcNow s), backoff := backoffAt s (dtcNow s) } } := by
  have hdrop : s.samp.fifo.length - kept s (fun _ n => n) = s.samp.fifo.length - fill s := by rw [fill_eq]; omega
  unfold settled
  rw [closeWindows_eq, releaseBrine_setUnread_eq, hdrop]
  rfl

/-! ### The voltage command (spec/02 R48-R50) -/

theorem onlyIn_cmdVcore (s : State) (n : Int) : onlyIn [.vreg] s (cmdVcore s n) = true := by
  unfold cmdVcore
  dsimp only
  split_ifs
  · exact onlyIn_vreg s _
  · exact onlyIn_vreg s _
  · exact onlyIn_refl _ s

theorem cmdVcore_target {s : State} (up : s.pwr.coreUp = true) (soft : s.vreg.softst = false) (n : Int) :
    (cmdVcore s n).vreg.target = clipCode s n := by
  simp [cmdVcore, up, soft]

/-- A pace command but for the regulator's own part. -/
def clipCounted (s : State) (d : Int) : State :=
  { s with
    pace := { s.pace with atCeil := decide ((clipCode s (s.vreg.target + d) : Int) = s.par pVregCeil) }
    vreg := if (clipCode s (s.vreg.target + d) : Int) = s.vreg.target + d then s.vreg
      else { s.vreg with clipCnt := satIncBv s.vreg.clipCnt } }

theorem paceCmd_eq (s : State) (d : Int) : paceCmd s d = cmdVcore (clipCounted s d) (s.vreg.target + d) := by
  unfold paceCmd clipCounted
  dsimp only
  split <;> rfl

theorem onlyIn_paceCmd (s : State) (d : Int) : onlyIn [.pace, .vreg] s (paceCmd s d) = true := by
  rw [paceCmd_eq]
  refine onlyIn_trans (t := clipCounted s d) ?_ (onlyIn_mono (onlyIn_cmdVcore _ _) (by simp))
  simp [clipCounted, onlyIn, allParts, agree]

theorem paceCmd_pace (s : State) (d : Int) : (paceCmd s d).pace =
    { s.pace with atCeil := decide ((clipCode s (s.vreg.target + d) : Int) = s.par pVregCeil) } := by
  rw [paceCmd_eq]
  exact eq_of_beq (agree_of_onlyIn (onlyIn_cmdVcore (clipCounted s d) _) .pace (by decide))

theorem paceCmd_target {s : State} (up : s.pwr.coreUp = true) (soft : s.vreg.softst = false) (d : Int) :
    (paceCmd s d).vreg.target = clipCode s (s.vreg.target + d) := by
  have hsoft : (clipCounted s d).vreg.softst = false := by
    unfold clipCounted; dsimp only; split <;> exact soft
  rw [paceCmd_eq, cmdVcore_target (s := clipCounted s d) up hsoft]
  rfl

/-- What the voltage command of a pace period changes. -/
structure Commands (s t : State) : Prop where
  frame : onlyIn [.pace, .vreg] s t = true
  pace : t.pace = { s.pace with lowRun := t.pace.lowRun, atCeil := t.pace.atCeil }

/-- The low periods up to this one. -/
def lowCount (s : State) (n : Nat) : Nat := if n ≤ paceNum s pPwrPaceLo then s.pace.lowRun + 1 else 0

/-- The step down is due at fill `n`. -/
def downDue (s : State) (n : Nat) : Bool :=
  decide (n < paceNum s pPwrPaceHi) && decide (paceNum s pPwrPaceDnHold ≤ lowCount s n)

/-- The machine with its low periods counted. -/
def lowCounted (s : State) (n : Nat) : State :=
  { s with pace := { s.pace with lowRun := if downDue s n then 0 else lowCount s n } }

theorem paceCommand_eq (s : State) (n : Nat) : paceCommand s n =
    if paceVal s pPwrPaceEn = 0 then lowCounted s n
    else if paceNum s pPwrPaceHi ≤ n then paceCmd (lowCounted s n) (paceVal s pPwrPaceStep)
    else if downDue s n then paceCmd (lowCounted s n) (-(paceVal s pPwrPaceStep))
    else lowCounted s n := by
  have hen : (¬ paceEn (lowCounted s n) = true) ↔ paceVal s pPwrPaceEn = 0 := by
    show (¬ (paceVal s pPwrPaceEn != 0) = true) ↔ _
    simp
  show (if ¬ paceEn (lowCounted s n) = true then lowCounted s n else _) = _
  exact if_congr hen rfl rfl

theorem commands_paceCmd (s : State) (n : Nat) (d : Int) : Commands s (paceCmd (lowCounted s n) d) where
  frame := onlyIn_trans (t := lowCounted s n) (onlyIn_mono (onlyIn_pace s _) (by simp)) (onlyIn_paceCmd _ d)
  pace := by rw [paceCmd_pace]; rfl

theorem commands_paceCommand (s : State) (n : Nat) : Commands s (paceCommand s n) := by
  have hlow : Commands s (lowCounted s n) := ⟨onlyIn_mono (onlyIn_pace s _) (by simp), rfl⟩
  rw [paceCommand_eq]
  split_ifs
  · exact hlow
  · exact commands_paceCmd s n _
  · exact commands_paceCmd s n _
  · exact hlow

/-! ### The restore of a step (spec/02 R57) -/

theorem onlyIn_restorePan (s : State) : onlyIn [.pace, .pans] s (restorePan s) = true := by
  unfold restorePan
  split
  · exact onlyIn_refl _ s
  · exact onlyIn_trans (onlyIn_mono (onlyIn_pace s _) (by simp)) (onlyIn_mono (onlyIn_modPan _ _ _) (by simp))

theorem restorePan_pace (s : State) : (restorePan s).pace = { s.pace with suspOrder := s.pace.suspOrder.tail } := by
  unfold restorePan
  split
  · next h => rw [h, List.tail_nil, ← h]
  · next p ps h => rw [modPan_eq, h]; rfl

/-- A pan that a restore brings back at the present DTC count. -/
def backAt (s : State) (x : Pan) : Pan :=
  { advancePan s x (dtcNow s) with susp := false, phase := .pull, since := dtcNow s }

theorem panAt_restorePan {s : State} {p : Nat} {ps : List Nat} (h : s.pace.suspOrder = p :: ps) (q : Nat) :
    panAt (restorePan s) q = if p = q then (panAt s q).map (backAt s) else panAt s q := by
  unfold restorePan
  rw [h]
  exact panAt_modPan { s with pace := { s.pace with suspOrder := ps } } p q _

theorem onlyIn_restoreAll (n : Nat) (s : State) : onlyIn [.pace, .pans] s (restoreAll n s) = true := by
  induction n generalizing s with
  | zero => exact onlyIn_refl _ s
  | succ n ih =>
    rw [restoreAll]
    split
    · exact onlyIn_refl _ s
    · exact onlyIn_trans (onlyIn_restorePan s) (ih _)

theorem restoreAll_pace (n : Nat) (s : State) :
    (restoreAll n s).pace = { s.pace with suspOrder := s.pace.suspOrder.drop n } := by
  induction n generalizing s with
  | zero => rfl
  | succ n ih =>
    rw [restoreAll]
    split
    · next h => rw [h, List.drop_nil, ← h]
    · rw [ih, restorePan_pace, List.drop_tail]

/-- A pan's NCOs run on at rates that only the sample rate decides. -/
theorem advancePan_congr {s t : State} (h : t.par pSmpMode = s.par pSmpMode) (x : Pan) (n : Nat) :
    advancePan t x n = advancePan s x n := by unfold advancePan sampleHz; rw [h]

theorem backAt_congr {s t : State} (hpar : t.par pSmpMode = s.par pSmpMode) (htime : t.time = s.time) : backAt t = backAt s := by
  funext x; unfold backAt; rw [dtcNow_congr htime, advancePan_congr hpar]

theorem panAt_restoreAll (n : Nat) (s : State) (hn : s.pace.suspOrder.length ≤ n) (hd : s.pace.suspOrder.Nodup) (q : Nat) :
    panAt (restoreAll n s) q = if q ∈ s.pace.suspOrder then (panAt s q).map (backAt s) else panAt s q := by
  induction n generalizing s with
  | zero =>
    have : s.pace.suspOrder = [] := List.length_eq_zero_iff.mp (Nat.le_zero.mp hn)
    simp [this, restoreAll]
  | succ n ih =>
    rw [restoreAll]
    split
    · next h => simp [h]
    · next hne =>
      obtain ⟨p, ps, h⟩ := List.exists_cons_of_ne_nil hne
      rw [h] at hn hd
      obtain ⟨hp, hps⟩ := List.nodup_cons.mp hd
      have hframe := onlyIn_restorePan s
      have horder : (restorePan s).pace.suspOrder = ps := by rw [restorePan_pace, h]; rfl
      have hback : backAt (restorePan s) = backAt s :=
        backAt_congr (State.par_congr (eq_of_beq (agree_of_onlyIn hframe .params (by decide))) _)
          (eq_of_beq (agree_of_onlyIn hframe .time (by decide)))
      rw [ih (restorePan s) (by rw [horder]; exact Nat.le_of_succ_le_succ hn) (horder ▸ hps), horder, hback,
        panAt_restorePan h, h]
      by_cases hpq : p = q
      · subst hpq; simp [hp]
      · simp [hpq, Ne.symm hpq]

/-- The machine with its suspended pans back, as the level asks for. -/
def pansBack (s : State) : State :=
  if s.pace.level = 5 then restoreAll 32 { s with pace := { s.pace with nAtFive := none } }
  else if 5 < s.pace.level then restorePan s else s

/-- The machine one level down, but for the notice. -/
def oneDown (s : State) : State :=
  { pansBack s with pace := { (pansBack s).pace with
    level := s.pace.level - 1, quietRun := 0, hiRun := 0
    restores := (pansBack s).pace.restores ++ [(s.pace.level, dtcNow (pansBack s), true)] } }

theorem restoreStep_eq (s : State) : restoreStep s = if s.pace.level = 1 then notePace (oneDown s) 1 else oneDown s := rfl

theorem onlyIn_pansBack (s : State) : onlyIn [.pace, .pans] s (pansBack s) = true := by
  unfold pansBack
  split_ifs
  · exact onlyIn_trans (onlyIn_mono (onlyIn_pace s _) (by simp)) (onlyIn_restoreAll 32 _)
  · exact onlyIn_restorePan s
  · exact onlyIn_refl _ s

theorem pansBack_pace (s : State) :
    ∃ n o, (pansBack s).pace = { s.pace with nAtFive := n, suspOrder := o } := by
  unfold pansBack
  split_ifs
  · rw [restoreAll_pace]; exact ⟨_, _, rfl⟩
  · rw [restorePan_pace]; exact ⟨_, _, rfl⟩
  · exact ⟨_, _, rfl⟩

/-- What a restore changes. -/
structure Restored (s t : State) : Prop where
  acts : PaceActs s t
  pace : ∃ n, t.pace = { s.pace with
    level := s.pace.level - 1, quietRun := 0, hiRun := 0, nAtFive := n, suspOrder := (pansBack s).pace.suspOrder
    restores := s.pace.restores ++ [(s.pace.level, dtcNow s, true)] }
  pans : t.pans = (pansBack s).pans
  told : s.pace.level = 1 → s.pwr.coreUp = true → s.slu.ntc.length < 496 → immWord 3 64 ∈ t.slu.ntc

theorem restored_restoreStep (s : State) : Restored s (restoreStep s) := by
  have hback := onlyIn_pansBack s
  obtain ⟨n, o, hpace⟩ := pansBack_pace s
  have htime : dtcNow (pansBack s) = dtcNow s := dtcNow_congr (eq_of_beq (agree_of_onlyIn hback .time (by decide)))
  have hdown : (oneDown s).pace = { s.pace with
      level := s.pace.level - 1, quietRun := 0, hiRun := 0, nAtFive := n, suspOrder := (pansBack s).pace.suspOrder
      restores := s.pace.restores ++ [(s.pace.level, dtcNow s, true)] } := by
    unfold oneDown; rw [htime, hpace]
  have hacts : PaceActs s (oneDown s) := by
    refine .of_onlyIn (onlyIn_mono (onlyIn_trans hback (onlyIn_mono (onlyIn_pace _ _) (by simp))) (by simp)) ?_ ?_ <;>
      rw [hdown]
  rw [restoreStep_eq]
  split
  · next h1 =>
    refine ⟨hacts.trans (paceActs_notePace _ 1), ⟨n, by rw [notePace_pace, hdown]⟩, notePace_pans _ 1,
        fun _ up room => ?_⟩
    have hpwr : (oneDown s).pwr = s.pwr := eq_of_beq (agree_of_onlyIn hacts.frame .pwr (by decide))
    have hslu : (oneDown s).slu = s.slu := eq_of_beq (agree_of_onlyIn hback .slu (by decide))
    have hnote : notePace (oneDown s) 1 = postImm (oneDown s) 3 64 := by unfold notePace; rw [hdown, h1]
    rw [hnote]
    exact immWord_mem_postImm (by rw [hpwr]; exact up) (by rw [hslu]; exact room) 3 64
  · next h1 => exact ⟨hacts, ⟨n, hdown⟩, rfl, fun h => absurd h h1⟩

/-! ### The shed step (spec/02 R51) -/

theorem AtLevel.sheds {s w : State} {k : Nat} (h : AtLevel s w k) : Sheds s w := by
  obtain ⟨n, rfl⟩ := h
  exact ⟨onlyIn_mono (onlyIn_pace s _) (by simp), _, _, _, rfl⟩

/-- A shed step: where the level stops, from what state its last step goes, and what follows. -/
theorem stepShed_spec {s : State} (h : s.pace.level < lastLevel s) :
    ∃ w k, AtLevel s w k ∧ s.pace.level ≤ k ∧ k < lastLevel s ∧
        (∀ l, s.pace.level < l → l ≤ k → hasWork s l = false) ∧
      (hasWork s (k + 1) = true ∨ k + 1 = lastLevel s) ∧
      AfterShed (addShed (shedTo w) 1) (stepShed s) s.pace.level := by
  obtain ⟨w, k, hw, hlo, hhi, hstep, hidle, hstop⟩ := shedOne_spec (lastLevel s) (lastLevel s) s h (Nat.le_add_left _ _)
  refine ⟨w, k, hw, hlo, hhi, hidle, hstop, ?_⟩
  rw [← hstep]
  exact afterShed_spec _ _

theorem paceActs_stepShed {s : State} (h : s.pace.level < lastLevel s) : PaceActs s (stepShed s) := by
  obtain ⟨w, k, hw, -, -, -, -, hafter⟩ := stepShed_spec h
  exact ((hw.sheds.trans (sheds_shedTo w)).acts.trans (paceActs_addShed _ 1)).trans hafter.acts

/-! ### The whole period -/

/-- The machine after the voltage command, with its runs counted. -/
def commanded (s : State) : State :=
  let t := paceCommand s s.samp.fifo.length
  { t with pace := { t.pace with
      hiRun := if atCeiling s ∧ paceNum s pPwrPaceHi ≤ s.samp.fifo.length then s.pace.hiRun + 1 else 0
      quietRun := if isQuiet s s.samp.fifo.length then s.pace.quietRun + 1 else 0 } }

/-- What the Pace Monitor does about the level, at fill `n`. -/
def shedOrRestored (s : State) (n : Nat) : State :=
  if paceNum s pPwrShedJump ≤ n ∧ s.pace.level < lastLevel s then jumpShed s
  else if paceNum s pPwrShedWait ≤ s.pace.hiRun ∧ s.pace.level < lastLevel s then stepShed s
  else if paceNum s pPwrUnshedHold * 2 ^ s.pace.backoff ≤ s.pace.quietRun ∧ 0 < s.pace.level then restoreStep s
  else s

theorem atCeiling_eq (s : State) : (s.pace.atCeil || !paceEn s) = atCeiling s := by
  have : (!paceEn s) = (paceVal s pPwrPaceEn == 0) := by
    show (!(paceVal s pPwrPaceEn != 0)) = _
    rw [bne, Bool.not_not]
  rw [this]
  rfl

theorem pacePeriod_eq (s : State) : pacePeriod s =
    endPeriod (shedOrRestored (commanded (settled s)) (settled s).samp.fifo.length) := by
  unfold pacePeriod commanded
  rw [← settled, ← atCeiling_eq]
  rfl

theorem paceActs_shedOrRestored (s : State) (n : Nat) : PaceActs s (shedOrRestored s n) := by
  unfold shedOrRestored
  split_ifs with hjump hshed hrestore
  · exact (jumpShed_spec hjump.2).acts
  · exact paceActs_stepShed hshed.2
  · exact (restored_restoreStep s).acts
  · exact .refl s

theorem paceActs_endPeriod (s : State) : PaceActs s (endPeriod s) :=
  .of_onlyIn (onlyIn_mono (onlyIn_pace s _) (by simp)) rfl rfl

theorem commands_commanded (s : State) : onlyIn [.pace, .vreg] s (commanded s) = true ∧
    (commanded s).pace = { s.pace with
      lowRun := (commanded s).pace.lowRun, atCeil := (commanded s).pace.atCeil
      hiRun := if atCeiling s ∧ paceNum s pPwrPaceHi ≤ s.samp.fifo.length then s.pace.hiRun + 1 else 0
      quietRun := if isQuiet s s.samp.fifo.length then s.pace.quietRun + 1 else 0 } := by
  obtain ⟨hframe, hpace⟩ := commands_paceCommand s s.samp.fifo.length
  refine ⟨onlyIn_trans hframe (onlyIn_mono (onlyIn_pace _ _) (by simp)), ?_⟩
  unfold commanded
  dsimp only
  rw [hpace]

/-- What the end of a pace period changes, once SCLK has been checked. -/
structure PeriodEnds (s t : State) : Prop where
  frame : onlyIn [.samp, .pace, .vreg, .pans, .params, .slu, .acq, .integ] s t = true
  samp : t.samp = (settled s).samp
  gapNow : t.pace.gapNow = s.pace.gapNow
  pars : ParsKept [pNtcCoalPend] s t
  ntc : s.slu.ntc <+: t.slu.ntc

theorem periodEnds_pacePeriod (s : State) : PeriodEnds s (pacePeriod s) := by
  have hset : onlyIn [.samp, .pace] s (settled s) = true := by rw [settled_eq]; simp [onlyIn, allParts, agree]
  obtain ⟨hcom, hpace⟩ := commands_commanded (settled s)
  have hacts := (paceActs_shedOrRestored (commanded (settled s)) (settled s).samp.fifo.length).trans (paceActs_endPeriod _)
  have hparams : (commanded (settled s)).params = s.params :=
    (eq_of_beq (agree_of_onlyIn hcom .params (by decide))).trans (eq_of_beq (agree_of_onlyIn hset .params (by decide)))
  have hslu : (commanded (settled s)).slu = s.slu :=
    (eq_of_beq (agree_of_onlyIn hcom .slu (by decide))).trans (eq_of_beq (agree_of_onlyIn hset .slu (by decide)))
  rw [pacePeriod_eq]
  refine ⟨?_, ?_, ?_, (ParsKept.of_params hparams _).trans hacts.pars, hslu ▸ hacts.ntc⟩
  · exact onlyIn_trans (onlyIn_mono hset (by simp)) (onlyIn_trans (onlyIn_mono hcom (by simp))
      (onlyIn_mono hacts.frame (by simp)))
  · exact (eq_of_beq (agree_of_onlyIn hacts.frame .samp (by decide))).trans
      (eq_of_beq (agree_of_onlyIn hcom .samp (by decide)))
  · rw [hacts.gapNow, hpace, settled_eq]

end Sys2Proof.Proofs
end

section
/-! PROOFS. Samples and SCLK (spec/03 R67-R75): the arrival of a sample, and O45. -/

namespace Sys2Proof.Proofs

open Sys2Proof Sys2Proof.Machine Sys2Proof.Spec

/-! ### Sample arrival -/

theorem countLevel_eq_counted (s : State) (x : JamPath) (mag sign : Bool) : countLevel s x mag sign = counted s x mag sign := by
  unfold countLevel counted
  dsimp only
  cases mag == s.parB pSmpMagBig <;> cases sign == s.parB pSmpSignPos <;> rfl

/-- The sample path with the sample's levels counted. -/
def levelsCounted (s : State) (d : BitVec 4) : SampSt := { s.samp with
  phaseIdx := 1 - s.samp.phaseIdx
  jamA := counted s s.samp.jamA (d.getLsbD 1) (d.getLsbD 0)
  jamB := if s.par pSmpMode = 2 then counted s s.samp.jamB (d.getLsbD 3) (d.getLsbD 2) else s.samp.jamB }

theorem countSample_eq (s : State) (d : BitVec 4) :
    countSample { s with samp := { s.samp with phaseIdx := 1 - s.samp.phaseIdx } } d =
      { s with samp := levelsCounted s d } := by
  unfold countSample levelsCounted
  simp only [countLevel_eq_counted]
  rfl

theorem exec_sampleArrival_of_dead {s : State} (h : s.samp.live = false) (d : BitVec 4) :
    exec (.sampleArrival d) s = .next s := by
  simp [exec, execSampleArrival, h]

theorem exec_sampleArrival_of_closed {s : State} (h : s.samp.live = true) (ha : s.samp.admitting = false) (d : BitVec 4) :
    exec (.sampleArrival d) s = .next { s with
      samp := { s.samp with phaseIdx := 1 - s.samp.phaseIdx }, pace := { s.pace with gapNow := true } } := by
  simp [exec, execSampleArrival, h, ha]

theorem exec_sampleArrival_of_admitted {s : State} (h : s.samp.live = true) (ha : s.samp.admitting = true) (d : BitVec 4) :
    exec (.sampleArrival d) s = if 4096 ≤ s.samp.fifo.length then .next (overrunSample { s with samp := levelsCounted s d })
      else .next (jumpCheck (pushSample { s with samp := levelsCounted s d } d)) := by
  rw [← countSample_eq]
  show execSampleArrival d s = _
  simp only [execSampleArrival, h, ha, not_true_eq_false, if_false]
  rfl

/-- The value of a sample on path B after the notches. -/
def valueB (s : State) (d : BitVec 4) : Int :=
  let v := sampleValues s (1 - s.samp.phaseIdx) d
  if s.par pSmpMode = 2 then (Config.notchOut s.free 1 v.1 v.2).toInt else 0

/-- The entry that a sample makes in Brine. -/
def entryOf (s : State) (d : BitVec 4) : BrineEntry :=
  let v := sampleValues s (1 - s.samp.phaseIdx) d
  ⟨Config.notchOut s.free 0 v.1 v.2, valueB s d, s.samp.epochMark, sampleTime s⟩

/-- The machine with an admitted sample in Brine. -/
def pushed (s : State) (d : BitVec 4) : State :=
  { s with
    free := s.free + 1
    samp := { levelsCounted s d with
      fifo := (s.samp.fifo ++ [entryOf s d]).drop (s.samp.fifo.length + 1 - kept s (fun _ n => n + 1))
      epochMark := false, unread := unreadOf s (fun _ n => n + 1) } }

theorem pushSample_eq (s : State) (d : BitVec 4) : pushSample { s with samp := levelsCounted s d } d = pushed s d := by
  have hB : (if s.par pSmpMode = 2 then Config.notchOut s.free 1 (sampleValues s (1 - s.samp.phaseIdx) d).1
      (sampleValues s (1 - s.samp.phaseIdx) d).2 else 0) = ((valueB s d : Int) : BitVec 4) := by
    unfold valueB
    dsimp only
    split
    · exact (BitVec.ofInt_toInt).symm
    · rfl
  have hlen : (s.samp.fifo ++ [entryOf s d]).length = s.samp.fifo.length + 1 := by simp
  unfold pushed
  rw [← hlen]
  unfold entryOf
  dsimp only
  rw [← hB]
  rfl

theorem onlyIn_pushed (s : State) (d : BitVec 4) : onlyIn [.samp] s (pushed s d) = true := by
  simp [pushed, onlyIn, allParts, agree]

/-- An overrun with room in NTC. -/
theorem overrunSample_of_room {s : State} (up : s.pwr.coreUp = true) (room : s.slu.ntc.length < 496) :
    overrunSample s = { s with
      pace := { s.pace with ovr := true, overrun := true, ovrNoted := true, gapNow := true }
      slu := if s.pace.ovrNoted then s.slu else { s.slu with ntc := s.slu.ntc ++ [immWord 3 (s.pace.level + 128)] } } := by
  obtain ⟨u, hu⟩ : ∃ u : State, u = { s with
    pace := { s.pace with ovr := true, overrun := true, ovrNoted := true, gapNow := true } } := ⟨_, rfl⟩
  have hdef : overrunSample s = if !s.pace.ovrNoted then postImm u 3 (s.pace.level + 128) else u := by rw [hu]; rfl
  rw [hdef, postImm_of_room (by rw [hu]; exact up) (by rw [hu]; exact room)]
  cases s.pace.ovrNoted <;> rw [hu] <;> rfl

/-! ### O45 -/

section
variable {s : State} {o : SclkObs}

/-- The sample path at the end of the period, from what the checks of SCLK have left. -/
theorem pacePeriod_samp (x : State) : (pacePeriod x).samp =
    { x.samp with fifo := (pacePeriod x).samp.fifo, unread := (pacePeriod x).samp.unread } := by
  rw [(periodEnds_pacePeriod x).samp, settled_eq]

theorem fill_sensed (s : State) (o : SclkObs) : fill (sensed s o) = fill s := by
  have h := senses_sensed s o
  have hcarry := onlyIn_carryDtc s (paceEnd s)
  have hsamp : (carryDtc s (paceEnd s)).samp = s.samp := eq_of_beq (agree_of_onlyIn hcarry .samp (by decide))
  have hunread : unreadOf (sensed s o) (fun _ n => n) = unreadOf s (fun _ n => n) := by
    refine unreadOf_congr ?_ ?_ (by rw [h.unread, hsamp]) _
    · exact (eq_of_beq (agree_of_onlyIn h.frame .acq (by decide))).trans (eq_of_beq (agree_of_onlyIn hcarry .acq (by decide)))
    · exact (eq_of_beq (agree_of_onlyIn h.frame .pans (by decide))).trans
        (eq_of_beq (agree_of_onlyIn hcarry .pans (by decide)))
  rw [fill_eq, fill_eq, kept, kept, hunread, h.fifo, hsamp]

theorem pacePeriod_sensed_fifo (s : State) (o : SclkObs) :
    (pacePeriod (sensed s o)).samp.fifo = s.samp.fifo.drop (s.samp.fifo.length - fill s) := by
  have hsamp : (carryDtc s (paceEnd s)).samp = s.samp :=
    eq_of_beq (agree_of_onlyIn (onlyIn_carryDtc s _) .samp (by decide))
  rw [(periodEnds_pacePeriod _).samp, settled_eq, fill_sensed, (senses_sensed s o).fifo, hsamp]

/-- A period with a wrong edge count. -/
theorem pacePeriod_of_wrong (up : s.pwr.coreUp = true) (room : s.slu.ntc.length < 490) (hl : s.samp.live = true)
    (he : edgesRight s o.edges = false) (hf : s.samp.faulted = false) :
    let t := pacePeriod (sensed s o)
    t.samp = { sclkDown s with fifo := t.samp.fifo, unread := t.samp.unread } ∧ immWord 4 0 ∈ t.slu.ntc ∧
      t.par pSmpSclkFltCnt = (s.bumpPar pSmpSclkFltCnt).par pSmpSclkFltCnt := by
  obtain ⟨x, hx⟩ := carryDtc_onlyTime s (paceEnd s)
  have hcheck : checkSclk (carryDtc s (paceEnd s)) o.edges = sclkFault { s with time := x } := by
    rw [hx]
    exact checkSclk_of_wrong hl he hf
  have hsens : sensed s o = sclkFault { s with time := x } :=
    (sensed_of_none (.inr (by rw [hcheck, sclkFault_samp]; rfl))).trans hcheck
  have hends := periodEnds_pacePeriod (sensed s o)
  refine ⟨?_, ?_, ?_⟩
  · have hdown : (sensed s o).samp = sclkDown s := by rw [hsens, sclkFault_samp]; rfl
    rw [← hdown]
    exact pacePeriod_samp _
  · refine hends.ntc.subset ?_
    rw [hsens, sclkFault_eq]
    exact immWord_mem_postImm (s := { faultMarked s with time := x }) up (lt_trans room (by decide)) 4 0
  · rw [hends.pars _ (by decide), hsens, sclkFault_eq, (notifies_postImm _ 4 0).pars _ (by decide)]
    rfl

/-- A period with an SCLK fault in force. -/
theorem pacePeriod_of_faulted (hl : s.samp.live = true) (hf : s.samp.faulted = true) :
    (pacePeriod (sensed s o)).samp.goodRun = (if edgesRight s o.edges then s.samp.goodRun + 1 else 0) ∧
      (pacePeriod (sensed s o)).samp.faulted = true := by
  obtain ⟨hfault, hrun⟩ := sensed_fault s o
  obtain ⟨x, hx⟩ := carryDtc_onlyTime s (paceEnd s)
  have hcheck : checkSclk (carryDtc s (paceEnd s)) o.edges = { s with
      time := x, samp := { s.samp with goodRun := if edgesRight s o.edges then s.samp.goodRun + 1 else 0 } } := by
    rw [hx]
    exact checkSclk_of_faulted (s := { s with time := x }) hl hf
  rw [hcheck] at hfault hrun
  rw [pacePeriod_samp]
  exact ⟨hrun, hfault.trans hf⟩

/-- With the sample path at rest the fault and its run hold. -/
theorem pacePeriod_of_dead (hl : s.samp.live = false) :
    (pacePeriod (sensed s o)).samp.faulted = s.samp.faulted ∧ (pacePeriod (sensed s o)).samp.goodRun = s.samp.goodRun := by
  obtain ⟨hfault, hrun⟩ := sensed_fault s o
  have hsamp : (carryDtc s (paceEnd s)).samp = s.samp := by rw [carryDtc_eq]
  rw [checkSclk_of_dead (by rw [hsamp]; exact hl), hsamp] at hfault hrun
  rw [pacePeriod_samp]
  exact ⟨hfault, hrun⟩

/-- In a correct period without a fault the checks change nothing. -/
theorem checkSclk_carryDtc_of_right (n : Nat) (hl : s.samp.live = true) (he : edgesRight s o.edges = true)
    (hf : s.samp.faulted = false) : checkSclk (carryDtc s n) o.edges = carryDtc s n := by
  obtain ⟨x, hx⟩ := carryDtc_onlyTime s n
  rw [hx]
  exact checkSclk_of_right (s := { s with time := x }) hl he hf

/-- A correct period without a capture that counts. -/
theorem pacePeriod_of_right (hl : s.samp.live = true) (he : edgesRight s o.edges = true) (hf : s.samp.faulted = false)
    (hnone : o.capture = none ∨ s.samp.admitting = false) :
    let t := pacePeriod (sensed s o)
    t.samp = { s.samp with fifo := t.samp.fifo, unread := t.samp.unread } := by
  have hsamp : (carryDtc s (paceEnd s)).samp = s.samp := by rw [carryDtc_eq]
  have hcheck := checkSclk_carryDtc_of_right (paceEnd s) hl he hf
  have hsens : (sensed s o).samp = s.samp := by
    rw [sensed_of_none (by rwa [hcheck, hsamp]), hcheck, hsamp]
  dsimp only
  rw [← hsens]
  exact pacePeriod_samp _

theorem sensed_of_capture (hl : s.samp.live = true) (he : edgesRight s o.edges = true) (hf : s.samp.faulted = false)
    {c : Int} (hc : o.capture = some c) (ha : s.samp.admitting = true) :
    sensed s o = capturePhase (carryDtc s (paceEnd s)) c := by
  have hcheck := checkSclk_carryDtc_of_right (paceEnd s) hl he hf
  have hadm : (carryDtc s (paceEnd s)).samp.admitting = true := by rw [carryDtc_eq]; exact ha
  rw [sensed_of_some hc (by rwa [hcheck]), hcheck]

/-- The first 16 captures make the mean. -/
theorem pacePeriod_of_mean (hl : s.samp.live = true) (he : edgesRight s o.edges = true) (hf : s.samp.faulted = false)
    {c : Int} (hc : o.capture = some c) (ha : s.samp.admitting = true) (hn : s.samp.phaseN < 16) :
    let t := pacePeriod (sensed s o)
    t.samp = { s.samp with fifo := t.samp.fifo, unread := t.samp.unread,
                           phase64 := s.samp.phase64 + captured s c / 16, phaseN := s.samp.phaseN + 1 } := by
  obtain ⟨x, hx⟩ := carryDtc_onlyTime s (paceEnd s)
  have hsens : (sensed s o).samp =
      { s.samp with phase64 := s.samp.phase64 + captured s c / 16, phaseN := s.samp.phaseN + 1 } := by
    rw [sensed_of_capture hl he hf hc ha, hx, capturePhase_of_mean (s := { s with time := x }) hn]
    rfl
  exact (pacePeriod_samp (sensed s o)).trans (by rw [hsens])

/-- A later capture moves the stored phase, or is a slip. -/
theorem pacePeriod_of_phase (hl : s.samp.live = true) (he : edgesRight s o.edges = true) (hf : s.samp.faulted = false)
    {c : Int} (hc : o.capture = some c) (ha : s.samp.admitting = true) (hn : 16 ≤ s.samp.phaseN) :
    let t := pacePeriod (sensed s o)
    (((phaseOff s c).natAbs : Int) ≤ s.par pSmpSclkPhTol * 64 →
      t.samp = { s.samp with fifo := t.samp.fifo, unread := t.samp.unread,
                             phase64 := s.samp.phase64 + phaseOff s c / 64 }) ∧
    (s.par pSmpSclkPhTol * 64 < ((phaseOff s c).natAbs : Int) →
      t.samp = { s.samp with fifo := t.samp.fifo, unread := t.samp.unread, phase64 := captured s c, slip := true } ∧
      t.pace.gapNow = true ∧ t.par pSmpSlipCnt = (s.bumpPar pSmpSlipCnt).par pSmpSlipCnt) := by
  have hends := periodEnds_pacePeriod (sensed s o)
  have hsamp := pacePeriod_samp (sensed s o)
  obtain ⟨x, hx⟩ := carryDtc_onlyTime s (paceEnd s)
  have hsens := sensed_of_capture hl he hf hc ha
  rw [hx, capturePhase_of_full (s := { s with time := x }) hn] at hsens
  refine ⟨fun hle => ?_, fun hlt => ?_⟩
  · replace hsens := hsens.trans (if_neg (not_lt.mpr hle))
    exact hsamp.trans (by rw [hsens]; rfl)
  · replace hsens := hsens.trans (if_pos hlt)
    refine ⟨hsamp.trans (by rw [hsens]; rfl), ?_, ?_⟩
    · rw [hends.gapNow, hsens]
    · rw [hends.pars _ (by decide), hsens]; rfl

end

/-- Settles O45: a sample's arrival by what the sample path admits, and a pace period by the edge count and the capture. -/
theorem samplesAndSclk : Obligations.SamplesAndSclk := by
  intro s
  refine ⟨fun d => ⟨fun h => exec_sampleArrival_of_dead h d, fun h ha => exec_sampleArrival_of_closed h ha d,
      fun h ha => ?_⟩,
    fun h => ?_, fun h => ?_, fun hl hf up room => ?_, fun h => ?_, fun o hp room => ?_⟩
  · have hexec := exec_sampleArrival_of_admitted h ha d
    refine ⟨fun hlt => ?_, fun hge up room _ => ?_⟩
    · rw [if_neg (not_le.mpr hlt), pushSample_eq, jumpCheck_eq] at hexec
      obtain ⟨t, ht⟩ : ∃ t, t = if pacing s && decide (paceNum s pPwrShedJump ≤ (pushed s d).samp.fifo.length ∧
        s.pace.level < lastLevel s) then jumpShed (pushed s d) else pushed s d := ⟨_, rfl⟩
      have hsamp : t.samp = (pushed s d).samp := by
        rw [ht]
        split
        · next hj =>
          obtain ⟨-, -, hlevel⟩ := by simpa using hj
          exact eq_of_beq (agree_of_onlyIn (jumpShed_spec (s := pushed s d) hlevel).acts.frame .samp (by decide))
        · rfl
      refine ⟨t, valueB s d, kept s (fun _ n => n + 1), by rw [hexec, ht]; rfl, ?_⟩
      rw [hsamp]
      refine ⟨fun hmode => if_neg (by rw [hmode]; decide), fun i => ⟨unreadOf_get s _ i, unreadOf_le_kept s _ i⟩,
        kept_eq_zero_or_unreadOf s _, rfl, fun hjump => ?_, fun hjump => ?_⟩
      · rw [if_neg (by rw [hjump]; exact Bool.false_ne_true)] at ht
        rw [ht]
        exact onlyIn_pushed s d
      · rw [if_pos hjump] at ht
        obtain ⟨-, -, hlevel⟩ := by simpa using hjump
        have hj := jumpShed_spec (s := pushed s d) hlevel
        rw [ht]
        exact ⟨hj.level, hj.jump, onlyIn_trans (onlyIn_mono (onlyIn_pushed s d) (by simp))
          (onlyIn_mono hj.acts.frame (by simp))⟩
    · rw [hexec, if_pos hge, overrunSample_of_room (s := { s with samp := levelsCounted s d }) up room]
      rfl
  · show execFeSettleExpiry s = _
    rw [execFeSettleExpiry, if_pos h, carryDtc_eq]
  · show execFeSettleExpiry s = _
    rw [execFeSettleExpiry, if_neg (by simp [h])]
  · show execSclkAbsence s = _
    rw [execSclkAbsence, if_pos ⟨hl, by simp [hf]⟩, sclkFault_of_room up room]
  · show execSclkAbsence s = _
    rw [execSclkAbsence, if_neg (by rcases h with h | h <;> simp [h])]
  · have up : s.pwr.coreUp = true := by
      simp only [pacing, Bool.and_eq_true] at hp
      exact hp.1.2
    refine ⟨_, exec_pacePeriodEnd_of_pacing hp o, pacePeriod_sensed_fifo s o, pacePeriod_of_dead,
      pacePeriod_of_wrong up room, pacePeriod_of_faulted, fun hl he hf => ⟨pacePeriod_of_right hl he hf, fun c hc ha =>
        ⟨fun hn => pacePeriod_of_mean hl he hf hc ha hn, fun hn d hd hlo hhi => ?_⟩⟩⟩
    have hoff : phaseOff s c = d := phaseOff_eq hd hlo hhi
    rw [← hoff]
    exact pacePeriod_of_phase hl he hf hc ha hn

end Sys2Proof.Proofs
end

section
/-! PROOFS. The Pace Monitor (spec/02 R48-R58): the figures by which it decides, its voltage command, its four outcomes, and
O46. -/

namespace Sys2Proof.Proofs

open Sys2Proof Sys2Proof.Machine Sys2Proof.Spec

/-! ### The figures by which the Pace Monitor decides -/

/-- The parameters that the SCLK checks and a coalesced notice may change. -/
def sensedPars : List Nat := [pSmpSclkFltCnt, pSmpSlipCnt, pNtcCoalPend]

/-- The parameters, as the Pace Monitor takes them, are the same. -/
structure SamePars (s t : State) : Prop where
  old : t.pace.old = s.pace.old
  pars : ParsKept sensedPars s t

theorem SamePars.trans {s t u : State} (h : SamePars s t) (k : SamePars t u) : SamePars s u :=
  ⟨k.old.trans h.old, h.pars.trans k.pars⟩

theorem SamePars.paceVal_eq {s t : State} (h : SamePars s t) {k : Nat} (hk : k ∉ sensedPars) : paceVal t k = paceVal s k := by
  unfold paceVal; rw [h.old, h.pars k hk]

theorem SamePars.paceNum_eq {s t : State} (h : SamePars s t) {k : Nat} (hk : k ∉ sensedPars) : paceNum t k = paceNum s k :=
  congrArg Int.toNat (h.paceVal_eq hk)

/-- The work that a shed step finds rests on the pans, the search and the parameters. -/
theorem SamePars.hasWork_eq {s t : State} (h : SamePars s t) (hpans : t.pans = s.pans) (hacq : t.acq = s.acq) (l : Nat) :
    hasWork t l = hasWork s l := by
  unfold hasWork panCount
  rw [h.paceNum_eq (by decide), h.pars pTrkXaMode (by decide), h.pars pTrkXbMode (by decide), hpans, hacq]

theorem SamePars.lastLevel_eq {s t : State} (h : SamePars s t) (hpans : t.pans = s.pans)
    (hfive : t.pace.nAtFive = s.pace.nAtFive) : lastLevel t = lastLevel s := by
  unfold lastLevel panCount
  rw [h.paceNum_eq (by decide), hpans, hfive]

theorem SamePars.windowsOpen_eq {s t : State} (h : SamePars s t) (hr : t.pace.restores = s.pace.restores) (n : Nat) :
    windowsOpen t n = windowsOpen s n := by
  unfold windowsOpen; rw [h.paceNum_eq (by decide), hr]

theorem SamePars.backoffAt_eq {s t : State} (h : SamePars s t) (hr : t.pace.restores = s.pace.restores)
    (hb : t.pace.backoff = s.pace.backoff) (n : Nat) : backoffAt t n = backoffAt s n := by
  unfold backoffAt; rw [h.paceNum_eq (by decide), hr, hb]

/-- Windows once brought up to date stay so at the same count. -/
theorem SamePars.windowsOpen_again {s t : State} {n : Nat} (h : SamePars s t)
    (hr : t.pace.restores = windowsOpen s n) : windowsOpen t n = windowsOpen s n := by
  unfold windowsOpen at hr ⊢
  rw [h.paceNum_eq (by decide), hr, List.filter_filter]
  simp only [Bool.and_self]

theorem SamePars.backoffAt_again {s t : State} {n : Nat} (h : SamePars s t)
    (hr : t.pace.restores = windowsOpen s n) : backoffAt t n = t.pace.backoff := by
  unfold backoffAt
  refine if_neg ?_
  rw [Bool.not_eq_true, List.any_eq_false]
  intro r hmem
  rw [hr, windowsOpen] at hmem
  have hopen := of_decide_eq_true (List.mem_filter.mp hmem).2
  rw [h.paceNum_eq (by decide)]
  simp only [Bool.and_eq_true, decide_eq_true_eq, not_and]
  intro hpast
  omega

/-- The pace monitor's period is over: SCLK is checked, Brine released, the windows brought up to date, the voltage commanded
and the runs counted. -/
structure PeriodOver (s v : State) : Prop where
  time : dtcNow v = paceEnd s
  pace : v.pace = { s.pace with
    gapNow := v.pace.gapNow, lowRun := v.pace.lowRun, atCeil := v.pace.atCeil
    restores := windowsOpen s (paceEnd s), backoff := backoffAt s (paceEnd s)
    hiRun := if atCeiling s ∧ paceNum s pPwrPaceHi ≤ fill s then s.pace.hiRun + 1 else 0
    quietRun := if quietPeriod s then s.pace.quietRun + 1 else 0 }
  pars : ParsKept sensedPars s v
  frame : onlyIn [.time, .samp, .pace, .vreg, .params, .slu] s v = true
  ntc : s.slu.ntc <+: v.slu.ntc
  length : v.slu.ntc.length ≤ s.slu.ntc.length + 1

section
variable {s v : State} (h : PeriodOver s v)
include h

theorem PeriodOver.pans : v.pans = s.pans := eq_of_beq (agree_of_onlyIn h.frame .pans (by decide))
theorem PeriodOver.acq : v.acq = s.acq := eq_of_beq (agree_of_onlyIn h.frame .acq (by decide))
theorem PeriodOver.pwr : v.pwr = s.pwr := eq_of_beq (agree_of_onlyIn h.frame .pwr (by decide))
theorem PeriodOver.samePars : SamePars s v := ⟨by rw [h.pace], h.pars⟩
theorem PeriodOver.level_eq : v.pace.level = s.pace.level := by rw [h.pace]
theorem PeriodOver.suspOrder_eq : v.pace.suspOrder = s.pace.suspOrder := by rw [h.pace]
theorem PeriodOver.restores_eq : v.pace.restores = windowsOpen s (paceEnd s) := by rw [h.pace]
theorem PeriodOver.backoff_eq : v.pace.backoff = backoffAt s (paceEnd s) := by rw [h.pace]
theorem PeriodOver.lastLevel_eq : lastLevel v = lastLevel s := h.samePars.lastLevel_eq h.pans (by rw [h.pace])

end

/-! ### From the end of the period to the decision -/

/-- The machine before the voltage command. -/
structure Settles (s u : State) : Prop where
  time : dtcNow u = paceEnd s
  pace : u.pace = { s.pace with
    gapNow := u.pace.gapNow, restores := windowsOpen s (paceEnd s), backoff := backoffAt s (paceEnd s) }
  pars : ParsKept sensedPars s u
  frame : onlyIn [.time, .samp, .pace, .params, .slu] s u = true
  length_fifo : u.samp.fifo.length = fill s
  ntc : s.slu.ntc <+: u.slu.ntc
  length : u.slu.ntc.length ≤ s.slu.ntc.length + 1

theorem settles_settled {s : State} (h : pacing s = true) (o : SclkObs) : Settles s (settled (sensed s o)) := by
  have hs := senses_sensed s o
  obtain ⟨x, hx⟩ := carryDtc_onlyTime s (paceEnd s)
  have hpace : (sensed s o).pace = { s.pace with gapNow := (sensed s o).pace.gapNow } := by
    rw [hs.pace, hx]
  have hpars : ParsKept sensedPars s (sensed s o) :=
    (ParsKept.of_params (carryDtc_params s _) _).trans hs.pars
  have hsame : SamePars s (sensed s o) := ⟨by rw [hpace], hpars⟩
  have htime : dtcNow (sensed s o) = paceEnd s :=
    (dtcNow_congr (eq_of_beq (agree_of_onlyIn hs.frame .time (by decide)))).trans (dtcNow_carryDtc_paceEnd h)
  have hframe : onlyIn [.time, .samp, .pace, .params, .slu] s (sensed s o) = true :=
    onlyIn_trans (onlyIn_mono (onlyIn_carryDtc s _) (by simp)) (onlyIn_mono hs.frame (by simp))
  have hntc : s.slu.ntc <+: (sensed s o).slu.ntc := by
    have := hs.ntc
    rwa [hx] at this
  rw [settled_eq]
  refine ⟨htime, ?_, hpars.trans (.of_params rfl _), onlyIn_trans hframe (by simp [onlyIn, allParts, agree]), ?_, hntc,
    length_ntc_sensed s o⟩
  · dsimp only
    rw [htime, hsame.windowsOpen_eq (by rw [hpace]), hsame.backoffAt_eq (by rw [hpace]) (by rw [hpace]), hpace]
  · exact (length_drop_fill _).trans (fill_sensed s o)

section
variable {s u : State} (h : Settles s u)
include h

theorem Settles.samePars : SamePars s u := ⟨by rw [h.pace], h.pars⟩

theorem Settles.vreg : u.vreg = s.vreg := eq_of_beq (agree_of_onlyIn h.frame .vreg (by decide))

theorem Settles.atCeiling_eq : atCeiling u = atCeiling s := by
  unfold atCeiling
  rw [h.samePars.paceVal_eq (by decide), h.pace]

/-- The statement's quiet period is the model's, at the fill that Brine has after release. -/
theorem Settles.isQuiet_eq : isQuiet u (fill s) = quietPeriod s := by
  have hen : (!paceEn u) = (paceVal s pPwrPaceEn == 0) := by
    rw [← h.samePars.paceVal_eq (by decide)]
    show (!(paceVal u pPwrPaceEn != 0)) = _
    rw [bne, Bool.not_not]
  have hlo : paceParN u pPwrPaceLo = paceNum s pPwrPaceLo := h.samePars.paceNum_eq (by decide)
  have hmargin : pacePar u pPwrUnshedMargin = paceVal s pPwrUnshedMargin := h.samePars.paceVal_eq (by decide)
  unfold isQuiet quietPeriod
  rw [hen, hlo, hmargin, h.vreg, h.pars _ (by decide), h.pace]

theorem Settles.periodOver : PeriodOver s (commanded u) := by
  obtain ⟨hframe, hpace⟩ := commands_commanded u
  have hslu : (commanded u).slu = u.slu := eq_of_beq (agree_of_onlyIn hframe .slu (by decide))
  refine ⟨?_, ?_, h.pars.trans (.of_params (eq_of_beq (agree_of_onlyIn hframe .params (by decide))) _),
    onlyIn_trans (onlyIn_mono h.frame (by simp)) (onlyIn_mono hframe (by simp)), hslu ▸ h.ntc, hslu ▸ h.length⟩
  · exact (dtcNow_congr (eq_of_beq (agree_of_onlyIn hframe .time (by decide)))).trans h.time
  · rw [hpace, h.length_fifo, h.atCeiling_eq, h.samePars.paceNum_eq (by decide), h.isQuiet_eq, h.pace]

end

/-! ### The voltage target (spec/02 R48-R50, spec/15 R364) -/

/-- With a floor at or above 0 and not above the ceiling, the regulator's clip is the statement's. -/
theorem clipCode_eq_clipped {s : State} (h0 : 0 ≤ s.par pVregFloor) (hle : s.par pVregFloor ≤ s.par pVregCeil) (n : Int) :
    (clipCode s n : Int) = clipped s n := by
  unfold clipCode clipped clip
  split_ifs <;> omega

/-- With a hold of at least one period the step down is due at low fill alone. -/
theorem Settles.downDue_eq {s u : State} (h : Settles s u) (hold : 1 ≤ paceNum s pPwrPaceDnHold) :
    downDue u (fill s) = stepsDown s := by
  have hrun : u.pace.lowRun = s.pace.lowRun := by rw [h.pace]
  unfold downDue stepsDown lowCount
  rw [h.samePars.paceNum_eq (k := pPwrPaceHi) (by decide), h.samePars.paceNum_eq (k := pPwrPaceLo) (by decide),
    h.samePars.paceNum_eq (k := pPwrPaceDnHold) (by decide), hrun, ← Bool.decide_and, decide_eq_decide]
  split <;> omega

/-- The voltage command at the end of a period. -/
theorem Settles.target {s u : State} (h : Settles s u) (up : s.pwr.coreUp = true) (soft : s.vreg.softst = false)
    (hfloor : 0 ≤ s.par pVregFloor) (hle : s.par pVregFloor ≤ s.par pVregCeil) (hold : 1 ≤ paceNum s pPwrPaceDnHold) :
    ((commanded u).vreg.target : Int) = paceTarget s ∧
      (paceVal s pPwrPaceEn ≠ 0 → paceNum s pPwrPaceHi ≤ fill s ∨ stepsDown s = true →
        (commanded u).pace.atCeil = decide (paceTarget s = s.par pVregCeil)) := by
  obtain ⟨low, hlow⟩ : ∃ low, low = lowCounted u (fill s) := ⟨_, rfl⟩
  have hvreg : low.vreg = s.vreg := hlow ▸ h.vreg
  have hpwr : low.pwr = s.pwr := hlow ▸ eq_of_beq (agree_of_onlyIn h.frame .pwr (by decide))
  have hceil : low.par pVregCeil = s.par pVregCeil := hlow ▸ h.pars pVregCeil (by decide)
  have hclip : ∀ n, (clipCode low n : Int) = clipped s n := by
    have hlo : low.par pVregFloor = s.par pVregFloor := hlow ▸ h.pars pVregFloor (by decide)
    intro n
    rw [clipCode_eq_clipped (hlo ▸ hfloor) (by rwa [hlo, hceil])]
    unfold clipped
    rw [hlo, hceil]
  have hcmd : ∀ d, ((paceCmd low d).vreg.target : Int) = clipped s (s.vreg.target + d) ∧
      (paceCmd low d).pace.atCeil = decide (clipped s (s.vreg.target + d) = s.par pVregCeil) := by
    intro d
    rw [paceCmd_target (by rw [hpwr]; exact up) (by rw [hvreg]; exact soft), paceCmd_pace, hclip, hvreg, hceil]
    exact ⟨rfl, rfl⟩
  have hdef : paceCommand u u.samp.fifo.length =
      if paceVal s pPwrPaceEn = 0 then low
      else if paceNum s pPwrPaceHi ≤ fill s then paceCmd low (paceVal s pPwrPaceStep)
      else if stepsDown s then paceCmd low (-(paceVal s pPwrPaceStep)) else low := by
    rw [h.length_fifo, paceCommand_eq, h.samePars.paceVal_eq (by decide), h.samePars.paceNum_eq (by decide), h.downDue_eq hold,
      h.samePars.paceVal_eq (by decide), hlow]
  show ((paceCommand u u.samp.fifo.length).vreg.target : Int) = paceTarget s ∧
    (_ → _ → (paceCommand u u.samp.fifo.length).pace.atCeil = decide (paceTarget s = s.par pVregCeil))
  rw [hdef]
  unfold paceTarget
  by_cases hen : paceVal s pPwrPaceEn = 0
  · simp only [if_pos hen]
    exact ⟨by rw [hvreg], fun hne => absurd hen hne⟩
  · simp only [if_neg hen]
    by_cases hhi : paceNum s pPwrPaceHi ≤ fill s
    · simp only [if_pos hhi]
      exact ⟨(hcmd _).1, fun _ _ => (hcmd _).2⟩
    · simp only [if_neg hhi]
      by_cases hdown : stepsDown s = true
      · simp only [if_pos hdown]
        exact ⟨(hcmd _).1, fun _ _ => (hcmd _).2⟩
      · simp only [if_neg hdown]
        exact ⟨by rw [hvreg], fun _ hdue => absurd hdue (not_or.mpr ⟨hhi, hdown⟩)⟩

/-! ### The four outcomes -/

/-- What the Pace Monitor does about the level, in the statement's words. -/
theorem PeriodOver.shedOrRestored_eq {s v : State} (h : PeriodOver s v) (hwait : 1 ≤ paceNum s pPwrShedWait)
    (hhold : 1 ≤ paceNum s pPwrUnshedHold) : shedOrRestored v (fill s) =
      if jumps s then jumpShed v else if shedDue s then stepShed v else if restores s then restoreStep v else v := by
  have hsame := h.samePars
  have hjump : (paceNum v pPwrShedJump ≤ fill s ∧ v.pace.level < lastLevel v) ↔ jumps s = true := by
    rw [hsame.paceNum_eq (by decide), h.level_eq, h.lastLevel_eq, jumps, decide_eq_true_eq]
  unfold shedOrRestored
  by_cases hj : jumps s = true
  · rw [if_pos (hjump.mpr hj), if_pos hj]
  rw [if_neg (mt hjump.mp hj), if_neg hj]
  have hshed : (paceNum v pPwrShedWait ≤ v.pace.hiRun ∧ v.pace.level < lastLevel v) ↔ shedDue s = true := by
    rw [hsame.paceNum_eq (by decide), h.level_eq, h.lastLevel_eq, h.pace]
    simp only [shedDue, hj, Bool.not_false, Bool.true_and, Bool.and_eq_true, decide_eq_true_eq]
    by_cases hc : atCeiling s = true ∧ paceNum s pPwrPaceHi ≤ fill s
    · rw [if_pos hc]; exact ⟨fun k => ⟨hc.1, hc.2, k.1, k.2⟩, fun k => ⟨k.2.2.1, k.2.2.2⟩⟩
    · rw [if_neg hc]; exact ⟨fun k => by omega, fun k => absurd ⟨k.1, k.2.1⟩ hc⟩
  by_cases hs : shedDue s = true
  · rw [if_pos (hshed.mpr hs), if_pos hs]
  rw [if_neg (mt hshed.mp hs), if_neg hs]
  have hrest : (paceNum v pPwrUnshedHold * 2 ^ v.pace.backoff ≤ v.pace.quietRun ∧ 0 < v.pace.level) ↔
      restores s = true := by
    rw [hsame.paceNum_eq (by decide), h.level_eq, h.backoff_eq, h.pace]
    simp only [restores, hj, hs, Bool.not_false, Bool.true_and, Bool.and_eq_true, decide_eq_true_eq]
    by_cases hq : quietPeriod s = true
    · simp only [hq, if_true, true_and]; exact and_comm
    · have : 0 < paceNum s pPwrUnshedHold * 2 ^ backoffAt s (paceEnd s) := Nat.mul_pos hhold (Nat.two_pow_pos _)
      simp only [hq, false_and, iff_false, Bool.false_eq_true, if_false]
      omega
  exact if_congr hrest rfl rfl

section
variable {s v : State} (h : PeriodOver s v)
include h

/-- A restore, from the end of the period on (spec/02 R57). -/
theorem PeriodOver.restored (hlevel : 0 < s.pace.level) :
    let t := restoreStep v
    t.pace.level + 1 = s.pace.level ∧
      t.pace.restores = windowsOpen s (paceEnd s) ++ [(s.pace.level, paceEnd s, true)] ∧
      t.pace.backoff = backoffAt s (paceEnd s) ∧ t.pace.quietRun = 0 := by
  obtain ⟨n, hn⟩ := (restored_restoreStep v).pace
  dsimp only
  rw [hn]
  refine ⟨?_, ?_, h.backoff_eq, rfl⟩
  · show v.pace.level - 1 + 1 = s.pace.level
    rw [h.level_eq]; omega
  · show v.pace.restores ++ [(v.pace.level, dtcNow v, true)] = _
    rw [h.restores_eq, h.level_eq, h.time]

/-- What a restore brings back is propagated to the period's end. -/
theorem PeriodOver.backAt_eq : backAt v = broughtBack s := by
  funext x
  unfold backAt broughtBack
  rw [h.time, advancePan_congr (h.pars pSmpMode (by decide))]

/-- A restore below level 5 changes no pan. -/
theorem PeriodOver.restored_pans_of_low (hlevel : s.pace.level ≤ 4) : (restoreStep v).pans = s.pans := by
  rw [(restored_restoreStep v).pans, pansBack, if_neg (by rw [h.level_eq]; omega), if_neg (by rw [h.level_eq]; omega), h.pans]

/-- A restore above level 5 brings back the pan suspended last. -/
theorem PeriodOver.restored_of_high (hlevel : 5 < s.pace.level) {p : Nat} {l : List Nat} {x : Pan}
    (ho : s.pace.suspOrder = p :: l) (hp : mget s.pans.act p = some x) :
    mget (restoreStep v).pans.act p = some (broughtBack s x) ∧ (restoreStep v).pace.suspOrder = l ∧
      ∀ q, q ≠ p → mget (restoreStep v).pans.act q = mget s.pans.act q := by
  have hback : pansBack v = restorePan v := by
    rw [pansBack, if_neg (by rw [h.level_eq]; omega), if_pos (by rw [h.level_eq]; exact hlevel)]
  have hpan : ∀ q, mget (restoreStep v).pans.act q = if p = q then (panAt v q).map (broughtBack s) else panAt v q := by
    intro q
    rw [(restored_restoreStep v).pans, hback, ← h.backAt_eq]
    exact panAt_restorePan (h.suspOrder_eq.trans ho) q
  have hv : ∀ q, panAt v q = mget s.pans.act q := fun q => by rw [panAt, h.pans]
  refine ⟨?_, ?_, fun q hq => ?_⟩
  · rw [hpan, if_pos rfl, hv, hp]; rfl
  · obtain ⟨n, hn⟩ := (restored_restoreStep v).pace
    rw [hn]
    show (pansBack v).pace.suspOrder = l
    rw [hback, restorePan_pace]
    show v.pace.suspOrder.tail = l
    rw [h.suspOrder_eq, ho]; rfl
  · rw [hpan, if_neg hq.symm, hv]

/-- A restore at level 5 brings back every suspended pan. -/
theorem PeriodOver.restored_of_five (hlevel : s.pace.level = 5) (hlen : s.pace.suspOrder.length ≤ 32)
    (hd : s.pace.suspOrder.Nodup) : (restoreStep v).pace.suspOrder = [] ∧
      ∀ p x, mget s.pans.act p = some x → mget (restoreStep v).pans.act p =
        some (if p ∈ s.pace.suspOrder then broughtBack s x else x) := by
  obtain ⟨u, hu⟩ : ∃ u : State, u = { v with pace := { v.pace with nAtFive := none } } := ⟨_, rfl⟩
  have hback : pansBack v = restoreAll 32 u := by rw [pansBack, if_pos (h.level_eq.trans hlevel), hu]
  have horder : u.pace.suspOrder = s.pace.suspOrder := by rw [hu]; exact h.suspOrder_eq
  have hat : backAt u = broughtBack s := by rw [← h.backAt_eq, hu]; rfl
  refine ⟨?_, fun p x hp => ?_⟩
  · obtain ⟨n, hn⟩ := (restored_restoreStep v).pace
    rw [hn]
    show (pansBack v).pace.suspOrder = []
    rw [hback, restoreAll_pace]
    show u.pace.suspOrder.drop 32 = []
    rw [horder, List.drop_eq_nil_iff.mpr hlen]
  · have hux : panAt u p = some x := by rw [hu, panAt]; show mget v.pans.act p = _; rw [h.pans, hp]
    rw [(restored_restoreStep v).pans, hback]
    show panAt (restoreAll 32 u) p = _
    rw [panAt_restoreAll 32 u (horder ▸ hlen) (horder ▸ hd), horder, hux, hat]
    split <;> rfl

/-- A shed step, from the end of the period on (spec/02 R51-R54, R58). -/
theorem PeriodOver.shed (hlevel : s.pace.level < lastLevel s) :
    let t := stepShed v
    s.pace.level < t.pace.level ∧ t.pace.level ≤ lastLevel s ∧
      (∀ l, s.pace.level < l → l < t.pace.level → hasWork s l = false) ∧
      (hasWork s t.pace.level = true ∨ t.pace.level = lastLevel s) ∧
      t.pace.shedCnt.toNat = min 65535 (s.pace.shedCnt.toNat + 1) ∧ t.pace.hiRun = 0 ∧
      (let n := ((windowsOpen s (paceEnd s)).filter (fun r => decide (s.pace.level < r.1 ∧ r.1 ≤ t.pace.level))).length
       t.pace.backoff = if n = 0 then backoffAt s (paceEnd s)
         else min (backoffAt s (paceEnd s) + n) (paceNum s pPwrBackoffMax)) ∧
      (s.pace.level = 0 → s.pwr.coreUp = true → s.slu.ntc.length < 490 → immWord 3 t.pace.level ∈ t.slu.ntc) ∧
      (t.pace.level ≤ 4 → t.pans = s.pans) ∧
      (mrising s.pans.act = true → 5 ≤ t.pace.level → paceNum s pPwrPanKeep < panCount s →
        ∃ p, Worst s p ∧ Suspends s t p) := by
  obtain ⟨w, k, ⟨a, hw⟩, hlo, hhi, hidle, hstop, hafter⟩ := stepShed_spec (s := v)
      (by rw [h.level_eq, h.lastLevel_eq]; exact hlevel)
  obtain ⟨x, hx⟩ : ∃ x, x = addShed (shedTo w) 1 := ⟨_, rfl⟩
  rw [← hx] at hafter
  rw [h.level_eq] at hlo hidle hafter
  rw [h.lastLevel_eq] at hhi hstop
  have hwork : ∀ l, hasWork v l = hasWork s l := h.samePars.hasWork_eq h.pans h.acq
  have hwpans : w.pans = s.pans := by rw [hw]; exact h.pans
  have hwsame : SamePars s w := h.samePars.trans ⟨by rw [hw], .of_params (by rw [hw]) _⟩
  have hsheds := sheds_shedTo w
  obtain ⟨l, n, o, hp⟩ := hsheds.pace
  have hl : l = k + 1 := by
    have := shedTo_level w
    rw [hp, hw] at this
    exact this
  have hxpace : x.pace = { v.pace with
      level := k + 1, nAtFive := n, suspOrder := o
      shedCnt := BitVec.ofNat 16 (min 65535 (v.pace.shedCnt.toNat + 1)) } := by
    rw [hx, addShed, hp, hl, hw]
  have hxpars : x.params = w.params := by
    rw [hx]; exact eq_of_beq (agree_of_onlyIn hsheds.frame .params (by decide))
  have hxsame : SamePars s x := ⟨by rw [hxpace]; exact h.samePars.old, hwsame.pars.trans (.of_params hxpars _)⟩
  have hxtime : dtcNow x = paceEnd s := by
    have : x.time = w.time := by rw [hx]; exact eq_of_beq (agree_of_onlyIn hsheds.frame .time (by decide))
    rw [dtcNow_congr this, hw, ← h.time]
    rfl
  have hxrestores : x.pace.restores = windowsOpen s (paceEnd s) := by rw [hxpace]; exact h.restores_eq
  have hopen := hxsame.windowsOpen_again hxrestores
  have hback : backoffAt x (paceEnd s) = backoffAt s (paceEnd s) :=
    (hxsame.backoffAt_again hxrestores).trans (by rw [hxpace]; exact h.backoff_eq)
  have hxlevel : x.pace.level = k + 1 := by rw [hxpace]
  obtain ⟨r, hr⟩ := hafter.pace
  have htlevel : (stepShed v).pace.level = k + 1 := by rw [hr]; exact hxlevel
  dsimp only
  rw [htlevel]
  refine ⟨by omega, by omega, fun j h1 h2 => ?_, ?_, ?_, by rw [hr], ?_, fun h0 up room => ?_, fun hk => ?_,
    fun hm hk hkeep => ?_⟩
  · rw [← hwork]; exact hidle j h1 (by omega)
  · rw [← hwork]; exact hstop
  · rw [hr, hxpace, h.pace]; exact toNat_shedCnt _
  · rw [hr]
    show backoffAfter x s.pace.level = _
    unfold backoffAfter relapses
    rw [hxtime, hopen, hback, hxsame.paceNum_eq (by decide), hxlevel]
  · have hxpwr : x.pwr = s.pwr := by
      have : x.pwr = w.pwr := by rw [hx]; exact eq_of_beq (agree_of_onlyIn hsheds.frame .pwr (by decide))
      rw [this, hw]; exact h.pwr
    have hxslu : x.slu = v.slu := by
      have : x.slu = w.slu := by rw [hx]; exact eq_of_beq (agree_of_onlyIn hsheds.frame .slu (by decide))
      rw [this, hw]
    have := hafter.told h0 (by rw [hxlevel]; omega) (by rw [hxpwr]; exact up)
      (by rw [hxslu]; have := h.length; omega)
    rwa [hxlevel] at this
  · rw [hafter.pans, hx]
    show (shedTo w).pans = s.pans
    rw [shedTo_of_low (by rw [hw]; show k + 1 < 5; omega)]
    exact hwpans
  · have hkeep' : paceNum w pPwrPanKeep < panCount w := by
      rw [hwsame.paceNum_eq (by decide), panCount, hwpans]; exact hkeep
    obtain ⟨p, ⟨y, hy, hsusp, hmin⟩, hsus⟩ := shedTo_of_high (by rw [hwpans]; exact hm) (by rw [hw]; exact hk) hkeep'
    rw [hwpans] at hy hmin
    have htpans : (stepShed v).pans = (shedTo w).pans := by rw [hafter.pans, hx]; rfl
    refine ⟨p, ⟨y, hy, hsusp, hmin⟩, ?_, ?_, fun q hq => ?_, ?_⟩
    · have horder := hsus.order
      rw [hr, hxpace]
      show o = p :: s.pace.suspOrder
      rw [hp, hw] at horder
      rw [← h.suspOrder_eq]
      exact horder
    · rw [panAt, htpans]; exact hsus.pan
    · have := hsus.others q hq
      rw [panAt, htpans, panAt, ← hwpans]; exact this
    · rw [panCount, htpans, panCount, ← hwpans]; exact hsus.count

end

/-! ### Relapse windows -/

theorem exec_relapseWindowExpiry_of_cons {s : State} {r : Nat × Nat × Bool} {rs : List (Nat × Nat × Bool)}
    (h : s.pace.restores = r :: rs) : exec .relapseWindowExpiry s =
      .next (closeWindows (carryDtc s (r.2.1 + paceNum s pPwrRelapseWin * 16368))) := by
  show execRelapseWindowExpiry s = _
  unfold execRelapseWindowExpiry
  rw [h]
  rfl

theorem exec_relapseWindowExpiry_of_nil {s : State} (h : s.pace.restores = []) :
    exec .relapseWindowExpiry s = .next s := by
  show execRelapseWindowExpiry s = _
  unfold execRelapseWindowExpiry
  rw [h]

/-- Settles O46, by the four outcomes of a pace period: the jump, the shed step, the restore, and none of them. -/
theorem paceMonitor : Obligations.PaceMonitor := by
  intro s o
  refine ⟨fun hp hm hwait hdn hhold => ?_, fun hp => exec_pacePeriodEnd_of_not_pacing hp o, fun r rs hr => ?_,
    exec_relapseWindowExpiry_of_nil⟩
  · have up : s.pwr.coreUp = true := by
      simp only [pacing, Bool.and_eq_true] at hp
      exact hp.1.2
    have hset := settles_settled hp o
    obtain ⟨u, hu⟩ : ∃ u, u = settled (sensed s o) := ⟨_, rfl⟩
    rw [← hu] at hset
    obtain ⟨v, hv⟩ : ∃ v, v = commanded u := ⟨_, rfl⟩
    have hover : PeriodOver s v := hv ▸ hset.periodOver
    obtain ⟨w, hw⟩ : ∃ w, w = shedOrRestored v (fill s) := ⟨_, rfl⟩
    have hacts : PaceActs v w := hw ▸ paceActs_shedOrRestored v _
    have hexec : exec (.pacePeriodEnd o) s = .next (endPeriod w) := by
      rw [exec_pacePeriodEnd_of_pacing hp, pacePeriod_eq, ← hu, hset.length_fifo, ← hv, hw]
    have hdecide := hw.trans (hover.shedOrRestored_eq hwait hhold)
    refine ⟨endPeriod w, hexec, ?_, rfl, fun soft _ hfloor _ hle _ _ => ?_, fun hr => ?_, fun hj hs hr => ?_, fun hs => ?_,
      fun hj => ?_, ?_⟩
    · exact (dtcNow_congr (eq_of_beq (agree_of_onlyIn hacts.frame .time (by decide)))).trans hover.time
    · obtain ⟨htarget, hceil⟩ := hset.target up soft hfloor hle hdn
      have hvreg : w.vreg = (commanded u).vreg := hv ▸ eq_of_beq (agree_of_onlyIn hacts.frame .vreg (by decide))
      refine ⟨?_, fun hen hdue => ?_⟩
      · show (w.vreg.target : Int) = _
        rw [hvreg, htarget]
      · exact hacts.atCeil.trans (hv ▸ hceil hen hdue)
    · have hr' := hr
      simp only [restores, Bool.and_eq_true, Bool.not_eq_true', decide_eq_true_eq] at hr'
      obtain ⟨⟨⟨⟨hj, hs⟩, -⟩, hlevel⟩, -⟩ := hr'
      rw [if_neg (by simp [hj]), if_neg (by simp [hs]), if_pos hr] at hdecide
      rw [hdecide]
      obtain ⟨h1, h2, h3, h4⟩ := hover.restored hlevel
      exact ⟨h1, h2, h3, h4, fun hone room => (restored_restoreStep v).told (hover.level_eq.trans hone)
          (by rw [hover.pwr]; exact up) (by have := hover.length; omega),
        hover.restored_pans_of_low, fun p l x h5 ho hx => hover.restored_of_high h5 ho hx, hover.restored_of_five⟩
    · rw [if_neg (by simp [hj]), if_neg (by simp [hs]), if_neg (by simp [hr])] at hdecide
      rw [hdecide]
      exact ⟨hover.level_eq, hover.pans, hover.backoff_eq⟩
    · have hs' := hs
      simp only [shedDue, Bool.and_eq_true, Bool.not_eq_true', decide_eq_true_eq] at hs'
      obtain ⟨⟨hj, -⟩, -, -, hlevel⟩ := hs'
      rw [if_neg (by simp [hj]), if_pos hs] at hdecide
      rw [hdecide]
      obtain ⟨h1, h2, h3, h4, h5, h6, h7, h8, h9, h10⟩ := hover.shed hlevel
      refine ⟨h1, h2, h3, h4, h5, h6, h7, fun h0 room => h8 h0 up room, h9, fun hk hkeep => ?_⟩
      obtain ⟨p, hworst, hsus⟩ := h10 hm hk hkeep
      obtain ⟨x, hx, hx1, hx2, hx3, hx4, hx5⟩ := hsus.pan
      exact ⟨p, x, hworst, hsus.order, hx, hx1, hx2, hx3, hx4, hx5, hsus.others, hsus.count⟩
    · rw [if_pos hj] at hdecide
      have hlevel : s.pace.level < lastLevel s := (of_decide_eq_true hj).2
      have hjump := jumpShed_spec (s := v) (by rw [hover.level_eq, hover.lastLevel_eq]; exact hlevel)
      rw [hdecide]
      refine ⟨hjump.level.trans hover.lastLevel_eq, hjump.jump, ?_, fun c hc => hjump.cell c (by rw [hover.acq]; exact hc)⟩
      refine hjump.shedCnt.trans ?_
      rw [hover.lastLevel_eq, hover.pace]
    · exact onlyIn_trans (onlyIn_mono hover.frame (by simp))
        (onlyIn_mono (hacts.trans (paceActs_endPeriod w)).frame (by simp))
  · dsimp only
    rw [exec_relapseWindowExpiry_of_cons hr, closeWindows_eq]
    obtain ⟨x, hx⟩ := carryDtc_onlyTime s (r.2.1 + paceNum s pPwrRelapseWin * 16368)
    rw [hx]
    rfl

end Sys2Proof.Proofs
end

section
/-! PROOFS. The end of an integration (spec/04 R100-R110, spec/05 R128): what applies at every boundary, what a result does to
the lock indicators, and the use of decoded message content. -/

namespace Sys2Proof.Proofs

open Sys2Proof Sys2Proof.Machine Sys2Proof.Spec

/-! ### An integration boundary (spec/04 R100, R101, R104) -/

/-- The DTC count at which the integration of a pan ends. -/
def boundaryAt (x : Pan) : Nat := x.posAt + x.coh * 16368

/-- The tap settings after a boundary. -/
def nextTaps (s : State) (x : Pan) : Nat × Nat × Int × Int :=
  x.pendTaps.getD (x.elSp, x.velSp, tapAfter s pTrkXaMode x.xaOff, tapAfter s pTrkXbMode x.xbOff)

/-- The carrier and code rates after a boundary. -/
def nextRates (x : Pan) : BitVec 32 × BitVec 32 := x.pendRate.getD (x.carNco, x.codeNco)

/-- The boundary at the end of the integration is a data-bit edge. -/
def edgeNext (x : Pan) : Bool := x.bitSync && (x.ms + x.coh) % 20 == x.bitPos

/-- The integration length after a boundary. -/
def nextCoh (x : Pan) : Nat := if edgeNext x then x.pendCoh.getD x.coh else x.coh

/-- A pan after a boundary at DTC count `till`, at which its NCOs stand at the phases given. -/
def bounded (s : State) (x : Pan) (chip : Nat) (codePh carPh : BitVec 32) (till : Nat) : Pan :=
  { x with
    chip := chip, codePh := codePh, carPh := carPh, posAt := till, ms := x.ms + x.coh
    elSp := (nextTaps s x).1, velSp := (nextTaps s x).2.1, xaOff := (nextTaps s x).2.2.1, xbOff := (nextTaps s x).2.2.2
    pendTaps := none
    carNco := (nextRates x).1, codeNco := (nextRates x).2, pendRate := none
    coh := nextCoh x, pendCoh := if edgeNext x then none else x.pendCoh
    cnWin := if nextCoh x = x.coh then x.cnWin else (0, 0, 0)
    pliWin := if nextCoh x = x.coh then x.pliWin else (0, 0, 0) }

theorem roam_eq_tapAfter (s : State) (mode : Nat) (x : Int) : roam s mode x = tapAfter s mode x := by
  unfold roam tapAfter
  by_cases h : s.parN mode = 2
  · rw [if_pos h, if_neg (not_not.mpr h)]
  · rw [if_neg h, if_pos h]

/-- The tap settings that wait apply, or the roaming taps step. -/
def tapStep (s : State) (x : Pan) : Pan :=
  match x.pendTaps with
  | some (el, vel, xa, xb) => { x with elSp := el, velSp := vel, xaOff := xa, xbOff := xb, pendTaps := none }
  | none => { x with xaOff := roam s pTrkXaMode x.xaOff, xbOff := roam s pTrkXbMode x.xbOff }

/-- The rates that wait apply. -/
def rateStep (x : Pan) : Pan :=
  match x.pendRate with
  | some (car, code) => { x with carNco := car, codeNco := code, pendRate := none }
  | none => x

/-- The integration length that waits applies at a data-bit edge. -/
def cohStep (x : Pan) : Pan :=
  match x.pendCoh with
  | some c => if atBitEdge x then setCoh x c else x
  | none => x

theorem panBoundary_eq_steps (s : State) (x : Pan) (till : Nat) :
    panBoundary s x till = cohStep (rateStep (tapStep s { advancePan s x till with ms := x.ms + x.coh })) := rfl

theorem tapStep_eq (s : State) (x : Pan) : tapStep s x = { x with
    elSp := (nextTaps s x).1, velSp := (nextTaps s x).2.1, xaOff := (nextTaps s x).2.2.1, xbOff := (nextTaps s x).2.2.2
    pendTaps := none } := by
  unfold tapStep nextTaps
  cases h : x.pendTaps with
  | none => rw [roam_eq_tapAfter, roam_eq_tapAfter]; rfl
  | some v => rfl

theorem rateStep_eq (x : Pan) : rateStep x =
    { x with carNco := (nextRates x).1, codeNco := (nextRates x).2, pendRate := none } := by
  unfold rateStep nextRates
  cases h : x.pendRate with
  | none =>
    show x = { x with carNco := x.carNco, codeNco := x.codeNco, pendRate := none }
    rw [← h]
  | some v => rfl

theorem cohStep_eq (x : Pan) : cohStep x = { x with
    coh := if atBitEdge x then x.pendCoh.getD x.coh else x.coh, pendCoh := if atBitEdge x then none else x.pendCoh
    cnWin := if (if atBitEdge x then x.pendCoh.getD x.coh else x.coh) = x.coh then x.cnWin else (0, 0, 0)
    pliWin := if (if atBitEdge x then x.pendCoh.getD x.coh else x.coh) = x.coh then x.pliWin else (0, 0, 0) } := by
  unfold cohStep
  cases hc : x.pendCoh with
  | none =>
    simp only [Option.getD_none, ite_self, if_true]
    rw [← hc]
  | some c =>
    cases he : atBitEdge x with
    | true =>
      simp only [if_true, Option.getD_some, setCoh, @eq_comm _ x.coh c]
    | false =>
      simp only [Bool.false_eq_true, if_false, if_true]
      rw [← hc]

/-- The NCOs run on at their rates over the whole integration. -/
theorem advancePan_boundaryAt (s : State) (x : Pan) : ∃ chip codePh carPh,
    advancePan s x (boundaryAt x) = { x with chip := chip, codePh := codePh, carPh := carPh, posAt := boundaryAt x } ∧
    (let n := x.coh * (if s.par pSmpMode = 1 then 16368 else 8184)
     chip * 2 ^ 32 + codePh.toNat = (x.chip * 2 ^ 32 + x.codePh.toNat + x.codeNco.toNat * n) % (1023 * 2 ^ 32) ∧
     carPh = BitVec.ofNat 32 (x.carPh.toNat + x.carNco.toNat * n)) := by
  have hn : (boundaryAt x - x.posAt) * sampleHz s / countsPerSec = x.coh * (if s.par pSmpMode = 1 then 16368 else 8184) := by
    unfold boundaryAt sampleHz
    rw [show countsPerSec = 16368000 from rfl]
    split <;> omega
  have hat : max x.posAt (boundaryAt x) = boundaryAt x := max_eq_right (Nat.le_add_right _ _)
  unfold advancePan
  dsimp only
  rw [hn, hat]
  refine ⟨_, _, _, rfl, ?_, rfl⟩
  rw [BitVec.toNat_ofNat]
  exact Nat.div_add_mod' _ _

theorem panBoundary_eq (s : State) (x : Pan) : ∃ chip codePh carPh,
    panBoundary s x (boundaryAt x) = bounded s x chip codePh carPh (boundaryAt x) ∧
    (let n := x.coh * (if s.par pSmpMode = 1 then 16368 else 8184)
     chip * 2 ^ 32 + codePh.toNat = (x.chip * 2 ^ 32 + x.codePh.toNat + x.codeNco.toNat * n) % (1023 * 2 ^ 32) ∧
     carPh = BitVec.ofNat 32 (x.carPh.toNat + x.carNco.toNat * n)) := by
  obtain ⟨chip, codePh, carPh, hadv, hphases⟩ := advancePan_boundaryAt s x
  refine ⟨chip, codePh, carPh, ?_, hphases⟩
  rw [panBoundary_eq_steps, hadv, tapStep_eq]
  dsimp only
  rw [rateStep_eq]
  dsimp only
  rw [cohStep_eq]
  rfl

theorem nextCoh_eq (x : Pan) : nextCoh x =
    if x.bitSync = true ∧ (x.ms + x.coh) % 20 = x.bitPos then x.pendCoh.getD x.coh else x.coh := by
  unfold nextCoh edgeNext
  simp only [Bool.and_eq_true, beq_iff_eq]

/-! ### The result (spec/04 R101, R102) -/

/-- TRK's count of results that it has not read, brought up to date. -/
def serviced (s : State) (x : Pan) : State := if x.ready then s.bumpPar pTrkLateCnt else s

theorem serviced_eq (s : State) (x : Pan) : serviced s x = { s with params := (serviced s x).params } := by
  unfold serviced; split <;> rfl

theorem parsKept_serviced (s : State) (x : Pan) : ParsKept [pTrkLateCnt] s (serviced s x) := by
  unfold serviced
  split
  · exact parsKept_bumpPar s _
  · exact .of_params rfl _

theorem panResult_eq_wordsOut {s u : State} (hpars : ParsKept [pTrkLateCnt] s u) (hpace : u.pace = s.pace) (o : IntegObs) :
    panResult u o = wordsOut s o := by
  have htap : ∀ mode i, mode ∉ [pTrkLateCnt] → (if tapRuns u mode then o.result.getD i 0 else 0) =
      if s.parN mode ≠ 0 ∧ s.pace.level < 4 then o.result.getD i 0 else 0 := by
    intro mode i hmode
    refine if_congr ?_ rfl rfl
    unfold tapRuns
    rw [hpars.parN hmode, hpace, Bool.and_eq_true, bne_iff_ne, decide_eq_true_eq]
  unfold panResult wordsOut
  dsimp only
  rw [htap _ _ (by decide), htap _ _ (by decide), htap _ _ (by decide), htap _ _ (by decide), hpars.parN (by decide)]
  rfl

/-- A pan with a new result, before the indicators take it in. -/
def received (s : State) (x : Pan) (o : IntegObs) : Pan :=
  { x with lastP := if x.result = [] then none else some (tapIQ x.result 0), result := panResult s o, ready := true }

/-! ### C/N0 and code_lk (spec/04 R109, R110) -/

theorem power_tapIQ (l : List Word) (i : Nat) : power (tapIQ l i) = sqI l (2 * i) + sqI l (2 * i + 1) := by
  unfold power tapIQ sqI
  exact Int.toNat_add (mul_self_nonneg _) (mul_self_nonneg _)

theorem stepCn0_eq (s : State) (x : Pan) : stepCn0 s x = { x with
    cn0 := (stepCn0 s x).cn0, codeLk := (stepCn0 s x).codeLk, lossMs := (stepCn0 s x).lossMs
    cnWin := (stepCn0 s x).cnWin } := by
  unfold stepCn0 closeCn0
  dsimp only
  split <;> rfl

theorem cn0AtLeast_eq (p2 n2 coh db : Nat) :
    (decide (0 < (p2 - n2) * 1000) && dbAtLeast ((p2 - n2) * 1000) (n2 * coh) (10 * db)) = cn0AtLeast p2 n2 coh db := by
  unfold dbAtLeast cn0AtLeast
  rw [← Bool.decide_and, decide_eq_decide]
  exact and_congr (by omega) Iff.rfl

theorem codeRight_stepCn0 (s : State) (x : Pan) : CodeRight s x (stepCn0 s x) := by
  have hcoh : (stepCn0 s x).coh = x.coh := by rw [stepCn0_eq]
  have hres : (stepCn0 s x).result = x.result := by rw [stepCn0_eq]
  unfold CodeRight window
  dsimp only
  rw [hcoh, hres, if_pos rfl]
  have hp := power_tapIQ x.result 0
  have hn := power_tapIQ x.result 7
  simp only [Nat.mul_zero, Nat.zero_add, Nat.reduceMul, Nat.reduceAdd] at hp hn
  rw [← hp, ← hn]
  unfold stepCn0
  dsimp only
  refine ⟨fun h => ?_, fun h => ?_⟩
  · rw [if_neg (not_le.mpr h)]
    exact ⟨rfl, rfl, rfl, rfl⟩
  · rw [if_pos h]
    unfold closeCn0
    simp only [cn0AtLeast_eq]
    refine ⟨trivial, trivial, if_congr ?_ rfl rfl, trivial⟩
    omega

/-! ### PLI, car_lk and the carrier state (spec/04 R107, R110) -/

theorem stepPli_eq (s : State) (x : Pan) : stepPli s x = { x with
    pliRun := (stepPli s x).pliRun, carLk := (stepPli s x).carLk, phase := (stepPli s x).phase
    pliWin := (stepPli s x).pliWin } := by
  unfold stepPli closePli
  dsimp only
  split <;> rfl

theorem carrierRight_stepPli (s : State) (x : Pan) : CarrierRight s x (stepPli s x) := by
  have hcoh : (stepPli s x).coh = x.coh := by rw [stepPli_eq]
  have hres : (stepPli s x).result = x.result := by rw [stepPli_eq]
  unfold CarrierRight window
  dsimp only
  rw [hcoh, hres, if_pos rfl]
  have hdef : stepPli s x = if s.parN pTrkLockWin ≤ x.pliWin.2.2 + x.coh then
      closePli s x (x.pliWin.1 + sqI x.result 0) (x.pliWin.2.1 + sqI x.result 1)
      else { x with pliWin := (x.pliWin.1 + sqI x.result 0, x.pliWin.2.1 + sqI x.result 1, x.pliWin.2.2 + x.coh) } := rfl
  rw [hdef]
  generalize x.pliWin.1 + sqI x.result 0 = i2
  generalize x.pliWin.2.1 + sqI x.result 1 = q2
  refine ⟨fun h => ?_, fun h => ?_⟩
  · rw [if_neg (not_le.mpr h)]
    exact ⟨rfl, rfl, rfl, rfl⟩
  · rw [if_pos h]
    have hclose : closePli s x i2 q2 =
        (let run := if pliAtLeast i2 q2 (s.par pTrkPliThr) then x.pliRun + 1 else 0
         let lk := if 2 ≤ run then true else if pliAtLeast i2 q2 (s.par pTrkPliThr - 15) then x.carLk else false
         { x with
            pliRun := min 2 run, carLk := lk, pliWin := (0, 0, 0)
            phase := if x.phase = .pull then .pull else if lk then .lock else .fll }) := by
      unfold closePli pliAtLeast
      cases x.phase <;> rfl
    rw [hclose]
    dsimp only
    cases pliAtLeast i2 q2 (s.par pTrkPliThr) with
    | true => exact ⟨rfl, rfl, if_congr (by simp) rfl rfl, rfl⟩
    | false => exact ⟨rfl, rfl, if_congr (by simp) rfl rfl, rfl⟩

/-! ### bit_sync (spec/04 R104, R105) -/

theorem largest_spec (c : Nat × Nat) (cs : List (Nat × Nat)) :
    largest (c :: cs) ∈ c :: cs ∧ ∀ x ∈ c :: cs, x.2 ≤ (largest (c :: cs)).2 := by
  change cs.foldl (fun b x => if b.2 < x.2 then x else b) c ∈ c :: cs ∧
    ∀ x ∈ c :: cs, x.2 ≤ (cs.foldl (fun b x => if b.2 < x.2 then x else b) c).2
  induction cs generalizing c with
  | nil => simp
  | cons d ds ih =>
    rw [List.foldl_cons]
    by_cases h : c.2 < d.2
    · rw [if_pos h]
      obtain ⟨hmem, hle⟩ := ih d
      refine ⟨List.mem_cons_of_mem _ hmem, fun x hx => ?_⟩
      rcases List.mem_cons.mp hx with rfl | hx
      · exact h.le.trans (hle d List.mem_cons_self)
      · exact hle x hx
    · rw [if_neg h]
      obtain ⟨hmem, hle⟩ := ih c
      refine ⟨?_, fun x hx => ?_⟩
      · rcases List.mem_cons.mp hmem with he | hd
        · rw [he]; exact List.mem_cons_self
        · exact List.mem_cons_of_mem _ (List.mem_cons_of_mem _ hd)
      · rcases List.mem_cons.mp hx with rfl | hx
        · exact hle x List.mem_cons_self
        · rcases List.mem_cons.mp hx with rfl | hx
          · exact (not_lt.mp h).trans (hle c List.mem_cons_self)
          · exact hle x (List.mem_cons_of_mem _ hx)

/-- The position of most sign changes, with their number. -/
theorem bestSign_spec (l : List Nat) : (bestSign l).1 < 20 ∧ (bestSign l).2 = l.getD (bestSign l).1 0 ∧
    ∀ i, i < 20 → l.getD i 0 ≤ (bestSign l).2 := by
  have hcons : (List.range 20).map (fun i => (i, l.getD i 0)) =
      (0, l.getD 0 0) :: ((List.range 20).map (fun i => (i, l.getD i 0))).tail := rfl
  have hspec := largest_spec (0, l.getD 0 0) ((List.range 20).map (fun i => (i, l.getD i 0))).tail
  rw [← hcons] at hspec
  obtain ⟨hmem, hle⟩ := hspec
  obtain ⟨i, hi, he⟩ := List.mem_map.mp hmem
  unfold bestSign
  rw [← he] at hle ⊢
  exact ⟨List.mem_range.mp hi, rfl, fun j hj => hle (j, l.getD j 0) (List.mem_map.mpr ⟨j, List.mem_range.mpr hj, rfl⟩)⟩

theorem stepBits_eq (s : State) (x : Pan) (o : IntegObs) : stepBits s x o = { x with
    bitSync := (stepBits s x o).bitSync, bitPos := (stepBits s x o).bitPos, pendCoh := (stepBits s x o).pendCoh
    signs := (stepBits s x o).signs } := by
  unfold stepBits countSigns setBits
  dsimp only
  split_ifs <;> rfl

theorem stepBits_of_sync (s : State) {x : Pan} (h : x.bitSync = true) (o : IntegObs) : stepBits s x o = x := if_pos h

/-- The counts of sign changes once a result is taken in. -/
def signCounts (x : Pan) : List Nat :=
  let at_ := (x.ms - x.coh) % 20
  let change : Bool := match x.lastP with
    | some p => decide (p.1 < 0) != decide ((tapIQ x.result 0).1 < 0)
    | none => false
  if change then x.signs.1.set at_ (x.signs.1.getD at_ 0 + 1) else x.signs.1

/-- Position `b` has most of the sign changes `l`, at least 8, and 60 % of them all (R105). -/
def MostChanges (l : List Nat) (b : Nat) : Prop :=
  b < 20 ∧ (∀ i, i < 20 → l.getD i 0 ≤ l.getD b 0) ∧ 60 * l.sum ≤ 100 * l.getD b 0 ∧ 8 ≤ l.getD b 0

theorem countSigns_eq (s : State) (x : Pan) : countSigns s x =
    if x.signs.2 + x.coh < s.parN pTrkBsWin then { x with signs := (signCounts x, x.signs.2 + x.coh) }
    else if 6 * (signCounts x).sum ≤ 10 * (bestSign (signCounts x)).2 ∧ 8 ≤ (bestSign (signCounts x)).2 then
      setBits s x (bestSign (signCounts x)).1
    else { x with signs := (List.replicate 20 0, 0) } := rfl

theorem stepBits_of_known {s : State} {x : Pan} {o : IntegObs} (hb : x.bitSync = false) (hk : bitPredicted s x = true) :
    stepBits s x o = setBits s x o.predEdge := by
  rw [stepBits, if_neg (by simp [hb]), if_pos hk]

theorem stepBits_of_unknown {s : State} {x : Pan} {o : IntegObs} (hb : x.bitSync = false) (hk : bitPredicted s x = false) :
    stepBits s x o = countSigns s x := by
  rw [stepBits, if_neg (by simp [hb]), if_neg (by simp [hk])]

/-- At the end of a window bit sync comes exactly with a position of most changes. -/
theorem countSigns_of_over {s : State} {x : Pan} (hb : x.bitSync = false) (h : s.parN pTrkBsWin ≤ x.signs.2 + x.coh) :
    ((countSigns s x).bitSync = true ↔ ∃ b, MostChanges (signCounts x) b) ∧
      ((countSigns s x).bitSync = true → MostChanges (signCounts x) (countSigns s x).bitPos) := by
  obtain ⟨hlt, hval, hmax⟩ := bestSign_spec (signCounts x)
  rw [countSigns_eq, if_neg (not_lt.mpr h)]
  by_cases hc : 6 * (signCounts x).sum ≤ 10 * (bestSign (signCounts x)).2 ∧ 8 ≤ (bestSign (signCounts x)).2
  · have hmost : MostChanges (signCounts x) (bestSign (signCounts x)).1 :=
      ⟨hlt, fun i hi => hval ▸ hmax i hi, by rw [← hval]; omega, hval ▸ hc.2⟩
    rw [if_pos hc]
    refine ⟨⟨fun _ => ⟨_, hmost⟩, fun _ => rfl⟩, fun _ => ?_⟩
    show MostChanges (signCounts x) ((bestSign (signCounts x)).1 % 20)
    rwa [Nat.mod_eq_of_lt hlt]
  · rw [if_neg hc]
    have hno : ¬ x.bitSync = true := by simp [hb]
    refine ⟨⟨fun k => absurd k hno, fun ⟨b, hb20, hbmax, hsum, h8⟩ => absurd ?_ hc⟩, fun k => absurd k hno⟩
    have := hmax b hb20
    omega

theorem countSigns_bitSync {s : State} {x : Pan} (hb : x.bitSync = false) (h : (countSigns s x).bitSync = true) :
    (countSigns s x).pendCoh = some (s.parN pTrkCoh) := by
  rw [countSigns_eq] at h ⊢
  split_ifs at h ⊢
  · exact absurd (hb.symm.trans h) Bool.false_ne_true
  · rfl
  · exact absurd (hb.symm.trans h) Bool.false_ne_true

/-! ### Pan search (spec/04 R114) -/

/-- A pan search changes nothing but itself until it finds the signal; then the pan enters PULL where it stands. -/
theorem stepSearch_cases (s : State) (x : Pan) (q : PanSrch) : (∃ r, stepSearch s x q = { x with reacq := some r }) ∨
    ∃ k, stepSearch s x q = psFound s x k := by
  unfold stepSearch
  dsimp only
  split_ifs
  · exact .inl ⟨_, rfl⟩
  · exact .inl ⟨_, rfl⟩
  · exact .inr ⟨_, rfl⟩
  · exact .inl ⟨_, rfl⟩

/-! ### Frame sync (spec/04 R105, R110) -/

/-- A pan with a decoded word's content taken in. -/
def framed (x : Pan) (l : Option LnavItem) : Pan :=
  match l with
  | some i => stepFrame x i
  | none => x

theorem stepFrame_eq (x : Pan) (i : LnavItem) : stepFrame x i = { x with
    frmSync := (stepFrame x i).frmSync, preamble := (stepFrame x i).preamble, parityRun := (stepFrame x i).parityRun
    sf1 := (stepFrame x i).sf1, sf2 := (stepFrame x i).sf2, sf3 := (stepFrame x i).sf3 } := by
  cases i <;> unfold stepFrame <;> dsimp only <;> split_ifs <;> rfl

theorem framed_eq (x : Pan) (l : Option LnavItem) : framed x l = { x with
    frmSync := (framed x l).frmSync, preamble := (framed x l).preamble, parityRun := (framed x l).parityRun
    sf1 := (framed x l).sf1, sf2 := (framed x l).sf2, sf3 := (framed x l).sf3 } := by
  cases l with
  | none => rfl
  | some i => exact stepFrame_eq x i

theorem framed_frmSync (x : Pan) (l : Option LnavItem) : (framed x l).frmSync =
    match l with
    | some (.preamble ok) => x.frmSync || (x.bitSync && ok && x.preamble.map (· + 6000) == some x.ms)
    | some .subframeFail => x.frmSync && decide (x.parityRun = 0)
    | _ => x.frmSync := by
  cases l with
  | none => rfl
  | some i =>
    show (stepFrame x i).frmSync = _
    cases i with
    | preamble ok =>
      unfold stepFrame
      dsimp only
      split_ifs with hno hyes
      · rcases hno with hb | hf
        · simp [hb]
        · simp [hf]
      · obtain ⟨hb, hf⟩ := not_or.mp hno
        simp [not_not.mp hb, hyes]
      · obtain ⟨hb, hf⟩ := not_or.mp hno
        cases ok with
        | false => simp
        | true => simp [show x.preamble.map (· + 6000) ≠ some x.ms from fun e => hyes ⟨e, rfl⟩]
    | subframeFail =>
      unfold stepFrame
      dsimp only
      split_ifs with hsync hrun
      · simp [show x.parityRun ≠ 0 by omega]
      · simp [hsync, show x.parityRun = 0 by omega]
      · simp [hsync]
    | clock _ _ _ => unfold stepFrame; dsimp only; split <;> rfl
    | orbitA _ _ => unfold stepFrame; dsimp only; split <;> rfl
    | orbitB _ => unfold stepFrame; dsimp only; split <;> rfl
    | _ => rfl

/-! ### Message content (spec/05 R128, spec/01 R36) -/

/-- What the use of decoded message content leaves alone. -/
structure UsesContent (s t : State) : Prop where
  frame : onlyIn [.pans, .time] s t = true
  act : t.pans.act = s.pans.act
  dtc : t.time.dtc = s.time.dtc ∧ t.time.wraps = s.time.wraps

theorem UsesContent.refl (s : State) : UsesContent s s := ⟨onlyIn_refl _ s, rfl, rfl, rfl⟩

/-- Content that leaves time alone, with what it leaves of the pans. -/
structure UsesPages (s t : State) : Prop where
  frame : onlyIn [.pans] s t = true
  act : t.pans.act = s.pans.act
  iono : t.pans.iono = s.pans.iono

theorem usesPages_of_pans (s : State) (x : PanSt) (h : x.act = s.pans.act) (hi : x.iono = s.pans.iono) :
    UsesPages s { s with pans := x } := ⟨onlyIn_pans s x, h, hi⟩

theorem UsesPages.refl (s : State) : UsesPages s s := usesPages_of_pans s s.pans rfl rfl

theorem UsesPages.content {s t : State} (h : UsesPages s t) : UsesContent s t := by
  have htime : t.time = s.time := eq_of_beq (agree_of_onlyIn h.frame .time (by decide))
  exact ⟨onlyIn_mono h.frame (by simp), h.act, by rw [htime], by rw [htime]⟩

theorem usesPages_holdEph (s : State) (prn : Nat) (e : Eph) : UsesPages s (holdEph s prn e) := by
  unfold holdEph
  dsimp only
  split
  · exact .refl s
  · exact usesPages_of_pans s _ rfl rfl

/-- Without frame sync nothing is used. -/
theorem useLnav_of_no_sync (s : State) {x : Pan} (h : x.frmSync = false) (i : LnavItem) : useLnav s x i = s := by
  unfold useLnav
  exact if_pos (by simp [h])

theorem useLnav_ionoUtc (s : State) {x : Pan} (h : x.frmSync = true) (leap : Int) (next : Option (Nat × Nat × Int)) :
    useLnav s x (.ionoUtc leap next) = { s with
      pans := { s.pans with iono := true }
      time := { s.time with utcValid := true, leap := leap, leapNext := next.map (fun n => ⟨n.1, n.2.1, n.2.2⟩) } } := by
  unfold useLnav
  exact if_neg (by simp [h])

theorem usesPages_useLnav (s : State) (x : Pan) {i : LnavItem}
    (h : (∀ leap next, i ≠ .ionoUtc leap next) ∨ x.frmSync = false) : UsesPages s (useLnav s x i) := by
  cases hf : x.frmSync with
  | false => rw [useLnav_of_no_sync s hf]; exact .refl s
  | true =>
    replace h := h.resolve_right (by simp [hf])
    have heph : ∀ r : Option Eph, UsesPages s (match r with | some e => holdEph s x.prn e | none => s) := by
      intro r
      cases r with
      | none => exact .refl s
      | some e => exact usesPages_holdEph s x.prn e
    unfold useLnav
    rw [if_neg (by simp [hf])]
    cases i with
    | clock _ _ _ => exact heph (ephSet x)
    | orbitA _ _ => exact heph (ephSet x)
    | orbitB _ => exact heph (ephSet x)
    | page five n =>
      dsimp only
      split
      · split
        · exact .refl s
        · exact usesPages_of_pans s _ rfl rfl
      · exact .refl s
    | almHealth five bad toa wna =>
      dsimp only
      split_ifs
      · exact .refl s
      · exact usesPages_of_pans s _ rfl rfl
      · exact usesPages_of_pans s _ rfl rfl
    | ionoUtc leap next => exact absurd rfl (h leap next)
    | _ => exact .refl s

/-- A decoded word's content is used. -/
def contentUsed (s : State) (x : Pan) (l : Option LnavItem) : State :=
  match l with
  | some i => useLnav s x i
  | none => s

theorem usesPages_contentUsed (s : State) (x : Pan) {l : Option LnavItem}
    (h : (∀ leap next, l ≠ some (.ionoUtc leap next)) ∨ x.frmSync = false) : UsesPages s (contentUsed s x l) := by
  cases l with
  | none => exact .refl s
  | some i => exact usesPages_useLnav s x (h.imp (fun k leap next e => k leap next (congrArg some e)) id)

theorem usesContent_contentUsed (s : State) (x : Pan) (l : Option LnavItem) : UsesContent s (contentUsed s x l) := by
  by_cases hl : ∃ leap next, l = some (.ionoUtc leap next)
  · obtain ⟨leap, next, rfl⟩ := hl
    cases hf : x.frmSync with
    | false => exact (usesPages_contentUsed s x (.inr hf)).content
    | true =>
      show UsesContent s (useLnav s x (.ionoUtc leap next))
      rw [useLnav_ionoUtc s hf]
      exact ⟨by simp [onlyIn, allParts, agree], rfl, rfl, rfl⟩
  · exact (usesPages_contentUsed s x (.inl fun leap next e => hl ⟨leap, next, e⟩)).content

end Sys2Proof.Proofs
end

section
/-! PROOFS. What an integration that ends does to its pan (spec/04 R101-R110, R114): the facts about the boundary, the result
and the indicators, told of the pan before and the pan after. -/

namespace Sys2Proof.Proofs

open Sys2Proof Sys2Proof.Machine Sys2Proof.Spec

/-! ### What every end of an integration does -/

/-- Pan `x` has come to its boundary as `y` (R100, R101, R104). -/
structure Ended (s : State) (x y : Pan) : Prop where
  posAt : y.posAt = boundaryAt x
  ms : y.ms = x.ms + x.coh
  taps : (y.elSp, y.velSp, y.xaOff, y.xbOff) = nextTaps s x
  pendTaps : y.pendTaps = none
  coh : y.coh = nextCoh x
  prn : y.prn = x.prn
  lead : y.lead = x.lead
  susp : y.susp = x.susp
  starting : y.starting = x.starting

/-- The NCOs of pan `x` have run on to its boundary as those of `y` (R100). -/
structure RanOn (s : State) (x y : Pan) : Prop where
  code : y.chip * 2 ^ 32 + y.codePh.toNat = (x.chip * 2 ^ 32 + x.codePh.toNat +
    x.codeNco.toNat * (x.coh * (if s.par pSmpMode = 1 then 16368 else 8184))) % (1023 * 2 ^ 32)
  carrier : y.carPh = BitVec.ofNat 32 (x.carPh.toNat + x.carNco.toNat * (x.coh * (if s.par pSmpMode = 1 then 16368 else 8184)))
  pendRate : y.pendRate = none
  rates : (y.carNco, y.codeNco) = nextRates x

/-- What a result, and the content decoded with it, leave of a pan. -/
structure ResultKeeps (x y : Pan) : Prop where
  posAt : y.posAt = x.posAt
  ms : y.ms = x.ms
  taps : (y.elSp, y.velSp, y.xaOff, y.xbOff) = (x.elSp, x.velSp, x.xaOff, x.xbOff)
  pendTaps : y.pendTaps = x.pendTaps
  coh : y.coh = x.coh
  prn : y.prn = x.prn
  lead : y.lead = x.lead
  susp : y.susp = x.susp
  starting : y.starting = x.starting

/-- What is left of the NCOs where the pan does not search. -/
structure NcosKept (x y : Pan) : Prop where
  chip : y.chip = x.chip
  codePh : y.codePh = x.codePh
  carPh : y.carPh = x.carPh
  carNco : y.carNco = x.carNco
  codeNco : y.codeNco = x.codeNco
  pendRate : y.pendRate = x.pendRate

theorem ResultKeeps.trans {x y z : Pan} (h : ResultKeeps x y) (k : ResultKeeps y z) : ResultKeeps x z :=
  ⟨k.posAt.trans h.posAt, k.ms.trans h.ms, k.taps.trans h.taps, k.pendTaps.trans h.pendTaps, k.coh.trans h.coh,
    k.prn.trans h.prn, k.lead.trans h.lead, k.susp.trans h.susp, k.starting.trans h.starting⟩

theorem NcosKept.trans {x y z : Pan} (h : NcosKept x y) (k : NcosKept y z) : NcosKept x z :=
  ⟨k.chip.trans h.chip, k.codePh.trans h.codePh, k.carPh.trans h.carPh, k.carNco.trans h.carNco, k.codeNco.trans h.codeNco,
    k.pendRate.trans h.pendRate⟩

theorem Ended.keeps {s : State} {x y z : Pan} (h : Ended s x y) (k : ResultKeeps y z) : Ended s x z :=
  ⟨k.posAt.trans h.posAt, k.ms.trans h.ms, k.taps.trans h.taps, k.pendTaps.trans h.pendTaps, k.coh.trans h.coh,
    k.prn.trans h.prn, k.lead.trans h.lead, k.susp.trans h.susp, k.starting.trans h.starting⟩

theorem RanOn.keeps {s : State} {x y z : Pan} (h : RanOn s x y) (k : NcosKept y z) : RanOn s x z where
  code := by rw [k.chip, k.codePh]; exact h.code
  carrier := k.carPh.trans h.carrier
  pendRate := k.pendRate.trans h.pendRate
  rates := by rw [k.carNco, k.codeNco]; exact h.rates

theorem ended_bounded (s : State) (x : Pan) (chip : Nat) (codePh carPh : BitVec 32) :
    Ended s x (bounded s x chip codePh carPh (boundaryAt x)) := ⟨rfl, rfl, rfl, rfl, rfl, rfl, rfl, rfl, rfl⟩

/-! ### A new result -/

/-- A result taken by a pan that neither searches nor fails to pull in. -/
def stepped (s : State) (x : Pan) (o : IntegObs) : Pan := stepBits s (stepPli s (stepCn0 s (received s x o))) o

section
variable {s : State} {x : Pan} {o : IntegObs}

theorem takeResult_of_search {q : PanSrch} (h : x.reacq = some q) : takeResult s x o = stepSearch s (received s x o) q := by
  unfold takeResult
  dsimp only
  split
  · next r hr => rw [show r = q from Option.some.inj (hr.symm.trans h)]; rfl
  · next hr => exact absurd (hr.symm.trans h) (Option.some_ne_none q).symm

theorem takeResult_of_late (h : x.reacq = none) (hl : pullFailed s x = true) :
    takeResult s x o = { searchPan s (received s x o) with direct := false } := by
  unfold takeResult
  dsimp only
  split
  · next r hr => exact absurd (h.symm.trans hr) (Option.some_ne_none r).symm
  · exact if_pos hl

theorem takeResult_of_step (h : x.reacq = none) (hl : pullFailed s x = false) :
    takeResult s x o = stepped s x o := by
  unfold takeResult
  dsimp only
  split
  · next r hr => exact absurd (h.symm.trans hr) (Option.some_ne_none r).symm
  · exact if_neg (fun hp => Bool.false_ne_true (hl.symm.trans hp))

end

theorem pullFailed_eq {s t : State} {x z : Pan} (hpars : ParsKept [pTrkLateCnt] s t) (hd : z.direct = x.direct)
    (hs : z.since = x.since) (hp : z.phase = x.phase) (hc : z.carLk = x.carLk) : pullFailed t z = pullOver s x (dtcNow t) := by
  unfold pullFailed pullOver
  rw [hd, hs, hp, hc, hpars.parN (by decide), show countsPerMs = 16368 from rfl]
  ac_rfl

theorem resultKeeps_received (s : State) (x : Pan) (o : IntegObs) : ResultKeeps x (received s x o) :=
  ⟨rfl, rfl, rfl, rfl, rfl, rfl, rfl, rfl, rfl⟩

/-- What the indicators, taking a result in, leave of a pan besides. -/
structure IndicatorsKeep (x y : Pan) : Prop extends ResultKeeps x y, NcosKept x y where
  result : y.result = x.result
  ready : y.ready = x.ready
  reacq : y.reacq = x.reacq
  frmSync : y.frmSync = x.frmSync
  preamble : y.preamble = x.preamble
  parityRun : y.parityRun = x.parityRun

theorem IndicatorsKeep.trans {x y z : Pan} (h : IndicatorsKeep x y) (k : IndicatorsKeep y z) : IndicatorsKeep x z :=
  ⟨h.toResultKeeps.trans k.toResultKeeps, h.toNcosKept.trans k.toNcosKept, k.result.trans h.result, k.ready.trans h.ready,
    k.reacq.trans h.reacq, k.frmSync.trans h.frmSync, k.preamble.trans h.preamble, k.parityRun.trans h.parityRun⟩

theorem indicatorsKeep_stepCn0 (s : State) (x : Pan) : IndicatorsKeep x (stepCn0 s x) := by
  rw [stepCn0_eq]
  exact ⟨⟨rfl, rfl, rfl, rfl, rfl, rfl, rfl, rfl, rfl⟩, ⟨rfl, rfl, rfl, rfl, rfl, rfl⟩, rfl, rfl, rfl, rfl, rfl, rfl⟩

theorem indicatorsKeep_stepPli (s : State) (x : Pan) : IndicatorsKeep x (stepPli s x) := by
  rw [stepPli_eq]
  exact ⟨⟨rfl, rfl, rfl, rfl, rfl, rfl, rfl, rfl, rfl⟩, ⟨rfl, rfl, rfl, rfl, rfl, rfl⟩, rfl, rfl, rfl, rfl, rfl, rfl⟩

theorem indicatorsKeep_stepBits (s : State) (x : Pan) (o : IntegObs) : IndicatorsKeep x (stepBits s x o) := by
  rw [stepBits_eq]
  exact ⟨⟨rfl, rfl, rfl, rfl, rfl, rfl, rfl, rfl, rfl⟩, ⟨rfl, rfl, rfl, rfl, rfl, rfl⟩, rfl, rfl, rfl, rfl, rfl, rfl⟩

theorem indicatorsKeep_stepped (s : State) (x : Pan) (o : IntegObs) : IndicatorsKeep (received s x o) (stepped s x o) :=
  ((indicatorsKeep_stepCn0 s _).trans (indicatorsKeep_stepPli s _)).trans (indicatorsKeep_stepBits s _ o)

/-- What every result does, whatever it finds: a new result is ready, and framing and its counters stay. -/
structure TakesResult (s : State) (x y : Pan) (o : IntegObs) : Prop where
  keeps : ResultKeeps x y
  result : y.result = panResult s o
  ready : y.ready = true
  frmSync : y.frmSync = x.frmSync
  preamble : y.preamble = x.preamble
  parityRun : y.parityRun = x.parityRun

theorem takesResult_takeResult (s : State) (x : Pan) (o : IntegObs) : TakesResult s x (takeResult s x o) o := by
  cases h : x.reacq with
  | some q =>
    rw [takeResult_of_search h]
    rcases stepSearch_cases s (received s x o) q with ⟨r, hr⟩ | ⟨k, hk⟩
    · rw [hr]; exact ⟨⟨rfl, rfl, rfl, rfl, rfl, rfl, rfl, rfl, rfl⟩, rfl, rfl, rfl, rfl, rfl⟩
    · rw [hk]; exact ⟨⟨rfl, rfl, rfl, rfl, rfl, rfl, rfl, rfl, rfl⟩, rfl, rfl, rfl, rfl, rfl⟩
  | none =>
    cases hl : pullFailed s x with
    | true =>
      rw [takeResult_of_late h hl]
      exact ⟨⟨rfl, rfl, rfl, rfl, rfl, rfl, rfl, rfl, rfl⟩, rfl, rfl, rfl, rfl, rfl⟩
    | false =>
      rw [takeResult_of_step h hl]
      have hk := indicatorsKeep_stepped s x o
      exact ⟨(resultKeeps_received s x o).trans hk.toResultKeeps, hk.result, hk.ready, hk.frmSync, hk.preamble, hk.parityRun⟩

theorem ncosKept_takeResult {s : State} {x : Pan} (h : x.reacq = none) (o : IntegObs) : NcosKept x (takeResult s x o) := by
  cases hl : pullFailed s x with
  | true => rw [takeResult_of_late h hl]; exact ⟨rfl, rfl, rfl, rfl, rfl, rfl⟩
  | false =>
    rw [takeResult_of_step h hl]
    have hreceived : NcosKept x (received s x o) := ⟨rfl, rfl, rfl, rfl, rfl, rfl⟩
    exact hreceived.trans (indicatorsKeep_stepped s x o).toNcosKept

/-- A pan search leaves the indicators; the pan that finds the signal enters PULL (R113, R114). -/
theorem takeResult_search_locks {s : State} {x : Pan} (h : x.reacq.isSome = true) (o : IntegObs) :
    let y := takeResult s x o
    y.codeLk = x.codeLk ∧ y.carLk = x.carLk ∧ y.bitSync = x.bitSync ∧ (y.reacq = none → y.phase = .pull) := by
  obtain ⟨q, hq⟩ := Option.isSome_iff_exists.mp h
  rw [takeResult_of_search hq]
  rcases stepSearch_cases s (received s x o) q with ⟨r, hr⟩ | ⟨k, hk⟩
  · rw [hr]; exact ⟨rfl, rfl, rfl, nofun⟩
  · rw [hk]; exact ⟨rfl, rfl, rfl, fun _ => rfl⟩

theorem takeResult_late_locks {s : State} {x : Pan} (h : x.reacq = none) (hl : pullFailed s x = true) (o : IntegObs) :
    let y := takeResult s x o
    y.reacq = some freshSearch ∧ y.codeLk = x.codeLk ∧ y.carLk = x.carLk ∧ y.bitSync = x.bitSync ∧ y.phase = x.phase := by
  rw [takeResult_of_late h hl]
  exact ⟨rfl, rfl, rfl, rfl, rfl⟩

/-! ### The indicators, between any two pans that agree on what they rest on -/

/-- The part of a pan that C/N0 and code_lk rest on. -/
def codeView (x : Pan) : Nat × List Word × (Nat × Nat × Nat) × Bool × Nat × Option Nat :=
  (x.coh, x.result, x.cnWin, x.codeLk, x.cn0, x.lossMs)

/-- The part of a pan that PLI, car_lk and the carrier state rest on. -/
def carrierView (x : Pan) : Nat × List Word × (Nat × Nat × Nat) × Bool × Carrier × Nat :=
  (x.coh, x.result, x.pliWin, x.carLk, x.phase, x.pliRun)

theorem codeRight_congr {s t : State} {a x y z : Pan} (hpars : ParsKept [pTrkLateCnt] s t) (h : CodeRight t a z)
    (hy : codeView y = codeView z) (hwin : window x y x.cnWin = window a z a.cnWin)
    (hx : x.codeLk = a.codeLk ∧ x.cn0 = a.cn0 ∧ x.lossMs = a.lossMs) : CodeRight s x y := by
  simp only [codeView, Prod.mk.injEq] at hy
  obtain ⟨hcoh, hres, hw, hlk, hcn, hloss⟩ := hy
  obtain ⟨xlk, xcn, xloss⟩ := hx
  unfold CodeRight at h ⊢
  rw [hwin, hcoh, hres, hw, hlk, hcn, hloss, xlk, xcn, xloss, ← hpars.parN (k := pTrkCn0Win) (by decide),
    ← hpars.parN (k := pTrkCn0Lock) (by decide), ← hpars.parN (k := pTrkCn0Loss) (by decide)]
  exact h

theorem carrierRight_congr {s t : State} {a x y z : Pan} (hpars : ParsKept [pTrkLateCnt] s t) (h : CarrierRight t a z)
    (hy : carrierView y = carrierView z) (hwin : window x y x.pliWin = window a z a.pliWin)
    (hx : x.carLk = a.carLk ∧ x.phase = a.phase ∧ x.pliRun = a.pliRun) : CarrierRight s x y := by
  simp only [carrierView, Prod.mk.injEq] at hy
  obtain ⟨hcoh, hres, hw, hlk, hph, hrun⟩ := hy
  obtain ⟨xlk, xph, xrun⟩ := hx
  unfold CarrierRight at h ⊢
  rw [hwin, hcoh, hres, hw, hlk, hph, hrun, xlk, xph, xrun, ← hpars.parN (k := pTrkLockWin) (by decide),
    ← hpars (k := pTrkPliThr) (by decide)]
  exact h

/-! ### bit_sync in the statement's words -/

theorem ephValid_eq (s : State) (prn : Nat) : ephValid s prn = (ephNow s prn).isSome := by
  unfold ephValid ephNow ephHeld ephAt
  by_cases hu : s.time.tq = .unknown
  · simp [hu]
  · cases mget s.pans.eph prn with
    | none => simp [hu]
    | some e =>
      simp only [hu, if_false, Option.filter]
      split <;> simp_all

theorem bitPredicted_eq (s : State) (x : Pan) :
    bitPredicted s x = (ephValid s x.prn && s.time.pos.isSome && timeTo s 500000) := by rw [ephValid_eq]; rfl

/-- What is counted late says nothing of the predicted bit phase. -/
theorem bitPredicted_of_params {s t : State} (hpars : ParsKept [pTrkLateCnt] s t) (ht : t = { s with params := t.params })
    (x : Pan) : bitPredicted t x = bitPredicted s x := by
  have hdrift := hpars.parN (k := pSysTcxoDrift) (by decide)
  have hunc : uncNow t = uncNow s := by
    unfold uncNow
    rw [hdrift, show dtcNow t = dtcNow s by rw [ht]; rfl, show t.time = s.time by rw [ht]]
  have heph : ephNow t x.prn = ephNow s x.prn := by rw [ht]; rfl
  unfold bitPredicted timeWithin
  rw [hunc, heph, show t.time = s.time by rw [ht]]

/-- The part of a pan that bit_sync rests on, after an integration. -/
def bitView (x : Pan) : List Word × Bool × Nat × (List Nat × Nat) × Option Nat :=
  (x.result, x.bitSync, x.bitPos, x.signs, x.pendCoh)

theorem signCounts_eq {x z : Pan} (hms : z.ms = x.ms + x.coh) (hcoh : z.coh = x.coh) (hsigns : z.signs = x.signs)
    (hlast : z.lastP = if x.result = [] then none else some (tapIQ x.result 0)) : signCounts z =
    if x.result ≠ [] ∧ ((x.result.getD 0 0).toInt < 0 ↔ ¬ (z.result.getD 0 0).toInt < 0)
      then x.signs.1.set (x.ms % 20) (x.signs.1.getD (x.ms % 20) 0 + 1) else x.signs.1 := by
  unfold signCounts
  rw [hms, hcoh, hsigns, hlast, Nat.add_sub_cancel]
  dsimp only
  by_cases hr : x.result = []
  · simp [hr]
  · rw [if_neg hr]
    dsimp only
    refine if_congr ?_ rfl rfl
    rw [bne_iff_ne, ne_eq, decide_eq_decide]
    show ¬ ((x.result.getD 0 0).toInt < 0 ↔ (z.result.getD 0 0).toInt < 0) ↔ _
    exact not_iff.trans ⟨fun h => ⟨hr, by tauto⟩, fun h => by tauto⟩

/-- bit_sync after an integration begun without it, of a pan `z` that has taken in the result of `x`. -/
theorem bitsRight_stepBits {u t : State} {x y z : Pan} {o : IntegObs} (hpars : ParsKept [pTrkLateCnt] u t)
    (ht : t = { u with params := t.params }) (hy : bitView y = bitView (stepBits t z o)) (hb : z.bitSync = false)
    (hprn : z.prn = x.prn) (hms : z.ms = x.ms + x.coh) (hcoh : z.coh = x.coh) (hsigns : z.signs = x.signs)
    (hlast : z.lastP = if x.result = [] then none else some (tapIQ x.result 0)) : BitsRight u x y o := by
  simp only [bitView, Prod.mk.injEq] at hy
  obtain ⟨hres, hsync, hpos, hsg, hpend⟩ := hy
  have hzres : (stepBits t z o).result = z.result := by rw [stepBits_eq]
  have hknown : bitPredicted t z = (ephValid u x.prn && u.time.pos.isSome && timeTo u 500000) := by
    rw [bitPredicted_of_params hpars ht, bitPredicted_eq, hprn]
  have hcounts := signCounts_eq hms hcoh hsigns hlast
  have hwin : z.signs.2 + z.coh = x.signs.2 + x.coh := by rw [hsigns, hcoh]
  unfold BitsRight
  dsimp only
  rw [hres, hzres, hsync, hpos, hsg, hpend, ← hknown, ← hcounts, ← hpars.parN (k := pTrkBsWin) (by decide),
    ← hpars.parN (k := pTrkCoh) (by decide), ← hwin]
  cases hk : bitPredicted t z with
  | true =>
    rw [stepBits_of_known hb hk]
    exact ⟨fun _ => ⟨rfl, rfl⟩, nofun, nofun, fun _ => rfl⟩
  | false =>
    rw [stepBits_of_unknown hb hk]
    refine ⟨nofun, fun _ h => ?_, fun _ h => countSigns_of_over hb h, countSigns_bitSync hb⟩
    rw [countSigns_eq, if_pos h]
    exact ⟨hb, rfl⟩

end Sys2Proof.Proofs
end

section
/-! PROOFS. INTEGRATION_END as a whole (spec/04 R100-R110, R114, spec/02 R61): the pan it leaves and the state it leaves. -/

namespace Sys2Proof.Proofs

open Sys2Proof Sys2Proof.Machine Sys2Proof.Spec

/-! ### The pan at its boundary -/

/-- Time has gone on to the boundary of `x` in `u`, and `z` is the pan there. -/
structure AtBoundary (s : State) (x : Pan) (u : State) (z : Pan) : Prop where
  carried : u = carryDtc s (boundaryAt x)
  pan : ∃ chip codePh carPh, z = bounded s x chip codePh carPh (boundaryAt x)
  ran : RanOn s x z

theorem atBoundary (s : State) (x : Pan) :
    AtBoundary s x (carryDtc s (boundaryAt x)) (panBoundary (carryDtc s (boundaryAt x)) x (boundaryAt x)) := by
  obtain ⟨chip, codePh, carPh, hz, hcode, hcar⟩ := panBoundary_eq (carryDtc s (boundaryAt x)) x
  have hpars : ParsKept [] s (carryDtc s (boundaryAt x)) := .of_params (carryDtc_params _ _) _
  rw [hpars pSmpMode (by decide)] at hcode hcar
  have htaps : nextTaps (carryDtc s (boundaryAt x)) x = nextTaps s x := by rw [carryDtc_eq]; rfl
  rw [hz, show bounded (carryDtc s (boundaryAt x)) x = bounded s x by unfold bounded; rw [htaps]]
  exact ⟨rfl, ⟨chip, codePh, carPh, rfl⟩, hcode, hcar, rfl, rfl⟩

theorem AtBoundary.ended {s u : State} {x z : Pan} (h : AtBoundary s x u z) : Ended s x z := by
  obtain ⟨chip, codePh, carPh, rfl⟩ := h.pan
  exact ended_bounded s x chip codePh carPh

/-- What a boundary leaves of a pan. -/
structure HeldOver (x z : Pan) : Prop where
  reacq : z.reacq = x.reacq
  direct : z.direct = x.direct
  since : z.since = x.since
  phase : z.phase = x.phase
  codeLk : z.codeLk = x.codeLk
  carLk : z.carLk = x.carLk
  bitSync : z.bitSync = x.bitSync
  frmSync : z.frmSync = x.frmSync
  result : z.result = x.result
  ready : z.ready = x.ready
  cn0 : z.cn0 = x.cn0
  pliRun : z.pliRun = x.pliRun
  lossMs : z.lossMs = x.lossMs
  gapHit : z.gapHit = x.gapHit

theorem AtBoundary.heldOver {s u : State} {x z : Pan} (h : AtBoundary s x u z) : HeldOver x z := by
  obtain ⟨chip, codePh, carPh, rfl⟩ := h.pan
  exact ⟨rfl, rfl, rfl, rfl, rfl, rfl, rfl, rfl, rfl, rfl, rfl, rfl, rfl, rfl⟩

theorem AtBoundary.parsKept {s u : State} {x z : Pan} (h : AtBoundary s x u z) : ParsKept [pTrkLateCnt] s (serviced u z) := by
  rw [h.carried]
  exact (ParsKept.of_params (carryDtc_params _ _) _).trans (parsKept_serviced _ z)

theorem AtBoundary.pullFailed_eq {s u : State} {x z : Pan} (h : AtBoundary s x u z) :
    pullFailed (serviced u z) z = pullOver s x (dtcNow u) := by
  have hheld := h.heldOver
  have hnow : dtcNow (serviced u z) = dtcNow u := by rw [serviced_eq]; rfl
  rw [Proofs.pullFailed_eq h.parsKept hheld.direct hheld.since hheld.phase hheld.carLk, hnow]

/-! ### A result taken in -/

/-- The pan at its boundary with the result and the content decoded taken in. -/
def withResult (u : State) (z : Pan) (o : IntegObs) : Pan := framed (takeResult (serviced u z) z o) o.lnav

/-- The machine once the pan has taken the result in. -/
def resultTaken (u : State) (p : Nat) (z : Pan) (o : IntegObs) : State :=
  contentUsed (putPan (serviced u z) p (withResult u z o)) (withResult u z o) o.lnav

theorem exec_integrationEnd_of_none {s : State} {p : Fin 32} (h : panAt s p.val = none) (o : IntegObs) :
    exec (.integrationEnd p o) s = .next s := by
  show execIntegrationEnd p o s = _
  rw [execIntegrationEnd, h]

theorem exec_integrationEnd_of_idle {s : State} {p : Fin 32} {x : Pan} (h : panAt s p.val = some x)
    (hi : integrates s x = false) (o : IntegObs) : exec (.integrationEnd p o) s = .next s := by
  show execIntegrationEnd p o s = _
  rw [execIntegrationEnd, h]
  exact if_pos (fun hr => Bool.false_ne_true (hi.symm.trans hr))

theorem exec_integrationEnd {s : State} {p : Fin 32} {x : Pan} (h : panAt s p.val = some x) (hi : integrates s x = true)
    (o : IntegObs) :
    let u := carryDtc s (boundaryAt x)
    let z := panBoundary u x (boundaryAt x)
    exec (.integrationEnd p o) s =
      .next (if z.gapHit then putPan u p.val { z with gapHit := false, gapMeas := true } else resultTaken u p.val z o) := by
  show execIntegrationEnd p o s = _
  rw [execIntegrationEnd, h]
  dsimp only
  rw [if_neg (fun hr => hr hi)]
  unfold resultTaken withResult contentUsed framed
  generalize hz : panBoundary (carryDtc s (boundaryAt x)) x (boundaryAt x) = z
  rw [show x.posAt + x.coh * countsPerMs = boundaryAt x from rfl, hz]
  cases z.gapHit with
  | true => rfl
  | false => cases o.lnav <;> rfl

theorem resultKeeps_framed (y : Pan) (l : Option LnavItem) : ResultKeeps y (framed y l) := by
  rw [framed_eq]; exact ⟨rfl, rfl, rfl, rfl, rfl, rfl, rfl, rfl, rfl⟩

theorem ncosKept_framed (y : Pan) (l : Option LnavItem) : NcosKept y (framed y l) := by
  rw [framed_eq]; exact ⟨rfl, rfl, rfl, rfl, rfl, rfl⟩

theorem dtc_resultTaken (u : State) (p : Nat) (z : Pan) (o : IntegObs) :
    (resultTaken u p z o).time.dtc = u.time.dtc ∧ (resultTaken u p z o).time.wraps = u.time.wraps := by
  have hdtc := (usesContent_contentUsed (putPan (serviced u z) p (withResult u z o)) (withResult u z o) o.lnav).dtc
  have hserv : (putPan (serviced u z) p (withResult u z o)).time = u.time := by rw [serviced_eq]; rfl
  unfold resultTaken
  rwa [hserv] at hdtc

theorem dtcNow_resultTaken (u : State) (p : Nat) (z : Pan) (o : IntegObs) : dtcNow (resultTaken u p z o) = dtcNow u := by
  obtain ⟨hdtc, hwraps⟩ := dtc_resultTaken u p z o
  unfold dtcNow
  rw [hdtc, hwraps]

section
variable {s u : State} {x z : Pan} (h : AtBoundary s x u z) (o : IntegObs)
include h

theorem AtBoundary.ended_withResult : Ended s x (withResult u z o) :=
  (h.ended.keeps (takesResult_takeResult _ z o).keeps).keeps (resultKeeps_framed _ _)

theorem AtBoundary.ranOn_withResult (hr : x.reacq = none) : RanOn s x (withResult u z o) := by
  exact (h.ran.keeps (ncosKept_takeResult (h.heldOver.reacq.trans hr) o)).keeps (ncosKept_framed _ _)

theorem AtBoundary.result_withResult : (withResult u z o).result = wordsOut s o ∧ (withResult u z o).ready = true := by
  have hpace : (serviced u z).pace = s.pace := by rw [serviced_eq, h.carried, carryDtc_eq]
  have htakes := takesResult_takeResult (serviced u z) z o
  unfold withResult
  rw [framed_eq]
  exact ⟨htakes.result.trans (panResult_eq_wordsOut h.parsKept hpace o), htakes.ready⟩

theorem AtBoundary.frmSync_withResult : (withResult u z o).frmSync = (match o.lnav with
    | some (.preamble ok) => x.frmSync || ((withResult u z o).bitSync && ok && x.preamble.map (· + 6000) == some (x.ms + x.coh))
    | some .subframeFail => x.frmSync && decide (x.parityRun = 0)
    | _ => x.frmSync) := by
  obtain ⟨hkeeps, _, _, hfrm, hpre, hpar⟩ := takesResult_takeResult (serviced u z) z o
  have hbit : (withResult u z o).bitSync = (takeResult (serviced u z) z o).bitSync := by
    unfold withResult; rw [framed_eq]
  rw [hbit, withResult, framed_frmSync, hfrm, hpre, hpar, hkeeps.ms]
  obtain ⟨chip, codePh, carPh, rfl⟩ := h.pan
  rfl

/-- A pan whose start at its predicted state has failed begins pan search (R114). -/
theorem AtBoundary.late_withResult (hr : x.reacq = none) (hl : pullOver s x (dtcNow u) = true) :
    (withResult u z o).reacq = some freshSearch ∧ (withResult u z o).codeLk = x.codeLk ∧ (withResult u z o).carLk = x.carLk ∧
      (withResult u z o).bitSync = x.bitSync ∧ (withResult u z o).phase = x.phase := by
  have hheld := h.heldOver
  obtain ⟨hreacq, hcode, hcar, hbit, hphase⟩ :=
    takeResult_late_locks (hheld.reacq.trans hr) (h.pullFailed_eq.trans hl) o
  unfold withResult
  rw [framed_eq]
  exact ⟨hreacq, hcode.trans hheld.codeLk, hcar.trans hheld.carLk, hbit.trans hheld.bitSync, hphase.trans hheld.phase⟩

/-- A pan search leaves the indicators (R113, R114). -/
theorem AtBoundary.search_withResult (hr : x.reacq.isSome = true) :
    (withResult u z o).codeLk = x.codeLk ∧ (withResult u z o).carLk = x.carLk ∧ (withResult u z o).bitSync = x.bitSync ∧
      ((withResult u z o).reacq = none → (withResult u z o).phase = .pull) := by
  have hheld := h.heldOver
  obtain ⟨hcode, hcar, hbit, hphase⟩ :=
    takeResult_search_locks (s := serviced u z) (show z.reacq.isSome = true by rw [hheld.reacq, hr]) o
  unfold withResult
  rw [framed_eq]
  exact ⟨hcode.trans hheld.codeLk, hcar.trans hheld.carLk, hbit.trans hheld.bitSync, hphase⟩

/-- Where the pan neither searches nor fails to pull in, its indicators take the result in. -/
theorem AtBoundary.step_withResult (hr : x.reacq = none) (hl : pullOver s x (dtcNow u) = false) :
    withResult u z o = framed (stepped (serviced u z) z o) o.lnav := by
  rw [withResult, takeResult_of_step (h.heldOver.reacq.trans hr) (h.pullFailed_eq.trans hl)]

theorem AtBoundary.codeRight_step (l : Option LnavItem) : CodeRight s x (framed (stepped (serviced u z) z o) l) := by
  have hk := h.ended.coh
  refine codeRight_congr (y := framed (stepped (serviced u z) z o) l) h.parsKept
    (codeRight_stepCn0 (serviced u z) (received (serviced u z) z o)) ?_ ?_ ?_
  · rw [framed_eq, stepped, stepBits_eq, stepPli_eq]; rfl
  · have hcoh : (framed (stepped (serviced u z) z o) l).coh = nextCoh x :=
      ((resultKeeps_framed _ l).coh.trans (indicatorsKeep_stepped _ z o).coh).trans hk
    have hcoh' : (stepCn0 (serviced u z) (received (serviced u z) z o)).coh = (received (serviced u z) z o).coh :=
      (indicatorsKeep_stepCn0 _ _).coh
    unfold window
    rw [hcoh, hcoh', if_pos rfl]
    obtain ⟨chip, codePh, carPh, rfl⟩ := h.pan
    rfl
  · obtain ⟨chip, codePh, carPh, rfl⟩ := h.pan
    exact ⟨rfl, rfl, rfl⟩

theorem AtBoundary.carrierRight_step (l : Option LnavItem) : CarrierRight s x (framed (stepped (serviced u z) z o) l) := by
  have hk := h.ended.coh
  refine carrierRight_congr (y := framed (stepped (serviced u z) z o) l) h.parsKept
    (carrierRight_stepPli (serviced u z) (stepCn0 (serviced u z) (received (serviced u z) z o))) ?_ ?_ ?_
  · rw [framed_eq, stepped, stepBits_eq]; rfl
  · have hcoh : (framed (stepped (serviced u z) z o) l).coh = nextCoh x :=
      ((resultKeeps_framed _ l).coh.trans (indicatorsKeep_stepped _ z o).coh).trans hk
    unfold window
    rw [hcoh, (indicatorsKeep_stepPli _ _).coh, if_pos rfl, stepCn0_eq]
    obtain ⟨chip, codePh, carPh, rfl⟩ := h.pan
    rfl
  · rw [stepCn0_eq]
    obtain ⟨chip, codePh, carPh, rfl⟩ := h.pan
    exact ⟨rfl, rfl, rfl⟩

theorem AtBoundary.bitSync_step (l : Option LnavItem) (hb : x.bitSync = true) :
    (framed (stepped (serviced u z) z o) l).bitSync = true := by
  rw [framed_eq, stepped, stepBits_of_sync]
  · rw [stepPli_eq, stepCn0_eq]
    obtain ⟨chip, codePh, carPh, rfl⟩ := h.pan
    exact hb
  · rw [stepPli_eq, stepCn0_eq]
    obtain ⟨chip, codePh, carPh, rfl⟩ := h.pan
    exact hb

theorem AtBoundary.bitsRight_step (l : Option LnavItem) (hb : x.bitSync = false) :
    BitsRight u x (framed (stepped (serviced u z) z o) l) o := by
  have hcoh : z.coh = x.coh := by
    rw [h.ended.coh, nextCoh, edgeNext, hb]; rfl
  have hall : ∀ c, c = stepPli (serviced u z) (stepCn0 (serviced u z) (received (serviced u z) z o)) →
      c.bitSync = x.bitSync ∧ c.prn = x.prn ∧ c.ms = x.ms + x.coh ∧ c.coh = z.coh ∧ c.signs = x.signs ∧
        c.lastP = if x.result = [] then none else some (tapIQ x.result 0) := by
    rintro c rfl
    rw [stepPli_eq, stepCn0_eq]
    obtain ⟨chip, codePh, carPh, rfl⟩ := h.pan
    exact ⟨rfl, rfl, rfl, rfl, rfl, rfl⟩
  obtain ⟨hsync, hprn, hms, hc, hsigns, hlast⟩ := hall _ rfl
  exact bitsRight_stepBits (parsKept_serviced u z) (serviced_eq u z) (by rw [framed_eq]; rfl) (hsync.trans hb) hprn hms
    (hc.trans hcoh) hsigns hlast

/-! ### The machine after the result -/

theorem AtBoundary.panAt_resultTaken (p q : Nat) :
    panAt (resultTaken u p z o) q = if p = q then some (withResult u z o) else panAt s q := by
  have hact := (usesContent_contentUsed (putPan (serviced u z) p (withResult u z o)) (withResult u z o) o.lnav).act
  have hserv : (serviced u z).pans = s.pans := by rw [serviced_eq, h.carried, carryDtc_eq]
  unfold resultTaken panAt
  rw [hact]
  rw [← hserv]
  exact panAt_putPan (serviced u z) p q _

theorem AtBoundary.atInstant_resultTaken (p : Nat) : atInstant s (resultTaken u p z o) = u := by
  obtain ⟨hdtc, hwraps⟩ := dtc_resultTaken u p z o
  rw [atInstant, hdtc, hwraps, h.carried]
  exact (carryDtc_eq s _).symm

theorem AtBoundary.reaches_resultTaken (p : Nat) : Reaches s (resultTaken u p z o) (boundaryAt x) := by
  unfold Reaches
  rw [dtcNow_resultTaken, h.carried]
  exact carryDtc_reaches s _

theorem AtBoundary.onlyIn_putPan_serviced (p : Nat) (y : Pan) :
    onlyIn [.pans, .params, .time] s (putPan (serviced u z) p y) = true := by
  rw [serviced_eq, h.carried]
  have htime := onlyIn_mono (onlyIn_carryDtc s (boundaryAt x)) (m := [.pans, .params, .time]) (by simp)
  exact onlyIn_trans htime
    (onlyIn_trans (onlyIn_mono (onlyIn_params _ _) (by simp)) (onlyIn_mono (onlyIn_putPan _ p y) (by simp)))

theorem AtBoundary.onlyIn_resultTaken (p : Nat) : onlyIn [.pans, .params, .time] s (resultTaken u p z o) = true :=
  onlyIn_trans (h.onlyIn_putPan_serviced p _) (onlyIn_mono (usesContent_contentUsed _ _ _).frame (by simp))

theorem AtBoundary.params_resultTaken (p : Nat) :
    (resultTaken u p z o).params = if x.ready then (s.bumpPar pTrkLateCnt).params else s.params := by
  have hkept : (resultTaken u p z o).params = (putPan (serviced u z) p (withResult u z o)).params :=
    eq_of_beq (agree_of_onlyIn (usesContent_contentUsed _ (withResult u z o) o.lnav).frame .params (by decide))
  rw [hkept]
  show (serviced u z).params = _
  unfold serviced
  rw [h.heldOver.ready, h.carried, carryDtc_eq]
  split <;> rfl

/-- The page of UTC parameters is used only in frame sync (R110, R128). -/
theorem AtBoundary.utc_resultTaken (p : Nat) {leap : Int} {next : Option (Nat × Nat × Int)}
    (hl : o.lnav = some (.ionoUtc leap next)) (hf : x.frmSync = true) :
    (resultTaken u p z o).time.utcValid = true ∧ (resultTaken u p z o).time.leap = leap ∧
      (resultTaken u p z o).pans.iono = true := by
  have hsync : (withResult u z o).frmSync = true := by rw [h.frmSync_withResult, hl]; exact hf
  unfold resultTaken
  rw [hl, contentUsed, useLnav_ionoUtc _ hsync]
  exact ⟨rfl, rfl, rfl⟩

theorem AtBoundary.sameTime_resultTaken (p : Nat)
    (hl : (∀ leap next, o.lnav ≠ some (.ionoUtc leap next)) ∨ x.frmSync = false) :
    sameTime s (resultTaken u p z o) = true ∧ (resultTaken u p z o).pans.iono = s.pans.iono := by
  have hor : (∀ leap next, o.lnav ≠ some (.ionoUtc leap next)) ∨ (withResult u z o).frmSync = false := by
    by_cases hutc : ∃ leap next, o.lnav = some (.ionoUtc leap next)
    · obtain ⟨leap, next, he⟩ := hutc
      right
      rw [h.frmSync_withResult, he]
      exact hl.resolve_left (fun k => k leap next he)
    · exact .inl fun leap next e => hutc ⟨leap, next, e⟩
  have hpages := usesPages_contentUsed (putPan (serviced u z) p (withResult u z o)) (withResult u z o) hor
  have htime : (resultTaken u p z o).time = (putPan (serviced u z) p (withResult u z o)).time :=
    eq_of_beq (agree_of_onlyIn hpages.frame .time (by decide))
  have hserv : (putPan (serviced u z) p (withResult u z o)).time = (carryDtc s (boundaryAt x)).time := by
    rw [serviced_eq, h.carried]; rfl
  have hiono : (putPan (serviced u z) p (withResult u z o)).pans.iono = s.pans.iono := by
    rw [serviced_eq, h.carried, carryDtc_eq]; rfl
  exact ⟨sameTime_congr (sameTime_carryDtc s (boundaryAt x)) (htime.trans hserv), hpages.iono.trans hiono⟩

end

end Sys2Proof.Proofs
end

section
/-! PROOFS. PULL_COMPLETE, CODE_LOCK_LOSS and REACQ_TIMEOUT (spec/04 R107, R110, R113, R116): the pan that goes on, loses code
lock, or is released and queued again. -/

namespace Sys2Proof.Proofs

open Sys2Proof Sys2Proof.Machine Sys2Proof.Spec

/-! ### Entries of a map besides one -/

/-- What holds of an entry other than one written, or of one other than an entry deleted. -/
theorem any_mput_ne {α : Type} (f : Nat × α → Bool) (m : List (Nat × α)) (i : Nat) (x : α) :
    (mput m i x).any (fun y => y.1 != i && f y) = m.any (fun y => y.1 != i && f y) := by
  induction m with
  | nil => simp [mput]
  | cons y m ih =>
    unfold mput
    split_ifs with hlt hk
    · simp
    · simp [hk]
    · rw [List.any_cons, List.any_cons, ih]

theorem mdel_eq_filter {α : Type} (m : List (Nat × α)) (i : Nat) : mdel m i = m.filter (fun y => y.1 != i) := by
  induction m with
  | nil => rfl
  | cons y m ih =>
    unfold mdel
    by_cases h : y.1 = i
    · simp [h, ih]
    · simp [h, ih]

/-! ### The release of a pan (spec/04 R95, R113, R116) -/

/-- A pan left when `x` is released: it leads where `x` led their PRN. -/
def heir (x y : Pan) : Pan := { y with lead := y.lead || (x.lead && y.prn == x.prn) }

theorem heir_of_not {x y : Pan} (h : (x.lead && y.prn == x.prn) = false) : heir x y = y := by
  unfold heir; rw [h, Bool.or_false]

theorem actWithout_eq (s : State) (p : Nat) (x : Pan) :
    actWithout s p x = (mdel s.pans.act p).map (fun y => (y.1, heir x y.2)) := by
  unfold actWithout
  cases hl : x.lead with
  | true =>
    refine congrArg (fun f => List.map f (mdel s.pans.act p)) (funext fun y => ?_)
    by_cases hp : y.2.prn = x.prn
    · simp [hp, hl, heir]
    · rw [if_neg hp, heir_of_not (by simp [hp])]
  | false =>
    have hid : (fun y : Nat × Pan => (y.1, heir x y.2)) = id := by
      funext y; rw [heir_of_not (by simp [hl])]; rfl
    rw [hid, List.map_id]
    rfl

theorem mget_actWithout_eq (s : State) (p q : Nat) (x : Pan) :
    mget (actWithout s p x) q = if p = q then none else (panAt s q).map (heir x) := by
  rw [actWithout_eq, mget_map, mget_mdel]
  split <;> rfl

/-- Another pan is left on a PRN. -/
theorem pansOf_eq_nil_iff {s : State} {prn : Nat} : pansOf s prn = [] ↔ s.pans.act.any (fun y => y.2.prn == prn) = false := by
  simp [pansOf, List.filter_eq_nil_iff]

theorem any_actWithout (s : State) (p n : Nat) (x : Pan) : (actWithout s p x).any (fun y => y.2.prn == n) =
    s.pans.act.any (fun y => y.1 != p && y.2.prn == n) := by
  rw [actWithout_eq, mdel_eq_filter, List.any_map, List.any_filter]
  rfl

/-- The release of a pan, with no hit pending. -/
theorem releasePan_eq {s : State} (hits : s.acq.pendHits = []) {p : Nat} {x : Pan} (hp : panAt s p = some x) :
    releasePan s p = { s with
      pans := { s.pans with act := actWithout s p x }
      pace := { s.pace with suspOrder := s.pace.suspOrder.filter (· != p) }
      pwr := { s.pwr with busyAt := dtcNow s }
      acq := { s.acq with twinReq := twinsLeft s p x.prn } } := by
  have hacq : ∀ l, { s.acq with twinReq := l, pendHits := [] } = { s.acq with twinReq := l } := fun l => by rw [← hits]
  unfold releasePan
  rw [hp]
  dsimp only
  rw [show (if x.lead then (mdel s.pans.act p).map (fun y => if y.2.prn = x.prn then (y.1, { y.2 with lead := true }) else y)
    else mdel s.pans.act p) = actWithout s p x from rfl]
  unfold twinsLeft
  rw [← any_actWithout s p x.prn x, ← hacq]
  cases h : (actWithout s p x).any (fun y => y.2.prn == x.prn) with
  | true =>
    rw [if_neg (fun k => Bool.false_ne_true ((pansOf_eq_nil_iff.mp k).symm.trans h)), if_pos rfl]
    rw [show ({ s with
        pans := { s.pans with act := actWithout s p x }
        pace := { s.pace with suspOrder := s.pace.suspOrder.filter (· != p) }
        pwr := { s.pwr with busyAt := dtcNow s } } : State).acq.pendHits = [] from hits]
    rfl
  | false =>
    rw [if_pos (pansOf_eq_nil_iff.mpr h), if_neg Bool.false_ne_true]
    rw [hits]
    rfl

theorem panDop_congr {s t : State} (h : t.params = s.params) (x : Pan) : panDop t x = panDop s x := by
  unfold panDop dopOf sampleHz ifHz
  simp only [State.par_congr h]

theorem prnOk_congr {s t : State} (h : t.params = s.params) (prn : Nat) : prnOk t prn = prnOk s prn := by
  unfold prnOk State.parN State.parB
  simp only [State.par_congr h]

theorem requeue_congr {s t : State} (hp : t.params = s.params) (hk : epsKnown t = epsKnown s)
    (hf : t.acq.freqFound = s.acq.freqFound) (prn : Nat) (dop : Int) (d : Nat) : requeue t prn dop d = requeue s prn dop d := by
  unfold requeue State.parN
  simp only [State.par_congr hp, hk, hf]

/-- A search in progress takes a PRN that may be searched. -/
theorem queuePrn_of_searching {s : State} {prn : Nat} (hs : s.acq.searching = true) (hok : prnOk s prn = true) (dop : Int) :
    queuePrn s prn dop =
      { s with acq := { s.acq with plan := s.acq.plan ++ [requeue s prn dop (dtcNow s)] } } := by
  unfold queuePrn
  rw [if_neg (by simp [hs, hok])]
  dsimp only
  rw [if_pos hs, hs, Bool.true_and]
  rfl

theorem releaseAndQueue_of_some {s : State} {p : Nat} {x : Pan} (hp : panAt s p = some x) : releaseAndQueue s p =
    if pansOf (releasePan s p) x.prn = [] then queuePrn (releasePan s p) x.prn (panDop (releasePan s p) x)
    else releasePan s p := by
  rw [releaseAndQueue, hp]

theorem pansOf_releasePan_eq_nil {s : State} (hits : s.acq.pendHits = []) {p : Nat} {x : Pan} (hp : panAt s p = some x)
    (n : Nat) : pansOf (releasePan s p) n = [] ↔ s.pans.act.any (fun y => y.1 != p && y.2.prn == n) = false := by
  rw [pansOf_eq_nil_iff, ← any_actWithout s p n x, releasePan_eq hits hp]

theorem panAt_releaseAndQueue {s : State} (hits : s.acq.pendHits = []) {p : Nat} {x : Pan} (hp : panAt s p = some x)
    (q : Nat) : panAt (releaseAndQueue s p) q = if p = q then none else (panAt s q).map (heir x) := by
  have hpans : (releaseAndQueue s p).pans = (releasePan s p).pans := by
    rw [releaseAndQueue_of_some hp]
    split
    · exact (queueKeeps_queuePrn _ _ _).pans
    · rfl
  rw [← mget_actWithout_eq, panAt, hpans, releasePan_eq hits hp]

theorem onlyIn_release (s : State) (pans : PanSt) (acq : AcqSt) (pace : PaceSt) (pwr : PwrSt) :
    onlyIn [.pans, .acq, .pace, .pwr] s { s with pans := pans, acq := acq, pace := pace, pwr := pwr } = true := by
  simp [onlyIn, allParts, agree]

/-- The last pan of a PRN that a search in progress may take is released, and the PRN is queued behind its plan (R113). -/
theorem releaseAndQueue_of_last {s : State} (hits : s.acq.pendHits = []) {p : Nat} {x : Pan} (hp : panAt s p = some x)
    (hlast : s.pans.act.any (fun y => y.1 != p && y.2.prn == x.prn) = false) (hs : s.acq.searching = true)
    (hok : prnOk s x.prn = true) :
    (releaseAndQueue s p).acq = { s.acq with
      twinReq := twinsLeft s p x.prn, plan := s.acq.plan ++ [requeue s x.prn (panDop s x) (dtcNow s)] } ∧
    onlyIn [.pans, .acq, .pace, .pwr] s (releaseAndQueue s p) = true := by
  have heq := releasePan_eq hits hp
  have hpars : (releasePan s p).params = s.params := by rw [heq]
  have hsearch : (releasePan s p).acq.searching = true := by rw [heq]; exact hs
  have hnow : dtcNow (releasePan s p) = dtcNow s := dtcNow_congr (by rw [heq])
  have hknown : epsKnown (releasePan s p) = epsKnown s := by rw [heq]; rfl
  have hfound : (releasePan s p).acq.freqFound = s.acq.freqFound := by rw [heq]
  rw [releaseAndQueue_of_some hp, if_pos ((pansOf_releasePan_eq_nil hits hp _).mpr hlast),
    queuePrn_of_searching hsearch ((prnOk_congr hpars _).trans hok), panDop_congr hpars, hnow,
    requeue_congr hpars hknown hfound, heq]
  exact ⟨rfl, onlyIn_release s _ _ _ _⟩

/-- A pan released beside another on its PRN leaves the search alone. -/
theorem onlyIn_releaseAndQueue_of_twin {s : State} (hits : s.acq.pendHits = []) {p : Nat} {x : Pan}
    (hp : panAt s p = some x) (htwin : s.pans.act.any (fun y => y.1 != p && y.2.prn == x.prn) = true) :
    onlyIn [.pans, .pace, .pwr] s (releaseAndQueue s p) = true := by
  have hno : ¬ pansOf (releasePan s p) x.prn = [] := fun k =>
    Bool.false_ne_true (((pansOf_releasePan_eq_nil hits hp _).mp k).symm.trans htwin)
  rw [releaseAndQueue_of_some hp, if_neg hno, releasePan_eq hits hp, show twinsLeft s p x.prn = s.acq.twinReq from if_pos htwin]
  simp [onlyIn, allParts, agree]

/-- What releasing a pan of `u`, reached from `s`, leaves, where `u` holds every other pan of `s`. -/
theorem released_of_releaseAndQueue {s u : State} {p : Nat} {x z : Pan} (hits : u.acq.pendHits = [])
    (hp : panAt u p = some z) (hprn : z.prn = x.prn) (hlead : z.lead = x.lead)
    (hother : ∀ q, q ≠ p → panAt u q = panAt s q) : Released s (releaseAndQueue u p) p x := by
  have hall := panAt_releaseAndQueue hits hp
  refine ⟨(hall p).trans (if_pos rfl), fun q y hq hy => ?_⟩
  show panAt (releaseAndQueue u p) q = _
  rw [hall, if_neg (Ne.symm hq), hother q hq, show panAt s q = some y from hy, ← hprn, ← hlead]
  rfl

/-! ### PULL_COMPLETE (spec/04 R107) -/

/-- The machine in which a pan has gone from PULL to LOCK. -/
def pulledIn (s : State) (p : Nat) (x : Pan) : State :=
  putPan (carryDtc s (x.since + s.parN pTrkPullMs * 16368)) p { x with phase := .lock, direct := false }

section
variable {s : State} {p : Fin 32} {x : Pan} (hp : panAt s p.val = some x)
include hp

theorem exec_pullComplete_of_pull (hi : integrates s x = true) (hph : x.phase = .pull) (hc : x.carLk = true)
    (hr : x.reacq = none) : exec (.pullComplete p) s = .next (pulledIn s p.val x) := by
  show execPullComplete p s = _
  rw [execPullComplete, hp]
  exact if_pos ⟨hi, hph, hc, hr⟩

theorem exec_pullComplete_of_not (h : ¬ (integrates s x = true ∧ x.phase = .pull ∧ x.carLk = true ∧ x.reacq = none)) :
    exec (.pullComplete p) s = .next s := by
  show execPullComplete p s = _
  rw [execPullComplete, hp]
  exact if_neg h

end

theorem pans_pulledIn (s : State) (p : Nat) (x : Pan) : (pulledIn s p x).pans =
    { s.pans with act := mput s.pans.act p { x with phase := .lock, direct := false } } := by
  rw [pulledIn, carryDtc_eq]; rfl

/-! ### CODE_LOCK_LOSS (spec/04 R110, R113, R116) -/

theorem loseCode_eq (s : State) (x : Pan) : loseCode s x = codeLost x (dtcNow s) := rfl

/-- A pan that may take over the lead from pan `p` of a PRN. -/
def isTwin (p : Nat) (x : Pan) (y : Nat × Pan) : Bool := y.1 != p && y.2.prn == x.prn && y.2.codeLk && y.2.lossMs.isNone

theorem passLead_of_alone {s : State} {p : Nat} {x : Pan} (h : x.lead = false ∨ s.pans.act.any (isTwin p x) = false) :
    passLead s p x = s := by
  unfold passLead
  cases hl : x.lead with
  | false => exact if_pos (by simp)
  | true =>
    rw [if_neg (by simp)]
    have hnone : s.pans.act.find? (isTwin p x) = none := by
      simpa [List.find?_eq_none] using h.resolve_left (by simp [hl])
    rw [show (s.pans.act.find? (fun y => y.1 != p && y.2.prn == x.prn && y.2.codeLk && y.2.lossMs.isNone)) = none from hnone]

/-- The twin leads, and pan `p` does not. -/
def leadPassed (s : State) (p q : Nat) (prn : Nat) : State :=
  let t := modPan (modPan s p (fun z => { z with lead := false })) q (fun z => { z with lead := true })
  { t with integ := { t.integ with leadChg := addPrn t.integ.leadChg prn } }

theorem passLead_of_twin {s : State} {p q : Nat} {x y : Pan} (hl : x.lead = true)
    (h : s.pans.act.filter (isTwin p x) = [(q, y)]) : passLead s p x = leadPassed s p q x.prn := by
  have hfind : s.pans.act.find? (isTwin p x) = some (q, y) := by rw [← List.head?_filter, h]; rfl
  unfold passLead
  rw [if_neg (by simp [hl]),
    show (s.pans.act.find? (fun y => y.1 != p && y.2.prn == x.prn && y.2.codeLk && y.2.lossMs.isNone)) = some (q, y) from hfind]
  rfl

theorem panAt_leadPassed (s : State) (p q prn r : Nat) : panAt (leadPassed s p q prn) r =
    panAt (modPan (modPan s p (fun z => { z with lead := false })) q (fun z => { z with lead := true })) r := rfl

/-- The machine once pan `p` has lost code lock, before a release at once. -/
def lockLost (u : State) (p : Nat) (x : Pan) : State := modPan (passLead u p x) p (loseCode (passLead u p x))

/-- The instant at which a pan that has been low for `m` ms loses code lock. -/
def lossAt (s : State) (m : Nat) : State := carryDtc s (dtcNow s + (s.parN pTrkLossMs - m) * 16368)

theorem onlyIn_lockLost (u : State) (p : Nat) (x : Pan) : onlyIn [.pans, .integ] u (lockLost u p x) = true :=
  onlyIn_trans (onlyIn_mono (leadMoves_passLead u p x).frame (by simp)) (onlyIn_mono (onlyIn_modPan _ p _) (by simp))

section
variable {s : State} {p : Fin 32} {x : Pan} (hp : panAt s p.val = some x)
include hp

theorem exec_codeLockLoss_of_not (h : x.lossMs = none ∨ ¬ (integrates s x = true ∧ x.codeLk = true)) :
    exec (.codeLockLoss p) s = .next s := by
  show execCodeLockLoss p s = _
  rw [execCodeLockLoss, hp]
  dsimp only
  split
  · next m hm =>
    exact if_neg (h.resolve_left (by simp [hm]))
  · rfl

theorem exec_codeLockLoss (hi : integrates s x = true) (hc : x.codeLk = true) {m : Nat} (hm : x.lossMs = some m) :
    exec (.codeLockLoss p) s = .next (if s.par pTrkReacqS = 0 then releaseAndQueue (lockLost (lossAt s m) p.val x) p.val
      else lockLost (lossAt s m) p.val x) := by
  have hpar : (lockLost (lossAt s m) p.val x).par pTrkReacqS = s.par pTrkReacqS := by
    have hkept : (lockLost (lossAt s m) p.val x).params = (lossAt s m).params :=
      eq_of_beq (agree_of_onlyIn (onlyIn_lockLost _ _ _) .params (by decide))
    exact State.par_congr (hkept.trans (carryDtc_params _ _)) _
  show execCodeLockLoss p s = _
  rw [execCodeLockLoss, hp, ← hpar]
  dsimp only
  rw [hm]
  refine (if_pos ⟨hi, hc⟩).trans ?_
  exact (apply_ite _ _ _ _).symm

end

theorem time_lockLost (u : State) (p : Nat) (x : Pan) : (lockLost u p x).time = u.time :=
  eq_of_beq (agree_of_onlyIn (onlyIn_lockLost u p x) .time (by decide))

/-- Without a twin to take the lead only the pan itself changes. -/
theorem lockLost_of_alone {u : State} {p : Nat} {x : Pan} (hp : panAt u p = some x)
    (h : x.lead = false ∨ u.pans.act.any (isTwin p x) = false) :
    lockLost u p x = putPan u p (codeLost x (dtcNow u)) := by
  rw [lockLost, passLead_of_alone h, modPan_of_some hp]; rfl

/-- The twin takes the lead over. -/
theorem panAt_lockLost_of_twin {u : State} {p q : Nat} {x y : Pan} (hp : panAt u p = some x) (hq : panAt u q = some y)
    (hne : q ≠ p) (hl : x.lead = true) (h : u.pans.act.filter (isTwin p x) = [(q, y)]) (r : Nat) :
    panAt (lockLost u p x) r = if p = r then some { codeLost x (dtcNow u) with lead := false }
      else if q = r then some { y with lead := true } else panAt u r := by
  have hnow : dtcNow (passLead u p x) = dtcNow u :=
    dtcNow_congr (eq_of_beq (agree_of_onlyIn (leadMoves_passLead u p x).frame .time (by decide)))
  unfold lockLost
  rw [panAt_modPan, show loseCode (passLead u p x) = fun z => codeLost z (dtcNow u) by funext z; rw [loseCode_eq, hnow],
    passLead_of_twin hl h, panAt_leadPassed, panAt_modPan, panAt_modPan]
  by_cases hr : p = r
  · subst hr
    simp only [if_true, if_neg hne, hp]
    rfl
  · simp only [if_neg hr]
    by_cases hqr : q = r
    · subst hqr; simp only [if_true, hq, Option.map_some]
    · simp only [if_neg hqr]

/-! ### REACQ_TIMEOUT (spec/04 R113) -/

section
variable {s : State} {p : Fin 32} {x : Pan} (hp : panAt s p.val = some x)
include hp

theorem exec_reacqTimeout_of_not (h : ¬ (x.reacq.isSome = true ∧ integrates s x = true)) :
    exec (.reacqTimeout p) s = .next s := by
  show execReacqTimeout p s = _
  rw [execReacqTimeout, hp]
  exact if_neg h

theorem exec_reacqTimeout (hr : x.reacq.isSome = true) (hi : integrates s x = true) : exec (.reacqTimeout p) s =
    .next (releaseAndQueue (carryDtc s (x.since + s.parN pTrkReacqS * 16368000)) p.val) := by
  show execReacqTimeout p s = _
  rw [execReacqTimeout, hp]
  exact if_pos ⟨hr, hi⟩

end

/-- Without a pan no integration, loss or timeout does anything. -/
theorem exec_of_no_pan {s : State} {p : Fin 32} (h : panAt s p.val = none) :
    exec (.pullComplete p) s = .next s ∧ exec (.codeLockLoss p) s = .next s ∧ exec (.reacqTimeout p) s = .next s := by
  refine ⟨?_, ?_, ?_⟩
  · show execPullComplete p s = _
    rw [execPullComplete, h]
  · show execCodeLockLoss p s = _
    rw [execCodeLockLoss, h]
  · show execReacqTimeout p s = _
    rw [execReacqTimeout, h]

end Sys2Proof.Proofs
end

section
/-! PROOFS. The end of integrations, code lock loss and pan search as a whole (O44). -/

namespace Sys2Proof.Proofs

open Sys2Proof Sys2Proof.Machine Sys2Proof.Spec

/-! ### The last pan of a PRN -/

theorem any_ne_of_filter_eq {s : State} {p : Nat} {x : Pan}
    (h : s.pans.act.filter (fun z => z.2.prn == x.prn) = [(p, x)]) :
    s.pans.act.any (fun y => y.1 != p && y.2.prn == x.prn) = false := by
  rw [List.any_eq_false]
  intro y hy hk
  obtain ⟨hne, hprn⟩ := Bool.and_eq_true_iff.mp hk
  have hmem : y ∈ s.pans.act.filter (fun z => z.2.prn == x.prn) := List.mem_filter.mpr ⟨hy, hprn⟩
  rw [h, List.mem_singleton] at hmem
  simp [hmem] at hne

theorem any_isTwin_of_filter_eq {s : State} {p : Nat} {x : Pan}
    (h : s.pans.act.filter (fun z => z.2.prn == x.prn) = [(p, x)]) : s.pans.act.any (isTwin p x) = false := by
  rw [List.any_eq_false]
  intro y hy hk
  have hno := List.any_eq_false.mp (any_ne_of_filter_eq h) y hy
  simp only [isTwin, Bool.and_eq_true] at hk
  obtain ⟨⟨hyp, _⟩, _⟩ := hk
  exact hno (Bool.and_eq_true_iff.mpr hyp)

theorem epsKnown_carryDtc (s : State) (n : Nat) : epsKnown (carryDtc s n) = epsKnown s := by rw [carryDtc_eq]; rfl

/-- The last pan of a PRN goes, from a state `u` reached from `s` in which it stands as `z`. -/
theorem release_of_last {s u : State} {p : Nat} {x z : Pan} (hpars : u.params = s.params) (hacq : u.acq = s.acq)
    (hknown : epsKnown u = epsKnown s)
    (hany : u.pans.act.any (fun y => y.1 != p && y.2.prn == x.prn) = s.pans.act.any (fun y => y.1 != p && y.2.prn == x.prn))
    (hp : panAt u p = some z) (hprn : z.prn = x.prn) (hcar : z.carNco = x.carNco) (hits : s.acq.pendHits = [])
    (hlast : s.pans.act.filter (fun z => z.2.prn == x.prn) = [(p, x)]) (hs : s.acq.searching = true)
    (hok : prnOk s x.prn = true) :
    (releaseAndQueue u p).acq = { s.acq with
      twinReq := twinsLeft s p x.prn
      plan := s.acq.plan ++ [requeue s x.prn (panDop s x) (dtcNow (releaseAndQueue u p))] } ∧
    onlyIn [.pans, .acq, .pace, .pwr] u (releaseAndQueue u p) = true := by
  have hnow : dtcNow (releaseAndQueue u p) = dtcNow u := dtcNow_congr (searchKeeps_releaseAndQueue u p).time
  have hdop : panDop u z = panDop s x := by rw [panDop_congr hpars]; unfold panDop; rw [hcar]
  have htwins : twinsLeft u p x.prn = twinsLeft s p x.prn := by unfold twinsLeft; rw [hany, hacq]
  obtain ⟨hacq', hframe⟩ := releaseAndQueue_of_last (s := u) (by rw [hacq, hits]) hp
    (by rw [hprn, hany, any_ne_of_filter_eq hlast]) (by rw [hacq, hs]) (by rw [hprn, prnOk_congr hpars, hok])
  refine ⟨?_, hframe⟩
  rw [hacq', hprn, htwins, hdop, hnow, requeue_congr hpars hknown (by rw [hacq]), hacq]

/-! ### The clauses of O44 -/

/-- INTEGRATION_END with a gap epoch: the result is discarded (R61). -/
theorem gapDiscarded {s u : State} {x z : Pan} (h : AtBoundary s x u z) (p : Nat) :
    let t := putPan u p { z with gapHit := false, gapMeas := true }
    Reaches s t (boundaryAt x) ∧ sameTime s t = true ∧ onlyIn [.time, .pans] s t = true ∧
      ∀ q, q ≠ p → panAt t q = panAt s q := by
  have hpans : u.pans = s.pans := by rw [h.carried, carryDtc_eq]
  have htime : u.time = (carryDtc s (boundaryAt x)).time := by rw [h.carried]
  refine ⟨Reaches.congr (carryDtc_reaches s _) htime, sameTime_congr (sameTime_carryDtc s _) htime, ?_, fun q hq => ?_⟩
  · rw [h.carried]
    exact onlyIn_trans (onlyIn_mono (onlyIn_carryDtc s _) (by simp)) (onlyIn_mono (onlyIn_putPan _ p _) (by simp))
  · rw [panAt_putPan, if_neg (Ne.symm hq), panAt, hpans]; rfl

/-- The indicators of a pan that neither searches nor fails to pull in (R104-R110). -/
theorem AtBoundary.indicators_withResult {s u : State} {x z : Pan} (h : AtBoundary s x u z) (o : IntegObs)
    (hr : x.reacq = none) (hl : pullOver s x (dtcNow u) = false) :
    let y := withResult u z o
    y.reacq = none ∧ CodeRight s x y ∧ CarrierRight s x y ∧ (x.bitSync = true → y.bitSync = true) ∧
      (x.bitSync = false → BitsRight u x y o) := by
  dsimp only
  rw [h.step_withResult o hr hl]
  refine ⟨?_, h.codeRight_step o o.lnav, h.carrierRight_step o o.lnav, h.bitSync_step o o.lnav, h.bitsRight_step o o.lnav⟩
  rw [framed_eq]
  exact ((indicatorsKeep_stepped _ z o).reacq.trans h.heldOver.reacq).trans hr

/-- The tap settings of a boundary in the statement's words (R100, R101). -/
theorem taps_of_ended {s : State} {x y : Pan} (h : Ended s x y) :
    match x.pendTaps with
    | some (el, vel, a, b) => y.elSp = el ∧ y.velSp = vel ∧ y.xaOff = a ∧ y.xbOff = b
    | none => y.elSp = x.elSp ∧ y.velSp = x.velSp ∧ y.xaOff = tapAfter s pTrkXaMode x.xaOff ∧
        y.xbOff = tapAfter s pTrkXbMode x.xbOff := by
  have ht := h.taps
  unfold nextTaps at ht
  cases hp : x.pendTaps with
  | none =>
    rw [hp] at ht
    simpa only [Option.getD_none, Prod.mk.injEq] using ht
  | some v =>
    rw [hp] at ht
    simpa only [Option.getD_some, Prod.ext_iff] using ht

theorem pans_lossAt (s : State) (m : Nat) : (lossAt s m).pans = s.pans := by rw [lossAt, carryDtc_eq]

/-- The clause of CODE_LOCK_LOSS with a release at once (R113). -/
theorem releasedAtOnce {s : State} {p : Nat} {x : Pan} (m : Nat) (hp : panAt s p = some x) (hits : s.acq.pendHits = [])
    (hlast : s.pans.act.filter (fun z => z.2.prn == x.prn) = [(p, x)]) (hs : s.acq.searching = true)
    (hok : prnOk s x.prn = true) :
    let t := releaseAndQueue (lockLost (lossAt s m) p x) p
    Released s t p x ∧
      t.acq = { s.acq with
        twinReq := twinsLeft s p x.prn, plan := s.acq.plan ++ [requeue s x.prn (panDop s x) (dtcNow t)] } ∧
      onlyIn [.time, .pans, .acq, .pace, .pwr] s t = true := by
  have hpans := pans_lossAt s m
  have hu : panAt (lossAt s m) p = some x := by rw [panAt, hpans]; exact hp
  obtain ⟨v, hv⟩ : ∃ v, v = putPan (lossAt s m) p (codeLost x (dtcNow (lossAt s m))) := ⟨_, rfl⟩
  have hlost : lockLost (lossAt s m) p x = v := by
    rw [hv, lockLost_of_alone hu (.inr (by rw [hpans]; exact any_isTwin_of_filter_eq hlast))]
  have hpars : v.params = s.params := by rw [hv]; exact carryDtc_params s _
  have hacq : v.acq = s.acq := by rw [hv]; show (lossAt s m).acq = _; rw [lossAt, carryDtc_eq]
  have hknown : epsKnown v = epsKnown s := by rw [hv]; exact epsKnown_carryDtc s _
  have hat : ∀ q, panAt v q = if p = q then some (codeLost x (dtcNow (lossAt s m))) else panAt s q := by
    intro q; rw [hv, panAt_putPan, panAt, hpans]; rfl
  have hvp := (hat p).trans (if_pos rfl)
  have hany : v.pans.act.any (fun y => y.1 != p && y.2.prn == x.prn) =
      s.pans.act.any (fun y => y.1 != p && y.2.prn == x.prn) := by
    rw [hv, putPan, hpans]; exact any_mput_ne _ _ _ _
  have hframe : onlyIn [.time, .pans, .acq, .pace, .pwr] s v = true := by
    rw [hv]
    exact onlyIn_trans (onlyIn_mono (onlyIn_carryDtc s _) (by simp)) (onlyIn_mono (onlyIn_putPan _ p _) (by simp))
  dsimp only
  rw [hlost]
  obtain ⟨htacq, htframe⟩ := release_of_last (x := x) hpars hacq hknown hany hvp rfl rfl hits hlast hs hok
  refine ⟨released_of_releaseAndQueue (hacq ▸ hits) hvp rfl rfl fun q hq => (hat q).trans (if_neg (Ne.symm hq)), htacq, ?_⟩
  exact onlyIn_trans hframe (onlyIn_mono htframe (by simp))

/-- The clause of REACQ_TIMEOUT (R113, R116): the release from the instant `u` at which pan search has failed. -/
theorem releasedAtTimeout {s : State} {p : Nat} {x : Pan} (n : Nat) (hp : panAt s p = some x) (hits : s.acq.pendHits = []) :
    let t := releaseAndQueue (carryDtc s n) p
    Reaches s t n ∧ sameTime s t = true ∧ Released s t p x ∧
      (s.pans.act.filter (fun z => z.2.prn == x.prn) = [(p, x)] → s.acq.searching = true → prnOk s x.prn = true →
        t.acq = { s.acq with
          twinReq := twinsLeft s p x.prn, plan := s.acq.plan ++ [requeue s x.prn (panDop s x) (dtcNow t)] } ∧
        onlyIn [.time, .pans, .acq, .pace, .pwr] s t = true) ∧
      (∀ q y, q ≠ p → mget s.pans.act q = some y → y.prn = x.prn → onlyIn [.time, .pans, .pace, .pwr] s t = true) := by
  have hpans : (carryDtc s n).pans = s.pans := by rw [carryDtc_eq]
  have hacq : (carryDtc s n).acq = s.acq := by rw [carryDtc_eq]
  have hat : ∀ q, panAt (carryDtc s n) q = panAt s q := fun q => by rw [panAt, hpans]; rfl
  have hup := (hat p).trans hp
  have htime := (searchKeeps_releaseAndQueue (carryDtc s n) p).time
  refine ⟨Reaches.congr (carryDtc_reaches s n) htime, sameTime_congr (sameTime_carryDtc s n) htime,
    released_of_releaseAndQueue (hacq ▸ hits) hup rfl rfl (fun q _ => hat q), fun hlast hs hok => ?_, fun q y hq hy hprn => ?_⟩
  · obtain ⟨htacq, htframe⟩ := release_of_last (carryDtc_params s n) hacq (epsKnown_carryDtc s n) (by rw [hpans]) hup rfl rfl
      hits hlast hs hok
    exact ⟨htacq, onlyIn_trans (onlyIn_mono (onlyIn_carryDtc s n) (by simp)) (onlyIn_mono htframe (by simp))⟩
  · have htwin : (carryDtc s n).pans.act.any (fun y => y.1 != p && y.2.prn == x.prn) = true := by
      rw [hpans]
      exact List.any_eq_true.mpr ⟨(q, y), mem_of_mget hy, by simp [hq, hprn]⟩
    exact onlyIn_trans (onlyIn_mono (onlyIn_carryDtc s n) (by simp))
      (onlyIn_mono (onlyIn_releaseAndQueue_of_twin (hacq ▸ hits) hup htwin) (by simp))

/-- The clause of PULL_COMPLETE (R107). -/
theorem pullCompleted {s : State} {p : Fin 32} {x : Pan} (hp : panAt s p.val = some x) (hi : integrates s x = true) :
    ∃ t, exec (.pullComplete p) s = .next t ∧
      (x.phase = .pull → x.carLk = true → x.reacq = none →
        t.pans = { s.pans with act := mput s.pans.act p.val { x with phase := .lock, direct := false } } ∧
        Reaches s t (x.since + s.parN pTrkPullMs * 16368) ∧ sameTime s t = true ∧ onlyIn [.time, .pans] s t = true) ∧
      (x.phase ≠ .pull ∨ x.carLk = false ∨ x.reacq.isSome = true → t = s) := by
  by_cases hpull : x.phase = .pull ∧ x.carLk = true ∧ x.reacq = none
  · obtain ⟨hph, hc, hr⟩ := hpull
    refine ⟨_, exec_pullComplete_of_pull hp hi hph hc hr, fun _ _ _ => ⟨pans_pulledIn s p.val x,
      carryDtc_reaches s _, sameTime_carryDtc s _, ?_⟩, fun hn => ?_⟩
    · exact onlyIn_trans (onlyIn_mono (onlyIn_carryDtc s _) (by simp)) (onlyIn_mono (onlyIn_putPan _ _ _) (by simp))
    · simp [hph, hc, hr] at hn
  · exact ⟨s, exec_pullComplete_of_not hp fun h => hpull h.2, fun hph hc hr => absurd ⟨hph, hc, hr⟩ hpull, fun _ => rfl⟩

/-- The clause of CODE_LOCK_LOSS where no twin takes the lead (R110, R113). -/
theorem lostAlone {s : State} {p : Nat} {x : Pan} (m : Nat) (hp : panAt s p = some x)
    (h : x.lead = false ∨ s.pans.act.any (isTwin p x) = false) :
    let t := lockLost (lossAt s m) p x
    t.pans = { s.pans with act := mput s.pans.act p (codeLost x (dtcNow t)) } ∧ onlyIn [.time, .pans] s t = true := by
  have hpans := pans_lossAt s m
  have hnow : dtcNow (lockLost (lossAt s m) p x) = dtcNow (lossAt s m) := dtcNow_congr (time_lockLost _ p x)
  have hu : panAt (lossAt s m) p = some x := by rw [panAt, hpans]; exact hp
  dsimp only
  rw [hnow, lockLost_of_alone hu (hpans ▸ h)]
  refine ⟨by rw [putPan, hpans], ?_⟩
  exact onlyIn_trans (onlyIn_mono (onlyIn_carryDtc s _) (by simp)) (onlyIn_mono (onlyIn_putPan _ _ _) (by simp))

/-- The clause of CODE_LOCK_LOSS where the twin takes the lead (R116). -/
theorem lostToTwin {s : State} {p q : Nat} {x y : Pan} (m : Nat) (hp : panAt s p = some x) (hl : x.lead = true)
    (hf : s.pans.act.filter (isTwin p x) = [(q, y)]) (hrise : mrising s.pans.act = true) :
    let t := lockLost (lossAt s m) p x
    panAt t p = some { codeLost x (dtcNow t) with lead := false } ∧ panAt t q = some { y with lead := true } ∧
      (∀ r, r ≠ p → r ≠ q → panAt t r = panAt s r) ∧ onlyIn [.time, .pans, .integ] s t = true := by
  have hpans := pans_lossAt s m
  have hnow : dtcNow (lockLost (lossAt s m) p x) = dtcNow (lossAt s m) := dtcNow_congr (time_lockLost _ p x)
  have hu : ∀ r, panAt (lossAt s m) r = panAt s r := fun r => by rw [panAt, hpans]; rfl
  have hmem : (q, y) ∈ s.pans.act.filter (isTwin p x) := hf ▸ List.mem_singleton.mpr rfl
  obtain ⟨hmem, htwin⟩ := List.mem_filter.mp hmem
  have hne : q ≠ p := by
    rintro rfl
    simp [isTwin] at htwin
  have hat := panAt_lockLost_of_twin ((hu p).trans hp) ((hu q).trans ((mget_eq_some_iff hrise).mpr hmem)) hne hl
    (by rw [hpans]; exact hf)
  dsimp only
  rw [hnow]
  refine ⟨(hat p).trans (if_pos rfl), (hat q).trans ((if_neg (Ne.symm hne)).trans (if_pos rfl)), fun r hr hrq => ?_, ?_⟩
  · exact (hat r).trans ((if_neg (Ne.symm hr)).trans ((if_neg (Ne.symm hrq)).trans (hu r)))
  · exact onlyIn_trans (onlyIn_mono (onlyIn_carryDtc s _) (by simp)) (onlyIn_mono (onlyIn_lockLost _ _ _) (by simp))

/-- Settles O44: every command is told by the state it reaches and the pan it leaves; a release goes by the pans left. -/
theorem tracking : Obligations.Tracking := by
  unfold Obligations.Tracking
  intro s p o
  refine ⟨fun hno => ⟨exec_integrationEnd_of_none hno o, exec_of_no_pan hno⟩, fun x hp => ⟨fun hi => ?_, fun hi => ?_⟩⟩
  · have hn : ¬ integrates s x = true := by rw [hi]; exact Bool.false_ne_true
    exact ⟨exec_integrationEnd_of_idle hp hi o, exec_pullComplete_of_not hp fun h => hn h.1,
      exec_codeLockLoss_of_not hp (.inr fun h => hn h.1), exec_reacqTimeout_of_not hp fun h => hn h.2⟩
  refine ⟨?_, ?_, fun h => ?_, fun m hc hm => ?_, fun hr => ?_, fun hr hits _ => ?_⟩
  · have h := atBoundary s x
    have hexec := exec_integrationEnd hp hi o
    dsimp only at hexec
    obtain ⟨u, hu⟩ : ∃ u, u = carryDtc s (boundaryAt x) := ⟨_, rfl⟩
    obtain ⟨z, hz⟩ : ∃ z, z = panBoundary u x (boundaryAt x) := ⟨_, rfl⟩
    rw [← hu, ← hz] at h hexec
    have hheld := h.heldOver
    cases hg : x.gapHit with
    | true =>
      rw [if_pos (hheld.gapHit.trans hg)] at hexec
      obtain ⟨hreach, htime, hframe, hothers⟩ := gapDiscarded h p.val
      have hend : Ended s x { z with gapHit := false, gapMeas := true } :=
        h.ended.keeps ⟨rfl, rfl, rfl, rfl, rfl, rfl, rfl, rfl, rfl⟩
      have hran : RanOn s x { z with gapHit := false, gapMeas := true } := h.ran.keeps ⟨rfl, rfl, rfl, rfl, rfl, rfl⟩
      exact ⟨_, _, hexec, (panAt_putPan _ _ _ _).trans (if_pos rfl), hothers, hreach, hend.posAt, hend.ms, taps_of_ended hend,
        hend.pendTaps, hend.coh.trans (nextCoh_eq x), hend.prn, hend.lead, hend.susp, hend.starting,
        fun _ => ⟨hran.code, hran.carrier, hran.pendRate, hran.rates⟩,
        fun _ => ⟨rfl, rfl, hheld.result, hheld.ready, hheld.codeLk, hheld.carLk, hheld.bitSync, hheld.frmSync, hheld.phase,
          hheld.cn0, hheld.reacq, hheld.pliRun, hheld.lossMs, htime, hframe⟩, nofun⟩
    | false =>
      rw [if_neg (by rw [hheld.gapHit, hg]; exact Bool.false_ne_true)] at hexec
      have hend := h.ended_withResult o
      have hnow := dtcNow_resultTaken u p.val z o
      refine ⟨_, _, hexec, (h.panAt_resultTaken o p.val p.val).trans (if_pos rfl),
        fun q hq => (h.panAt_resultTaken o p.val q).trans (if_neg (Ne.symm hq)), h.reaches_resultTaken o p.val,
        hend.posAt, hend.ms, taps_of_ended hend, hend.pendTaps, hend.coh.trans (nextCoh_eq x), hend.prn, hend.lead, hend.susp,
        hend.starting, fun hr => ?_, nofun, fun _ => ⟨(h.result_withResult o).1, (h.result_withResult o).2, fun hr hl => ?_,
          fun hr hl => ?_, h.search_withResult o, h.frmSync_withResult o, h.params_resultTaken o p.val,
          fun leap next hl hf => h.utc_resultTaken o p.val hl hf, h.sameTime_resultTaken o p.val, h.onlyIn_resultTaken o p.val⟩⟩
      · have hran := h.ranOn_withResult o (hr.resolve_right (by simp))
        exact ⟨hran.code, hran.carrier, hran.pendRate, hran.rates⟩
      · exact h.late_withResult o hr (hnow ▸ hl)
      · rw [h.atInstant_resultTaken o p.val]
        exact h.indicators_withResult o hr (hnow ▸ hl)
  · exact pullCompleted hp hi
  · exact exec_codeLockLoss_of_not hp (h.symm.imp id fun hc k => Bool.false_ne_true (hc.symm.trans k.2))
  · refine ⟨_, exec_codeLockLoss hp hi hc hm, ?_⟩
    by_cases hz : s.par pTrkReacqS = 0
    · rw [if_pos hz]
      have htime := (searchKeeps_releaseAndQueue (lockLost (lossAt s m) p.val x) p.val).time.trans (time_lockLost _ _ _)
      exact ⟨Reaches.congr (carryDtc_reaches s _) htime, sameTime_congr (sameTime_carryDtc s _) htime, fun h => absurd hz h,
        fun q y h => absurd hz h, fun _ hits _ hlast hs hok => releasedAtOnce m hp hits hlast hs hok⟩
    · rw [if_neg hz]
      have htime := time_lockLost (lossAt s m) p.val x
      exact ⟨Reaches.congr (carryDtc_reaches s _) htime, sameTime_congr (sameTime_carryDtc s _) htime,
        fun _ h => lostAlone m hp h, fun q y _ hl hf hrise => lostToTwin m hp hl hf hrise, fun h => absurd h hz⟩
  · exact exec_reacqTimeout_of_not hp fun h => by simp [hr] at h
  · exact ⟨_, exec_reacqTimeout hp hr hi, releasedAtTimeout _ hp hits⟩

end Sys2Proof.Proofs
end

section
/-! PROOFS. Where the edges of the clock outputs fall: quotients rounded up, rounded to the nearest, and the carried DTC
(spec/06 R147, R149, R154). -/

namespace Sys2Proof.Proofs

open Sys2Proof Sys2Proof.Machine Sys2Proof.Spec

/-! ### Quotients rounded up and to the nearest -/

theorem ceilDiv_le_iff {x d : Int} (hd : 0 < d) (k : Int) : -((-x) / d) ≤ k ↔ x ≤ k * d := by
  rw [neg_le, Int.le_ediv_iff_mul_le hd, neg_mul, neg_le_neg_iff]

/-- The quotient rounded up is the first index whose multiple reaches `x`. -/
theorem ceilDiv_first {x d : Int} (hd : 0 < d) : (-((-x) / d) - 1) * d < x ∧ x ≤ -((-x) / d) * d :=
  ⟨lt_of_not_ge fun h => absurd ((ceilDiv_le_iff hd _).mpr h) (by omega), (ceilDiv_le_iff hd _).mp le_rfl⟩

theorem firstMultiple_ceilDiv {p : Int} (hp : 0 < p) (x : Int) : FirstMultiple p x (-((-x) / p) * p) := by
  obtain ⟨hlt, hle⟩ := ceilDiv_first (x := x) hp
  exact ⟨_, rfl, by rwa [Int.sub_mul, Int.one_mul] at hlt, hle⟩

/-- The next whole multiple after `x`. -/
theorem firstMultiple_succ_floor {p : Int} (hp : 0 < p) (x : Int) : FirstMultiple p (x + 1) ((x / p + 1) * p) := by
  have hle := Int.ediv_mul_le x hp.ne'
  have hlt := Int.lt_ediv_add_one_mul_self x hp
  exact ⟨_, rfl, by rw [Int.add_mul, Int.one_mul]; omega, hlt⟩

/-- The nearest whole number misses by no more than half the divisor (R149). -/
theorem divNearest_bounds (a : Int) {b : Int} (hb : 0 < b) :
    -b ≤ 2 * (divNearest a b * b - a) ∧ 2 * (divNearest a b * b - a) < b := by
  obtain ⟨hlt, hle⟩ := ceilDiv_first (x := 2 * a - b) (d := 2 * b) (by omega)
  have hdiv : divNearest a b = -((-(2 * a - b)) / (2 * b)) := by rw [divNearest, neg_sub, neg_add_eq_sub]
  rw [← hdiv] at hlt hle
  constructor <;> linarith

/-! ### The nearest tick (spec/06 R149) -/

/-- With less than 10 percent of frequency error and of slew the DTC time of a GNSS target is a true fraction. -/
theorem invGnss_den_pos {s : State} (heps : s.time.eps.natAbs < 100000000000) (hslew : s.time.slewRate < 100000000)
    (num : Int) {den : Int} (hden : 0 < den) : 0 < (invGnss s num den).2 := by
  have hk : 900000000000 < 1000000000000 + epsNow s := by unfold epsNow; split <;> omega
  simp only [invGnss]
  split_ifs
  · exact hden
  all_goals exact Int.mul_pos hden (by omega)

/-- Half a tick is less than 478 ps: what a whole number of ticks misses by, in picoseconds. -/
theorem residual_le {e δ : Int} (he : 0 < e) (hlo : -e ≤ 2 * δ) (hhi : 2 * δ < e) :
    (divNearest (δ * 1000000000000) (e * 1047552000)).natAbs ≤ 478 := by
  obtain ⟨hmlo, hmhi⟩ := divNearest_bounds (δ * 1000000000000) (b := e * 1047552000) (by omega)
  generalize divNearest (δ * 1000000000000) (e * 1047552000) = m at hmlo hmhi
  have habove : m ≤ 478 := by by_contra h; nlinarith
  have hbelow : -478 ≤ m := by by_contra h; nlinarith
  omega

theorem residual_placeAt_le {s : State} (heps : s.time.eps.natAbs < 100000000000) (hslew : s.time.slewRate < 100000000)
    (target ps : Int) : (placeAt s target ps).2.natAbs ≤ 478 := by
  have he := invGnss_den_pos heps hslew (target * 1000000000000 + ps * 1047552000 * 1) (den := 1 * 1000000000000) (by omega)
  obtain ⟨hlo, hhi⟩ := divNearest_bounds
    (invGnss s (target * 1000000000000 + ps * 1047552000 * 1) (1 * 1000000000000)).1 he
  exact residual_le he hlo hhi

/-! ### Carrying the DTC to an edge -/

/-- Carrying the DTC forward sets its count and its wraps alone. -/
theorem carryDtc_counts (s : State) (n : Nat) :
    ∃ d w, carryDtc s n = { s with time := { s.time with dtc := d, wraps := w } } := ⟨_, _, carryDtc_eq s n⟩

theorem carryTick_counts (s : State) (n : Int) :
    ∃ d w, carryTick s n = { s with time := { s.time with dtc := d, wraps := w } } := carryDtc_counts s _

theorem carryGnss_counts (s : State) (t : Int) :
    ∃ d w, carryGnss s t = { s with time := { s.time with dtc := d, wraps := w } } := carryDtc_counts s _

theorem carryTick_tp (s : State) (n : Int) : (carryTick s n).tp = s.tp := by rw [carryTick, carryDtc_eq]

theorem onlyIn_carried_tp (s : State) (n : Nat) (x : TpSt) : onlyIn [.time, .tp] s { (carryDtc s n) with tp := x } = true := by
  obtain ⟨d, w, h⟩ := carryDtc_counts s n
  rw [h]
  simp [onlyIn, allParts, agree]

end Sys2Proof.Proofs
end

section
/-! PROOFS. The pulses of TPOUT (spec/06 R147-R152). -/

namespace Sys2Proof.Proofs

open Sys2Proof Sys2Proof.Machine Sys2Proof.Spec

/-! ### The lattice of pulse times (spec/06 R147) -/

theorem tpPeriod_pos (s : State) : 0 < tpPeriod s := by
  unfold tpPeriod tpHz
  split <;> decide

theorem isPulse_iff {s : State} {k t : Int} : isPulse s k t = true ↔ t = pulseTime s k := decide_eq_true_iff

theorem pulseTime_le_iff (s : State) {j k : Int} : pulseTime s j ≤ pulseTime s k ↔ j ≤ k := by
  unfold pulseTime
  rw [Int.add_le_add_iff_right, Int.mul_le_mul_iff_of_pos_right (tpPeriod_pos s)]

theorem pulseIndex_le_iff (s : State) (t k : Int) : pulseIndex s t ≤ k ↔ t ≤ pulseTime s k := by
  unfold pulseIndex pulseTime
  rw [ceilDiv_le_iff (tpPeriod_pos s), sub_le_iff_le_add]

/-- The indices from the next pulse's on are those of the pulse times at or after now, later than all that were emitted. -/
theorem nextPulse_le_iff (s : State) (k : Int) : nextPulse s ≤ k ↔
    tpTime s (gnssNow s) ≤ pulseTime s k ∧ ∀ l, s.tp.lastTarget = some l → l < pulseTime s k := by
  unfold nextPulse
  cases s.tp.lastTarget with
  | none => simp [pulseIndex_le_iff]
  | some l => simp [pulseIndex_le_iff]

/-- The next pulse falls due at the first pulse time that R147 and R152 allow. -/
theorem nextPulse_isNext (s : State) : NextPulse s (pulseTime s (nextPulse s)) := by
  obtain ⟨hnow, hnew⟩ := (nextPulse_le_iff s _).mp le_rfl
  refine ⟨⟨nextPulse s, isPulse_iff.mpr rfl⟩, hnow, hnew, fun k u hk hu hl => ?_⟩
  rw [isPulse_iff] at hk
  subst hk
  exact (pulseTime_le_iff s).mpr ((nextPulse_le_iff s k).mpr ⟨hu, hl⟩)

/-! ### Pulses -/

/-- `s` with other words in TP_QERR. -/
def withQerr (s : State) (q lo : BitVec 16) : State := { s with tp := { s.tp with qerr := q, towLo := lo } }

theorem tpPlace_withQerr (s : State) (q lo : BitVec 16) (k : Int) : tpPlace (withQerr s q lo) k = tpPlace s k := rfl

theorem nextPulse_withQerr (s : State) (q lo : BitVec 16) : nextPulse (withQerr s q lo) = nextPulse s := rfl

theorem updateQerr_eq (s : State) : updateQerr s = withQerr s (BitVec.ofInt 16 (tpPlace s (nextPulse s)).2)
    (BitVec.ofInt 16 (pulseTime s (nextPulse s) % ticksPerWeek / ticksPerSec)) := rfl

/-- TP_QERR has no part in where a pulse is placed, so it tells the residual of the pulse that comes next (R150). -/
theorem qerr_updateQerr (s : State) : (updateQerr s).tp.qerr =
    BitVec.ofInt 16 (tpPlace (updateQerr s) (nextPulse (updateQerr s))).2 := by
  rw [updateQerr_eq, nextPulse_withQerr, tpPlace_withQerr, withQerr]

theorem qerr_emitPulse (s : State) (n : Int) (e : Int × Int) (t : Int) : (emitPulse s n e t).tp.qerr =
    BitVec.ofInt 16 (tpPlace (emitPulse s n e t) (nextPulse (emitPulse s n e t))).2 := qerr_updateQerr _

theorem emitPulse_tp (s : State) (n : Int) (e : Int × Int) (t : Int) : (emitPulse s n e t).tp =
    { s.tp with
      level := true, pulseCnt := s.tp.pulseCnt + 1, placed := n, endsAt := some (e.1, e.2 + s.tp.width * 1000000)
      lastTarget := some t, qerr := (emitPulse s n e t).tp.qerr, towLo := (emitPulse s n e t).tp.towLo } := rfl

theorem pulseDue_of_idle {s : State} (h : s.tp.level = false) (n : Int) (e : Int × Int) (t : Int) :
    pulseDue s n e t = emitPulse s n e t := by
  simp [pulseDue, h]

theorem pulseDue_of_busy {s : State} {u : Int × Int} (h : s.tp.level = true) (hu : s.tp.endsAt = some u) (n : Int)
    (e : Int × Int) (t : Int) : pulseDue s n e t =
      { s with tp := { s.tp with deferred := some (u.1, u.2 + 1000000), late := true, lastTarget := some t } } := by
  simp [pulseDue, h, hu]

/-- The pulse that falls due, emitted at its tick. -/
def emitted (s : State) : State :=
  emitPulse (carryTick s (tpPlace s (nextPulse s)).1) (tpPlace s (nextPulse s)).1
    (nextPulse s * tpPeriod s, s.tp.userOff * 1000) (pulseTime s (nextPulse s))

theorem tp_emitted (s : State) : (emitted s).tp =
    { s.tp with
      level := true, pulseCnt := s.tp.pulseCnt + 1, placed := (tpPlace s (nextPulse s)).1
      endsAt := some (nextPulse s * tpPeriod s, s.tp.userOff * 1000 + s.tp.width * 1000000)
      lastTarget := some (pulseTime s (nextPulse s)), qerr := (emitted s).tp.qerr, towLo := (emitted s).tp.towLo } := by
  unfold emitted
  rw [emitPulse_tp, carryTick_tp]

theorem time_emitted (s : State) : (emitted s).time = (carryTick s (tpPlace s (nextPulse s)).1).time := rfl

theorem onlyIn_emitted (s : State) : onlyIn [.time, .tp] s (emitted s) = true := onlyIn_carried_tp s _ _

theorem exec_tpoutActiveEdge {s : State} (h : tpEmits s = true) : exec .tpoutActiveEdge s =
    .next (pulseDue (carryTick s (tpPlace s (nextPulse s)).1) (tpPlace s (nextPulse s)).1
      (nextPulse s * tpPeriod s, s.tp.userOff * 1000) (pulseTime s (nextPulse s))) := if_pos h

theorem exec_tpoutActiveEdge_of_idle {s : State} (h : tpEmits s = true) (hl : s.tp.level = false) :
    exec .tpoutActiveEdge s = .next (emitted s) := by
  rw [exec_tpoutActiveEdge h, pulseDue_of_idle (by rwa [carryTick_tp])]
  rfl

theorem exec_tpoutActiveEdge_of_busy {s : State} (h : tpEmits s = true) {e : Int × Int} (hl : s.tp.level = true)
    (he : s.tp.endsAt = some e) : exec .tpoutActiveEdge s = .next { (carryTick s (tpPlace s (nextPulse s)).1) with
      tp := { s.tp with
        deferred := some (e.1, e.2 + 1000000), late := true, lastTarget := some (pulseTime s (nextPulse s)) } } := by
  rw [exec_tpoutActiveEdge h, pulseDue_of_busy (u := e) (by rwa [carryTick_tp]) (by rwa [carryTick_tp]), carryTick_tp]

theorem exec_tpoutActiveEdge_of_closed {s : State} (h : tpEmits s = false) : exec .tpoutActiveEdge s = .next s :=
  if_neg (by simp [h])

theorem exec_tpoutInactiveEdge {s : State} {e : Int × Int} (hl : s.tp.level = true) (he : s.tp.endsAt = some e) :
    exec .tpoutInactiveEdge s = .next { (carryTick s (tpEdge s e)) with
      tp := { s.tp with level := false, endsAt := none, placed := tpEdge s e } } := by
  obtain ⟨d, w, h⟩ := carryTick_counts s (tpEdge s e)
  simp [exec, execTpoutInactiveEdge, hl, he, h]

/-- The machine when the deferred pulse's instant `e` is there. -/
def deferralOver (s : State) (e : Int × Int) : State :=
  { (carryTick s (tpEdge s e)) with tp := { s.tp with deferred := none } }

theorem tpEmits_deferralOver (s : State) (e : Int × Int) : tpEmits (deferralOver s e) = tpEmits s := by
  obtain ⟨d, w, h⟩ := carryTick_counts s (tpEdge s e)
  unfold deferralOver
  rw [h]
  rfl

/-- The deferred pulse, begun with late set (R152). -/
def deferredPulse (s : State) (e : Int × Int) : State :=
  let u := emitPulse (deferralOver s e) (tpEdge s e) e (s.tp.lastTarget.getD e.1)
  { u with tp := { u.tp with late := true } }

theorem exec_tpoutDeferredPulse {s : State} {e : Int × Int} (hl : s.tp.level = false) (he : s.tp.deferred = some e) :
    exec .tpoutDeferredPulse s = .next (if tpEmits s then deferredPulse s e else deferralOver s e) := by
  have hover : { (carryTick s (tpEdge s e)) with tp := { (carryTick s (tpEdge s e)).tp with deferred := none } } =
      deferralOver s e := by rw [carryTick_tp]; rfl
  simp only [exec, execTpoutDeferredPulse, hl, he, hover, tpEmits_deferralOver]
  rw [carryTick_tp]
  split <;> rfl

/-! ### Settings (spec/06 R147) -/

/-- The settings as the parameters stand, in force from GNSS time `t`. -/
def settingsApplied (s : State) (t : Int) : State :=
  updateQerr { (carryGnss s t) with tp := { s.tp with
    rate := s.parN pTpRate, width := s.parN pTpWidth, pol := s.parB pTpPol, userOff := s.par pTpUserOff,
    outDly := s.par pTpOutDelay } }

theorem exec_tpSettingsApply {s : State} (hrun : s.time.running = true) : exec .tpSettingsApply s =
    .next (settingsApplied s (-((-(gnssNow s)) / ticksPerSec) * ticksPerSec)) := by
  obtain ⟨d, w, h⟩ := carryGnss_counts s (-((-(gnssNow s)) / ticksPerSec) * ticksPerSec)
  unfold settingsApplied
  rw [exec, execTpSettingsApply, if_pos hrun, h]
  rfl

theorem tp_settingsApplied (s : State) (t : Int) : (settingsApplied s t).tp =
    { s.tp with
      rate := s.parN pTpRate, width := s.parN pTpWidth, pol := s.parB pTpPol, userOff := s.par pTpUserOff
      outDly := s.par pTpOutDelay, qerr := (settingsApplied s t).tp.qerr, towLo := (settingsApplied s t).tp.towLo } := rfl

theorem time_settingsApplied (s : State) (t : Int) : (settingsApplied s t).time = (carryGnss s t).time := rfl

theorem onlyIn_settingsApplied (s : State) (t : Int) : onlyIn [.time, .tp] s (settingsApplied s t) = true :=
  onlyIn_carried_tp s _ _

/-! ### O35 -/

/-- Settles O35: a pulse falls due at the least index that R147 and R152 allow, each event is told by the state it reaches,
and half a tick is less than 478 ps. -/
theorem timingPulses : Obligations.TimingPulses := by
  unfold Obligations.TimingPulses
  refine ⟨fun s => ⟨fun hem =>
      ⟨nextPulse s, _, isPulse_iff.mpr rfl, nextPulse_isNext s, fun hl => ?_, fun e hl he => ?_⟩,
    exec_tpoutActiveEdge_of_closed, fun e => exec_tpoutInactiveEdge, fun e hl he => ⟨fun hem => ?_, fun hem => ?_⟩,
    fun hrun => ?_⟩, fun s k heps hslew => residual_placeAt_le heps hslew _ _⟩
  · have htp := tp_emitted s
    exact ⟨_, exec_tpoutActiveEdge_of_idle hem hl, congrArg TpSt.level htp, congrArg TpSt.pulseCnt htp,
      congrArg TpSt.placed htp, congrArg TpSt.lastTarget htp, congrArg TpSt.endsAt htp, qerr_emitPulse _ _ _ _,
      (congrArg TpSt.late htp :), time_emitted s, onlyIn_emitted s⟩
  · exact exec_tpoutActiveEdge_of_busy hem hl he
  · rw [exec_tpoutDeferredPulse hl he, if_pos hem]
    exact ⟨_, rfl, rfl, rfl, rfl, rfl, rfl, rfl, onlyIn_carried_tp s _ _⟩
  · rw [exec_tpoutDeferredPulse hl he, if_neg (by simp [hem])]
    rfl
  · exact ⟨_, _, firstMultiple_ceilDiv (by decide) _, exec_tpSettingsApply hrun, time_settingsApplied s _,
      tp_settingsApplied s _, onlyIn_settingsApplied s _⟩

end Sys2Proof.Proofs
end

section
/-! PROOFS. The Word Clock Synthesizer (spec/06 R153-R167). -/

namespace Sys2Proof.Proofs

open Sys2Proof Sys2Proof.Machine Sys2Proof.Spec

/-! ### The lattice, the ratio and the phase -/

theorem latticeIndex_first (s : State) (num : Int) {den : Int} (hden : 0 < den) :
    LatticeIndex s num den (latticeIndex s num den) := ceilDiv_first (Int.mul_pos hden (by decide))

/-- The steering law's ratio is R153's and R155's. -/
theorem isRatio_wcsRatio (s : State) : IsRatio s (wcsFs s) s.wcs.phiA (wcsRatio s) := by
  unfold IsRatio
  extract_lets d lim
  intro y _ hlo hhi hin
  have hy : y = clip (-lim) lim (s.wcs.phiA * 1000000) := by
    unfold clip
    split_ifs with h h'
    · exact hlo h
    · exact hhi h'
    · exact hin (not_lt.mp h) (not_lt.mp h')
  subst hy
  exact Int.mul_comm _ _

/-- The ratio of outputs in phase. -/
def inPhaseRatio (s : State) : Int × Int := wcsRatio { s with wcs := { s.wcs with phiA := 0 } }

/-- Beside fs and phi_a the ratio rests on the parameters and the frequency error alone. -/
theorem isRatio_congr {s t : State} {fs a : Int} {r : Int × Int} (h : IsRatio t fs a r) (hp : t.params = s.params)
    (he : epsNow t = epsNow s) : IsRatio s fs a r := by
  unfold IsRatio at h ⊢
  rwa [State.par_congr hp, State.par_congr hp, he] at h

theorem isRatio_inPhaseRatio (s : State) : IsRatio s (wcsFs s) 0 (inPhaseRatio s) :=
  isRatio_congr (isRatio_wcsRatio { s with wcs := { s.wcs with phiA := 0 } }) rfl rfl

theorem nearPhase_eq_not_beyond (s : State) (a : Int) (k : Nat) : nearPhase s a k = !phaseBeyond s a k := by
  unfold nearPhase phaseBeyond
  rw [← decide_not]
  simp only [not_lt]

/-! ### A write of WCS_CTRL (spec/06 R156, R157, R167) -/

theorem writing_iff {s : State} {off : Word} {sec : Bool} :
    writing s off sec = true ↔ s.bus.cyc = some ⟨off, true, sec⟩ ∧ busOn s = true ∧ quiet s = true := by
  simp [writing, and_assoc]

theorem getLsbD_ofHalves_zero (d : Word) {i : Nat} (hi : i < 16) : (ofHalves 0 d).getLsbD i = d.getLsbD i := by
  rw [ofHalves, BitVec.getLsbD_append, if_pos hi]

/-- The machine when a write data phase of a class begins: its holding word is gone and no error response stands (R202). -/
def phaseOpen (s : State) (c : Cls) : State := dropHold { s with bus := { s.bus with herr := false } } c

/-- A data phase at WCS_CTRL writes it, and the cycle goes on (R195, R201). -/
theorem hostWrite_wcsCtrl {s : State} {sec : Bool} (hcore : s.pwr.coreUp = true) (h : writing s 0x38 sec = true) (d : Word) :
    hostWrite s d =
      let r := writeWcs (phaseOpen s (hostOf sec)) (ofHalves 0 d)
      advance (r.2.elim r.1 fun e => errResponse r.1 (hostOf sec) e 0x38 true) ⟨0x38, true, sec⟩ := by
  obtain ⟨hcyc, hbus, hq⟩ := writing_iff.mp h
  cases sec <;>
    · simp [hostWrite, hcyc, hbus, idleNow_wakeEvent_of_quiet hq, regAccess, regCore, hcore, regHeld, not_sleep_of_quiet hq,
        regInCore, cycCls, busPut, regPaired, regPut, autoInc, phaseOpen, hostOf, dropHold]
      generalize writeWcs _ _ = r
      obtain ⟨u, _ | e⟩ := r <;> rfl

theorem phaseOpen_wcs (s : State) (c : Cls) : (phaseOpen s c).wcs = s.wcs := by cases c <;> rfl

/-- A write of WCS_CTRL that is accepted changes the WCS alone. -/
theorem hostWrite_of_accepted {s : State} {sec : Bool} (hcore : s.pwr.coreUp = true) (h : writing s 0x38 sec = true) {d : Word}
    {w : WcsSt} (hw : writeWcs (phaseOpen s (hostOf sec)) (ofHalves 0 d) =
      ({ (phaseOpen s (hostOf sec)) with wcs := w }, none)) :
    hostWrite s d = { (phaseDone s sec 0x39) with wcs := w } := by
  rw [hostWrite_wcsCtrl hcore h, hw]
  cases sec <;> rfl

/-- An error response is kept in a class's registers as R204 and R206 say, whose holding word is gone. -/
theorem errResponse_phaseOpen (s : State) (c : Cls) (e : Cause) (off : Word) :
    errResponse (phaseOpen s c) c e off true =
      { (s.modCls c (fun b => errored b (causeCode e) true off)) with bus := { s.bus with herr := true } } := by
  by_cases hz : (s.cls c).errCnt = 0 <;> cases c <;>
    · simp only [State.cls] at hz
      simp only [errResponse, phaseOpen, dropHold, State.modCls, State.setCls, State.cls, errored, hz, if_true, if_false]
      rfl

theorem hostWrite_of_rule {s : State} {sec : Bool} (hcore : s.pwr.coreUp = true) (h : writing s 0x38 sec = true) {d : Word}
    (hw : writeWcs (phaseOpen s (hostOf sec)) (ofHalves 0 d) = (phaseOpen s (hostOf sec), some .rule)) :
    hostWrite s d = phaseFailed s sec 8 0x38 0x39 := by
  rw [hostWrite_wcsCtrl hcore h, hw]
  simp only [Option.elim]
  rw [errResponse_phaseOpen]
  cases sec <;> rfl

/-- The row of a write of WCS_CTRL carries it out. -/
theorem phaseWrite_wcsCtrl {s : State} {sec : Bool} (h : writing s 0x38 sec = true) {d : Word} {r : WRow}
    (hr : writeRow s ⟨0x38, true, sec⟩ d = r) : phaseWrite r d s = .next (hostWrite s d) := by
  obtain ⟨hcyc, -⟩ := writing_iff.mp h
  simp only [phaseWrite, hcyc]
  rw [if_pos (by exact ⟨trivial, hr⟩)]

theorem writeRow_wcsCtrl (s : State) (sec : Bool) (d : Word) : writeRow s ⟨0x38, true, sec⟩ d =
    if d.getLsbD 0 && !s.wcs.en then .wcsEnable else if !d.getLsbD 0 && s.wcs.en then .wcsDisable
    else if d.getLsbD 6 then .realign else .reg := rfl

section
variable {s : State} {d : Word}

/-- The WCS as it starts (R156, R158, R160). -/
def wcsStarted (s : State) : WcsSt :=
  { s.wcs with
    state := .start, pllLk := false, running := false, stopped := false, sleepStop := false, jumpDone := false, phi := 0
    phiA := 0, ratio := inPhaseRatio s, gnssBased := tqGnss s.time.tq, holdover := false }

theorem wcsStart_eq (s : State) : wcsStart s = { s with wcs := wcsStarted s } := rfl

/-- The WCS enabled with the family and the fields of `d`, before it starts. -/
def wcsEnabled (s : State) (d : Word) : State :=
  { s with wcs := { (wcsWritten s d) with en := true, fam := d.getLsbD 1, x2 := d.getLsbD 2, famUse := d.getLsbD 1 } }

theorem writeWcs_enable (h0 : d.getLsbD 0 = true) (hen : s.wcs.en = false) (h6 : d.getLsbD 6 = false) :
    writeWcs s (ofHalves 0 d) = ({ s with wcs := wcsStarted (wcsEnabled s d) }, none) := by
  simp (disch := decide) only [writeWcs, getLsbD_ofHalves_zero, h0, hen, h6]
  rfl

/-- The WCS switched off (R156, R166). -/
def wcsDisabled (w : WcsSt) : WcsSt :=
  { w with
    en := false, state := .off, running := false, stopped := false, pend := false, pllLk := false, sleepStop := false
    gnssBased := false, holdover := false }

theorem writeWcs_disable (h0 : d.getLsbD 0 = false) (hen : s.wcs.en = true) (h6 : d.getLsbD 6 = false)
    (hfam : d.getLsbD 1 = s.wcs.fam) (hx2 : d.getLsbD 2 = s.wcs.x2) :
    writeWcs s (ofHalves 0 d) = ({ s with wcs := wcsDisabled (wcsWritten s d) }, none) := by
  simp (disch := decide) only [writeWcs, getLsbD_ofHalves_zero, h0, hen, h6, hfam, hx2, ne_eq, not_true_eq_false,
    or_self, and_false, if_false]
  rfl

/-- A request for a re-align, with a step of GNSS time still to be made, has something to do (R157, R159; log entry 15). -/
def realignAsks (s : State) (step : Int) : Bool :=
  s.wcs.state == .start || (s.wcs.state != .off && phaseBeyond s (wrapPhase s (s.wcs.phiA + 16 * step)) 1)

theorem realignRequest_eq (s : State) (step : Int) : realignRequest s step =
    { s with wcs := { s.wcs with pend := s.wcs.pend || realignAsks s step } } := by
  have hite : realignRequest s step = if realignAsks s step then { s with wcs := { s.wcs with pend := true } } else s := by
    unfold realignRequest realignAsks
    rw [nearPhase_eq_not_beyond]
    cases s.wcs.state with
    | off | start => rfl
    | slew | locked => cases phaseBeyond s (wrapPhase s (s.wcs.phiA + 16 * step)) 1 <;> rfl
  rw [hite]
  cases realignAsks s step
  · rw [Bool.or_false]; rfl
  · rw [Bool.or_true]; rfl

theorem writeWcs_realign (h0 : d.getLsbD 0 = true) (hen : s.wcs.en = true) (h6 : d.getLsbD 6 = true)
    (hfam : d.getLsbD 1 = s.wcs.fam) (hx2 : d.getLsbD 2 = s.wcs.x2) : writeWcs s (ofHalves 0 d) =
      ({ s with wcs := { (wcsWritten s d) with pend := s.wcs.pend || realignAsks s (stepWaits s) } }, none) := by
  simp (disch := decide) only [writeWcs, getLsbD_ofHalves_zero, h0, h6, hfam, hx2, ne_eq, not_true_eq_false, or_self,
    and_false, false_and, true_and, if_false, if_true]
  rw [if_neg (not_not.mpr hen), realignRequest_eq]
  rfl

theorem writeWcs_rule (hen : s.wcs.en = true) (hdiff : ¬ (d.getLsbD 1 = s.wcs.fam ∧ d.getLsbD 2 = s.wcs.x2)) :
    writeWcs s (ofHalves 0 d) = (s, some .rule) := by
  refine if_pos ⟨hen, ?_⟩
  rwa [getLsbD_ofHalves_zero d (by decide), getLsbD_ofHalves_zero d (by decide), ← not_and_or]

end

/-! ### The rows of WCS_CTRL -/

section
variable {s : State} {sec : Bool} {d : Word}

theorem exec_wcsEnable (h : writing s 0x38 sec = true) (hcore : s.pwr.coreUp = true) (h0 : d.getLsbD 0 = true)
    (hen : s.wcs.en = false) (h6 : d.getLsbD 6 = false) : exec (.wcsEnable d) s =
      .next { (phaseDone s sec 0x39) with wcs := wcsStarted (wcsEnabled s d) } := by
  have hrow : writeRow s ⟨0x38, true, sec⟩ d = .wcsEnable := by rw [writeRow_wcsCtrl, h0, hen]; rfl
  have hput := hostWrite_of_accepted hcore h (writeWcs_enable h0 (by rwa [phaseOpen_wcs]) h6)
  rw [exec, execWcsEnable, phaseWrite_wcsCtrl h hrow, hput]
  cases sec <;> rfl

theorem exec_wcsDisable (h : writing s 0x38 sec = true) (hcore : s.pwr.coreUp = true) (h0 : d.getLsbD 0 = false)
    (hen : s.wcs.en = true) (h6 : d.getLsbD 6 = false) (hfam : d.getLsbD 1 = s.wcs.fam) (hx2 : d.getLsbD 2 = s.wcs.x2) :
    exec (.wcsDisable d) s = .next { (phaseDone s sec 0x39) with wcs := wcsDisabled (wcsWritten s d) } := by
  have hrow : writeRow s ⟨0x38, true, sec⟩ d = .wcsDisable := by rw [writeRow_wcsCtrl, h0, hen]; rfl
  have hput := hostWrite_of_accepted hcore h (writeWcs_disable h0 (by rwa [phaseOpen_wcs]) h6 (by rwa [phaseOpen_wcs])
    (by rwa [phaseOpen_wcs]))
  rw [exec, execWcsDisable, phaseWrite_wcsCtrl h hrow, hput]
  cases sec <;> rfl

theorem writeRow_realign (h0 : d.getLsbD 0 = true) (hen : s.wcs.en = true) (h6 : d.getLsbD 6 = true) :
    writeRow s ⟨0x38, true, sec⟩ d = .realign := by
  rw [writeRow_wcsCtrl, h0, hen, h6]; rfl

theorem exec_wcsRealignRequest (h : writing s 0x38 sec = true) (hcore : s.pwr.coreUp = true) (h0 : d.getLsbD 0 = true)
    (hen : s.wcs.en = true) (h6 : d.getLsbD 6 = true) (hfam : d.getLsbD 1 = s.wcs.fam) (hx2 : d.getLsbD 2 = s.wcs.x2) :
    exec (.wcsRealignRequest d) s = .next { (phaseDone s sec 0x39) with
      wcs := { (wcsWritten s d) with pend := s.wcs.pend || realignAsks s (stepWaits s) } } := by
  have hput := hostWrite_of_accepted hcore h (writeWcs_realign h0 (by rwa [phaseOpen_wcs]) h6 (by rwa [phaseOpen_wcs])
    (by rwa [phaseOpen_wcs]))
  rw [exec, execWcsRealignRequest, phaseWrite_wcsCtrl h (writeRow_realign h0 hen h6), hput]
  cases sec <;> rfl

theorem exec_wcsRealignRequest_of_rule (h : writing s 0x38 sec = true) (hcore : s.pwr.coreUp = true)
    (h0 : d.getLsbD 0 = true) (hen : s.wcs.en = true) (h6 : d.getLsbD 6 = true)
    (hdiff : ¬ (d.getLsbD 1 = s.wcs.fam ∧ d.getLsbD 2 = s.wcs.x2)) :
    exec (.wcsRealignRequest d) s = .next (phaseFailed s sec 8 0x38 0x39) := by
  rw [exec, execWcsRealignRequest, phaseWrite_wcsCtrl h (writeRow_realign h0 hen h6),
    hostWrite_of_rule hcore h (writeWcs_rule (by rwa [phaseOpen_wcs]) (by rwa [phaseOpen_wcs]))]

end

/-! ### Start, measurement, re-align and stop (spec/06 R155-R162) -/

theorem carryTick_wcs (s : State) (n : Int) : (carryTick s n).wcs = s.wcs := by rw [carryTick, carryDtc_eq]

section
variable {s : State}

theorem exec_pllLockAcquired (hst : s.wcs.state = .start) (hlk : s.wcs.pllLk = false) : exec .pllLockAcquired s =
    .next { s with wcs := { s.wcs with pllLk := true, lockedAt := wcsTime s } } := if_pos ⟨hst, by simp [hlk]⟩

theorem exec_wcsOutputStart (hst : s.wcs.state = .start) (hlk : s.wcs.pllLk = true) : exec .wcsOutputStart s =
    .next { (carryTick s (latticePlace s (latticeIndex s (25 * s.wcs.lockedAt + 523776) 25) 0)) with
      wcs := { s.wcs with state := .locked, running := true, phi := 0, phiA := 0, pend := false } } := by
  rw [exec, execWcsOutputStart, if_pos ⟨hst, hlk⟩]
  simp only [carryTick_wcs]

/-- phi_a after a measurement of `phi` ticks (R155): a sixteenth of the difference nearer. -/
def phiAfter (s : State) (phi : Int) : Int := s.wcs.phiA + (phi * 16 - s.wcs.phiA) / 16

/-- The state after a measurement that leaves phi_a at `a`: SLEW ends within wcs.lock_ns, LOCKED beyond twice that (R156). -/
def stateAfter (s : State) (a : Int) : WcsState :=
  if phaseBeyond s a (if s.wcs.state = .slew then 1 else 2) then .slew else .locked

theorem stateAfter_of_slew (h : s.wcs.state = .slew) (a : Int) :
    stateAfter s a = if phaseBeyond s a 1 then .slew else .locked := by simp [stateAfter, h]

theorem stateAfter_of_locked (h : s.wcs.state = .locked) (a : Int) :
    stateAfter s a = if phaseBeyond s a 2 then .slew else .locked := by simp [stateAfter, h]

/-- R156's two tests as the statement asks them, in a state with the parameters of `s`. -/
theorem ite_phaseWithin {u : State} (hp : u.params = s.params) (k : Nat) :
    (if phaseWithin u k then WcsState.locked else .slew) = if phaseBeyond s u.wcs.phiA k then .slew else .locked := by
  have hsame : phaseBeyond u u.wcs.phiA k = phaseBeyond s u.wcs.phiA k := by
    unfold phaseBeyond
    rw [State.par_congr hp]
  rw [phaseWithin, nearPhase_eq_not_beyond, hsame]
  cases phaseBeyond s u.wcs.phiA k <;> rfl

theorem slewDelta_of_not (h : s.mir.slewOut = false) : slewDelta s = s := if_neg (by simp [h])

theorem exec_wcsPhaseMeasure (hrun : s.wcs.running = true) (hst : s.wcs.state = .slew ∨ s.wcs.state = .locked)
    (hmir : s.mir.slewOut = false) (phi : Int) : exec (.wcsPhaseMeasure phi) s =
      .next { (carryTick s (placeAt s ((wcsTime s / (ticksPerSec / 100) + 1) * (ticksPerSec / 100)) (wcsShiftPs s)).1) with
        wcs := { s.wcs with
          phi := phi * 16, phiA := phiAfter s phi, state := stateAfter s (phiAfter s phi)
          ratio := wcsRatio { s with wcs := { s.wcs with phiA := phiAfter s phi } } } } := by
  obtain ⟨d, w, h⟩ := carryTick_counts s (placeAt s ((wcsTime s / (ticksPerSec / 100) + 1) * (ticksPerSec / 100))
    (wcsShiftPs s)).1
  rw [exec, execWcsPhaseMeasure, if_pos ⟨hrun, hst⟩]
  dsimp only
  rw [h, slewDelta_of_not (by exact hmir)]
  rcases hst with hst | hst
  · simp only [hst]
    rw [ite_phaseWithin (s := s) (by rfl), stateAfter_of_slew hst]
    rfl
  · simp only [hst]
    rw [ite_phaseWithin (s := s) (by rfl), stateAfter_of_locked hst]
    rfl

theorem exec_realignStop (hpend : s.wcs.pend = true) (hrun : s.wcs.running = true)
    (hst : s.wcs.state = .slew ∨ s.wcs.state = .locked) : exec .realignStop s = .next { (carryTick s (stopTick s)) with
      wcs := { s.wcs with running := false, stopped := true, stoppedAt := stopTime s, state := .slew } } := by
  rw [exec, execRealignStop, if_pos ⟨hpend, hrun, hst⟩]
  simp only [carryTick_wcs]

theorem exec_realignRestart (hstop : s.wcs.stopped = true) : exec .realignRestart s =
    .next { (carryTick s (latticePlace s (restartIndex s) 0)) with
      wcs := { s.wcs with
        running := true, stopped := false, pend := false, cnt := satInc 255 s.wcs.cnt, phi := 0, phiA := 0, state := .locked
        ratio := inPhaseRatio s } } := by
  obtain ⟨d, w, h⟩ := carryTick_counts s (latticePlace s (restartIndex s) 0)
  rw [exec, execRealignRestart, if_pos hstop, h]
  rfl

theorem exec_pllLockLoss (hlk : s.wcs.pllLk = true) (hcore : s.pwr.coreUp = true) (hroom : s.slu.ntc.length < 496) :
    exec .pllLockLoss s = .next { s with
      wcs := { (wcsStarted s) with unlock := true }, slu := { s.slu with ntc := s.slu.ntc ++ [immWord 7 3] } } := by
  rw [exec, execPllLockLoss, if_pos hlk, wcsStart_eq]
  dsimp only
  rw [noteWcs, postImm_of_room (by exact hcore) (by exact hroom)]
  rfl

theorem exec_wcsSleepStop (hasked : s.pwr.asked = true) (hrun : s.wcs.running = true)
    (hdeep : 3 ≤ s.pwr.tried ∨ s.par pWcsSleepRun = 0) : exec .wcsSleepStop s = .next { (carryTick s (stopTick s)) with
      wcs := { s.wcs with running := false, stopped := false, sleepStop := true, stoppedAt := stopTime s } } := by
  have hstops : stopsWcs s = true := by simpa [stopsWcs, State.parB, hrun] using hdeep
  rw [exec, execWcsSleepStop, if_pos ⟨hasked, hstops⟩, stopWcs]
  simp only [carryTick_wcs]

end

/-! ### O34 -/

/-- Settles O34: every command is told by the state it reaches; lattice points and multiples of 10 ms are quotients rounded
up, and the ratio is the steering law's. -/
theorem wordClock : Obligations.WordClock := by
  unfold Obligations.WordClock
  intro s
  refine ⟨fun sec d hwr hcore => ?_, exec_pllLockAcquired, fun hst hlk => ?_,
    fun hrun hst => ⟨fun hmir phi => ?_, fun hp => ?_⟩, fun hstop => ?_, fun hlk hcore hroom => ?_,
    fun hasked hrun hdeep => ?_⟩
  · refine ⟨fun h0 hen h6 => ?_, fun h0 hen h6 ⟨hfam, hx2⟩ => ?_, fun h0 hen h6 ⟨hfam, hx2⟩ => ?_,
      fun hen hdiff h0 h6 => ?_⟩
    · exact ⟨_, isRatio_congr (isRatio_inPhaseRatio (wcsEnabled s d)) rfl rfl, exec_wcsEnable hwr hcore h0 hen h6⟩
    · exact exec_wcsDisable hwr hcore h0 hen h6 hfam hx2
    · rw [exec_wcsRealignRequest hwr hcore h0 hen h6 hfam hx2, realignAsks, ← Bool.or_assoc]
      rfl
    · exact exec_wcsRealignRequest_of_rule hwr hcore h0 hen h6 hdiff
  · exact ⟨_, latticeIndex_first s _ (by decide), exec_wcsOutputStart hst hlk⟩
  · exact ⟨_, _, firstMultiple_succ_floor (by decide) _,
      isRatio_congr (isRatio_wcsRatio { s with wcs := { s.wcs with phiA := phiAfter s phi } }) rfl rfl,
      exec_wcsPhaseMeasure hrun hst hmir phi⟩
  · exact ⟨_, latticeIndex_first s _ (by decide), exec_realignStop hp hrun hst⟩
  · obtain ⟨hlt, hle⟩ := ceilDiv_first (x := s.wcs.stoppedAt + 16 * ticksPerSec) (d := 16 * ticksPerSec) (by decide)
    exact ⟨_, _, hlt, hle, isRatio_inPhaseRatio s, exec_realignRestart hstop⟩
  · exact ⟨_, isRatio_inPhaseRatio s, exec_pllLockLoss hlk hcore hroom⟩
  · exact ⟨_, latticeIndex_first s _ (by decide), exec_wcsSleepStop hasked hrun hdeep⟩

end Sys2Proof.Proofs
end

section
/-! PROOFS. Stretches of bank words read back, and records of the EVT ring (spec/07 R188, spec/10 R254-R261). -/

namespace Sys2Proof.Proofs

open Sys2Proof Sys2Proof.Machine Sys2Proof.Spec

/-! ### Stretches of bank words -/

theorem lin_add_inj {b w i j : Nat} (hi : i < 16384) (hj : j < 16384) (h : lin b (w + i) = lin b (w + j)) : i = j := by
  unfold lin at h
  omega

/-- Storing a stretch leaves every word outside it alone. -/
theorem bankWord_putWords_ne (vs : List Word) (s : State) (b w c x : Nat)
    (h : ∀ j, j < vs.length → lin b (w + j) ≠ lin c x) : bankWord (putWords s b w vs) c x = bankWord s c x := by
  induction vs generalizing s w with
  | nil => rfl
  | cons v vs ih =>
    rw [putWords, ih _ _ fun j hj => ?_]
    · exact bankWord_putWord_ne s b w c x v (by simpa using h 0 (by simp))
    · have := h (j + 1) (by simpa using hj)
      rwa [Nat.add_comm j 1, ← Nat.add_assoc] at this

/-- A stretch no longer than a bank reads back as it was stored. -/
theorem bankWord_putWords (vs : List Word) (s : State) (b w i : Nat) (hlen : vs.length ≤ 16384) (hi : i < vs.length) :
    bankWord (putWords s b w vs) b (w + i) = vs.getD i 0 := by
  induction vs generalizing s w i with
  | nil => cases hi
  | cons v vs ih =>
    simp only [List.length_cons] at hlen hi
    cases i with
    | zero =>
      rw [putWords, bankWord_putWords_ne _ _ _ _ _ _ fun j hj h => ?_]
      · exact bankWord_putWord_self s b w v
      · rw [Nat.add_assoc] at h
        have := lin_add_inj (by omega) (by omega) h
        omega
    | succ i =>
      rw [putWords, ← Nat.add_assoc, Nat.add_right_comm, ih _ _ _ (by omega) (by omega), List.getD_cons_succ]

theorem length_getWords (s : State) (b w n : Nat) : (getWords s b w n).length = n := by
  induction n generalizing w with
  | zero => rfl
  | succ n ih => rw [getWords, List.length_cons, ih]

theorem getElem_getWords (s : State) (b w n i : Nat) (h : i < (getWords s b w n).length) :
    (getWords s b w n)[i] = bankWord s b (w + i) := by
  induction n generalizing w i with
  | zero => cases h
  | succ n ih =>
    cases i with
    | zero => rfl
    | succ i => simp only [getWords, List.getElem_cons_succ]; rw [ih, Nat.add_assoc, Nat.add_comm 1 i]

theorem getWords_putWords (s : State) (b w : Nat) (vs : List Word) (hlen : vs.length ≤ 16384) :
    getWords (putWords s b w vs) b w vs.length = vs := by
  apply List.ext_getElem (length_getWords _ _ _ _)
  intro i hi hvs
  rw [getElem_getWords, bankWord_putWords vs s b w i hlen hvs, List.getD_eq_getElem vs 0 hvs]

theorem onlyIn_evs (s : State) (x : EvsSt) : onlyIn [.evs] s { s with evs := x } = true := by simp [onlyIn, allParts, agree]

theorem onlyIn_putWords (s : State) (b w : Nat) (vs : List Word) : onlyIn [.bank] s (putWords s b w vs) = true := by
  simp [onlyIn, allParts, agree]

theorem onlyIn_setPar (s : State) (k : Nat) (v : Int) : onlyIn [.params] s (s.setPar k v) = true := onlyIn_params s _

/-! ### Records (spec/07 R188) -/

theorem length_tsbAt (s : State) (t : Int) : (tsbAt s t).length = 7 := rfl

theorem evtRec_eq_record (s : State) (type : Nat) (late gap collide lost dbErr : Bool) (idx acts client cls : Nat)
    (tsb : List Word) (count ticks : Nat) :
    evtRec s type late gap collide lost dbErr idx acts client cls tsb count ticks =
      record type late gap collide lost dbErr s.evs.seq idx acts client cls tsb count (ticks % 2 ^ 58) := by
  have hlow : ticks % 2 ^ 58 / 65536 / 65536 = ticks % 2 ^ 58 / 2 ^ 32 := by omega
  have hhigh : ticks % 2 ^ 58 / 2 ^ 32 / 65536 = ticks % 2 ^ 58 / 2 ^ 48 % 1024 := by omega
  simp only [evtRec, record, wordsOf, hhigh, hlow, List.append_assoc, List.cons_append, List.nil_append]
  rfl

theorem length_record (type : Nat) (late gap collide lost dbErr : Bool) (seq : Word) (idx acts client cls : Nat)
    (tsb : List Word) (htsb : tsb.length = 7) (count instant : Nat) :
    (record type late gap collide lost dbErr seq idx acts client cls tsb count instant).length = 16 := by
  simp [record, htsb]

/-! ### The EVT ring (spec/10 R254-R261) -/

/-- A counter of one byte stops at 255. -/
theorem satIncBv_byte (v : BitVec 8) : satIncBv v = if v = 255 then 255 else v + 1 := by
  have hones : BitVec.allOnes 8 = 255 := rfl
  unfold satIncBv
  rw [hones]
  exact ite_congr rfl id fun _ => rfl

/-- The next EVT record has been drawn its number. -/
def numbered (s : State) : State := { s with evs := { s.evs with seq := s.evs.seq + 1 } }

theorem evtOpen_iff (s : State) :
    evtOpen s = true ↔ ringOk s pNtcEvtBank s.slu.evtSusp = true ∧ evtFill s < 1024 := by
  unfold evtOpen ringOk hostBank evtFill
  simp only [Bool.and_eq_true, decide_eq_true_eq, Bool.not_eq_true']
  tauto

/-- A record takes its number; then it is written, counted as not posted, or nothing. -/
theorem postEvt_eq (s : State) (r : List Word) : postEvt s r =
    if s.parN pNtcEvtBank = 8 then numbered s
    else if evtOpen s = true then
      (putWords (numbered s) (s.parN pNtcEvtBank) (16 * (s.parN pNtcEvtWr % 1024)) (r.set 1 s.evs.seq)).setPar
        pNtcEvtWr ((s.parN pNtcEvtWr + 1) % 2048 : Nat)
    else { (numbered s) with slu := { s.slu with evtHeld := satIncBv s.slu.evtHeld } } :=
  if_congr Iff.rfl rfl (if_congr (evtOpen_iff s).symm rfl rfl)

/-- With no EVT ring placed a record only takes its number (log entry 14). -/
theorem postEvt_of_unplaced {s : State} (h : s.parN pNtcEvtBank = 8) (r : List Word) : postEvt s r = numbered s := by
  rw [postEvt_eq, if_pos h]

/-- An EVT ring that takes no record counts it as not posted (R256, R261). -/
theorem postEvt_of_closed {s : State} (h : evtOpen s = false) (hbank : s.parN pNtcEvtBank ≠ 8) (r : List Word) :
    postEvt s r = { (numbered s) with slu := { s.slu with evtHeld := satIncBv s.slu.evtHeld } } := by
  rw [postEvt_eq, if_neg hbank, if_neg (by simp [h])]

/-- An open EVT ring takes a record of 16 words at its write index, which then advances (R255). -/
structure TakesRecord (s v : State) (r : List Word) : Prop where
  evs : v.evs = (numbered s).evs
  posted : evtPosted s v = true
  record : evtRecord s v = r
  others : ∀ b w, b < 8 → w < 16384 → b ≠ s.parN pNtcEvtBank ∨ w / 16 ≠ s.parN pNtcEvtWr % 1024 →
    bankWord v b w = bankWord s b w
  frame : onlyIn [.evs, .bank, .params] s v = true

theorem takesRecord_postEvt {s : State} (h : evtOpen s = true) {r : List Word} (hlen : r.length = 16)
    (hseq : r.set 1 s.evs.seq = r) : TakesRecord s (postEvt s r) r := by
  have hbank : s.parN pNtcEvtBank < 8 := by
    simp only [evtOpen, Bool.and_eq_true, decide_eq_true_eq] at h
    exact h.1.1.1
  rw [postEvt_eq, if_neg hbank.ne, if_pos h, hseq]
  refine ⟨by simp, ?_, ?_, fun b w hb hw hne => ?_, ?_⟩
  · simp only [evtPosted, par_setPar_self, beq_self_eq_true]
  · have := getWords_putWords (numbered s) (s.parN pNtcEvtBank) (16 * (s.parN pNtcEvtWr % 1024)) r (by omega)
    rwa [hlen] at this
  · refine bankWord_putWords_ne r (numbered s) _ _ b w fun j hj hlin => ?_
    have := (lin_inj hbank (by omega) hb hw).mp hlin
    omega
  · exact onlyIn_trans (onlyIn_mono (onlyIn_evs s _) (by simp))
      (onlyIn_trans (onlyIn_mono (onlyIn_putWords _ _ _ _) (by simp)) (onlyIn_mono (onlyIn_setPar _ _ _) (by simp)))

end Sys2Proof.Proofs
end

section
/-! PROOFS. The trailing edges of EVOUT pulses, timemark stamps and their records (spec/07 R179, R185-R188). -/

namespace Sys2Proof.Proofs

open Sys2Proof Sys2Proof.Machine Sys2Proof.Spec

/-! ### Trailing edges (spec/07 R179) -/

theorem exec_evoutPulseEnd {s : State} {p : Fin 4} {e : Int} {es : List Int} (hends : (pinAt s p).ends = e :: es)
    (hrun : s.time.running = true) (hlast : (pinAt s p).lastAt ≠ some e) :
    exec (.evoutPulseEnd p) s = .next { (carryTick s (evEdge s p.val e)) with
      evs := { s.evs with
        ev := s.evs.ev.set p { (pinAt s p) with ends := es, active := false, placed := evEdge s p.val e } } } := by
  obtain ⟨d, w, h⟩ := carryTick_counts s (evEdge s p.val e)
  have hinactive : ((pinAt s p).lastAt == some e) = false := beq_false_of_ne hlast
  simp [exec, execEvoutPulseEnd, hends, hrun, hinactive, h, setPin]

/-! ### Stamps (spec/07 R185, R186) -/

theorem exec_tmarkEdge_of_unselected {s : State} {k : Fin 2} {rising : Bool} (h : edgeSelected s k rising = false)
    (step : Fin 64) : exec (.tmarkEdge k rising step) s = .next s := by
  simp [exec, execTmarkEdge, h]

/-- The tick of an edge at step `step` of the present REFIN period, less the trim of its path. -/
def edgeTick (s : State) (k : Fin 2) (step : Nat) : Nat :=
  (((dtcNow s * 64 + step : Nat) : Int) - divNearest (trimPs s (11 + k.val) * 1047552) 1000000000).toNat

/-- An edge at tick `n` comes at most 128 ticks after the last one stamped. -/
def closeAfter (last : Option Nat) (n : Nat) : Bool := last.any (fun l => decide (n ≤ l + 128))

theorem closeAfter_iff {last : Option Nat} {n : Nat} : closeAfter last n = true ↔ ∃ l, last = some l ∧ n ≤ l + 128 := by
  cases last <;> simp [closeAfter]

theorem stampEdge_eq (s : State) (k : Fin 2) (step : Nat) : stampEdge s k step =
      if 4 ≤ (tmAt s k).buf.length ∨ closeAfter (tmAt s k).lastEdge (edgeTick s k step) = true then
        { s with evs := { s.evs with
          tmLost := true
          tm := s.evs.tm.set k { (tmAt s k) with lost := satIncBv (tmAt s k).lost, lostRep := (tmAt s k).lostRep + 1 } } }
      else { s with evs := { s.evs with tm := s.evs.tm.set k { (tmAt s k) with
        buf := (tmAt s k).buf ++
          [⟨edgeTick s k step, tsbAt s (gnssAt s (edgeTick s k step)), s.pace.gapSinceAnchor⟩]
        lastEdge := some (edgeTick s k step) } } } := by
  refine if_congr (or_congr Iff.rfl ?_) rfl rfl
  cases hl : (tmAt s k).lastEdge <;> simp [closeAfter, edgeTick]

theorem stampEdge_of_room {s : State} {k : Fin 2} {step : Nat} (hroom : (tmAt s k).buf.length < 4)
    (hfar : ∀ l, (tmAt s k).lastEdge = some l → l + 128 < edgeTick s k step) :
    stampEdge s k step = { s with evs := { s.evs with tm := s.evs.tm.set k { (tmAt s k) with
      buf := (tmAt s k).buf ++
        [⟨edgeTick s k step, tsbAt s (gnssAt s (edgeTick s k step)), s.pace.gapSinceAnchor⟩]
      lastEdge := some (edgeTick s k step) } } } := by
  rw [stampEdge_eq, if_neg]
  rintro (h | h)
  · omega
  · obtain ⟨l, hl, hclose⟩ := closeAfter_iff.mp h
    exact absurd (hfar l hl) (by omega)

theorem stampEdge_of_lost {s : State} {k : Fin 2} {step : Nat}
    (h : 4 ≤ (tmAt s k).buf.length ∨ closeAfter (tmAt s k).lastEdge (edgeTick s k step) = true) :
    stampEdge s k step = { s with evs := { s.evs with
      tmLost := true
      tm := s.evs.tm.set k { (tmAt s k) with
        lost := satIncBv (tmAt s k).lost, lostRep := (tmAt s k).lostRep + 1 } } } := by
  rw [stampEdge_eq, if_pos h]

theorem stampEdge_onlyEvs (s : State) (k : Fin 2) (step : Nat) : ∃ e, stampEdge s k step = { s with evs := e } := by
  rw [stampEdge_eq]
  split
  · exact ⟨_, rfl⟩
  · exact ⟨_, rfl⟩

/-- At work, with the DTC running, a selected edge is stamped or counted, and wakes nothing. -/
theorem exec_tmarkEdge_of_selected {s : State} {k : Fin 2} {rising : Bool} (h : edgeSelected s k rising = true)
    (hrun : s.time.running = true) (hcore : s.pwr.coreUp = true) (hq : quiet s = true) (step : Fin 64) :
    exec (.tmarkEdge k rising step) s = .next (stampEdge s k step.val) := by
  have hquiet : quiet (stampEdge s k step.val) = true := by
    obtain ⟨e, he⟩ := stampEdge_onlyEvs s k step.val
    rw [he]
    exact hq
  simp [exec, execTmarkEdge, h, hrun, hcore, not_sleep_of_quiet hq, idleNow_wakeEvent_of_quiet hquiet]

/-! ### Timemark records (spec/07 R186-R188) -/

/-- The oldest stamp of an input has left its buffer, of which `rest` is left. -/
def stampGone (s : State) (k : Fin 2) (rest : List Stamp) : State :=
  { s with evs := { s.evs with tm := s.evs.tm.set k { (tmAt s k) with buf := rest, lostRep := 0 } } }

/-- The record of a stamp (R188). -/
def stampRecord (s : State) (k : Fin 2) (a : Stamp) : List Word :=
  record (0x20 + k.val) false a.gap false ((tmAt s k).lostRep != 0) false s.evs.seq 0 0
    (s.parN (pEvsTm0Client + k.val)) 7 a.tsb (tmAt s k).lostRep (a.ticks % 2 ^ 58)

theorem postStamp_of_cons {s : State} {k : Fin 2} {a : Stamp} {rest : List Stamp} (h : (tmAt s k).buf = a :: rest) :
    postStamp s k = postEvt (stampGone s k rest) (stampRecord s k a) := by
  simp only [postStamp, h, evtRec_eq_record]
  rfl

/-- Of stamps at the same tick TMARK0's is accepted first. -/
theorem exec_tmarkRecordPost {s : State} {k : Fin 2} {a : Stamp} {rest : List Stamp} (h : (tmAt s k).buf = a :: rest)
    (hcore : s.pwr.coreUp = true) (hq : quiet s = true)
    (hfirst : k = 0 ∨ ∀ b bs, (tmAt s 0).buf = b :: bs → b.ticks ≠ a.ticks) :
    exec (.tmarkRecordPost k) s = .next (postEvt (stampGone s k rest) (stampRecord s k a)) := by
  have hwork : s.pwr.state = .run ∨ s.pwr.state = .idle := by
    simp only [quiet, Bool.and_eq_true, Bool.or_eq_true, beq_iff_eq] at hq
    obtain ⟨-, ⟨hrun, -⟩ | ⟨⟨hidle, -⟩, -⟩⟩ := hq
    · exact .inl hrun
    · exact .inr hidle
  rw [← postStamp_of_cons h]
  refine if_pos ⟨hcore, hwork, ?_⟩
  rw [h]
  cases h0 : (tmAt s 0).buf with
  | nil => rfl
  | cons b bs => rcases hfirst with rfl | hne <;> simp_all

/-! ### O37 -/

/-- Settles O37: a pin's edge by the state it reaches, an edge of an input by whether it is stamped or lost, and a record by
whether the EVT ring is open, closed or not placed. -/
theorem pulseEndsAndTimemarks : Obligations.PulseEndsAndTimemarks := by
  unfold Obligations.PulseEndsAndTimemarks
  refine ⟨fun s p e es hends hrun hlast => exec_evoutPulseEnd hends hrun hlast, fun s k rising step =>
    ⟨fun h => exec_tmarkEdge_of_unselected h step, fun h hrun hcore hq => ⟨fun hroom hfar => ?_, fun hlost => ?_⟩⟩,
    fun s k a rest hbuf hcore hq htsb hfirst => ⟨fun hopen => ?_, fun hshut hbank => ?_, fun hbank => ?_⟩⟩
  · rw [exec_tmarkEdge_of_selected h hrun hcore hq, stampEdge_of_room hroom hfar]
    rfl
  · rw [exec_tmarkEdge_of_selected h hrun hcore hq, stampEdge_of_lost (hlost.imp id closeAfter_iff.mpr), satIncBv_byte]
  · have htakes := takesRecord_postEvt (s := stampGone s k rest) (r := stampRecord s k a) hopen
      (length_record _ _ _ _ _ _ _ _ _ _ _ _ htsb _ _) rfl
    exact ⟨_, exec_tmarkRecordPost hbuf hcore hq hfirst, htakes.evs, htakes.posted, htakes.record, htakes.others,
      onlyIn_trans (onlyIn_mono (onlyIn_evs s _) (by simp)) htakes.frame⟩
  · rw [exec_tmarkRecordPost hbuf hcore hq hfirst, postEvt_of_closed (s := stampGone s k rest) hshut hbank, satIncBv_byte]
    rfl
  · rw [exec_tmarkRecordPost hbuf hcore hq hfirst, postEvt_of_unplaced (s := stampGone s k rest) hbank]
    rfl

end Sys2Proof.Proofs
end

section
/-! PROOFS. What a firing does beside the slot itself (spec/07 R179, R180, R184, R188). -/

namespace Sys2Proof.Proofs

open Sys2Proof Sys2Proof.Machine Sys2Proof.Spec

/-! ### Rings and records as a firing posts them -/

/-- The channels once a slot has rung `ch`, where the doorbell takes the ring. -/
def rungChans (s : State) (ch : Nat) (n : Notice) : List (Nat × ChanSt) :=
  if slotRings s ch then mput s.slu.chans ch ⟨n, n.cls, false, dtcNow s⟩ else s.slu.chans

theorem isPort_eq_contains (ch : Nat) : isPort ch = [30, 31, 62, 63].contains ch := by
  simp [isPort, Bool.or_assoc, Bool.beq_eq_decide_eq]

theorem slotRing_eq (s : State) (ch : Nat) (n : Notice) :
    slotRing s ch n = ({ s with slu := { s.slu with chans := rungChans s ch n } }, slotRings s ch) := by
  unfold slotRing rungChans slotRings plainChan ringChan chanFull
  rw [isPort_eq_contains]
  cases hport : [30, 31, 62, 63].contains ch
  · by_cases hcp : ch = cp3Chan s
    · simp [hcp]
    · cases hdown : rcvDown s ch
      · cases hfull : mget s.slu.chans ch <;> simp [hcp]
      · simp [hcp]
  · simp

/-- Posting a record numbers it, and changes no channel, whatever becomes of the record. -/
theorem postEvt_evs (s : State) (r : List Word) : (postEvt s r).evs = (numbered s).evs := by
  rw [postEvt_eq]
  split_ifs <;> simp

theorem postEvt_chans (s : State) (r : List Word) : (postEvt s r).slu.chans = s.slu.chans := by
  rw [postEvt_eq]
  split_ifs <;> simp [numbered]

theorem onlyIn_postEvt (s : State) (r : List Word) : onlyIn [.evs, .slu, .bank, .params] s (postEvt s r) = true := by
  rw [postEvt_eq]
  split_ifs <;> simp [onlyIn, allParts, agree, numbered]

/-! ### EVOUT pins -/

theorem get_set_fin {α : Type} {n : Nat} (v : Vector α n) (p q : Fin n) (x : α) :
    (v.set p x).get q = if p = q then x else v.get q := by
  have hget : ∀ w : Vector α n, w.get q = w[q.val] := fun w => rfl
  rw [hget, hget, Vector.getElem_set]
  simp only [Fin.ext_iff]

/-- An operation on a pin (R172): its level and time, where it is placed, and the trailing edges to come. -/
theorem pinAct_spec (x : EvPin) (m : SlotImg) (t n : Int) :
    ((pinAct x m t n).active, (pinAct x m t n).lastAt) = pinAfter x m t ∧ (pinAct x m t n).placed = n ∧
      (m.op.toNat ≠ 3 → (pinAct x m t n).ends = x.ends) ∧
      (m.op.toNat = 3 → x.ends = [] → (pinAct x m t n).ends = [t + usTicks m.pulse]) := by
  have hop : m.op.toNat = 0 ∨ m.op.toNat = 1 ∨ m.op.toNat = 2 ∨ m.op.toNat = 3 := by have := m.op.isLt; omega
  rcases hop with h | h | h | h
  · simp [pinAct, pinAfter, h]
  · simp [pinAct, pinAfter, h]
  · simp [pinAct, pinAfter, h]
  · simp +contextual [pinAct, pinAfter, h, insertEnd]

/-! ### What a firing performs -/

section
variable (u : State) (i : Nat) (x : Slot) (m : SlotImg) (t : Int) (late : Bool) (passed : Nat)

/-- The slot's mask admits the time quality. -/
def admits : Bool := m.tqMask.getLsbD (tqCode u.time.tq)

/-- Action `k` is performed. -/
def performs (k : Nat) : Bool := admits u m && m.actions.getLsbD k

/-- A lower slot has driven the pin at time `t`. -/
def collides : Bool := performs u m 0 && (pinAt u m.pin).lastAt == some t

/-- The firing drives its pin. -/
def drives : Bool := performs u m 0 && !collides u m t

/-- The doorbell takes the firing's ring. -/
def rings : Bool := performs u m 1 && slotRings u m.chan.val

/-- The firing asks for a re-align of a WCS that is not off. -/
def realigns : Bool := performs u m 3 && u.wcs.state != .off

/-- The tick at which the firing is placed. -/
def firingTick : Int := if drives u m t then evEdge u m.pin.val t else (placeAt u t (deltaPs u)).1

/-- The EVOUT pins after the firing. -/
def pinsFired : Vector EvPin 4 :=
  if drives u m t then u.evs.ev.set m.pin (pinAct (pinAt u m.pin) m t (firingTick u m t)) else u.evs.ev

/-- The machine when the firing's EVOUT and re-align have acted and its flags are set, the doorbell and the record still to
come. -/
def struck : State :=
  { u with
    wcs := { u.wcs with pend := u.wcs.pend || (performs u m 3 && realignAsks u (stepWaits u)) }
    evs := { u.evs with
      ev := pinsFired u m t, fired := setBit u.evs.fired i true, fireCnt := u.evs.fireCnt + 1
      skip := u.evs.skip || !admits u m, late := u.evs.late || late
      collide := u.evs.collide || collides u m t } }

/-- What the firing still has to deliver. -/
def firing : FireRec :=
  ⟨i, x.cls, x.client, m, !admits u m, late, u.pace.gapSinceAnchor, collides u m t, realigns u m, passed, firingTick u m t⟩

/-- The notice with which a slot rings. -/
def slotNotice : Notice := ⟨0, BitVec.ofNat 14 i, BitVec.ofNat 3 (clsCode x.cls), x.client, 1⟩

theorem immNotice_eq_slotNotice (hi : i < 1024) :
    immNotice (BitVec.ofNat 3 (clsCode x.cls)) x.client i = slotNotice i x := by
  have : i / 16384 = 0 := by omega
  simp [immNotice, slotNotice, this]

/-- The machine when the doorbell has been rung too. -/
def rung : State :=
  { (struck u i m t late) with slu := { u.slu with
      chans := if rings u m then mput u.slu.chans m.chan.val
        ⟨slotNotice i x, BitVec.ofNat 3 (clsCode x.cls), false, dtcNow u⟩ else u.slu.chans } }

/-- The record of the firing (R188). -/
def firingRecord : List Word :=
  record (if admits u m then 0x10 else 0x11) late u.pace.gapSinceAnchor (collides u m t) false
    (performs u m 1 && !rings u m) u.evs.seq i
    (bit (drives u m t) + 2 * bit (rings u m) + 4 * bit (performs u m 2) + 8 * bit (realigns u m)) x.client.toNat
    (clsCode x.cls) (tsbAt u m.target) passed ((firingTick u m t).toNat % 2 ^ 58)

/-- A firing that its mask does not admit performs no action. -/
theorem getLsbD_ite_admits (k : Nat) :
    (if !admits u m then (0 : BitVec 4) else m.actions).getLsbD k = performs u m k := by
  rw [performs]
  cases admits u m <;> simp

/-- Nothing but the pin, the re-align and the flags comes before the delivery. -/
theorem fireActs_eq_deliver (hrole : u.mir.role ≠ 2) (hsleep : u.pwr.state ≠ .sleep) :
    fireActs u i x m t late passed = deliver (struck u i m t late) (firing u i x m t late passed) := by
  have hadm : tqAdmits u m.tqMask.toNat = admits u m := rfl
  have hcol : (performs u m 0 && (pinAt u m.pin).lastAt == some t) = collides u m t := rfl
  have hdrives : (performs u m 0 && !collides u m t) = drives u m t := rfl
  have htick : (if drives u m t then evEdge u m.pin.val t else (placeAt u t (deltaPs u)).1) = firingTick u m t := rfl
  have hpins : (if drives u m t then setPin u m.pin (pinAct (pinAt u m.pin) m t (firingTick u m t)) else u) =
      { u with evs := { u.evs with ev := pinsFired u m t } } := by
    unfold pinsFired
    cases drives u m t <;> rfl
  have hrealign : ∀ v : State, (if performs u m 3 then realignRequest v (stepWaits v) else v) =
      { v with wcs := { v.wcs with pend := v.wcs.pend || (performs u m 3 && realignAsks v (stepWaits v)) } } := by
    intro v
    rw [realignRequest_eq]
    cases performs u m 3
    · simp
    · rfl
  unfold fireActs
  simp only [hadm, getLsbD_ite_admits, hcol, hdrives, htick, hpins, hrealign]
  rw [if_neg hrole, if_neg hsleep]
  rfl

/-- The machine when the firing has rung its doorbell and posted its record: one that is skipped always posts one. -/
def delivered : State :=
  if admits u m = false ∨ m.actions.getLsbD 2 = true then postEvt (rung u i x m t late) (firingRecord u i x m t late passed)
  else rung u i x m t late

theorem deliver_eq (hi : i < 1024) :
    deliver (struck u i m t late) (firing u i x m t late passed) = delivered u i x m t late passed := by
  have hring : (if performs u m 1 then slotRing (struck u i m t late) m.chan.val (slotNotice i x)
      else (struck u i m t late, false)) = (rung u i x m t late, rings u m) := by
    rw [slotRing_eq]
    unfold rung rings rungChans
    cases performs u m 1
    · rfl
    · rfl
  have hrings : (performs u m 1 && rings u m) = rings u m := by
    unfold rings
    cases performs u m 1 <;> rfl
  have htype : (if !admits u m then 0x11 else 0x10) = if admits u m then 0x10 else 0x11 := by cases admits u m <;> rfl
  have hposts : ((!admits u m) = true ∨ performs u m 2 = true) ↔ (admits u m = false ∨ m.actions.getLsbD 2 = true) := by
    unfold performs
    cases admits u m <;> simp
  have hdrives : (performs u m 0 && !collides u m t) = drives u m t := rfl
  unfold deliver delivered firing
  simp only [getLsbD_ite_admits, immNotice_eq_slotNotice i x hi, hring, hrings, htype, hposts, hdrives,
    evtRec_eq_record]
  rfl

/-- The delivery gives the record its number and changes nothing else of the Event Scheduler. -/
theorem delivered_evs : ∃ q, (delivered u i x m t late passed).evs = { (struck u i m t late).evs with seq := q } := by
  unfold delivered
  split
  · exact ⟨_, postEvt_evs _ _⟩
  · exact ⟨_, rfl⟩

theorem delivered_chans : (delivered u i x m t late passed).slu.chans = (rung u i x m t late).slu.chans := by
  unfold delivered
  split
  · exact postEvt_chans _ _
  · rfl

theorem onlyIn_delivered : onlyIn [.evs, .wcs, .slu, .bank, .params] u (delivered u i x m t late passed) = true := by
  have hrung : onlyIn [.evs, .wcs, .slu, .bank, .params] u (rung u i x m t late) = true := by
    simp [onlyIn, allParts, agree, rung, struck]
  unfold delivered
  split
  · exact onlyIn_trans hrung (onlyIn_mono (onlyIn_postEvt _ _) (by simp))
  · exact hrung

/-- With the EVT ring open the firing's record is written. -/
theorem delivered_record (hopen : evtOpen u = true) (h : admits u m = false ∨ m.actions.getLsbD 2 = true) :
    evtPosted u (delivered u i x m t late passed) = true ∧
      evtRecord u (delivered u i x m t late passed) = firingRecord u i x m t late passed := by
  have htakes := takesRecord_postEvt (s := rung u i x m t late) (r := firingRecord u i x m t late passed) hopen
    (length_record _ _ _ _ _ _ _ _ _ _ _ _ (length_tsbAt _ _) _ _) rfl
  rw [delivered, if_pos h]
  exact ⟨htakes.posted, htakes.record⟩

/-- The pins after the firing: its own pin has taken its operation, the others stand. -/
theorem get_pinsFired (p : Fin 4) : (pinsFired u m t).get p =
    if drives u m t = true ∧ m.pin = p then pinAct (pinAt u m.pin) m t (firingTick u m t) else pinAt u p := by
  unfold pinsFired
  cases drives u m t
  · simp [pinAt]
  · simp [pinAt, get_set_fin]

theorem delivered_unchanged (hadm : admits u m = true) (hrec : m.actions.getLsbD 2 = false) :
    (delivered u i x m t late passed).bank = u.bank ∧ (delivered u i x m t late passed).params = u.params := by
  have hnone : ¬ (admits u m = false ∨ m.actions.getLsbD 2 = true) := by rw [hadm, hrec]; decide
  rw [delivered, if_neg hnone]
  exact ⟨rfl, rfl⟩

/-- A firing does what R179 asks of it. -/
theorem fires_delivered : Fires u u (delivered u i x m t late passed) i x m t late passed := by
  obtain ⟨q, hevs⟩ := delivered_evs u i x m t late passed
  have hpin : ∀ p, pinAt (delivered u i x m t late passed) p = (pinsFired u m t).get p := by
    intro p
    rw [pinAt, hevs]
    rfl
  refine ⟨by rw [hevs]; rfl, by rw [hevs]; rfl, by rw [hevs]; rfl, by rw [hevs]; rfl, by rw [hevs]; rfl,
    fun p => ⟨fun h0 hcol hp => ?_, fun h => ?_⟩, delivered_chans u i x m t late passed, fun h hopen => ?_,
    delivered_unchanged u i x m t late passed, onlyIn_mono (onlyIn_delivered u i x m t late passed) (by simp)⟩
  · have hperf : performs u m 0 = true := h0
    have hfree : collides u m t = false := hcol
    have hdrives : drives u m t = true := by rw [drives, hperf, hfree]; rfl
    subst hp
    rw [hpin, get_pinsFired, if_pos ⟨hdrives, rfl⟩]
    obtain ⟨hafter, hplaced, hends, hpulse⟩ := pinAct_spec (pinAt u m.pin) m t (firingTick u m t)
    exact ⟨hafter, hplaced, hends, hpulse⟩
  · rw [hpin, get_pinsFired, if_neg]
    rintro ⟨hdrives, rfl⟩
    obtain ⟨h0, hcol⟩ := Bool.and_eq_true_iff.mp hdrives
    rcases h with hn | hc | hne
    · exact Bool.false_ne_true (Eq.trans (Eq.symm hn) h0)
    · exact absurd (show collides u m t = true from hc) (by simpa using hcol)
    · exact hne rfl
  · exact delivered_record u i x m t late passed hopen h

end

/-! ### A firing at the time that it reaches, and the slot left to advance -/

/-- What fires at a time that the DTC is carried to fires as seen from before. -/
theorem fires_of_carried {s u v : State} {i : Nat} {x : Slot} {m : SlotImg} {t : Int} {late : Bool} {passed : Nat}
    (hu : ∃ d w, u = { s with time := { s.time with dtc := d, wraps := w } }) (h : Fires u u v i x m t late passed) :
    Fires s u v i x m t late passed := by
  obtain ⟨d, w, rfl⟩ := hu
  obtain ⟨hcnt, hfired, hskip, hlate, hcol, hpins, hchans, hrec, hkeep, hframe⟩ := h
  exact ⟨hcnt, hfired, hskip, hlate, hcol, hpins, hchans, hrec, hkeep,
    onlyIn_trans (onlyIn_mono (onlyIn_time s _) (by simp)) hframe⟩

/-- What becomes of the slots is no part of the firing. -/
theorem fires_withSlots {s u v : State} {i : Nat} {x : Slot} {m : SlotImg} {t : Int} {late : Bool} {passed : Nat}
    (h : Fires s u v i x m t late passed) (l : List (Nat × Slot)) :
    Fires s u { v with evs := { v.evs with slots := l } } i x m t late passed := by
  obtain ⟨hcnt, hfired, hskip, hlate, hcol, hpins, hchans, hrec, hkeep, hframe⟩ := h
  exact ⟨hcnt, hfired, hskip, hlate, hcol, hpins, hchans, hrec, hkeep,
    onlyIn_trans hframe (onlyIn_mono (onlyIn_evs v _) (by simp))⟩

end Sys2Proof.Proofs
end

section
/-! PROOFS. Slots commit, fire on time or late, and advance (spec/07 R177-R182), and O36. -/

namespace Sys2Proof.Proofs

open Sys2Proof Sys2Proof.Machine Sys2Proof.Spec

/-! ### The commit point (spec/07 R177) -/

theorem exec_slotCommitPoint {s : State} {i : Fin 1024} {x : Slot} (hx : mget s.evs.slots i.val = some x)
    (hrun : s.time.running = true) (hcom : x.com = none) (hlate : x.late = none) :
    exec (.slotCommitPoint i) s = .next { (carryGnss s (x.img.target - 20952)) with
      evs := { s.evs with slots := mput s.evs.slots i.val { x with com := some x.img } } } := by
  obtain ⟨d, w, h⟩ := carryGnss_counts s (x.img.target - 20952)
  simp [exec, execSlotCommitPoint, slotAt, hx, hrun, hcom, hlate, ticks20us, h, putSlot]

/-! ### After a firing -/

theorem armLate_keeps (s : State) (x : Slot) :
    (armLate s x).img = x.img ∧ (armLate s x).cls = x.cls ∧ (armLate s x).client = x.client := by
  unfold armLate
  split <;> exact ⟨rfl, rfl, rfl⟩

/-- An occurrence not committed yet is committed where no commit point is left to it (R178, R182). -/
theorem rearmed_armLate (s : State) (x : Slot) (hcom : x.com = none) (hlate : x.late = none) :
    rearmed s (armLate s x) := by
  unfold rearmed
  rw [(armLate_keeps s x).1]
  unfold armLate tooLate
  by_cases h : x.img.target - gnssNow s < ticks20us
  · simp [h]
  · simp [h, hcom, hlate]

section
variable (s : State) (i : Nat) (x : Slot) (next : Int) (used : Nat)

/-- A slot that advances becomes FREE or takes another image. -/
theorem advanceSlot_cases :
    advanceSlot s i x next used = freeSlot s i ∨ ∃ y, advanceSlot s i x next used = putSlot s i y := by
  unfold advanceSlot
  dsimp only
  generalize (if x.cntMod = true then 0 else used) = n
  split
  · exact .inl rfl
  · exact .inr ⟨_, rfl⟩

theorem advanceSlot_onlySlots : advanceSlot s i x next used =
    { s with evs := { s.evs with slots := (advanceSlot s i x next used).evs.slots } } := by
  rcases advanceSlot_cases s i x next used with h | ⟨y, h⟩
  · rw [h]; rfl
  · rw [h]; rfl

theorem mget_advanceSlot_ne {j : Nat} (hj : j ≠ i) :
    mget (advanceSlot s i x next used).evs.slots j = mget s.evs.slots j := by
  rcases advanceSlot_cases s i x next used with h | ⟨y, h⟩
  · rw [h]; exact (mget_mdel _ _ _).trans (if_neg hj.symm)
  · rw [h]; exact (mget_mput _ _ _ _).trans (if_neg hj.symm)

/-- After its last occurrence a slot is FREE (R179). -/
theorem mget_advanceSlot_of_last (hmod : x.cntMod = false)
    (hlast : x.img.period = 0 ∨ (x.img.count ≠ 0 ∧ x.img.count ≤ used)) :
    mget (advanceSlot s i x next used).evs.slots i = none := by
  simp only [advanceSlot, hmod, Bool.false_eq_true, if_false]
  rw [if_pos hlast]
  exact (mget_mdel _ _ _).trans (if_pos rfl)

/-- A slot with occurrences left takes the next target and waits for its commit point (R179, R182). -/
theorem mget_advanceSlot_of_more (hmod : x.cntMod = false) (hper : x.img.period ≠ 0)
    (hcount : x.img.count = 0 ∨ used < x.img.count) :
    ∃ y, mget (advanceSlot s i x next used).evs.slots i = some y ∧ y.cls = x.cls ∧ y.client = x.client ∧
      y.img = { x.img with target := next, count := x.img.count - used } ∧
      rearmed (advanceSlot s i x next used) y := by
  have hmore : ¬ (x.img.period = 0 ∨ (x.img.count ≠ 0 ∧ x.img.count ≤ used)) := by omega
  simp only [advanceSlot, hmod, Bool.false_eq_true, if_false]
  rw [if_neg hmore]
  obtain ⟨himg, hcls, hclient⟩ := armLate_keeps s { x with
    img := { x.img with target := next, count := x.img.count - used }, com := none, late := none, cntMod := false }
  exact ⟨_, (mget_mput _ _ _ _).trans (if_pos rfl), hcls, hclient, himg, rearmed_armLate s _ rfl rfl⟩

end

/-! ### The firings as they end -/

/-- A firing and the slot's advance. -/
structure Fired (s v : State) (i : Nat) (x : Slot) (m : SlotImg) (t : Int) (late : Bool) (passed : Nat) (next : Int)
    (used : Nat) : Prop where
  fires : Fires s (carryGnss s t) v i x m t late passed
  others : ∀ j, j ≠ i → mget v.evs.slots j = mget s.evs.slots j
  last : x.cntMod = false → x.img.period = 0 ∨ (x.img.count ≠ 0 ∧ x.img.count ≤ used) → mget v.evs.slots i = none
  more : x.cntMod = false → x.img.period ≠ 0 → x.img.count = 0 ∨ used < x.img.count →
    ∃ y, mget v.evs.slots i = some y ∧ y.cls = x.cls ∧ y.client = x.client ∧
      y.img = { x.img with target := next, count := x.img.count - used } ∧ rearmed v y

theorem mayFire_iff {s : State} {i : Nat} {t : Int} : mayFire s i t = true ↔
    s.time.running = true ∧ s.pwr.coreUp = true ∧ s.mir.role ≠ 2 ∧ quiet s = true ∧ lowerDue s i t = false := by
  simp [mayFire, and_assoc]

/-- At work a slot that fires on a device that is no standby fires as R179 has it, and advances. -/
theorem fired_advanceSlot {s : State} {i : Nat} (hi : i < 1024) (x : Slot) (m : SlotImg) (t : Int) (late : Bool)
    (passed : Nat) (next : Int) (used : Nat) (hrole : s.mir.role ≠ 2) (hq : quiet s = true) :
    Fired s (advanceSlot (fireActs (carryGnss s t) i x m t late passed) i x next used) i x m t late passed next used := by
  have hcarried := carryGnss_counts s t
  have hacts : fireActs (carryGnss s t) i x m t late passed = delivered (carryGnss s t) i x m t late passed := by
    obtain ⟨d, w, h⟩ := hcarried
    rw [fireActs_eq_deliver, deliver_eq _ _ _ _ _ _ _ hi]
    · rw [h]; exact hrole
    · rw [h]; exact not_sleep_of_quiet hq
  have hslots : (delivered (carryGnss s t) i x m t late passed).evs.slots = s.evs.slots := by
    obtain ⟨q, hevs⟩ := delivered_evs (carryGnss s t) i x m t late passed
    obtain ⟨d, w, h⟩ := hcarried
    rw [hevs, h]
    rfl
  rw [hacts]
  refine ⟨?_, fun j hj => ?_, mget_advanceSlot_of_last _ i x next used, mget_advanceSlot_of_more _ i x next used⟩
  · rw [advanceSlot_onlySlots]
    exact fires_withSlots (fires_of_carried hcarried (fires_delivered _ i x m t late passed)) _
  · rw [mget_advanceSlot_ne _ _ _ _ _ hj, hslots]

/-- A firing leaves the device at work, so that it wakes nothing. -/
theorem dueWake_of_fires {s u v : State} {i : Nat} {x : Slot} {m : SlotImg} {t : Int} {late : Bool} {passed : Nat}
    (hq : quiet s = true) (h : Fires s u v i x m t late passed) (n : SlotImg) : dueWake v n = v := by
  obtain ⟨-, -, -, -, -, -, -, -, -, hframe⟩ := h
  have hpwr : v.pwr = s.pwr := eq_of_beq (agree_of_onlyIn hframe .pwr (by decide))
  have htrk : v.trk = s.trk := eq_of_beq (agree_of_onlyIn hframe .trk (by decide))
  have hsvc : v.svc = s.svc := eq_of_beq (agree_of_onlyIn hframe .svc (by decide))
  have hquiet : quiet v = true := by rw [quiet, hpwr, htrk, hsvc]; exact hq
  unfold dueWake
  rw [idleNow_wakeEvent_of_quiet hquiet, ite_self]

/-- An occurrence that fires at its target (R179). -/
theorem exec_slotFire {s : State} {i : Fin 1024} {x : Slot} {m : SlotImg} (hx : mget s.evs.slots i.val = some x)
    (hcom : x.com = some m) (hlate : x.late = none) (hmay : mayFire s i.val m.target = true) :
    ∃ v, exec (.slotFire i) s = .next v ∧
      Fired s v i.val x m m.target false 0 (nextTarget x m m.target (m.target + m.period)) 1 := by
  obtain ⟨hrun, -, hrole, hq, hlow⟩ := mayFire_iff.mp hmay
  have hfired := fired_advanceSlot i.isLt x m m.target false 0 (nextTarget x m m.target (m.target + m.period)) 1 hrole hq
  have hwake := dueWake_of_fires hq hfired.fires m
  refine ⟨_, ?_, hfired⟩
  simp only [exec, execSlotFire, slotAt, hx, hcom, hlate, hrun, hlow, Bool.false_eq_true, not_false_eq_true, and_self,
    if_true, fireOnTime, Option.getD_some, hwake]

/-- The occurrences of `m` up to time `t`, as whole periods after its target: the one that a late firing stands for. -/
def lateAt (m : SlotImg) (t : Int) : Int :=
  if (m.period : Int) = 0 then 0 else
    min (if m.count = 0 then 2 ^ 64 else (m.count : Int) - 1) (max 0 ((t - m.target) / m.period))

/-- The first occurrence at least 20 us after `t`, as whole periods after the target (R182). -/
def lateNext (m : SlotImg) (t : Int) : Int :=
  if (m.period : Int) = 0 then 1 else max 1 (-((-(t + ticks20us - m.target)) / m.period))

/-- The occurrences passed over by a late firing. -/
def latePassed (m : SlotImg) (t : Int) : Nat :=
  (min (if m.count = 0 then 2 ^ 64 else (m.count : Int) - 1) (lateNext m t - 1)).toNat

/-- A late firing (R178, R182). -/
theorem exec_slotLateFire {s : State} {i : Fin 1024} {x : Slot} {m : SlotImg} {t : Int}
    (hx : mget s.evs.slots i.val = some x) (hcom : x.com = some m) (hlate : x.late = some t)
    (hmay : mayFire s i.val t = true) :
    ∃ v, exec (.slotLateFire i) s = .next v ∧
      Fired s v i.val x { m with target := m.target + lateAt m t * m.period } t true (latePassed m t)
        (nextTarget x m (m.target + lateAt m t * m.period) (m.target + lateNext m t * m.period)) (latePassed m t + 1) := by
  obtain ⟨hrun, -, hrole, hq, hlow⟩ := mayFire_iff.mp hmay
  have hfired := fired_advanceSlot i.isLt x { m with target := m.target + lateAt m t * m.period } t true (latePassed m t)
    (nextTarget x m (m.target + lateAt m t * m.period) (m.target + lateNext m t * m.period)) (latePassed m t + 1) hrole hq
  have hwake := dueWake_of_fires hq hfired.fires m
  have hlateFire : fireLate s i.val x t = advanceSlot (fireActs (carryGnss s t) i.val x
      { m with target := m.target + lateAt m t * m.period } t true (latePassed m t)) i.val x
      (nextTarget x m (m.target + lateAt m t * m.period) (m.target + lateNext m t * m.period)) (latePassed m t + 1) := by
    unfold fireLate
    rw [hcom]
    rfl
  refine ⟨_, ?_, hfired⟩
  simp only [exec, execSlotLateFire, slotAt, hx, hcom, hlate, hrun, hlow, Bool.false_eq_true, not_false_eq_true, and_self,
    if_true, Option.getD_some, hlateFire, hwake]

/-- The next target of an image not modified since its commit point. -/
theorem nextTarget_self {x : Slot} (occ next : Int) : nextTarget x x.img occ next = next := by
  simp [nextTarget]

/-- The next target after a late firing is the first later occurrence at least 20 us on. -/
theorem lateNext_first {m : SlotImg} {t : Int} (hper : m.period ≠ 0) :
    1 ≤ lateNext m t ∧ t + 20952 ≤ m.target + lateNext m t * m.period ∧
      ∀ k : Int, 1 ≤ k → t + 20952 ≤ m.target + k * m.period → lateNext m t ≤ k := by
  have hpos : (0 : Int) < m.period := by omega
  have hceil : ∀ k : Int, -((-(t + ticks20us - m.target)) / m.period) ≤ k ↔ t + 20952 ≤ m.target + k * m.period := by
    intro k
    rw [ceilDiv_le_iff hpos]
    unfold ticks20us
    constructor <;> intro h <;> linarith
  rw [lateNext, if_neg hpos.ne']
  exact ⟨le_max_left _ _, (hceil _).mp (le_max_right _ _), fun k h1 hk => max_le h1 ((hceil k).mpr hk)⟩

/-! ### O36 -/

/-- Settles O36: the commit point by the state it reaches; each firing by what it performs, and by the slot's advance. -/
theorem eventFiring : Obligations.EventFiring := by
  unfold Obligations.EventFiring
  refine fun s i x hx => ⟨fun hrun hcom hlate => exec_slotCommitPoint hx hrun hcom hlate,
    fun m hcom hlate himg hmod hmay => ?_, fun t hcom hmod hlate hle hcount hmay => ?_⟩
  · obtain ⟨v, hexec, hfired⟩ := exec_slotFire hx hcom hlate hmay
    subst himg
    rw [nextTarget_self] at hfired
    refine ⟨v, hexec, hfired.fires, fun h => hfired.last hmod ?_, fun hper hcnt => ?_, hfired.others⟩
    · omega
    · obtain ⟨y, hy, hcls, hclient, himg, harmed⟩ := hfired.more hmod hper (by omega)
      exact ⟨y, hy, hcls, hclient, himg, harmed⟩
  · obtain ⟨v, hexec, hfired⟩ := exec_slotLateFire hx hcom hlate hmay
    rw [nextTarget_self] at hfired
    obtain ⟨hcnt, -, -, hlate, -⟩ := hfired.fires
    refine ⟨v, hexec, by rw [hlate, Bool.or_true], hcnt, fun hper => ⟨hfired.last hmod (.inl hper), ?_⟩, fun hper => ?_,
      hfired.others⟩
    · have hpassed : latePassed x.img t = 0 := by simp [latePassed, lateNext, hper, hcount]
      have hocc : x.img.target + lateAt x.img t * x.img.period = x.img.target := by simp [hper]
      have hfires := hfired.fires
      rwa [hpassed, hocc] at hfires
    · obtain ⟨y, hy, -, -, himg, harmed⟩ := hfired.more hmod hper (.inl hcount)
      obtain ⟨hone, hfar, hfirst⟩ := lateNext_first (t := t) hper
      have hnat : ((lateNext x.img t).toNat : Int) = lateNext x.img t := Int.toNat_of_nonneg (by omega)
      have hleft : x.img.count - (latePassed x.img t + 1) = x.img.count := by omega
      refine ⟨y, (lateNext x.img t).toNat, hy, harmed, by omega, ?_, ?_, fun k hk h => ?_⟩
      · rw [himg, hnat, hleft]
      · rw [himg]; exact hfar
      · have := hfirst k (by omega) h
        omega

end Sys2Proof.Proofs
end

section
/-! PROOFS. How SVC takes and completes a block command whose words are sound (spec/10 R259, R264-R267, spec/11 R286). -/

namespace Sys2Proof.Proofs

open Sys2Proof Sys2Proof.Machine Sys2Proof.Spec

/-! ### Reading a block -/

/-- A sound word is read without a change (R286). -/
theorem demandRead_of_sound {s : State} {b w : Nat} (h : sound s b w = true) :
    demandRead s b w = (s, bankWord s b w, false) := by
  unfold sound at h
  unfold demandRead
  cases he : bankErr s b w with
  | none => rfl
  | some e => cases e <;> simp_all

theorem readBlock_of_sound {s : State} {b : Nat} (n w : Nat) (h : ∀ i, i < n → sound s b (w + i) = true) :
    readBlock s b w n = (s, getWords s b w n, false) := by
  induction n generalizing w with
  | zero => rfl
  | succ n ih =>
    have hrest : ∀ i, i < n → sound s b (w + 1 + i) = true := fun i hi => by
      have := h (i + 1) (by omega)
      rwa [Nat.add_comm i 1, ← Nat.add_assoc] at this
    rw [readBlock, demandRead_of_sound (by simpa using h 0 (by omega)), ih _ hrest]
    rfl

theorem blockBad_of_fits {s : State} {b w len : Nat} (h : blockFits s b w len = true) : blockBad s b w len = false := by
  simp only [blockFits, Bool.and_eq_true, Bool.or_eq_true, beq_iff_eq, bne_iff_ne, ne_eq, decide_eq_true_eq] at h
  obtain ⟨⟨⟨⟨hmail, hhost⟩, heven⟩, hend⟩, hring⟩ := h
  simp only [blockBad, hmail, hhost, heven, Bool.not_true, Bool.false_or, Bool.or_eq_false_iff, Bool.and_eq_false_iff,
    decide_eq_false_iff_not, beq_eq_false_iff_ne]
  exact ⟨⟨by decide, by omega⟩, hring.imp id (by omega)⟩

theorem blockFits_mono {s : State} {b w len l : Nat} (h : blockFits s b w len = true) (hl : l ≤ len) :
    blockFits s b w l = true := by
  simp only [blockFits, Bool.and_eq_true, Bool.or_eq_true, decide_eq_true_eq] at h ⊢
  obtain ⟨⟨⟨⟨hmail, hhost⟩, heven⟩, hend⟩, hring⟩ := h
  exact ⟨⟨⟨⟨hmail, hhost⟩, heven⟩, by omega⟩, hring.imp id (by omega)⟩

/-! ### The command -/

/-- A block command as SVC takes it. -/
def blockCommand (n : Notice) (op : Nat) (args : List Word) : Cmd :=
  ⟨n, clsOf n.cls.toNat, true, op, 0, args.length, args⟩

theorem headIs_iff {s : State} {n : Notice} {rest : List Notice} : headIs s n rest = true ↔
    takesCmd s = true ∧ s.slu.cmd = n :: rest ∧ s.pwr.attempt = false ∧ s.pwr.fuseBnk.getLsbD 0 = false ∧
      s.pwr.fuseBnk.getLsbD 1 = false ∧ s.mir.holdSlots = false := by
  simp [headIs, and_assoc]

theorem blockCmd_iff {s : State} {n : Notice} {rest : List Notice} {op : Nat} {args : List Word} :
    blockCmd s n rest op args = true ↔ headIs s n rest = true ∧ n.kind = 0 ∧ op < 256 ∧ args.length ≤ 60 ∧
      blockFits s n.bank.toNat n.offset.toNat (3 + args.length) = true ∧
      bankWord s n.bank.toNat n.offset.toNat = BitVec.ofNat 16 (op + 256 * args.length) ∧
      getWords s n.bank.toNat (n.offset.toNat + 3) args.length = args ∧
      ∀ i, i < 3 + args.length → sound s n.bank.toNat (n.offset.toNat + i) = true := by
  simp [blockCmd, allSound, and_assoc]

theorem getWords_add_two (s : State) (b w n : Nat) : (getWords s b w (2 + n)).drop 2 = getWords s b (w + 2) n := by
  rw [Nat.add_comm 2 n]
  rfl

/-- A block command whose words are sound is read as it stands. -/
theorem readCmd_of_blockCmd {s : State} {n : Notice} {rest : List Notice} {op : Nat} {args : List Word}
    (h : blockCmd s n rest op args = true) : readCmd s n = (s, blockCommand n op args, none) := by
  obtain ⟨-, hkind, hop, hlen, hfits, hhead, hargs, hsound⟩ := blockCmd_iff.mp h
  have hnat : (bankWord s n.bank.toNat n.offset.toNat).toNat = op + 256 * args.length := by
    rw [hhead, BitVec.toNat_ofNat]
    omega
  have hdiv : (op + 256 * args.length) / 256 = args.length := by omega
  have hmod : (op + 256 * args.length) % 256 = op := by omega
  have hmin : min 60 args.length = args.length := by omega
  have hthree := blockBad_of_fits (blockFits_mono hfits (Nat.le_add_right 3 _))
  have hword : demandRead s n.bank.toNat n.offset.toNat = (s, bankWord s n.bank.toNat n.offset.toNat, false) :=
    demandRead_of_sound (by simpa using hsound 0 (by omega))
  have hread := readBlock_of_sound (s := s) (b := n.bank.toNat) (2 + args.length) (n.offset.toNat + 1)
    fun i hi => by
      have := hsound (1 + i) (by omega)
      rwa [← Nat.add_assoc] at this
  unfold readCmd
  simp only [hkind, hword, hnat, hdiv, hmod, hmin, hthree,
    blockBad_of_fits hfits, hread, getWords_add_two, Nat.add_assoc, Nat.reduceAdd, hargs]
  rfl

/-- The command's form, class and length are those of its opcode (R268; log entry 35). -/
theorem precheck_blockCommand {s : State} (hb0 : s.pwr.fuseBnk.getLsbD 0 = false) (hb1 : s.pwr.fuseBnk.getLsbD 1 = false)
    (n : Notice) {op : Nat} {args : List Word} (hform : opForm op = some (true, args.length, false)) :
    precheck s (blockCommand n op args) = none := by
  simp [precheck, blockCommand, hform, -BitVec.getLsbD_eq_getElem, hb0, hb1]

/-- The status word, the results and the DONE notice of a block whose bank is HOST's (R264, R266). -/
theorem finish_blockCommand {t : State} {n : Notice} (h : hostBank t n.bank.toNat = true) (op : Nat) (args : List Word)
    (code : Nat) (res : List Word) : finish t (blockCommand n op args) code res = blockDone t n code res := by
  simp [finish, blockCommand, h, blockDone, pushNtc]

theorem rouseSvc_of_no_attempt {s : State} (h : s.pwr.attempt = false) : rouseSvc s = s := if_neg (by simp [h])

theorem holdsCmd_of_no_hold {s : State} (h : s.mir.holdSlots = false) (c : Cmd) : holdsCmd s c = false := by
  simp [holdsCmd, h]

/-- SVC takes a block command and completes it with the answer of its row. -/
theorem serve_blockCmd {s : State} {n : Notice} {rest : List Notice} {op : Nat} {args : List Word}
    (h : blockCmd s n rest op args = true) (hform : opForm op = some (true, args.length, false)) {mine : Nat → Bool}
    (hmine : mine op = true) {run : Cmd → State → Answer} {t : State} {code : Nat} {res : List Word}
    (hrun : run (blockCommand n op args) (taken s rest) = (t, code, res)) (hbank : t.bank = s.bank)
    (hpwr : t.pwr = (taken s rest).pwr) :
    serve mine run s = .next (blockDone t n code (if code = 0 then res else [])) := by
  obtain ⟨hhead, -, -, -, hfits, -⟩ := blockCmd_iff.mp h
  obtain ⟨htakes, hcmd, hatt, hb0, hb1, hhold⟩ := headIs_iff.mp hhead
  have hhost : hostBank t n.bank.toNat = true := by
    simp only [blockFits, Bool.and_eq_true] at hfits
    obtain ⟨⟨⟨⟨-, hhost⟩, -⟩, -⟩, -⟩ := hfits
    rw [← hhost]
    simp only [hostBank, ownerOf, bankOut, hbank, hpwr, taken]
  have hserve : serve mine run s = .next (finish (run (blockCommand n op args) (taken s rest)).1 (blockCommand n op args)
      (run (blockCommand n op args) (taken s rest)).2.1
      (if (run (blockCommand n op args) (taken s rest)).2.1 = 0 then (run (blockCommand n op args) (taken s rest)).2.2
        else [])) := by
    have hop : (blockCommand n op args).op = op := rfl
    unfold serve
    simp only [hcmd, htakes, readCmd_of_blockCmd h, precheck_blockCommand hb0 hb1 n hform, hop, hmine]
    rw [rouseSvc_of_no_attempt, holdsCmd_of_no_hold]
    · rfl
    · exact hhold
    · exact hatt
  rw [hserve, hrun, finish_blockCommand hhost]

end Sys2Proof.Proofs
end

section
/-! PROOFS. The slot commands (spec/07 R172-R178, spec/10 R268, R269), and O41. -/

namespace Sys2Proof.Proofs

open Sys2Proof Sys2Proof.Machine Sys2Proof.Spec

/-! ### Slot images (spec/10 R269) -/

theorem slotImage_eq_imgOf (w : List Word) : slotImage w = imgOf w := by
  have hperiod : natOf [wordAt w 8, wordAt w 9, wordAt w 10] =
      argN w 8 + 65536 * argN w 9 + 4294967296 * argN w 10 := by
    simp only [natOf, wordAt, argN]
    omega
  have hlate : (wordAt w 1).toNat.testBit 14 = decide (argN w 1 / 16384 % 2 = 1) := Nat.testBit_eq_decide_div_mod_eq
  unfold slotImage imgOf
  dsimp only
  rw [hperiod, hlate]
  rfl

theorem slotTimeOk_eq_imgTimeOk (w : List Word) : slotTimeOk w = imgTimeOk w := rfl

theorem past_eq_tooLate (s : State) (t : Int) : past s t = tooLate s t := rfl

/-- The image with the fields of `n` that a mask selects (R269). -/
def selected (o n : SlotImg) (sel : Nat → Bool) : SlotImg :=
  let a := if sel 0 then n else o
  { actions := a.actions, pin := a.pin, op := a.op, chan := a.chan, lateOk := a.lateOk,
    tqMask := if sel 1 then n.tqMask else o.tqMask, target := if sel 2 then n.target else o.target,
    period := if sel 3 then n.period else o.period, count := if sel 4 then n.count else o.count,
    pulse := if sel 5 then n.pulse else o.pulse }

theorem imgMerge_eq_selected (o n : SlotImg) (mask : Nat) : imgMerge o n mask = selected o n mask.testBit := by
  unfold imgMerge selected
  generalize mask.testBit = sel
  cases sel 0 <;> cases sel 1 <;> cases sel 2 <;> cases sel 3 <;> cases sel 4 <;> cases sel 5 <;> rfl

/-! ### Host classes (spec/07 R175) -/

/-- A notice on CMD comes from one of the two host classes. -/
theorem host_cases {n : Notice} (h : hostCode n = true) : clsOf n.cls.toNat = .ns ∨ clsOf n.cls.toNat = .sec := by
  have hle : n.cls.toNat ≤ 1 := of_decide_eq_true h
  have : n.cls.toNat = 0 ∨ n.cls.toNat = 1 := by omega
  rcases this with h | h
  · rw [h]; exact .inl rfl
  · rw [h]; exact .inr rfl

section
variable {c : Cls} (hc : c = .ns ∨ c = .sec)
include hc

theorem slotGate_of_standby {s : State} (h : s.mir.role = 2) : slotGate s c = some 0x12 := by
  rcases hc with rfl | rfl <;> simp [slotGate, h]

theorem slotGate_of_unpaired {s : State} (h : s.mir.role = 0) : slotGate s c = none := by
  rcases hc with rfl | rfl <;> simp [slotGate, h]

theorem slotMine_of_host (x : Slot) (client : BitVec 10) :
    slotMine x c client = (c == .sec || (x.cls == c && x.client == client)) := by
  rcases hc with rfl | rfl
  · rfl
  · rfl

end

theorem mirrorSlot_of_unpaired {s : State} (h : s.mir.role = 0) (i : Nat) : mirrorSlot s i = s := if_neg (by simp [h])

/-! ### The free slot that SLOT_ARM takes -/

theorem leastBelow_eq_none {p : Nat → Bool} {n : Nat} (h : ∀ k, k < n → p k = false) : leastBelow p n = none := by
  rw [leastBelow, List.find?_eq_none]
  intro k hk
  simp [h k (List.mem_range.mp hk)]

theorem leastBelow_eq_some {p : Nat → Bool} {n k : Nat} (hk : k < n) (hp : p k = true) (h : ∀ j, j < k → p j = false) :
    leastBelow p n = some k := by
  rw [leastBelow, List.find?_range_eq_some]
  exact ⟨hp, List.mem_range.mpr hk, fun j hj => by simp [h j hj]⟩

/-- The slot that SLOT_ARM takes: the one named, where it is FREE, or the lowest free one. -/
def slotToArm (s : State) : Option Nat → Option Nat
  | some k => if k < 1024 ∧ (slotAt s k).isNone then some k else none
  | none => leastBelow (fun k => (slotAt s k).isNone) 1024

/-- The quota of host-non-secure is used up (R176). -/
def overQuota (s : State) (c : Cls) : Bool := c == .ns && decide (s.parN pEvsNsQuota ≤ nsSlots s)

/-- An image whose target can take no commit point and that does not admit a late firing (R178). -/
def tooLateFor (s : State) (m : SlotImg) : Bool := past s m.target && !m.lateOk

/-- What a SLOT_ARM answers for slot `k`: the first refusal that applies, or the slot (R176). -/
def armAnswer (s : State) (c : Cls) (client : BitVec 10) (w : List Word) (k : Nat) : State × Nat × Nat :=
  let m := slotImage w
  if overQuota s c = true then (s, 0x14, 0)
  else if (c == .ns && imgSecure s m) = true then (s, 0x15, 0)
  else if (imgBad m || !slotTimeOk w) = true then (s, 0x16, 0)
  else if tooLateFor s m = true then (s, 0x17, 0)
  else (mirrorSlot (putSlot s k (armLate s ⟨c, client, m, none, none, false⟩)) k, 0, k)

theorem slotArm_of_none {s : State} {c : Cls} (hgate : slotGate s c = none) {i : Option Nat} (hi : slotToArm s i = none)
    (client : BitVec 10) (w : List Word) : slotArm s c client i w = (s, 0x11, 0) := by
  unfold slotArm
  rw [hgate]
  cases i with
  | none => simp only [slotToArm] at hi; simp only [hi]
  | some k => simp only [slotToArm] at hi; simp only [hi]

theorem slotArm_of_some {s : State} {c : Cls} (hgate : slotGate s c = none) {i : Option Nat} {k : Nat}
    (hi : slotToArm s i = some k) (client : BitVec 10) (w : List Word) :
    slotArm s c client i w = armAnswer s c client w k := by
  have hanswer : armAnswer s c client w k =
      if c = .ns ∧ s.parN pEvsNsQuota ≤ nsSlots s then (s, 0x14, 0)
      else if c = .ns ∧ imgSecure s (imgOf w) = true then (s, 0x15, 0)
      else if imgBad (imgOf w) = true ∨ ¬ imgTimeOk w = true then (s, 0x16, 0)
      else if tooLate s (imgOf w).target = true ∧ ¬ (imgOf w).lateOk = true then (s, 0x17, 0)
      else (mirrorSlot (putSlot s k (armLate s ⟨c, client, imgOf w, none, none, false⟩)) k, 0, k) := by
    simp only [armAnswer, overQuota, tooLateFor, slotImage_eq_imgOf, slotTimeOk_eq_imgTimeOk, past_eq_tooLate,
      Bool.and_eq_true, Bool.or_eq_true, Bool.not_eq_true', Bool.not_eq_true, beq_iff_eq, decide_eq_true_eq]
  rw [hanswer]
  unfold slotArm
  rw [hgate]
  cases i with
  | none => simp only [slotToArm] at hi; simp only [hi]
  | some j => simp only [slotToArm] at hi; simp only [hi]

/-- A slot armed on an unpaired device: where its target can take no commit point, committed, to fire 20 us on (R178). -/
def armedSlot (s : State) (c : Cls) (client : BitVec 10) (m : SlotImg) : Slot :=
  ⟨c, client, m, if past s m.target then some m else none, if past s m.target then some (gnssNow s + 20952) else none,
    false⟩

theorem armLate_eq_armedSlot (s : State) (c : Cls) (client : BitVec 10) (m : SlotImg) :
    armLate s ⟨c, client, m, none, none, false⟩ = armedSlot s c client m := by
  by_cases h : tooLate s m.target = true
  · simp [armLate, armedSlot, past_eq_tooLate, h, ticks20us]
  · simp [armLate, armedSlot, past_eq_tooLate, h]

/-- The slot that the first argument word of SLOT_ARM names. -/
def slotNamed (w : List Word) : Option Nat := if wordAt w 0 = 0xFFFF then none else some (wordAt w 0).toNat

theorem slotNamed_of_any {w : List Word} (h : argN w 0 = 0xFFFF) : slotNamed w = none :=
  if_pos (BitVec.eq_of_toNat_eq (x := wordAt w 0) (y := 0xFFFF) h)

theorem slotNamed_of_index {w : List Word} (h : argN w 0 ≠ 0xFFFF) : slotNamed w = some (argN w 0) :=
  if_neg fun e => h (show (wordAt w 0).toNat = 0xFFFF by rw [e]; rfl)

theorem slotToArm_eq_none {s : State} {w : List Word}
    (h : ∀ k, k < 1024 → argN w 0 = k ∨ argN w 0 = 0xFFFF → (mget s.evs.slots k).isSome = true) :
    slotToArm s (slotNamed w) = none := by
  by_cases hany : argN w 0 = 0xFFFF
  · rw [slotNamed_of_any hany]
    exact leastBelow_eq_none fun k hk => by simpa [slotAt] using h k hk (.inr hany)
  · rw [slotNamed_of_index hany]
    refine if_neg ?_
    rintro ⟨hlt, hfree⟩
    have := h _ hlt (.inl rfl)
    simp [slotAt] at hfree
    simp [hfree] at this

theorem slotToArm_eq_some {s : State} {w : List Word} {k : Nat} (hk : k < 1024) (hfree : mget s.evs.slots k = none)
    (h : argN w 0 = k ∨ (argN w 0 = 0xFFFF ∧ ∀ j, j < k → (mget s.evs.slots j).isSome = true)) :
    slotToArm s (slotNamed w) = some k := by
  rcases h with h | ⟨hany, hfull⟩
  · rw [slotNamed_of_index (by omega), h]
    exact if_pos ⟨hk, by simp [slotAt, hfree]⟩
  · rw [slotNamed_of_any hany]
    exact leastBelow_eq_some hk (by simp [slotAt, hfree]) fun j hj => by simpa [slotAt] using hfull j hj

/-! ### SLOT_MODIFY (spec/07 R175-R177) -/

/-- The mask of a SLOT_MODIFY selects field group `k`. -/
def selects (w : List Word) (k : Nat) : Bool := decide (argN w 13 / 2 ^ k % 2 = 1)

theorem testBit_eq_selects (w : List Word) : (wordAt w 13).toNat.testBit = selects w :=
  funext fun _ => Nat.testBit_eq_decide_div_mod_eq

/-- The image that a SLOT_MODIFY gives slot `x`. -/
def modifiedImage (x : Slot) (w : List Word) : SlotImg := selected x.img (slotImage w) (selects w)

theorem imgMerge_eq_modifiedImage (x : Slot) (w : List Word) :
    imgMerge x.img (imgOf w) (wordAt w 13).toNat = modifiedImage x w := by
  rw [imgMerge_eq_selected, testBit_eq_selects, ← slotImage_eq_imgOf]
  rfl

/-- The slot once modified, but for a late firing that its new target may ask for. -/
def modifiedSlot (x : Slot) (w : List Word) : Slot :=
  { x with img := modifiedImage x w, cntMod := x.cntMod || (x.com.isSome && selects w 4) }

/-- What a SLOT_MODIFY answers for a slot that holds `x`: the first refusal that applies, or the change (R176, R177). -/
def modifyAnswer (s : State) (c : Cls) (client : BitVec 10) (i : Nat) (x : Slot) (w : List Word) : State × Nat :=
  let m := modifiedImage x w
  if slotMine x c client = false then (s, 0x12)
  else if (x.cls == .ns && selects w 0 && imgSecure s m) = true then (s, 0x15)
  else if (imgBad m || (selects w 2 && !slotTimeOk w)) = true then (s, 0x16)
  else if (selects w 2 && past s m.target && !m.lateOk) = true then (s, 0x17)
  else if slotFiring x = true then (s, 0x18)
  else (mirrorSlot (putSlot s i (if x.com.isNone ∧ selects w 2 then armLate s { (modifiedSlot x w) with late := none }
    else modifiedSlot x w)) i, 0)

theorem slotModify_of_none {s : State} {c : Cls} (hgate : slotGate s c = none) {i : Nat} (hi : slotAt s i = none)
    (client : BitVec 10) (w : List Word) : slotModify s c client i w = (s, 0x11) := by
  simp [slotModify, hgate, hi]

theorem slotModify_of_some {s : State} {c : Cls} (hgate : slotGate s c = none) {i : Nat} {x : Slot}
    (hi : slotAt s i = some x) (client : BitVec 10) (w : List Word) :
    slotModify s c client i w = modifyAnswer s c client i x w := by
  unfold slotModify modifyAnswer
  rw [hgate, hi]
  simp only [imgMerge_eq_modifiedImage, testBit_eq_selects, slotTimeOk_eq_imgTimeOk, past_eq_tooLate, modifiedSlot,
    Bool.and_eq_true, Bool.or_eq_true, Bool.not_eq_true', Bool.not_eq_true, beq_iff_eq, and_assoc]

/-! ### SLOT_CANCEL and SLOT_CANCEL_CLIENT (spec/07 R175-R177) -/

theorem slotDrop_of_uncommitted {s : State} (hrole : s.mir.role = 0) {x : Slot} (hcom : x.com = none) (hlate : x.late = none)
    (i : Nat) : slotDrop s i x = freeSlot s i := by
  rw [slotDrop, if_neg (by simp [hcom, hlate])]
  exact mirrorSlot_of_unpaired (s := freeSlot s i) hrole i

theorem slotDrop_of_committed {s : State} (hrole : s.mir.role = 0) {x : Slot}
    (h : x.com.isSome = true ∨ x.late.isSome = true) (i : Nat) :
    slotDrop s i x = putSlot s i { x with img := { x.img with period := 0, count := 0 } } := by
  rw [slotDrop, if_pos h]
  exact mirrorSlot_of_unpaired (s := putSlot s i _) hrole i

theorem slotCancel_of_none {s : State} {c : Cls} (hgate : slotGate s c = none) {i : Nat} (hi : slotAt s i = none)
    (client : BitVec 10) : slotCancel s c client i = (s, 0x11) := by
  simp [slotCancel, hgate, hi]

theorem slotCancel_of_some {s : State} {c : Cls} (hgate : slotGate s c = none) {i : Nat} {x : Slot}
    (hi : slotAt s i = some x) (client : BitVec 10) : slotCancel s c client i =
      if slotMine x c client = false then (s, 0x12) else if slotFiring x = true then (s, 0x18) else (slotDrop s i x, 0) := by
  simp [slotCancel, hgate, hi]

/-- A slot of a map is one of a class and client. -/
def ownedBy (c : Cls) (client : BitVec 10) (y : Nat × Slot) : Bool := y.2.cls == c && y.2.client == client

/-- Uncommitted slots are cancelled one by one. -/
theorem cancelList_eq (c : Cls) (client : BitVec 10) (l : List (Nat × Slot)) {s : State} (hrole : s.mir.role = 0)
    (hfresh : ∀ y ∈ l, y.2.com = none ∧ y.2.late = none) : cancelList s c client l =
      ({ s with evs := { s.evs with slots := (l.filter (ownedBy c client)).foldl (fun m y => mdel m y.1) s.evs.slots } },
        (l.filter (ownedBy c client)).length) := by
  induction l generalizing s with
  | nil => rfl
  | cons y l ih =>
    obtain ⟨i, x⟩ := y
    obtain ⟨hcom, hlate⟩ : x.com = none ∧ x.late = none := hfresh (i, x) List.mem_cons_self
    have hrest : ∀ y ∈ l, y.2.com = none ∧ y.2.late = none := fun y hy => hfresh y (List.mem_cons_of_mem _ hy)
    have hidle : slotFiring x = false := by simp [slotFiring, hcom, hlate]
    rw [cancelList]
    by_cases how : x.cls = c ∧ x.client = client
    · have hown : ownedBy c client (i, x) = true := by simp [ownedBy, how]
      rw [if_pos ⟨how.1, how.2, by simp [hidle]⟩, slotDrop_of_uncommitted hrole hcom hlate,
        ih (s := freeSlot s i) hrole hrest, List.filter_cons_of_pos hown]
      rfl
    · have hown : ¬ ownedBy c client (i, x) = true := by simpa [ownedBy] using how
      rw [if_neg fun h => how ⟨h.1, h.2.1⟩, ih hrole hrest, List.filter_cons_of_neg hown]

theorem foldl_mdel_eq_filter {α : Type} (l m : List (Nat × α)) :
    l.foldl (fun m y => mdel m y.1) m = m.filter (fun y => l.all (fun z => y.1 != z.1)) := by
  induction l generalizing m with
  | nil => simp
  | cons z l ih =>
    rw [List.foldl_cons, ih, mdel_eq_filter, List.filter_filter]
    simp only [List.all_cons, Bool.and_comm]

/-- Of a map with rising keys, deleting the keys of the entries that satisfy a condition leaves the others. -/
theorem foldl_mdel_filter {α : Type} {m : List (Nat × α)} (h : mrising m = true) (f : Nat × α → Bool) :
    (m.filter f).foldl (fun m y => mdel m y.1) m = m.filter (fun y => !f y) := by
  rw [foldl_mdel_eq_filter]
  refine List.filter_congr fun y hy => ?_
  cases hf : f y with
  | true =>
    rw [Bool.not_true, List.all_eq_false]
    exact ⟨y, List.mem_filter.mpr ⟨hy, hf⟩, by simp⟩
  | false =>
    rw [Bool.not_false, List.all_eq_true]
    intro z hz
    obtain ⟨hzm, hfz⟩ := List.mem_filter.mp hz
    rw [bne_iff_ne]
    intro hkey
    have hyz : some y.2 = some z.2 := by
      rw [← (mget_eq_some_iff h).mpr (show (y.1, y.2) ∈ m from hy), hkey]
      exact (mget_eq_some_iff h).mpr hzm
    rw [Prod.ext hkey (Option.some.inj hyz), hfz] at hf
    cases hf

/-! ### The commands as SVC completes them -/

section
variable {s : State} {n : Notice} {rest : List Notice} {w : List Word}

theorem exec_slotArm (h : blockCmd s n rest 0x0A w = true) (hlen : w.length = 13) {t : State} {code k : Nat}
    (harm : slotArm (taken s rest) (clsOf n.cls.toNat) n.client (slotNamed w) w = (t, code, k)) (hbank : t.bank = s.bank)
    (hpwr : t.pwr = (taken s rest).pwr) :
    exec .slotArm s = .next (blockDone t n code (if code = 0 then [BitVec.ofNat 16 k] else [])) := by
  have hrun : runSlotArm (blockCommand n 0x0A w) (taken s rest) = (t, code, [BitVec.ofNat 16 k]) :=
    congrArg (fun a : State × Nat × Nat => ((a.1, a.2.1, [BitVec.ofNat 16 a.2.2]) : Answer)) harm
  change serve (· == 0x0A) runSlotArm s = _
  exact serve_blockCmd h (by rw [hlen]; rfl) rfl hrun hbank hpwr

theorem exec_slotModify (h : blockCmd s n rest 0x0B w = true) (hlen : w.length = 14) {t : State} {code : Nat}
    (hmod : slotModify (taken s rest) (clsOf n.cls.toNat) n.client (argN w 0) w = (t, code)) (hbank : t.bank = s.bank)
    (hpwr : t.pwr = (taken s rest).pwr) : exec .slotModify s = .next (blockDone t n code []) := by
  have hrun : runSlotModify (blockCommand n 0x0B w) (taken s rest) = (t, code, []) :=
    congrArg (fun a : State × Nat => ((a.1, a.2, []) : Answer)) hmod
  change serve (· == 0x0B) runSlotModify s = _
  rw [serve_blockCmd h (by rw [hlen]; rfl) rfl hrun hbank hpwr, ite_self]

theorem exec_slotCancel (h : blockCmd s n rest 0x0C w = true) (hlen : w.length = 1) {t : State} {code : Nat}
    (hcan : slotCancel (taken s rest) (clsOf n.cls.toNat) n.client (argN w 0) = (t, code)) (hbank : t.bank = s.bank)
    (hpwr : t.pwr = (taken s rest).pwr) : exec .slotCancel s = .next (blockDone t n code []) := by
  have hrun : runSlotCancel (blockCommand n 0x0C w) (taken s rest) = (t, code, []) :=
    congrArg (fun a : State × Nat => ((a.1, a.2, []) : Answer)) hcan
  change serve (· == 0x0C) runSlotCancel s = _
  rw [serve_blockCmd h (by rw [hlen]; rfl) rfl hrun hbank hpwr, ite_self]

theorem exec_slotQuery (h : blockCmd s n rest 0x0E w = true) (hlen : w.length = 14) {code : Nat} {res : List Word}
    (hquery : slotQuery (taken s rest) (clsOf n.cls.toNat) (argN w 0) = (code, res)) :
    exec .slotQuery s = .next (blockDone (taken s rest) n code (if code = 0 then res else [])) := by
  have hrun : runSlotQuery (blockCommand n 0x0E w) (taken s rest) = (taken s rest, code, res) :=
    congrArg (fun a : Nat × List Word => ((taken s rest, a.1, a.2) : Answer)) hquery
  change serve (· == 0x0E) runSlotQuery s = _
  exact serve_blockCmd h (by rw [hlen]; rfl) rfl hrun rfl rfl

/-- A SLOT_CANCEL_CLIENT with good arguments, where slots may be written, for the slots of `cl` and `client`. -/
theorem runSlotCancelClient_of_open {c : Cmd} {s : State} {cl : Cls} {client : BitVec 10}
    (hgood : ¬ ((c.cls == .sec) = true ∧ (6 ≤ (c.w 0).toNat % 8 ∨ 1024 ≤ (c.w 1).toNat)))
    (hgate : slotGate s c.cls = none) (hcl : (if c.cls == .sec then clsOf ((c.w 0).toNat % 8) else c.cls) = cl)
    (hclient : (if c.cls == .sec then BitVec.ofNat 10 (c.w 1).toNat else c.notice.client) = client) :
    runSlotCancelClient c s = ((cancelList s cl client s.evs.slots).1, 0,
      [BitVec.ofNat 16 (cancelList s cl client s.evs.slots).2]) := by
  unfold runSlotCancelClient
  dsimp only
  rw [if_neg hgood, hgate, hcl, hclient]

/-- Whose slots a SLOT_CANCEL_CLIENT cancels: only host-secure names another class or client. -/
def cancelFor (n : Notice) (w : List Word) : Cls × BitVec 10 :=
  if clsOf n.cls.toNat = .sec then (clsOf (argN w 0 % 8), BitVec.ofNat 10 (argN w 1)) else (clsOf n.cls.toNat, n.client)

theorem exec_slotCancelClient (h : blockCmd s n rest 0x0D w = true) (hlen : w.length = 2) (hhost : hostCode n = true)
    (hrole : s.mir.role = 0) (hrise : mrising s.evs.slots = true)
    (hargs : clsOf n.cls.toNat = .sec → argN w 0 % 8 ≤ 5 ∧ argN w 1 < 1024)
    (hfresh : ∀ y ∈ s.evs.slots, y.2.com = none ∧ y.2.late = none) : exec .slotCancelClient s =
      .next (blockDone { (taken s rest) with evs := { s.evs with
        slots := s.evs.slots.filter (fun y => !ownedBy (cancelFor n w).1 (cancelFor n w).2 y) } } n 0
        [BitVec.ofNat 16 (s.evs.slots.filter (ownedBy (cancelFor n w).1 (cancelFor n w).2)).length]) := by
  have hgate : slotGate (taken s rest) (clsOf n.cls.toNat) = none := slotGate_of_unpaired (host_cases hhost) hrole
  have hgood : ¬ ((clsOf n.cls.toNat == .sec) = true ∧ (6 ≤ argN w 0 % 8 ∨ 1024 ≤ argN w 1)) := by
    rintro ⟨hsec, hbad⟩
    have := hargs (by simpa using hsec)
    omega
  have hcls : (if clsOf n.cls.toNat == .sec then clsOf (argN w 0 % 8) else clsOf n.cls.toNat) = (cancelFor n w).1 := by
    unfold cancelFor
    by_cases hsec : clsOf n.cls.toNat = .sec <;> simp [hsec]
  have hclient : (if clsOf n.cls.toNat == .sec then BitVec.ofNat 10 (argN w 1) else n.client) = (cancelFor n w).2 := by
    unfold cancelFor
    by_cases hsec : clsOf n.cls.toNat = .sec <;> simp [hsec]
  have hrun := runSlotCancelClient_of_open (c := blockCommand n 0x0D w) (s := taken s rest) hgood hgate hcls hclient
  have hevs : (taken s rest).evs = s.evs := rfl
  rw [hevs, cancelList_eq _ _ _ (s := taken s rest) hrole hfresh, hevs, foldl_mdel_filter hrise] at hrun
  change serve (· == 0x0D) runSlotCancelClient s = _
  exact serve_blockCmd h (by rw [hlen]; rfl) rfl hrun rfl rfl

end

/-! ### What a standby answers (spec/07 R172) -/

section
variable {s : State} {c : Cls} (hc : c = .ns ∨ c = .sec) (hrole : s.mir.role = 2) (client : BitVec 10) (w : List Word)
include hc hrole

theorem slotArm_of_standby (i : Option Nat) : slotArm s c client i w = (s, 0x12, 0) := by
  unfold slotArm
  rw [slotGate_of_standby hc hrole]

theorem slotModify_of_standby (i : Nat) : slotModify s c client i w = (s, 0x12) := by
  simp only [slotModify, slotGate_of_standby hc hrole]

omit w in
theorem slotCancel_of_standby (i : Nat) : slotCancel s c client i = (s, 0x12) := by
  simp only [slotCancel, slotGate_of_standby hc hrole]

end

/-! ### The answers, refusal by refusal (spec/07 R176) -/

section
variable {s : State} {c : Cls} {client : BitVec 10} {w : List Word} {k : Nat}

theorem armAnswer_of_quota (h : overQuota s c = true) : armAnswer s c client w k = (s, 0x14, 0) := by
  simp only [armAnswer, h, if_true]

theorem armAnswer_of_secure (hquota : overQuota s c = false) (h : (c == .ns && imgSecure s (slotImage w)) = true) :
    armAnswer s c client w k = (s, 0x15, 0) := by
  simp only [armAnswer, hquota, h, Bool.false_eq_true, if_true, if_false]

theorem armAnswer_of_bad (hquota : overQuota s c = false) (hsec : (c == .ns && imgSecure s (slotImage w)) = false)
    (h : (imgBad (slotImage w) || !slotTimeOk w) = true) : armAnswer s c client w k = (s, 0x16, 0) := by
  simp only [armAnswer, hquota, hsec, h, Bool.false_eq_true, if_true, if_false]

theorem armAnswer_of_late (hquota : overQuota s c = false) (hsec : (c == .ns && imgSecure s (slotImage w)) = false)
    (hbad : (imgBad (slotImage w) || !slotTimeOk w) = false) (h : tooLateFor s (slotImage w) = true) :
    armAnswer s c client w k = (s, 0x17, 0) := by
  simp only [armAnswer, hquota, hsec, hbad, h, Bool.false_eq_true, if_true, if_false]

theorem armAnswer_of_good (hrole : s.mir.role = 0) (hquota : overQuota s c = false)
    (hsec : (c == .ns && imgSecure s (slotImage w)) = false) (hbad : (imgBad (slotImage w) || !slotTimeOk w) = false)
    (hlate : tooLateFor s (slotImage w) = false) :
    armAnswer s c client w k = (putSlot s k (armedSlot s c client (slotImage w)), 0, k) := by
  simp only [armAnswer, hquota, hsec, hbad, hlate, Bool.false_eq_true, if_false, armLate_eq_armedSlot]
  rw [mirrorSlot_of_unpaired (s := putSlot s k _) hrole]

/-- The refusals of a SLOT_MODIFY of slot `x` before FIRING, in their order (R176). -/
def modifySecure (s : State) (x : Slot) (w : List Word) : Bool :=
  x.cls == .ns && selects w 0 && imgSecure s (modifiedImage x w)

def modifyBad (x : Slot) (w : List Word) : Bool := imgBad (modifiedImage x w) || (selects w 2 && !slotTimeOk w)

def modifyLate (s : State) (x : Slot) (w : List Word) : Bool :=
  selects w 2 && past s (modifiedImage x w).target && !(modifiedImage x w).lateOk

variable {x : Slot}

theorem modifyAnswer_of_other (h : slotMine x c client = false) : modifyAnswer s c client k x w = (s, 0x12) := if_pos h

variable (hmine : slotMine x c client = true)
include hmine

theorem modifyAnswer_of_secure (h : modifySecure s x w = true) : modifyAnswer s c client k x w = (s, 0x15) := by
  simp only [modifySecure] at h
  simp only [modifyAnswer, hmine, h, Bool.true_eq_false, if_true, if_false]

variable (hsec : modifySecure s x w = false)
include hsec

theorem modifyAnswer_of_bad (h : modifyBad x w = true) : modifyAnswer s c client k x w = (s, 0x16) := by
  simp only [modifySecure, modifyBad] at hsec h
  simp only [modifyAnswer, hmine, hsec, h, Bool.true_eq_false, Bool.false_eq_true, if_true, if_false]

variable (hbad : modifyBad x w = false)
include hbad

theorem modifyAnswer_of_late (h : modifyLate s x w = true) : modifyAnswer s c client k x w = (s, 0x17) := by
  simp only [modifySecure, modifyBad, modifyLate] at hsec hbad h
  simp only [modifyAnswer, hmine, hsec, hbad, h, Bool.true_eq_false, Bool.false_eq_true, if_true, if_false]

variable (hlate : modifyLate s x w = false)
include hlate

theorem modifyAnswer_of_firing (h : slotFiring x = true) : modifyAnswer s c client k x w = (s, 0x18) := by
  simp only [modifySecure, modifyBad, modifyLate] at hsec hbad hlate
  simp only [modifyAnswer, hmine, hsec, hbad, hlate, h, Bool.true_eq_false, Bool.false_eq_true, if_true, if_false]

theorem modifyAnswer_of_good (hrole : s.mir.role = 0) (h : slotFiring x = false)
    (htime : selects w 2 = false ∨ (x.com = none ∧ past s (modifiedImage x w).target = false)) :
    modifyAnswer s c client k x w =
      (putSlot s k { modifiedSlot x w with late := if selects w 2 then none else x.late }, 0) := by
  have hslot : (if x.com.isNone ∧ selects w 2 then armLate s { (modifiedSlot x w) with late := none } else modifiedSlot x w)
      = { modifiedSlot x w with late := if selects w 2 then none else x.late } := by
    rcases htime with hsel | ⟨hcom, hpast⟩
    · simp [hsel, modifiedSlot]
    · cases hsel : selects w 2 with
      | false => simp [modifiedSlot]
      | true =>
        have hpast' : tooLate s (modifiedSlot x w).img.target = false := hpast
        simp [hcom, armLate, hpast']
  simp only [modifySecure, modifyBad, modifyLate] at hsec hbad hlate
  simp only [modifyAnswer, hmine, hsec, hbad, hlate, h, Bool.true_eq_false, Bool.false_eq_true, if_false, hslot]
  rw [mirrorSlot_of_unpaired (s := putSlot s k _) hrole]

end

/-- A slot is being fired: a committed or late occurrence of a one-shot slot (R177). -/
theorem slotFiring_of_oneShot {x : Slot} (hperiod : x.img.period = 0) (h : x.com.isSome ∨ x.late.isSome) :
    slotFiring x = true := by
  simp [slotFiring, hperiod, h]

theorem not_slotFiring {x : Slot} (h : x.img.period ≠ 0 ∨ (x.com = none ∧ x.late = none)) : slotFiring x = false := by
  rcases h with h | ⟨hcom, hlate⟩
  · simp [slotFiring, h]
  · simp [slotFiring, hcom, hlate]

/-! ### SLOT_QUERY (spec/10 R269) -/

section
variable {s : State} {c : Cls} {i : Nat}

theorem slotQuery_of_outside (h : 1024 ≤ i) : slotQuery s c i = (0x11, []) := if_pos h

theorem slotQuery_of_free (hi : i < 1024) (h : slotAt s i = none) :
    slotQuery s c i = (0, BitVec.ofNat 16 i :: List.replicate 13 0) := by
  simp only [slotQuery, if_neg (Nat.not_le.mpr hi), h]

theorem slotQuery_of_hidden {x : Slot} (hi : i < 1024) (h : slotAt s i = some x) (hc : c = .ns ∧ x.cls ≠ .ns) :
    slotQuery s c i = (0x13, []) := by
  simp only [slotQuery, if_neg (Nat.not_le.mpr hi), h, if_pos hc]

theorem slotQuery_of_visible {x : Slot} (hi : i < 1024) (h : slotAt s i = some x) (hc : ¬ (c = .ns ∧ x.cls ≠ .ns)) :
    slotQuery s c i = (0, BitVec.ofNat 16 i :: imgWords x.img ++
      [BitVec.ofNat 16 (1 + 2 * clsCode x.cls + 16 * x.client.toNat)]) := by
  simp only [slotQuery, if_neg (Nat.not_le.mpr hi), h, if_neg hc]

end

/-- Settles O41: each command answers what the slot operation answers, and that is told refusal by refusal. -/
theorem slotCommands : Obligations.SlotCommands := by
  intro s n rest w hhost
  have hc : clsOf n.cls.toNat = .ns ∨ clsOf n.cls.toNat = .sec := host_cases hhost
  refine ⟨fun hstandby => ⟨?_, ?_, ?_⟩, fun hunpaired => ?_⟩
  · intro hlen h
    exact exec_slotArm h hlen (slotArm_of_standby (s := taken s rest) hc hstandby _ _ _) rfl rfl
  · intro hlen h
    exact exec_slotModify h hlen (slotModify_of_standby (s := taken s rest) hc hstandby _ _ _) rfl rfl
  · intro hlen h
    exact exec_slotCancel h hlen (slotCancel_of_standby (s := taken s rest) hc hstandby _ _) rfl rfl
  have hrole : (taken s rest).mir.role = 0 := hunpaired
  have hgate : slotGate (taken s rest) (clsOf n.cls.toNat) = none := slotGate_of_unpaired hc hrole
  have hmine (x : Slot) := slotMine_of_host hc x n.client
  refine ⟨?arm, ?modify, ?cancel, ?cancelClient, ?query⟩
  case arm =>
    intro hlen h
    refine ⟨fun hfull => exec_slotArm h hlen
      (slotArm_of_none hgate (slotToArm_eq_none (s := taken s rest) hfull) _ _) rfl rfl, ?_⟩
    intro k hk hfree hnamed
    have harm := slotArm_of_some hgate (slotToArm_eq_some (s := taken s rest) hk hfree hnamed) n.client w
    refine ⟨?_, ?_, ?_, ?_, ?_⟩
    · intro hquota
      exact exec_slotArm h hlen (harm.trans (armAnswer_of_quota hquota)) rfl rfl
    · intro hquota hsec
      exact exec_slotArm h hlen (harm.trans (armAnswer_of_secure hquota hsec)) rfl rfl
    · intro hquota hsec hbad
      exact exec_slotArm h hlen (harm.trans (armAnswer_of_bad hquota hsec hbad)) rfl rfl
    · intro hquota hsec hbad hlate
      exact exec_slotArm h hlen (harm.trans (armAnswer_of_late hquota hsec hbad hlate)) rfl rfl
    · intro hquota hsec hbad hlate
      exact exec_slotArm h hlen (harm.trans (armAnswer_of_good hrole hquota hsec hbad hlate)) rfl rfl
  case modify =>
    intro hlen h
    refine ⟨fun hfree => exec_slotModify h hlen (slotModify_of_none hgate hfree _ _) rfl rfl, ?_⟩
    intro x hx
    have hmod := slotModify_of_some hgate (i := argN w 0) (x := x) hx n.client w
    refine ⟨?_, ?_, ?_, ?_, ?_, ?_⟩
    · intro how
      exact exec_slotModify h hlen (hmod.trans (modifyAnswer_of_other ((hmine x).trans how))) rfl rfl
    · intro how hsec
      exact exec_slotModify h hlen (hmod.trans (modifyAnswer_of_secure ((hmine x).trans how) hsec)) rfl rfl
    · intro how hsec hbad
      exact exec_slotModify h hlen (hmod.trans (modifyAnswer_of_bad ((hmine x).trans how) hsec hbad)) rfl rfl
    · intro how hsec hbad hlate
      exact exec_slotModify h hlen (hmod.trans (modifyAnswer_of_late ((hmine x).trans how) hsec hbad hlate)) rfl rfl
    · intro how hsec hbad hlate hperiod hdue
      exact exec_slotModify h hlen (hmod.trans (modifyAnswer_of_firing ((hmine x).trans how) hsec hbad hlate
        (slotFiring_of_oneShot hperiod hdue))) rfl rfl
    · intro how hsec hbad hlate hidle htime
      exact exec_slotModify h hlen (hmod.trans (modifyAnswer_of_good ((hmine x).trans how) hsec hbad hlate hrole
        (not_slotFiring hidle) htime)) rfl rfl
  case cancel =>
    intro hlen h
    refine ⟨fun hfree => exec_slotCancel h hlen (slotCancel_of_none hgate hfree _) rfl rfl, ?_⟩
    intro x hx
    have hcan := slotCancel_of_some hgate (i := argN w 0) (x := x) hx n.client
    refine ⟨?_, ?_, ?_, ?_⟩
    · intro how
      rw [if_pos ((hmine x).trans how)] at hcan
      exact exec_slotCancel h hlen hcan rfl rfl
    · intro how hcom hlate
      rw [if_neg (by simp [(hmine x).trans how]), if_neg (by simp [not_slotFiring (.inr ⟨hcom, hlate⟩)]),
        slotDrop_of_uncommitted hrole hcom hlate] at hcan
      exact exec_slotCancel h hlen hcan rfl rfl
    · intro how hperiod hdue
      rw [if_neg (by simp [(hmine x).trans how]), if_pos (slotFiring_of_oneShot hperiod hdue)] at hcan
      exact exec_slotCancel h hlen hcan rfl rfl
    · intro how hperiod hdue
      rw [if_neg (by simp [(hmine x).trans how]), if_neg (by simp [not_slotFiring (.inl hperiod)]),
        slotDrop_of_committed hrole hdue] at hcan
      exact exec_slotCancel h hlen hcan rfl rfl
  case cancelClient =>
    intro hlen h hrise hargs hfresh
    exact exec_slotCancelClient h hlen hhost hunpaired hrise hargs hfresh
  case query =>
    intro hlen h
    refine ⟨fun hout => exec_slotQuery h hlen (slotQuery_of_outside hout), fun hin => ⟨?_, fun x hx => ⟨?_, ?_⟩⟩⟩
    · intro hfree
      exact exec_slotQuery h hlen (slotQuery_of_free (s := taken s rest) hin hfree)
    · intro hns hother
      exact exec_slotQuery h hlen (slotQuery_of_hidden (s := taken s rest) hin hx ⟨hns, hother⟩)
    · intro hsee
      refine exec_slotQuery h hlen (slotQuery_of_visible (s := taken s rest) hin hx ?_)
      rintro ⟨hns, hother⟩
      rcases hsee with hsec | hown
      · exact nomatch hns.symm.trans hsec
      · exact hother hown

end Sys2Proof.Proofs
end

section
/-! PROOFS. Frames of the link as they are received, and the content that a standby writes (spec/19 R444-R450). -/

namespace Sys2Proof.Proofs

open Sys2Proof Sys2Proof.Machine Sys2Proof.Spec

/-! ### A frame that arrives -/

section
variable {s : State} {f : Frame} {k : Nat}

theorem arrives_iff : arrives s f k = true ↔
    linked s = true ∧ s.mir.linkOk = true ∧ s.mir.goodRun = 16 ∧ frameValid f = true ∧ f.type.toNat = k := by
  simp only [arrives, Bool.and_eq_true, beq_iff_eq, and_assoc]

theorem linkRun_of_arrives (h : arrives s f k = true) : s.mir.linkRun = true := by
  obtain ⟨hlink, -⟩ := arrives_iff.mp h
  simp only [linked, Bool.and_eq_true] at hlink
  exact hlink.1.1

theorem length_payload_of_arrives (h : arrives s f k = true) : f.payload.length ≤ 32 := by
  obtain ⟨-, -, -, hvalid, -⟩ := arrives_iff.mp h
  simp only [frameValid, Bool.and_eq_true, decide_eq_true_eq] at hvalid
  exact hvalid.2.2

theorem type_of_arrives {type : BitVec 4} (h : arrives s f type.toNat = true) : f.type = type :=
  BitVec.eq_of_toNat_eq (arrives_iff.mp h).2.2.2.2

/-- With the link up already a good frame changes nothing. -/
theorem goodFrame_of_up (hok : s.mir.linkOk = true) (hrun : s.mir.goodRun = 16) : goodFrame s = s := by
  have hmin : min 16 (s.mir.goodRun + 1) = s.mir.goodRun := by omega
  unfold goodFrame
  dsimp only
  rw [hmin, if_neg (by simp [hok])]

theorem receive_of_arrives {type : BitVec 4} (h : arrives s f type.toNat = true) (run : State → State) :
    receive type f run s = .next (run s) := by
  obtain ⟨hlink, hok, hrun, hvalid, -⟩ := arrives_iff.mp h
  simp only [linked, frameValid, Bool.and_eq_true, Bool.or_eq_true, decide_eq_true_eq] at hlink hvalid
  obtain ⟨⟨hlinkRun, hcore⟩, hstate⟩ := hlink
  obtain ⟨hcrc, htype, hlen⟩ := hvalid
  have hruns : mirRuns s = true := by simp only [mirRuns, hcore, Bool.true_and, Bool.or_eq_true, hstate]
  unfold receive
  rw [if_neg (by simp [hlinkRun, hruns]), if_neg (by rintro (h | h | h) <;> [exact h hcrc; omega; omega]),
    if_neg (by simp [type_of_arrives h]), goodFrame_of_up hok hrun]

theorem queueFrame_of_linkRun (h : s.mir.linkRun = true) (type : BitVec 4) (ws : List Word) :
    queueFrame s type ws = queued s type ws := if_pos h

theorem ackOf_eq_acked (h : s.mir.linkRun = true) : ackOf s f = acked s f := by
  rw [ackOf, queueFrame_of_linkRun h, acked, BitVec.ofNat_toNat]

/-- Only a primary looks for a partner of its own role. -/
theorem stepConflict_of_not_primary (h : s.mir.role ≠ 1) : stepConflict s f = s := if_pos h

/-- One more frame of a conflict has come. -/
def conflictCounted (s : State) : State := { s with mir := { s.mir with conflictRun := s.mir.conflictRun + 1 } }

/-- On a primary content before the 16th frame of a conflict is counted, and no more (R443). -/
theorem stepConflict_of_primary (h : s.mir.role = 1) (htype : f.type = 1) (hrun : s.mir.conflictRun < 15) :
    stepConflict s f = conflictCounted s := by
  have hfew : ¬ 16 ≤ s.mir.conflictRun + 1 := by omega
  unfold stepConflict
  rw [if_neg (by simp [h])]
  simp only [htype, true_or, or_true, if_true, if_neg hfew]
  split <;> rfl

end

/-! ### What a standby's state is once content has come -/

/-- The frame is acknowledged and the standby has content. -/
def contentSeen (s : State) (f : Frame) : State := gotContent (acked s f)

/-- The bookkeeping of a content frame, on a device that is not primary. -/
theorem ackOf_stepConflict {s : State} {f : Frame} (hlink : s.mir.linkRun = true) (hrole : s.mir.role ≠ 1) :
    ackOf (stepConflict s f) f = acked s f := by rw [stepConflict_of_not_primary hrole, ackOf_eq_acked hlink]

theorem onlyIn_mir (s : State) (m : MirSt) : onlyIn [.mir] s { s with mir := m } = true := by simp [onlyIn, allParts, agree]

/-! ### STATE frames (R446, R448, R449) -/

/-- The state once a STATE record stands in B5. -/
def stateStored (s : State) (f : Frame) : State :=
  gotContent (if bankOut s 5 then acked s f else putWords (acked s f) 5 (32 * fw f 0) f.payload)

theorem standbyPan_eq (s : State) (ws : List Word) :
    ∃ pans pace, standbyPan s ws = { s with pans := pans, pace := pace } := by
  unfold standbyPan
  dsimp only
  split
  · split
    · simp only [startPan, placePan, putPan]
      split
      · exact ⟨_, _, rfl⟩
      · exact ⟨_, s.pace, rfl⟩
    · exact ⟨s.pans, s.pace, rfl⟩
  · exact ⟨s.pans, s.pace, rfl⟩

theorem takeState_of_standby {s : State} {f : Frame} (hlink : s.mir.linkRun = true) (hrole : s.mir.role = 2) :
    takeState f s = if fw f 0 < 32 then standbyPan (stateStored s f) f.payload else stateStored s f := by
  unfold takeState
  rw [ackOf_stepConflict hlink (by omega)]
  dsimp only
  rw [if_neg (not_not.mpr (show (acked s f).mir.role = 2 from hrole))]
  rfl

/-- The words that come do not hang on the link's part of the state. -/
theorem putWords_with_mir (s : State) (m : MirSt) (b w : Nat) (vs : List Word) :
    putWords { s with mir := m } b w vs = { putWords s b w vs with mir := m } := by
  induction vs generalizing s w with
  | nil => rfl
  | cons v vs ih => exact ih (putWord s b w v) (w + 1)

theorem stateStored_eq (s : State) (f : Frame) : stateStored s f =
    { (if bankOut s 5 then s else putWords s 5 (32 * fw f 0) f.payload) with mir := (contentSeen s f).mir } := by
  unfold stateStored
  split
  · rfl
  · have : acked s f = { s with mir := (acked s f).mir } := rfl
    rw [this, putWords_with_mir]
    rfl

theorem onlyIn_stateStored (s : State) (f : Frame) : onlyIn [.mir, .bank] s (stateStored s f) = true := by
  rw [stateStored_eq]
  split
  · exact onlyIn_mono (onlyIn_mir s _) (by simp)
  · exact onlyIn_trans (onlyIn_mono (onlyIn_putWords s _ _ _) (by simp)) (onlyIn_mono (onlyIn_mir _ _) (by simp))

/-! ### WORDS frames (R446, R450) -/

/-- One mirrored word: written, or lost to the owner's write, reported and asked for again (R450). -/
def mirroredWord (s : State) (b : Nat) (lost : List (BitVec 14)) (w : Nat) (v : Word) : State :=
  if lost.contains (BitVec.ofNat 14 w) then
    { s with mir := { s.mir with wlost := true, wlBank := BitVec.ofNat 3 b, wlWord := BitVec.ofNat 14 w,
                                 resend := s.mir.resend ++ [(b, w % 16384)] } }
  else putWord s b w v

theorem putMirrored_cons (s : State) (b : Nat) (lost : List (BitVec 14)) (w : Nat) (v : Word) (vs : List Word) :
    putMirrored s b lost w (v :: vs) = putMirrored (mirroredWord s b lost w v) b lost (w + 1) vs := rfl

/-- What mirrored words leave alone, and that what is lost stays noted. -/
structure Mirrored (s t : State) : Prop where
  frame : onlyIn [.mir, .bank] s t = true
  out : t.mir.out = s.mir.out
  role : t.mir.role = s.mir.role
  resend : s.mir.resend ⊆ t.mir.resend
  wlost : s.mir.wlost = true → t.mir.wlost = true

theorem Mirrored.trans {s t u : State} (h : Mirrored s t) (k : Mirrored t u) : Mirrored s u where
  frame := onlyIn_trans h.frame k.frame
  out := k.out.trans h.out
  role := k.role.trans h.role
  resend := List.Subset.trans h.resend k.resend
  wlost := k.wlost ∘ h.wlost

section
variable (b : Nat) (lost : List (BitVec 14))

theorem mirrored_mirroredWord (s : State) (w : Nat) (v : Word) : Mirrored s (mirroredWord s b lost w v) := by
  unfold mirroredWord
  split
  · exact ⟨onlyIn_mono (onlyIn_mir s _) (by simp), rfl, rfl, List.subset_append_left _ _, fun _ => rfl⟩
  · exact ⟨onlyIn_mono (onlyIn_putWords s b w [v]) (by simp), rfl, rfl, List.Subset.refl _, id⟩

theorem mirrored_putMirrored (vs : List Word) (s : State) (w : Nat) : Mirrored s (putMirrored s b lost w vs) := by
  induction vs generalizing s w with
  | nil => exact ⟨onlyIn_refl _ s, rfl, rfl, List.Subset.refl _, id⟩
  | cons v vs ih => exact (mirrored_mirroredWord b lost s w v).trans (ih _ _)

variable {b} {c x : Nat}

theorem bankWord_mirroredWord_ne {w : Nat} (h : lin b w ≠ lin c x) (s : State) (v : Word) :
    bankWord (mirroredWord s b lost w v) c x = bankWord s c x := by
  unfold mirroredWord
  split
  · rfl
  · exact bankWord_putWord_ne s b w c x v h

theorem bankWord_putMirrored_ne (vs : List Word) (s : State) (w : Nat) (h : ∀ j, j < vs.length → lin b (w + j) ≠ lin c x) :
    bankWord (putMirrored s b lost w vs) c x = bankWord s c x := by
  induction vs generalizing s w with
  | nil => rfl
  | cons v vs ih =>
    rw [putMirrored_cons, ih _ _ fun j hj => ?_]
    · exact bankWord_mirroredWord_ne lost (by simpa using h 0 (by simp)) s v
    · have := h (j + 1) (by simpa using hj)
      rwa [Nat.add_comm j 1, ← Nat.add_assoc] at this

variable (b)

theorem bankWord_mirroredWord (s : State) (w : Nat) (v : Word) : bankWord (mirroredWord s b lost w v) b w =
    if BitVec.ofNat 14 w ∈ lost then bankWord s b w else v := by
  unfold mirroredWord
  simp only [List.contains_iff_mem]
  split
  · rfl
  · exact bankWord_putWord_self s b w v

/-- A mirrored word that was not lost reads back as it was sent; one that was lost stays as the owner has it. -/
theorem bankWord_putMirrored (vs : List Word) (s : State) (w i : Nat) (hlen : vs.length ≤ 16384) (hi : i < vs.length) :
    bankWord (putMirrored s b lost w vs) b (w + i) =
      if BitVec.ofNat 14 (w + i) ∈ lost then bankWord s b (w + i) else vs.getD i 0 := by
  induction vs generalizing s w i with
  | nil => cases hi
  | cons v vs ih =>
    simp only [List.length_cons] at hlen hi
    rw [putMirrored_cons]
    cases i with
    | zero =>
      rw [bankWord_putMirrored_ne _ _ _ _ fun j hj h => ?_]
      · exact bankWord_mirroredWord b lost s w v
      · rw [Nat.add_assoc] at h
        have := lin_add_inj (by omega) (by omega) h
        omega
    | succ i =>
      have hnext : w + (i + 1) = w + 1 + i := by omega
      have hother : lin b w ≠ lin b (w + 1 + i) := fun h => by
        have := lin_add_inj (w := w) (i := 0) (j := 1 + i) (by omega) (by omega) (by rwa [← Nat.add_assoc])
        omega
      rw [hnext, ih _ _ _ (by omega) (by omega), bankWord_mirroredWord_ne lost hother, List.getD_cons_succ]

/-- A mirrored word that was lost is reported and asked for again. -/
theorem resend_putMirrored (vs : List Word) (s : State) (w i : Nat) (hi : i < vs.length)
    (hlost : BitVec.ofNat 14 (w + i) ∈ lost) : (b, (w + i) % 16384) ∈ (putMirrored s b lost w vs).mir.resend ∧
      (putMirrored s b lost w vs).mir.wlost = true := by
  induction vs generalizing s w i with
  | nil => cases hi
  | cons v vs ih =>
    rw [putMirrored_cons]
    cases i with
    | zero =>
      have hrest := mirrored_putMirrored b lost vs (mirroredWord s b lost w v) (w + 1)
      have hword : mirroredWord s b lost w v = { s with mir := { s.mir with
          wlost := true, wlBank := BitVec.ofNat 3 b, wlWord := BitVec.ofNat 14 w,
          resend := s.mir.resend ++ [(b, w % 16384)] } } := if_pos (List.contains_iff_mem.mpr hlost)
      rw [hword] at hrest ⊢
      exact ⟨hrest.resend (List.mem_append_right _ (List.mem_singleton.mpr rfl)), hrest.wlost rfl⟩
    | succ i =>
      have hnext : w + (i + 1) = w + 1 + i := by omega
      rw [hnext] at hlost ⊢
      exact ih _ _ _ (Nat.lt_of_succ_lt_succ hi) hlost

end

/-- The mirror engine may write bank `b` (R278). -/
def mirrorWrites (s : State) (b : Nat) : Bool :=
  !bankOut s b && (match ownerOf s b with | .trk | .svc | .mirror => true | _ => false)

theorem mirrorWrites_of_closed {s : State} {b : Nat}
    (h : bankOut s b = true ∨ ownerOf s b = .host ∨ ownerOf s b = .cryst) : mirrorWrites s b = false := by
  rcases h with h | h | h <;> simp [mirrorWrites, h]

theorem mirrorWrites_of_open {s : State} {b : Nat} (hin : bankOut s b = false)
    (h : ownerOf s b = .trk ∨ ownerOf s b = .svc ∨ ownerOf s b = .mirror) : mirrorWrites s b = true := by
  rcases h with h | h | h <;> simp [mirrorWrites, hin, h]

theorem takeWords_of_standby {s : State} {f : Frame} (lost : List (BitVec 14)) (hlink : s.mir.linkRun = true)
    (hrole : s.mir.role = 2) : takeWords f lost s = gotContent (if mirrorWrites s (fw f 0 % 8) then
      putMirrored (acked s f) (fw f 0 % 8) lost (fw f 1) (f.payload.drop 2) else acked s f) := by
  unfold takeWords
  rw [ackOf_stepConflict hlink (by omega)]
  dsimp only
  rw [if_neg (not_not.mpr (show (acked s f).mir.role = 2 from hrole))]
  rfl

/-! ### SLOT frames (R444, R446) -/

/-- The slot that a SLOT frame leaves where `x` stood: the image, and the primary's owner fields; an occurrence that is
committed keeps its image (R177). -/
def mirroredSlot (s : State) (f : Frame) (x : Option Slot) : Slot :=
  let m := imgOf f.payload
  match x with
  | some x =>
    let y := { x with cls := clsOf (fw f 13 % 8), client := BitVec.ofNat 10 (fw f 13 / 8), img := m,
                      cntMod := x.cntMod || (x.com.isSome && x.img.count != m.count) }
    if x.com.isNone ∧ x.img.target ≠ m.target then armLate s { y with late := none } else y
  | none => armLate s ⟨clsOf (fw f 13 % 8), BitVec.ofNat 10 (fw f 13 / 8), m, none, none, false⟩

theorem takeSlot_of_standby {s : State} {f : Frame} (hlink : s.mir.linkRun = true) (hrole : s.mir.role = 2) :
    takeSlot f s =
      if (imgOf f.payload).actions = 0 then freeSlot (contentSeen s f) (fw f 0 % 1024)
      else if imgBad (imgOf f.payload) = true ∨ ¬ imgTimeOk f.payload = true then contentSeen s f
      else putSlot (contentSeen s f) (fw f 0 % 1024) (mirroredSlot s f (slotAt s (fw f 0 % 1024))) := by
  have hslot : slotAt (gotContent (acked s f)) ((wordAt f.payload 0).toNat % 1024) = slotAt s (fw f 0 % 1024) := rfl
  unfold takeSlot
  rw [ackOf_stepConflict hlink (by omega)]
  dsimp only
  rw [if_neg (not_not.mpr (show (acked s f).mir.role = 2 from hrole))]
  rw [hslot]
  cases slotAt s (fw f 0 % 1024) <;> rfl

theorem mirroredSlot_image (s : State) (f : Frame) (x : Option Slot) : (mirroredSlot s f x).img = imgOf f.payload ∧
    (mirroredSlot s f x).cls = clsOf (fw f 13 % 8) ∧ (mirroredSlot s f x).client = BitVec.ofNat 10 (fw f 13 / 8) := by
  cases x with
  | none => exact armLate_keeps _ _
  | some x =>
    simp only [mirroredSlot]
    split
    · exact armLate_keeps _ _
    · exact ⟨rfl, rfl, rfl⟩

/-- An occurrence that is committed, or whose target stays, keeps what was committed. -/
theorem mirroredSlot_com_of_kept {s : State} {f : Frame} {x : Slot}
    (h : x.com ≠ none ∨ x.img.target = (imgOf f.payload).target) : (mirroredSlot s f (some x)).com = x.com := by
  have hkeep : ¬ (x.com.isNone = true ∧ x.img.target ≠ (imgOf f.payload).target) := by
    rintro ⟨hcom, htarget⟩
    rcases h with h | h
    · exact h (Option.isNone_iff_eq_none.mp hcom)
    · exact htarget h
  simp only [mirroredSlot, if_neg hkeep]

theorem armLate_com {s : State} {y : Slot} {m : SlotImg} (himg : y.img = m) (hcom : y.com = none) :
    (m.target - gnssNow s < 20952 → (armLate s y).com = some m) ∧
      (20952 ≤ m.target - gnssNow s → (armLate s y).com = none) := by
  subst himg
  have hlate : tooLate s y.img.target = decide (y.img.target - gnssNow s < 20952) := rfl
  constructor <;> intro ht
  · simp only [armLate, hlate, decide_eq_true ht, if_true]
  · simp only [armLate, hlate, decide_eq_false (Int.not_lt.mpr ht), Bool.false_eq_true, if_false, hcom]

/-- A new target is committed at once where no commit point is left to it (R178). -/
theorem mirroredSlot_com_of_new {s : State} {f : Frame} {x : Option Slot}
    (h : ∀ y, x = some y → y.com = none ∧ y.img.target ≠ (imgOf f.payload).target) :
    ((imgOf f.payload).target - gnssNow s < 20952 → (mirroredSlot s f x).com = some (imgOf f.payload)) ∧
      (20952 ≤ (imgOf f.payload).target - gnssNow s → (mirroredSlot s f x).com = none) := by
  cases x with
  | none => exact armLate_com rfl rfl
  | some x =>
    obtain ⟨hcom, htarget⟩ := h x rfl
    simp only [mirroredSlot, hcom, Option.isNone_none, true_and, if_pos htarget]
    exact armLate_com rfl rfl

theorem slotAt_putSlot (s : State) (i j : Nat) (x : Slot) : slotAt (putSlot s i x) j = if i = j then some x else slotAt s j :=
  mget_mput _ i j x

theorem slotAt_freeSlot (s : State) (i j : Nat) : slotAt (freeSlot s i) j = if i = j then none else slotAt s j :=
  mget_mdel _ i j

theorem actions_ne_zero {m : SlotImg} (h : imgBad m = false) : m.actions ≠ 0 := by
  intro hzero
  simp [imgBad, hzero] at h

theorem onlyIn_mir_evs (s : State) (m : MirSt) (e : EvsSt) :
    onlyIn [.mir, .evs] s { s with mir := m, evs := e } = true := by
  simp [onlyIn, allParts, agree]

end Sys2Proof.Proofs
end

section
/-! PROOFS. TAKE and RESEND frames (spec/19 R450, R457, R465), and O56. -/

namespace Sys2Proof.Proofs

open Sys2Proof Sys2Proof.Machine Sys2Proof.Spec

/-! ### TAKE frames (R457, R465) -/

theorem pinAt_setPin (s : State) (p q : Fin 4) (x : EvPin) : pinAt (setPin s p x) q = if p = q then x else pinAt s q :=
  get_set_fin s.evs.ev p q x

/-- The trailing edge of pin `k` that a TAKE's words carry. -/
def adoptedEnd (ws : List Word) (k : Fin 4) : Int := natOf ((ws.drop (1 + 4 * k.val)).take 4)

/-- Pin `x` with the level and trailing edge that a TAKE's words carry for pin `k`. -/
def adoptedPin (ws : List Word) (k : Fin 4) (x : EvPin) : EvPin :=
  { x with active := (wordAt ws 0).toNat.testBit k.val, ends := if adoptedEnd ws k = 0 then [] else [adoptedEnd ws k] }

/-- The standby adopts what a TAKE's words carry for one pin. -/
def adoptPin (ws : List Word) (s : State) (k : Fin 4) : State := setPin s k (adoptedPin ws k (pinAt s k))

theorem adoptLevels_eq (s : State) (ws : List Word) :
    adoptLevels s ws = adoptPin ws (adoptPin ws (adoptPin ws (adoptPin ws s 0) 1) 2) 3 := rfl

theorem pinAt_adoptPin (ws : List Word) (s : State) (j k : Fin 4) :
    pinAt (adoptPin ws s j) k = if j = k then adoptedPin ws k (pinAt s k) else pinAt s k := by
  rw [adoptPin, pinAt_setPin]
  by_cases h : j = k
  · rw [if_pos h, if_pos h, h]
  · rw [if_neg h, if_neg h]

theorem pinAt_adoptLevels (s : State) (ws : List Word) (k : Fin 4) :
    pinAt (adoptLevels s ws) k = adoptedPin ws k (pinAt s k) := by
  simp only [adoptLevels_eq, pinAt_adoptPin]
  match k with
  | 0 => rfl
  | 1 => rfl
  | 2 => rfl
  | 3 => rfl

theorem adoptPin_mir (ws : List Word) (s : State) (k : Fin 4) : (adoptPin ws s k).mir = s.mir := rfl

theorem adoptLevels_mir (s : State) (ws : List Word) : (adoptLevels s ws).mir = s.mir := by
  simp only [adoptLevels_eq, adoptPin_mir]

theorem onlyIn_adoptPin (ws : List Word) (s : State) (k : Fin 4) : onlyIn [.evs] s (adoptPin ws s k) = true :=
  onlyIn_evs s _

theorem onlyIn_adoptLevels (s : State) (ws : List Word) : onlyIn [.evs] s (adoptLevels s ws) = true := by
  rw [adoptLevels_eq]
  exact onlyIn_trans (onlyIn_trans (onlyIn_trans (onlyIn_adoptPin _ _ _) (onlyIn_adoptPin _ _ _)) (onlyIn_adoptPin _ _ _))
    (onlyIn_adoptPin _ _ _)

/-- The standby of a TAKE: H and the trigger are kept. -/
def takeSeen (s : State) (f : Frame) : State :=
  { acked s f with mir := { (acked s f).mir with take := some ⟨tsbTicks f, fw f 7, none⟩ } }

section
variable {s : State} {f : Frame} (hlink : s.mir.linkRun = true)
include hlink

theorem takeTake_of_unpaired (hrole : s.mir.role = 0) : takeTake f s = acked s f := by
  unfold takeTake
  rw [ackOf_eq_acked hlink]
  simp only [show (acked s f).mir.role = 0 from hrole]

theorem takeTake_of_standby (hrole : s.mir.role = 2) : takeTake f s = adoptLevels (takeSeen s f) (f.payload.drop 8) := by
  unfold takeTake
  rw [ackOf_eq_acked hlink]
  dsimp only
  split
  · next h => exact absurd (hrole.symm.trans h) (by decide)
  · rfl
  · next h => exact absurd hrole h

/-- A primary whose own TAKE is out only acknowledges the standby's. -/
theorem takeTake_of_taken (hrole : s.mir.role = 1) (htake : s.mir.take ≠ none) : takeTake f s = acked s f := by
  have hsome : (acked s f).mir.take.isSome = true := Option.isSome_iff_ne_none.mpr htake
  unfold takeTake
  rw [ackOf_eq_acked hlink]
  simp only [show (acked s f).mir.role = 1 from hrole, hsome, if_true]

theorem takeTake_of_primary (hrole : s.mir.role = 1) (htake : s.mir.take = none) : ∃ ws, takeTake f s =
    { s with mir := { s.mir with out := (acked s f).mir.out ++ [⟨4, 0, ws, true⟩],
                                 take := some ⟨tsbTicks f, fw f 7, none⟩, holdSlots := true } } := by
  have hnone : ¬ (acked s f).mir.take.isSome = true := by rw [show (acked s f).mir.take = none from htake]; decide
  have hrun : (acked s f).mir.linkRun = true := hlink
  unfold takeTake
  rw [ackOf_eq_acked hlink]
  simp only [show (acked s f).mir.role = 1 from hrole, if_neg hnone, queueFrame_of_linkRun hrun]
  exact ⟨_, rfl⟩

/-! ### RESEND frames (R450) -/

/-- A RESEND of one word is answered with its present value, unless that is poisoned (R291). -/
theorem sendPairs_one (b w : Word) : sendPairs s [b, w] =
    if anyPoison s (b.toNat % 8) (w.toNat % 16384) 1 then s
    else queued s 2 [BitVec.ofNat 16 (b.toNat % 8), BitVec.ofNat 16 (w.toNat % 16384),
      bankWord s (b.toNat % 8) (w.toNat % 16384)] := by
  have hword (hgood : ¬ anyPoison s (b.toNat % 8) (w.toNat % 16384) 1 = true) :
      mirrorWords s (b.toNat % 8) (w.toNat % 16384) 1 = queued s 2 [BitVec.ofNat 16 (b.toNat % 8),
        BitVec.ofNat 16 (w.toNat % 16384), bankWord s (b.toNat % 8) (w.toNat % 16384)] := by
    rw [mirrorWords, if_neg hgood, queueFrame_of_linkRun hlink]
    rfl
  simp only [sendPairs]
  split
  · rfl
  · next hgood => exact hword hgood

omit hlink in
/-- Only a primary answers a RESEND. -/
theorem exec_resendFrame (h : arrives s f 6 = true) :
    exec (.resendFrame f) s = .next (if s.mir.role = 1 then sendPairs s (f.payload.take 16) else s) :=
  receive_of_arrives (type := 6) h fun s => if s.mir.role = 1 then sendPairs s (f.payload.take 16) else s

/-! ### Frames to an unpaired device -/

theorem takeState_of_unpaired (hrole : s.mir.role = 0) : takeState f s = acked s f := by
  unfold takeState
  rw [ackOf_stepConflict hlink (by omega)]
  exact if_pos (fun h : s.mir.role = 2 => by omega)

theorem takeWords_of_unpaired (lost : List (BitVec 14)) (hrole : s.mir.role = 0) : takeWords f lost s = acked s f := by
  unfold takeWords
  rw [ackOf_stepConflict hlink (by omega)]
  exact if_pos (fun h : s.mir.role = 2 => by omega)

theorem takeSlot_of_unpaired (hrole : s.mir.role = 0) : takeSlot f s = acked s f := by
  unfold takeSlot
  rw [ackOf_stepConflict hlink (by omega)]
  exact if_pos (fun h : s.mir.role = 2 => by omega)

end

/-- A primary that receives content acknowledges it and counts the conflict (R443). -/
theorem takeState_of_primary {s : State} {f : Frame} (hlink : s.mir.linkRun = true) (hrole : s.mir.role = 1)
    (htype : f.type = 1) (hrun : s.mir.conflictRun < 15) : takeState f s =
      { acked s f with mir := { (acked s f).mir with conflictRun := s.mir.conflictRun + 1 } } := by
  unfold takeState
  rw [stepConflict_of_primary hrole htype hrun, ackOf_eq_acked (s := conflictCounted s) hlink]
  exact if_pos (fun h : s.mir.role = 2 => by omega)

/-! ### The commands, as a standby runs them -/

section
variable {s : State} {f : Frame} (hrole : s.mir.role = 2)
include hrole

/-- A STATE record is stored in B5, and may start a pan of the standby's own. -/
theorem exec_stateFrame_of_standby (h : arrives s f 1 = true) : ∃ t, exec (.stateFrame f) s = .next t ∧
    t.mir = (contentSeen s f).mir ∧ t.bank = (stateStored s f).bank ∧ (32 ≤ fw f 0 → t = stateStored s f) ∧
    onlyIn [.mir, .bank, .pans, .acq, .pace, .slu, .params, .cp] s t = true := by
  refine ⟨takeState f s, receive_of_arrives h _, ?_⟩
  have hmir : (stateStored s f).mir = (contentSeen s f).mir := by rw [stateStored_eq]
  have hstored := onlyIn_stateStored s f
  rw [takeState_of_standby (linkRun_of_arrives h) hrole]
  by_cases hpan : fw f 0 < 32
  · obtain ⟨pans, pace, heq⟩ := standbyPan_eq (stateStored s f) f.payload
    rw [if_pos hpan, heq]
    have hstart : onlyIn [.pans, .pace] (stateStored s f) { stateStored s f with pans := pans, pace := pace } = true := by
      simp [onlyIn, allParts, agree]
    exact ⟨hmir, rfl, fun h => by omega,
      onlyIn_trans (onlyIn_mono hstored (by simp)) (onlyIn_mono hstart (by simp))⟩
  · rw [if_neg hpan]
    exact ⟨hmir, rfl, fun _ => rfl, onlyIn_mono hstored (by simp)⟩

omit hrole in
/-- With B5 there the record's words read back. -/
theorem bankWord_stateStored {i : Nat} (hlen : f.payload.length ≤ 32) (hi : i < f.payload.length)
    (hin : bankOut s 5 = false) : bankWord (stateStored s f) 5 (32 * fw f 0 + i) = f.payload.getD i 0 := by
  rw [stateStored_eq, if_neg (by simp [hin])]
  exact bankWord_putWords f.payload s 5 (32 * fw f 0) i (by omega) hi

omit hrole in
theorem mirrored_gotContent (s : State) : Mirrored s (gotContent s) :=
  ⟨onlyIn_mono (onlyIn_mir s _) (by simp), rfl, rfl, List.Subset.refl _, id⟩

/-- Mirrored words are written or noted as lost, where the mirror engine may write, and nothing else changes. -/
theorem exec_wordsFrame_of_standby (lost : List (BitVec 14)) (h : arrives s f 2 = true) : ∃ t,
    exec (.wordsFrame f lost) s = .next t ∧ Mirrored (acked s f) t ∧ t.mir.passDone = true ∧
    t = gotContent (if mirrorWrites s (fw f 0 % 8) then
      putMirrored (acked s f) (fw f 0 % 8) lost (fw f 1) (f.payload.drop 2) else acked s f) := by
  refine ⟨takeWords f lost s, receive_of_arrives h _, ?_⟩
  rw [takeWords_of_standby lost (linkRun_of_arrives h) hrole]
  refine ⟨?_, rfl, rfl⟩
  split
  · exact (mirrored_putMirrored _ _ _ _ _).trans (mirrored_gotContent _)
  · exact mirrored_gotContent _

/-- The slot frame of a standby. -/
theorem exec_slotFrame_of_standby (h : arrives s f 3 = true) : exec (.slotFrame f) s = .next (takeSlot f s) ∧
    takeSlot f s = if (imgOf f.payload).actions = 0 then freeSlot (contentSeen s f) (fw f 0 % 1024)
      else if imgBad (imgOf f.payload) = true ∨ ¬ imgTimeOk f.payload = true then contentSeen s f
      else putSlot (contentSeen s f) (fw f 0 % 1024) (mirroredSlot s f (slotAt s (fw f 0 % 1024))) :=
  ⟨receive_of_arrives h _, takeSlot_of_standby (linkRun_of_arrives h) hrole⟩

end

/-! ### The words of a WORDS frame -/

section
variable {s : State} {f : Frame} {lost : List (BitVec 14)} {t : State}
  (ht : t = gotContent (if mirrorWrites s (fw f 0 % 8) then
    putMirrored (acked s f) (fw f 0 % 8) lost (fw f 1) (f.payload.drop 2) else acked s f))
include ht

theorem words_of_closed (h : bankOut s (fw f 0 % 8) = true ∨ ownerOf s (fw f 0 % 8) = .host ∨
    ownerOf s (fw f 0 % 8) = .cryst) : t = contentSeen s f := by
  rw [ht, mirrorWrites_of_closed h]
  rfl

theorem words_of_open (hlen : f.payload.length ≤ 32) (hin : bankOut s (fw f 0 % 8) = false)
    (howner : ownerOf s (fw f 0 % 8) = .trk ∨ ownerOf s (fw f 0 % 8) = .svc ∨ ownerOf s (fw f 0 % 8) = .mirror)
    {i : Nat} (hi : i + 2 < f.payload.length) (hfit : fw f 1 + i < 16384) :
    if BitVec.ofNat 14 (fw f 1 + i) ∈ lost then
      bankWord t (fw f 0 % 8) (fw f 1 + i) = bankWord s (fw f 0 % 8) (fw f 1 + i) ∧
        (fw f 0 % 8, fw f 1 + i) ∈ t.mir.resend ∧ t.mir.wlost = true
    else bankWord t (fw f 0 % 8) (fw f 1 + i) = f.payload.getD (i + 2) 0 := by
  have hdrop : (f.payload.drop 2).length = f.payload.length - 2 := List.length_drop
  have hi' : i < (f.payload.drop 2).length := by omega
  rw [mirrorWrites_of_open hin howner, if_pos rfl] at ht
  have hword : bankWord t (fw f 0 % 8) (fw f 1 + i) = _ := (congrArg (bankWord · _ _) ht).trans
    (bankWord_putMirrored (fw f 0 % 8) lost (f.payload.drop 2) (acked s f) (fw f 1) i (by omega) hi')
  split
  · next hlost =>
    rw [if_pos hlost] at hword
    have hnoted := resend_putMirrored (fw f 0 % 8) lost (f.payload.drop 2) (acked s f) (fw f 1) i hi' hlost
    rw [Nat.mod_eq_of_lt hfit] at hnoted
    rw [ht]
    exact ⟨ht ▸ hword, hnoted⟩
  · next hlost =>
    rw [if_neg hlost] at hword
    rw [hword]
    simp [List.getD_eq_getElem?_getD, Nat.add_comm]

end

/-! ### The slot of a SLOT frame -/

/-- What a standby writes for a SLOT frame: the image, unless it asks for nothing or is not legal. -/
theorem takeSlot_spec {s u : State} {f : Frame} (hu : u = if (imgOf f.payload).actions = 0
      then freeSlot (contentSeen s f) (fw f 0 % 1024)
      else if imgBad (imgOf f.payload) = true ∨ ¬ imgTimeOk f.payload = true then contentSeen s f
      else putSlot (contentSeen s f) (fw f 0 % 1024) (mirroredSlot s f (slotAt s (fw f 0 % 1024)))) :
    u.mir = (contentSeen s f).mir ∧ onlyIn [.mir, .evs] s u = true ∧
    (∀ j, j ≠ fw f 0 % 1024 → slotAt u j = slotAt s j) ∧
    ((imgOf f.payload).actions = 0 → slotAt u (fw f 0 % 1024) = none) ∧
    ((imgOf f.payload).actions ≠ 0 → imgBad (imgOf f.payload) = true ∨ imgTimeOk f.payload = false →
      slotAt u (fw f 0 % 1024) = slotAt s (fw f 0 % 1024)) ∧
    (imgBad (imgOf f.payload) = false → imgTimeOk f.payload = true →
      slotAt u (fw f 0 % 1024) = some (mirroredSlot s f (slotAt s (fw f 0 % 1024)))) := by
  by_cases hzero : (imgOf f.payload).actions = 0
  · rw [if_pos hzero] at hu
    subst hu
    refine ⟨rfl, onlyIn_mir_evs s _ _, fun j hj => ?_, fun _ => ?_, fun h => absurd hzero h,
      fun h => absurd hzero (actions_ne_zero h)⟩
    · rw [slotAt_freeSlot, if_neg hj.symm]; rfl
    · rw [slotAt_freeSlot, if_pos rfl]
  rw [if_neg hzero] at hu
  by_cases hbad : imgBad (imgOf f.payload) = true ∨ ¬ imgTimeOk f.payload = true
  · rw [if_pos hbad] at hu
    subst hu
    refine ⟨rfl, onlyIn_mir_evs s _ s.evs, fun _ _ => rfl, fun h => absurd h hzero, fun _ _ => rfl, fun hok htime => ?_⟩
    simp [hok, htime] at hbad
  · rw [if_neg hbad] at hu
    subst hu
    refine ⟨rfl, onlyIn_mir_evs s _ _, fun j hj => ?_, fun h => absurd h hzero, fun _ h => ?_, fun _ _ => ?_⟩
    · rw [slotAt_putSlot, if_neg hj.symm]; rfl
    · exact absurd (h.imp_right Bool.eq_false_iff.mp) hbad
    · rw [slotAt_putSlot, if_pos rfl]

/-- Settles O56: each frame is received once it arrives, and what it does is told role by role. -/
theorem mirrorContent : Obligations.MirrorContent := by
  intro s f lost
  refine ⟨fun hrole => ⟨?_, ?_, ?_, ?_, ?_⟩, fun hrole => ⟨?state, ?words, ?slot, ?take, ?resend⟩, fun hrole => ⟨?_, ?_, ?_⟩⟩
  · intro h
    exact (receive_of_arrives h _).trans (congrArg _ (takeState_of_unpaired (linkRun_of_arrives h) hrole))
  · intro h
    exact (receive_of_arrives h _).trans (congrArg _ (takeWords_of_unpaired (linkRun_of_arrives h) lost hrole))
  · intro h
    exact (receive_of_arrives h _).trans (congrArg _ (takeSlot_of_unpaired (linkRun_of_arrives h) hrole))
  · intro h
    exact (receive_of_arrives h _).trans (congrArg _ (takeTake_of_unpaired (linkRun_of_arrives h) hrole))
  · intro h
    rw [exec_resendFrame h, if_neg (by omega)]
  case state =>
    intro h
    obtain ⟨t, hexec, hmir, hbank, hstored, hframe⟩ := exec_stateFrame_of_standby hrole h
    refine ⟨t, hexec, hmir, fun hr => ?_, fun i hi _ hin => ?_, hframe⟩
    · rw [hmir, ← stateStored_eq]
      exact hstored hr
    · have hword : bankWord t 5 (32 * fw f 0 + i) = bankWord (stateStored s f) 5 (32 * fw f 0 + i) := by
        simp only [bankWord, hbank]
      exact hword.trans (bankWord_stateStored (length_payload_of_arrives h) hi hin)
  case words =>
    intro h
    obtain ⟨t, hexec, hkept, hdone, ht⟩ := exec_wordsFrame_of_standby hrole lost h
    exact ⟨t, hexec, hkept.out, hdone, hkept.role.trans hrole, words_of_closed ht,
      fun hin howner i hi hfit => words_of_open ht (length_payload_of_arrives h) hin howner hi hfit,
      onlyIn_trans (onlyIn_mono (onlyIn_mir s _) (by simp)) hkept.frame⟩
  case slot =>
    intro h
    obtain ⟨hexec, hu⟩ := exec_slotFrame_of_standby hrole h
    obtain ⟨hmir, hframe, hothers, hfree, hbad, hput⟩ := takeSlot_spec hu
    obtain ⟨himg, hcls, hclient⟩ := mirroredSlot_image s f (slotAt s (fw f 0 % 1024))
    refine ⟨_, hexec, hmir, hframe, hothers, hfree, hbad, fun hok htime => ?_⟩
    refine ⟨_, hput hok htime, himg, hcls, hclient, fun x hx hkeep => ?_, mirroredSlot_com_of_new⟩
    rw [hx]
    exact mirroredSlot_com_of_kept hkeep
  case take =>
    intro h
    have hexec : exec (.takeFrame f) s = .next (takeTake f s) := receive_of_arrives h _
    rw [takeTake_of_standby (linkRun_of_arrives h) hrole] at hexec
    have hmir := adoptLevels_mir (takeSeen s f) (f.payload.drop 8)
    refine ⟨_, hexec, by rw [hmir]; exact hrole, hmir, fun k => ?_,
      onlyIn_trans (onlyIn_mono (onlyIn_mir s _) (by simp)) (onlyIn_mono (onlyIn_adoptLevels (takeSeen s f) _) (by simp))⟩
    have hpin := pinAt_adoptLevels (takeSeen s f) (f.payload.drop 8) k
    have hlevel : wordAt (f.payload.drop 8) 0 = f.payload.getD 8 0 := by
      simp [wordAt, List.getD_eq_getElem?_getD]
    have hend : adoptedEnd (f.payload.drop 8) k = (natOf ((f.payload.drop (9 + 4 * k.val)).take 4) : Int) := by
      rw [adoptedEnd, List.drop_drop, show 8 + (1 + 4 * k.val) = 9 + 4 * k.val by omega]
    rw [hpin]
    refine ⟨congrArg (fun w : Word => w.toNat.testBit k.val) hlevel, fun e he => ?_⟩
    rw [← hend]
    simp only [adoptedPin] at he
    split at he
    · exact absurd he List.not_mem_nil
    · exact List.mem_singleton.mp he
  case resend =>
    intro h
    rw [exec_resendFrame h, if_neg (by omega)]
  · intro h
    have hexec : exec (.takeFrame f) s = .next (takeTake f s) := receive_of_arrives h _
    refine ⟨fun htake => ?_, fun htake => ?_⟩
    · rw [hexec, takeTake_of_taken (linkRun_of_arrives h) hrole htake]
    · obtain ⟨ws, hws⟩ := takeTake_of_primary (f := f) (linkRun_of_arrives h) hrole htake
      rw [hws] at hexec
      exact ⟨_, hexec, rfl, rfl, ⟨ws, rfl⟩, onlyIn_mir s _⟩
  · intro h b w hpayload
    rw [exec_resendFrame h, if_pos hrole, hpayload, ← sendPairs_one (linkRun_of_arrives h)]
    rfl
  · intro h hrun
    exact (receive_of_arrives h _).trans
      (congrArg _ (takeState_of_primary (linkRun_of_arrives h) hrole (type_of_arrives h) hrun))

end Sys2Proof.Proofs
end

section
/-! PROOFS. The data phases of the host bus (spec/08 R195-R204): which row carries one out, and the state after a write or a
read that is accepted or refused. -/

namespace Sys2Proof.Proofs

open Sys2Proof Sys2Proof.Machine Sys2Proof.Spec

/-! ### The rows -/

theorem phaseWrite_of_row {s : State} {off d : Word} {sec : Bool} {r : WRow} (h : writing s off sec = true)
    (hr : writeRow s ⟨off, true, sec⟩ d = r) : phaseWrite r d s = .next (hostWrite s d) := by
  obtain ⟨hcyc, -⟩ := writing_iff.mp h
  simp [phaseWrite, hcyc, hr]

theorem phaseRead_of_mem {s : State} {off : Word} {sec : Bool} {offs : List Nat} (h : reading s off sec = true)
    (hoff : off.toNat ∈ offs) (u : Option Upset) : phaseRead offs u s = .next (hostRead s u) := by
  obtain ⟨hcyc, -⟩ := reading_iff.mp h
  simp [phaseRead, hcyc, hoff]

/-- Register and half that a word offset names (R195). -/
theorem register_of_offset {m n : Nat} {hi : Bool} (h : m = 2 * n + hi.toNat) : m / 2 = n ∧ (m % 2 == 1) = hi := by
  cases hi <;> simp at h ⊢ <;> omega

theorem offset_eq (m : Nat) : m = 2 * (m / 2) + (m % 2 == 1).toNat := by
  cases h : m % 2 == 1 <;> simp at h ⊢ <;> omega

/-! ### Access -/

/-- At work, a data phase waits for no register but the bank window (R199). -/
theorem regHeld_of_quiet {s : State} (hq : quiet s = true) (c : Cls) {n : Nat} (hn : n ≠ 19) : regHeld s c n = false := by
  simp [regHeld, not_sleep_of_quiet hq, hn]

theorem regAccess_of_open {s : State} {n : Nat} (hn : n < 40) (hown : n ≠ 16)
    (hcore : regCore n = true → s.pwr.coreUp = true) (c : Cls) (wr : Bool) : regAccess s c n wr = none := by
  have hsecure : ¬ (c = .ns ∧ (40 ≤ n ∨ (n = 16 ∧ wr = true))) := by
    rintro ⟨-, h | ⟨h, -⟩⟩
    · omega
    · exact hown h
  have hup : ¬ (regCore n = true ∧ ¬ s.pwr.coreUp = true) := fun h => h.2 (hcore h.1)
  rw [regAccess, if_neg (by omega), if_neg hsecure, if_neg hup]

theorem regAccess_of_unmapped {n : Nat} (hn : 44 ≤ n) (s : State) (c : Cls) (wr : Bool) :
    regAccess s c n wr = some .unmapped := by rw [regAccess, if_pos hn]

/-! ### The state in which a data phase works -/

@[simp] theorem phaseOpen_pwr (s : State) (c : Cls) : (phaseOpen s c).pwr = s.pwr := by cases c <;> rfl
@[simp] theorem phaseOpen_bank (s : State) (c : Cls) : (phaseOpen s c).bank = s.bank := by cases c <;> rfl
@[simp] theorem phaseOpen_trk (s : State) (c : Cls) : (phaseOpen s c).trk = s.trk := by cases c <;> rfl
@[simp] theorem phaseOpen_svc (s : State) (c : Cls) : (phaseOpen s c).svc = s.svc := by cases c <;> rfl

theorem phaseOpen_cls (s : State) (c : Cls) : (phaseOpen s c).cls c = { (s.cls c) with hold := none } := by cases c <;> rfl

theorem dropHold_eq_phaseOpen (s : State) (c : Cls) :
    dropHold { s with bus := ⟨s.bus.cyc, s.bus.rdata, false, s.bus.held⟩ } c = phaseOpen s c := rfl

theorem regAccess_phaseOpen (s : State) (c d : Cls) (n : Nat) (wr : Bool) :
    regAccess (phaseOpen s c) d n wr = regAccess s d n wr := by rw [regAccess, phaseOpen_pwr]; rfl

theorem advance_phaseOpen_write (s : State) (sec : Bool) (off : Word) :
    advance (phaseOpen s (hostOf sec)) ⟨off, true, sec⟩ = phaseDone s sec (nextOff off) := by cases sec <;> rfl

/-! ### What moves on with every data phase -/

theorem modCls_modCls (s : State) (c : Cls) (f g : ClsBank → ClsBank) :
    (s.modCls c f).modCls c g = s.modCls c (fun b => g (f b)) := by cases c <;> rfl

theorem advance_modCls (s : State) (c : Cls) (f : ClsBank → ClsBank) (y : BusCyc) :
    advance (s.modCls c f) y = (advance s y).modCls c f := by cases c <;> rfl

theorem advance_autoInc (s : State) (c : Cls) (n : Nat) (lo hi : Bool) (y : BusCyc) :
    advance (autoInc s c n lo hi) y = autoInc (advance s y) c n lo hi := by
  unfold autoInc
  have hcls : (advance s y).cls c = s.cls c := by cases c <;> rfl
  rw [hcls, apply_ite (advance · y), apply_ite (advance · y), apply_ite (advance · y), advance_modCls]
  rfl

theorem autoInc_of_plain {n : Nat} (hparam : n ≠ 8) (hbank : n ≠ 19) (hprog : n ≠ 43) (s : State) (c : Cls) (lo hi : Bool) :
    autoInc s c n lo hi = s := by
  simp [autoInc, hparam, hbank, hprog]

/-- HB_PSEL's index moves on after an upper word of HB_PDATA (R211). -/
theorem autoInc_param (s : State) (c : Cls) (lo : Bool) :
    autoInc s c 8 lo true = s.modCls c (fun b => { b with pindex := if b.pinc then b.pindex + 1 else b.pindex }) := by
  have hauto : autoInc s c 8 lo true =
      if (s.cls c).pinc then s.modCls c (fun b => { b with pindex := b.pindex + 1 }) else s := by simp [autoInc]
  rw [hauto, State.modCls, State.modCls]
  split_ifs
  · rfl
  · cases c <;> rfl

/-- The bank window's address moves on after either word (R214). -/
theorem autoInc_bank {s : State} {lo hi : Bool} (hcore : s.pwr.coreUp = true) (hword : (lo || hi) = true) (c : Cls) :
    autoInc s c 19 lo hi =
      { s with bank := { s.bank with wAddr := if s.bank.wInc then s.bank.wAddr + 1 else s.bank.wAddr } } := by
  have hauto : autoInc s c 19 lo hi =
      if s.bank.wInc then { s with bank := { s.bank with wAddr := s.bank.wAddr + 1 } } else s := by
    simp only [Bool.or_eq_true] at hword
    simp [autoInc, hcore, hword]
  rw [hauto]
  split_ifs <;> rfl

/-- The program window's address moves on after either word (R213). -/
theorem autoInc_prog {s : State} {lo hi : Bool} (hcore : s.pwr.coreUp = true) (hword : (lo || hi) = true) :
    autoInc s .sec 43 lo hi =
      { s with cp := { s.cp with pAddr := if s.cp.pInc then s.cp.pAddr + 1 else s.cp.pAddr } } := by
  have hauto : autoInc s .sec 43 lo hi =
      if s.cp.pInc then { s with cp := { s.cp with pAddr := s.cp.pAddr + 1 } } else s := by
    simp only [Bool.or_eq_true] at hword
    simp [autoInc, hcore, hword]
  rw [hauto]
  split_ifs <;> rfl

/-! ### Which write of a register a data phase makes (R201) -/

section
variable {s : State} {c : Cls} {n : Nat} {off d : Word} (hacc : regAccess s c n true = none)
include hacc

theorem busPut_lower_of_unpaired (hoff : off.toNat = 2 * n + false.toNat) (hpair : regPaired n = false) :
    busPut s c off d = regPut s c n true false (ofHalves 0 d) := by
  obtain ⟨hn, hhi⟩ := register_of_offset hoff
  simp [busPut, hn, hhi, hacc, hpair]

theorem busPut_lower_of_paired (hoff : off.toNat = 2 * n + false.toNat) (hpair : regPaired n = true) :
    busPut s c off d = (s.modCls c (fun b => { b with stage := mput b.stage n d }), none) := by
  obtain ⟨hn, hhi⟩ := register_of_offset hoff
  simp [busPut, hn, hhi, hacc, hpair]

/-- The upper word of a paired register commits the staged lower word with it; refused, it leaves that staged. -/
theorem busPut_upper_of_paired {lo : Word} (hoff : off.toNat = 2 * n + true.toNat) (hpair : regPaired n = true)
    (hstage : mget (s.cls c).stage n = some lo) :
    busPut s c off d =
      let r := regPut (s.modCls c (fun b => { b with stage := mdel b.stage n })) c n true true (ofHalves d lo)
      (r.2.elim r.1 fun _ => s, r.2) := by
  obtain ⟨hn, hhi⟩ := register_of_offset hoff
  simp only [busPut, hn, hhi, hacc, hpair, hstage, if_true, Option.getD_some, State.modCls]
  generalize regPut _ _ _ _ _ _ = r
  obtain ⟨t, _ | e⟩ := r <;> rfl

end

/-! ### Write data phases -/

section
variable {s : State} {off d : Word} {sec hi : Bool} {n : Nat} (h : writing s off sec = true)
  (hoff : off.toNat = 2 * n + hi.toNat) (hheld : regHeld s (hostOf sec) n = false)
include h hoff hheld

/-- A write data phase that is not held writes, and moves the window's address and the cycle on (R195, R201, R204). -/
theorem hostWrite_of_not_held : hostWrite s d =
    let r := busPut (phaseOpen s (hostOf sec)) (hostOf sec) off d
    autoInc (advance (r.2.elim r.1 fun e => errResponse r.1 (hostOf sec) e off true) ⟨off, true, sec⟩) (hostOf sec) n
      (!hi) hi := by
  obtain ⟨hcyc, hbus, hq⟩ := writing_iff.mp h
  obtain ⟨hn, hhi⟩ := register_of_offset hoff
  have hc : cycCls ⟨off, true, sec⟩ = hostOf sec := rfl
  simp only [hostWrite, idleNow_wakeEvent_of_quiet hq, dropHold_eq_phaseOpen]
  simp only [hcyc, hbus, hc, hn, hhi, hheld, ← advance_autoInc]
  simp only [not_true_eq_false, or_self, if_false, Bool.false_eq_true, and_false]
  generalize busPut _ _ _ _ = r
  obtain ⟨u, _ | e⟩ := r <;> rfl

theorem hostWrite_of_put {t : State} (hput : busPut (phaseOpen s (hostOf sec)) (hostOf sec) off d = (t, none)) :
    hostWrite s d = autoInc (advance t ⟨off, true, sec⟩) (hostOf sec) n (!hi) hi := by
  rw [hostWrite_of_not_held h hoff hheld, hput]; rfl

theorem hostWrite_of_refused {e : Cause}
    (hput : busPut (phaseOpen s (hostOf sec)) (hostOf sec) off d = (phaseOpen s (hostOf sec), some e)) :
    hostWrite s d = autoInc (phaseFailed s sec (causeCode e) off (nextOff off)) (hostOf sec) n (!hi) hi := by
  rw [hostWrite_of_not_held h hoff hheld, hput]
  simp only [Option.elim, errResponse_phaseOpen]
  cases sec <;> rfl

end

/-! ### Read data phases -/

/-- An error response to a read is kept in a class's registers as R204 and R206 say, whose holding word is gone. -/
theorem errResponse_phaseOpen_read (s : State) (c : Cls) (e : Cause) (off : Word) :
    errResponse (phaseOpen s c) c e off false =
      { (s.modCls c (fun b => errored b (causeCode e) false off)) with bus := { s.bus with herr := true } } := by
  by_cases hz : (s.cls c).errCnt = 0 <;> cases c <;>
    · simp only [State.cls] at hz
      simp only [errResponse, phaseOpen, dropHold, State.modCls, State.setCls, State.cls, errored, hz, if_true, if_false]
      rfl

theorem regRead_of_denied {s : State} {c : Cls} {n : Nat} {e : Cause} (hacc : regAccess s c n false = some e)
    (u : Option Upset) : regRead s c n u = (s, 0, some e) := by rw [regRead, hacc]

section
variable {s : State} {off : Word} {sec hi : Bool} {n : Nat} {u : Option Upset} (h : reading s off sec = true)
  (hoff : off.toNat = 2 * n + hi.toNat) (hheld : regHeld s (hostOf sec) n = false)
include h hoff hheld

/-- A read of a lower word returns its half, captures the other and then has its side effect (R202, R203). -/
theorem hostRead_lower {t : State} {v : BitVec 32} (hlow : hi = false)
    (hread : regRead (phaseOpen s (hostOf sec)) (hostOf sec) n u = (phaseOpen s (hostOf sec), v, none))
    (heff : readLo (phaseOpen s (hostOf sec)) (hostOf sec) n = phaseOpen t (hostOf sec)) :
    hostRead s u = autoInc (lowerRead t sec n v (nextOff off)) (hostOf sec) n true false := by
  obtain ⟨hcyc, hbus, hq⟩ := reading_iff.mp h
  obtain ⟨hn, hhi⟩ := register_of_offset hoff
  have hc : cycCls ⟨off, false, sec⟩ = hostOf sec := rfl
  subst hlow
  simp only [hostRead, idleNow_wakeEvent_of_quiet hq, dropHold_eq_phaseOpen]
  simp only [hcyc, hbus, hc, hn, hhi, hheld, hread]
  simp only [not_true_eq_false, or_self, if_false, Bool.false_eq_true, and_false, heff, advance_autoInc]
  congr 1
  cases sec <;> rfl

/-- A read of an upper word just after its lower word returns what the holding word took (R202). -/
theorem hostRead_upper_of_hold {v : Word} (hup : hi = true) (hacc : regAccess s (hostOf sec) n false = none) (htime : n ≠ 4)
    (hhold : (s.cls (hostOf sec)).hold = some (n, v)) :
    hostRead s u = autoInc (upperRead s sec v (nextOff off)) (hostOf sec) n false true := by
  obtain ⟨hcyc, hbus, hq⟩ := reading_iff.mp h
  obtain ⟨hn, hhi⟩ := register_of_offset hoff
  have hc : cycCls ⟨off, false, sec⟩ = hostOf sec := rfl
  subst hup
  simp only [hostRead, idleNow_wakeEvent_of_quiet hq, dropHold_eq_phaseOpen]
  simp only [hcyc, hbus, hc, hn, hhi, hheld, hhold, regAccess_phaseOpen, hacc]
  simp only [not_true_eq_false, or_self, if_false, Bool.false_eq_true, and_false, if_true, disarm, if_neg htime,
    advance_autoInc]
  congr 1
  cases sec <;> rfl

/-- Without a holding word an upper word's live bits come (R202). -/
theorem hostRead_upper_of_live {v : BitVec 32} (hup : hi = true) (hhold : (s.cls (hostOf sec)).hold = none) (hbank : n ≠ 19)
    (hread : regRead (phaseOpen s (hostOf sec)) (hostOf sec) n u = (phaseOpen s (hostOf sec), v, none))
    (heff : disarm (readHi (phaseOpen s (hostOf sec)) (hostOf sec) n) (hostOf sec) n = phaseOpen s (hostOf sec)) :
    hostRead s u = autoInc (upperRead s sec (hiHalf v) (nextOff off)) (hostOf sec) n false true := by
  obtain ⟨hcyc, hbus, hq⟩ := reading_iff.mp h
  obtain ⟨hn, hhi⟩ := register_of_offset hoff
  have hc : cycCls ⟨off, false, sec⟩ = hostOf sec := rfl
  subst hup
  simp only [hostRead, idleNow_wakeEvent_of_quiet hq, dropHold_eq_phaseOpen]
  simp only [hcyc, hbus, hc, hn, hhi, hheld, hhold, if_neg hbank, hread]
  simp only [not_true_eq_false, or_self, if_false, Bool.false_eq_true, and_false, heff, advance_autoInc]
  congr 1
  cases sec <;> rfl

/-- A read that the class may not make of the register receives an error response, and HAD carries 0 (R204). -/
theorem hostRead_of_denied {e : Cause} (hacc : regAccess s (hostOf sec) n false = some e) (he : e ≠ .poison) :
    hostRead s u = autoInc (readFailed s sec (causeCode e) off (nextOff off)) (hostOf sec) n (!hi) hi := by
  obtain ⟨hcyc, hbus, hq⟩ := reading_iff.mp h
  obtain ⟨hn, hhi⟩ := register_of_offset hoff
  have hc : cycCls ⟨off, false, sec⟩ = hostOf sec := rfl
  have hopen : regAccess (phaseOpen s (hostOf sec)) (hostOf sec) n false = some e := by rw [regAccess_phaseOpen, hacc]
  simp only [hostRead, idleNow_wakeEvent_of_quiet hq, dropHold_eq_phaseOpen]
  simp only [hcyc, hbus, hc, hn, hhi, hheld, hopen, regRead_of_denied hopen]
  generalize (s.cls (hostOf sec)).hold = hold
  cases hi <;> rcases hold with _ | ⟨m, w⟩ <;>
    · simp only [not_true_eq_false, or_self, if_false, Bool.false_eq_true, and_false, if_neg he, advance_autoInc,
        errResponse_phaseOpen_read]
      cases sec <;> rfl

end

end Sys2Proof.Proofs
end

section
/-! PROOFS. The program window and the bank window (spec/08 R213, R214), and O26. -/

namespace Sys2Proof.Proofs

open Sys2Proof Sys2Proof.Machine Sys2Proof.Spec

/-! ### Program RAM (spec/12 R304) -/

theorem pramIdx_inj {k j : CoreId} {a b : BitVec 14} (ha : 0x2000 ≤ a.toNat) (hb : 0x2000 ≤ b.toNat)
    (h : pramIdx k a.toNat = pramIdx j b.toNat) : j = k ∧ b = a := by
  have hmod : a.toNat % 8192 = b.toNat % 8192 ∧ coreNum k = coreNum j := by simp only [pramIdx] at h; omega
  refine ⟨?_, BitVec.eq_of_toNat_eq (by omega)⟩
  cases k <;> cases j <;> simp_all [coreNum]

theorem progWord_putProg_self (s : State) (k : CoreId) {a : BitVec 14} (v : BitVec 14) (ha : 0x2000 ≤ a.toNat) :
    progWord (putProg s k a v) k a = v := by
  rw [progWord, if_neg (by omega), putProg, wordGet_wordSet_self]
  apply BitVec.eq_of_toNat_eq
  simp only [BitVec.extractLsb'_toNat, BitVec.toNat_setWidth]
  omega

theorem progWord_putProg_ne (s : State) {k j : CoreId} {a b : BitVec 14} (v : BitVec 14) (ha : 0x2000 ≤ a.toNat)
    (hne : (j, b) ≠ (k, a)) : progWord (putProg s k a v) j b = progWord s j b := by
  unfold progWord
  split_ifs with hrom
  · rfl
  · have hidx : pramIdx k a.toNat ≠ pramIdx j b.toNat := fun h => by
      obtain ⟨hj, hb⟩ := pramIdx_inj ha (by omega) h
      exact hne (by rw [hj, hb])
    rw [putProg, wordGet_wordSet_ne _ _ _ _ hidx]

/-! ### The program window (R213) -/

theorem extractLsb'_ofHalves_zero (d : Word) {n : Nat} (hn : n ≤ 16) :
    (ofHalves 0 d).extractLsb' 0 n = BitVec.ofNat n d.toNat := by
  apply BitVec.eq_of_getLsbD_eq
  intro i hi
  rw [BitVec.getLsbD_extractLsb', Nat.zero_add, getLsbD_ofHalves_zero d (by omega), BitVec.getLsbD_ofNat]
  rfl

/-- The core whose program RAM the window addresses. -/
def windowCore (s : State) : CoreId := if s.cp.pCore then .svc else .trk

/-- The window's address has moved on from where it stood in `s`, when the window has auto_inc. -/
def progNext (s t : State) : State :=
  { t with cp := { t.cp with pAddr := if s.cp.pInc then s.cp.pAddr + 1 else s.cp.pAddr } }

theorem regAccess_prog {s : State} (hcore : s.pwr.coreUp = true) (wr : Bool) : regAccess s .sec 43 wr = none := by
  simp [regAccess, hcore]

theorem progWrite_of_stored {s : State} {k : CoreId} {a v : BitVec 14} (hstop : prgStopped s k = true)
    (ha : 0x2000 ≤ a.toNat) : progWrite s k a v = (putProg s k a v, none) := by
  rw [progWrite, if_neg (not_not_intro hstop), if_neg (by omega)]

theorem progWrite_of_rom {s : State} {k : CoreId} {a v : BitVec 14} (hstop : prgStopped s k = true)
    (ha : a.toNat < 0x2000) : progWrite s k a v = (s, some .rom) := by
  rw [progWrite, if_neg (not_not_intro hstop), if_pos ha]

theorem progWrite_of_busy {s : State} {k : CoreId} {a v : BitVec 14} (hrun : prgStopped s k = false) :
    progWrite s k a v = (s, some .prgBusy) := by
  rw [progWrite, if_pos (by simp [hrun])]

theorem prgStopped_phaseOpen (s : State) (c : Cls) (k : CoreId) : prgStopped (phaseOpen s c) k = prgStopped s k := by
  cases k <;> simp [prgStopped, State.core]

section
variable {s : State} {d : Word} (hcore : s.pwr.coreUp = true)
include hcore

theorem busPut_prog : busPut (phaseOpen s .sec) .sec 0x56 d =
    progWrite (phaseOpen s .sec) (windowCore s) s.cp.pAddr (BitVec.ofNat 14 d.toNat) := by
  have hacc : regAccess (phaseOpen s .sec) .sec 43 true = none := (regAccess_phaseOpen ..).trans (regAccess_prog hcore true)
  rw [← extractLsb'_ofHalves_zero d (by decide)]
  exact busPut_lower_of_unpaired hacc rfl rfl

theorem exec_programWindowWrite_of_stored (h : writing s 0x56 true = true) (hstop : prgStopped s (windowCore s) = true)
    (ha : 0x2000 ≤ s.cp.pAddr.toNat) : exec (.programWindowWrite d) s =
      .next (progNext s (putProg (phaseDone s true 0x56) (windowCore s) s.cp.pAddr (BitVec.ofNat 14 d.toNat))) := by
  obtain ⟨-, -, hq⟩ := writing_iff.mp h
  have hput := (busPut_prog hcore (d := d)).trans (progWrite_of_stored (by rwa [prgStopped_phaseOpen]) ha)
  refine (phaseWrite_of_row h rfl).trans (congrArg _ ?_)
  exact (hostWrite_of_put (hi := false) h rfl (regHeld_of_quiet hq _ (by decide)) hput).trans (autoInc_prog hcore rfl)

theorem exec_programWindowWrite_of_refused (h : writing s 0x56 true = true) {e : Cause}
    (hw : progWrite (phaseOpen s .sec) (windowCore s) s.cp.pAddr (BitVec.ofNat 14 d.toNat) = (phaseOpen s .sec, some e)) :
    exec (.programWindowWrite d) s = .next (progNext s (phaseFailed s true (causeCode e) 0x56 0x56)) := by
  obtain ⟨-, -, hq⟩ := writing_iff.mp h
  refine (phaseWrite_of_row h rfl).trans (congrArg _ ?_)
  exact (hostWrite_of_refused (hi := false) h rfl (regHeld_of_quiet hq _ (by decide)) ((busPut_prog hcore).trans hw)).trans
    (autoInc_prog hcore rfl)

theorem exec_programWindowRead (h : reading s 0x56 true = true) : exec .programWindowRead s =
    .next (progNext s (lowerRead s true 43 ((progWord s (windowCore s) s.cp.pAddr).setWidth 32) 0x56)) := by
  obtain ⟨-, -, hq⟩ := reading_iff.mp h
  have hread : regRead (phaseOpen s .sec) .sec 43 none =
      (phaseOpen s .sec, (progWord s (windowCore s) s.cp.pAddr).setWidth 32, none) := by
    rw [regRead, regAccess_phaseOpen, regAccess_prog hcore]; rfl
  refine (phaseRead_of_mem h (by decide) none).trans (congrArg _ ?_)
  exact (hostRead_lower h rfl (regHeld_of_quiet hq _ (by decide)) rfl hread rfl).trans (autoInc_prog hcore rfl)

end

/-! ### The bank window (R214) -/

/-- The window's address has moved on from where it stood in `s`, when the window has auto_inc. -/
def bankNext (s t : State) : State :=
  { t with bank := { t.bank with wAddr := if s.bank.wInc then s.bank.wAddr + 1 else s.bank.wAddr } }

theorem bankRead_of_sound {s : State} {c : Cls}
    (hown : c = .ns → ownerOf s s.bank.wBank.toNat = .host) (hout : bankOut s s.bank.wBank.toNat = false)
    (hsound : sound s s.bank.wBank.toNat s.bank.wAddr.toNat = true) :
    bankRead s c none = (s, (bankWord s s.bank.wBank.toNat s.bank.wAddr.toNat).setWidth 32, none) := by
  have hinject : inject s s.bank.wBank.toNat s.bank.wAddr.toNat none = s := rfl
  rw [bankRead, if_neg (fun hns => hns.2 (hown hns.1)), if_neg (by simp [hout]), hinject, demandRead_of_sound hsound]
  rfl

section
variable {s : State} {sec : Bool} {d : Word} (hcore : s.pwr.coreUp = true)
  (hclear : s.bank.clearing.getLsbD s.bank.wBank.toNat = false)
  (hwake : s.bank.wakeWait.getLsbD s.bank.wBank.toNat = false) (hdrain : s.bank.drain.getLsbD s.bank.wBank.toNat = false)

include hclear hwake hdrain in
/-- The bank window waits for a bank that is cleared, woken or drained alone (R282, R296, R297). -/
theorem regHeld_bank_of_quiet (hq : quiet s = true) (c : Cls) : regHeld s c 19 = false := by
  simp [regHeld, not_sleep_of_quiet hq, hclear, hwake, regInCore, regCore, hdrain]

include hcore in
theorem regAccess_bank (c : Cls) (wr : Bool) : regAccess s c 19 wr = none :=
  regAccess_of_open (by decide) (by decide) (fun _ => hcore) c wr

include hcore in
theorem busPut_bank (c : Cls) (d : Word) : busPut (phaseOpen s c) c 0x26 d = bankWrite (phaseOpen s c) d := by
  have hacc : regAccess (phaseOpen s c) c 19 true = none := (regAccess_phaseOpen ..).trans (regAccess_bank hcore c true)
  have hlow : loHalf (ofHalves 0 d) = d := (extractLsb'_ofHalves_zero d (by decide)).trans (by simp)
  exact (busPut_lower_of_unpaired hacc rfl rfl).trans (congrArg (bankWrite (phaseOpen s c)) hlow)

include hcore hclear hwake hdrain

theorem exec_bankWindowWrite_of_stored (h : writing s 0x26 sec = true) (hhost : hostBank s s.bank.wBank.toNat = true) :
    exec (.bankWindowWrite d) s =
      .next (bankNext s (putWord (phaseDone s sec 0x26) s.bank.wBank.toNat s.bank.wAddr.toNat d)) := by
  obtain ⟨-, -, hq⟩ := writing_iff.mp h
  have hput : busPut (phaseOpen s (hostOf sec)) (hostOf sec) 0x26 d =
      (putWord (phaseOpen s (hostOf sec)) s.bank.wBank.toNat s.bank.wAddr.toNat d, none) := by
    rw [busPut_bank hcore, bankWrite, phaseOpen_bank]
    exact if_pos (by cases sec <;> exact hhost)
  refine (phaseWrite_of_row h rfl).trans (congrArg _ ?_)
  rw [hostWrite_of_put (hi := false) h rfl (regHeld_bank_of_quiet hclear hwake hdrain hq _) hput,
    autoInc_bank (by cases sec <;> exact hcore) rfl]
  cases sec <;> rfl

theorem exec_bankWindowWrite_of_refused (h : writing s 0x26 sec = true) (hhost : hostBank s s.bank.wBank.toNat = false) :
    exec (.bankWindowWrite d) s = .next (bankNext s (phaseFailed s sec 10 0x26 0x26)) := by
  obtain ⟨-, -, hq⟩ := writing_iff.mp h
  have hput : busPut (phaseOpen s (hostOf sec)) (hostOf sec) 0x26 d = (phaseOpen s (hostOf sec), some .notOwner) := by
    rw [busPut_bank hcore, bankWrite, phaseOpen_bank]
    exact if_neg (by cases sec <;> exact Bool.eq_false_iff.mp hhost)
  refine (phaseWrite_of_row h rfl).trans (congrArg _ ?_)
  rw [hostWrite_of_refused (hi := false) h rfl (regHeld_bank_of_quiet hclear hwake hdrain hq _) hput,
    autoInc_bank (by cases sec <;> exact hcore) rfl]
  cases sec <;> rfl

theorem exec_bankWindowRead (h : reading s 0x26 sec = true)
    (hown : sec = true ∨ ownerOf s s.bank.wBank.toNat = .host) (hout : bankOut s s.bank.wBank.toNat = false)
    (hsound : sound s s.bank.wBank.toNat s.bank.wAddr.toNat = true) : exec (.bankWindowRead none) s =
      .next (bankNext s (lowerRead s sec 19 ((bankWord s s.bank.wBank.toNat s.bank.wAddr.toNat).setWidth 32) 0x26)) := by
  obtain ⟨-, -, hq⟩ := reading_iff.mp h
  have hread : regRead (phaseOpen s (hostOf sec)) (hostOf sec) 19 none = (phaseOpen s (hostOf sec),
      (bankWord s s.bank.wBank.toNat s.bank.wAddr.toNat).setWidth 32, none) := by
    rw [regRead, regAccess_phaseOpen, regAccess_bank hcore]
    cases sec with
    | false => exact bankRead_of_sound (s := phaseOpen s .ns) (fun _ => hown.resolve_left (by decide)) hout hsound
    | true => exact bankRead_of_sound (s := phaseOpen s .sec) (c := .sec) nofun hout hsound
  refine (phaseRead_of_mem h (by decide) none).trans (congrArg _ ?_)
  rw [hostRead_lower h rfl (regHeld_bank_of_quiet hclear hwake hdrain hq _) rfl hread rfl,
    autoInc_bank (by cases sec <;> exact hcore) rfl]
  cases sec <;> rfl

end

/-- Settles O26: each data phase of a window by the write or read that it makes, and the window's address by auto_inc. -/
theorem programAndBankWindows : Obligations.ProgramAndBankWindows := by
  intro s d hcore k prg bnk b i
  refine ⟨fun h => ⟨fun hstop ha => ?_, fun hstop ha => ?_, fun hrun => ?_⟩, exec_programWindowRead hcore,
    fun sec h hclear hwake hdrain => ⟨?_, ?_⟩, fun sec h hclear hwake hdrain => ?_, fun k' a a' v ha => ⟨?_, ?_⟩⟩
  · exact exec_programWindowWrite_of_stored hcore h hstop ha
  · exact exec_programWindowWrite_of_refused (e := .rom) hcore h (progWrite_of_rom (by rwa [prgStopped_phaseOpen]) ha)
  · exact exec_programWindowWrite_of_refused (e := .prgBusy) hcore h (progWrite_of_busy (by rwa [prgStopped_phaseOpen]))
  · exact exec_bankWindowWrite_of_stored hcore hclear hwake hdrain h
  · exact exec_bankWindowWrite_of_refused hcore hclear hwake hdrain h
  · exact exec_bankWindowRead hcore hclear hwake hdrain h
  · exact progWord_putProg_self s k v ha
  · exact progWord_putProg_ne s v ha

end Sys2Proof.Proofs
end

section
/-! PROOFS. The host bus cycle (spec/08 R194-R206): the address phase, plain registers, offsets without a register and the
reads that clear, and O21. -/

namespace Sys2Proof.Proofs

open Sys2Proof Sys2Proof.Machine Sys2Proof.Spec

/-! ### Offsets (R195) -/

theorem nextOff_of_plain {off : Word} (hparam : off ≠ 0x11) (hprog : off ≠ 0x56) (hbank : off ≠ 0x26) :
    nextOff off = off + 1 := by
  rw [nextOff, if_neg hparam, if_neg (not_or.mpr ⟨hprog, hbank⟩)]

/-- The offset `m` of a register that is no window, and the next. -/
theorem nextOff_ofNat {m : Nat} (hm : m < 0x10000) (hparam : m ≠ 0x11) (hprog : m ≠ 0x56) (hbank : m ≠ 0x26) :
    nextOff (BitVec.ofNat 16 m) = BitVec.ofNat 16 (m + 1) := by
  have hne {j : Nat} (hj : j < 0x10000) (h : m ≠ j) : BitVec.ofNat 16 m ≠ BitVec.ofNat 16 j := fun he => h <| by
    simpa [Nat.mod_eq_of_lt hm, Nat.mod_eq_of_lt hj] using congrArg BitVec.toNat he
  rw [nextOff_of_plain (hne (by decide) hparam) (hne (by decide) hprog) (hne (by decide) hbank), BitVec.ofNat_add]
  rfl

theorem toNat_offset {n : Nat} (hn : n < 44) (hi : Bool) :
    (BitVec.ofNat 16 (2 * n + hi.toNat)).toNat = 2 * n + hi.toNat := by
  have := hi.toNat_le
  rw [BitVec.toNat_ofNat]; omega

/-! ### Reads of registers that are no windows (R202, R203) -/

theorem regView_phaseOpen (s : State) (c d : Cls) (n : Nat) : regView (phaseOpen s c) d n = regView s d n := by
  cases c <;> cases d <;> rfl

theorem readLo_phaseOpen (s : State) (c : Cls) (n : Nat) : readLo (phaseOpen s c) c n = phaseOpen (readLo s c n) c := by
  unfold readLo
  split <;> cases c <;> rfl

theorem regRead_of_register {s : State} {c : Cls} {n : Nat} (hacc : regAccess s c n false = none) (hparam : n ≠ 8)
    (hbank : n ≠ 19) (u : Option Upset) : regRead s c n u = (s, regView s c n, none) := by
  rw [regRead, hacc]
  simp [hparam, hbank]

theorem regRead_phaseOpen {s : State} {c : Cls} {n : Nat} (hacc : regAccess s c n false = none) (hparam : n ≠ 8)
    (hbank : n ≠ 19) (u : Option Upset) : regRead (phaseOpen s c) c n u = (phaseOpen s c, regView s c n, none) := by
  rw [regRead_of_register (by rwa [regAccess_phaseOpen]) hparam hbank, regView_phaseOpen]

section
variable {s : State} {sec : Bool} {n : Nat} (hn : n < 44) (hparam : n ≠ 8) (hbank : n ≠ 19) (hprog : n ≠ 43)
  (hacc : regAccess s (hostOf sec) n false = none)
include hn hparam hbank hprog hacc

theorem hostRead_register_lower (h : reading s (BitVec.ofNat 16 (2 * n)) sec = true) (u : Option Upset) :
    hostRead s u =
      lowerRead (readLo s (hostOf sec) n) sec n (regView s (hostOf sec) n) (BitVec.ofNat 16 (2 * n + 1)) := by
  obtain ⟨-, -, hq⟩ := reading_iff.mp h
  rw [hostRead_lower h (toNat_offset hn false) (regHeld_of_quiet hq _ hbank) rfl (regRead_phaseOpen hacc hparam hbank u)
    (readLo_phaseOpen s _ n), autoInc_of_plain hparam hbank hprog,
    nextOff_ofNat (by omega) (by omega) (by omega) (by omega)]

theorem hostRead_register_held {v : Word} (htime : n ≠ 4) (h : reading s (BitVec.ofNat 16 (2 * n + 1)) sec = true)
    (hhold : (s.cls (hostOf sec)).hold = some (n, v)) (u : Option Upset) :
    hostRead s u = upperRead s sec v (BitVec.ofNat 16 (2 * n + 2)) := by
  obtain ⟨-, -, hq⟩ := reading_iff.mp h
  rw [hostRead_upper_of_hold h (toNat_offset hn true) (regHeld_of_quiet hq _ hbank) rfl hacc htime hhold,
    autoInc_of_plain hparam hbank hprog, nextOff_ofNat (by omega) (by omega) (by omega) (by omega)]

theorem hostRead_register_live (h : reading s (BitVec.ofNat 16 (2 * n + 1)) sec = true)
    (hhold : (s.cls (hostOf sec)).hold = none)
    (heff : disarm (readHi (phaseOpen s (hostOf sec)) (hostOf sec) n) (hostOf sec) n = phaseOpen s (hostOf sec))
    (u : Option Upset) :
    hostRead s u = upperRead s sec (hiHalf (regView s (hostOf sec) n)) (BitVec.ofNat 16 (2 * n + 2)) := by
  obtain ⟨-, -, hq⟩ := reading_iff.mp h
  rw [hostRead_upper_of_live h (toNat_offset hn true) (regHeld_of_quiet hq _ hbank) rfl hhold hbank
    (regRead_phaseOpen hacc hparam hbank u) heff, autoInc_of_plain hparam hbank hprog,
    nextOff_ofNat (by omega) (by omega) (by omega) (by omega)]

end

/-! ### Plain registers -/

/-- The registers with rows or side effects of their own. -/
def specialRegs : List Nat := [2, 4, 8, 9, 15, 17, 19, 23, 24, 31, 43]

theorem plainReg_iff {n : Nat} : plainReg n = true ↔ n < 44 ∧ n ∉ specialRegs := by
  simp [plainReg, specialRegs]

theorem readLo_of_plain {n : Nat} (h : n ∉ specialRegs) (s : State) (c : Cls) : readLo s c n = s := by
  unfold readLo
  split
  case h_8 => rfl
  all_goals exact absurd (by decide) h

theorem readHi_of_plain {n : Nat} (h : n ∉ specialRegs) (s : State) (c : Cls) : readHi s c n = s := by
  unfold readHi
  split
  case h_6 => rfl
  all_goals exact absurd (by decide) h

/-- Every offset but those of the special registers' rows belongs to REGISTER_READ. -/
theorem exec_registerRead {s : State} {off : Word} {sec hi : Bool} {n : Nat} (h : reading s off sec = true)
    (hoff : off.toNat = 2 * n + hi.toNat) (hspecial : n ∉ specialRegs) : exec .registerRead s = .next (hostRead s none) := by
  obtain ⟨hcyc, -⟩ := reading_iff.mp h
  obtain ⟨hn, -⟩ := register_of_offset hoff
  have hrow : off.toNat ∉ [0x04, 0x11, 0x12, 0x1E, 0x22, 0x26, 0x2E, 0x30, 0x3E, 0x56] := fun hm => hspecial <| by
    rw [← hn]
    simp only [List.mem_cons, List.not_mem_nil, or_false] at hm
    rcases hm with h | h | h | h | h | h | h | h | h | h <;> rw [h] <;> decide
  simp only [exec, execRegisterRead, hcyc]
  exact if_pos ⟨by simp, by simpa using hrow⟩

theorem ne_of_plain {n m : Nat} (h : n ∉ specialRegs) (hm : m ∈ specialRegs) : n ≠ m := fun he => h (he ▸ hm)

section
variable {s : State} {sec : Bool} {n : Nat} (hplain : plainReg n = true) (hacc : regAccess s (hostOf sec) n false = none)
include hplain hacc

theorem exec_registerRead_lower (h : reading s (BitVec.ofNat 16 (2 * n)) sec = true) :
    exec .registerRead s = .next (lowerRead s sec n (regView s (hostOf sec) n) (BitVec.ofNat 16 (2 * n + 1))) := by
  obtain ⟨hn, hspecial⟩ := plainReg_iff.mp hplain
  rw [exec_registerRead h (toNat_offset hn false) hspecial, hostRead_register_lower hn (ne_of_plain hspecial (by decide))
    (ne_of_plain hspecial (by decide)) (ne_of_plain hspecial (by decide)) hacc h, readLo_of_plain hspecial]

theorem exec_registerRead_held {v : Word} (h : reading s (BitVec.ofNat 16 (2 * n + 1)) sec = true)
    (hhold : (s.cls (hostOf sec)).hold = some (n, v)) :
    exec .registerRead s = .next (upperRead s sec v (BitVec.ofNat 16 (2 * n + 2))) := by
  obtain ⟨hn, hspecial⟩ := plainReg_iff.mp hplain
  rw [exec_registerRead h (toNat_offset hn true) hspecial, hostRead_register_held hn (ne_of_plain hspecial (by decide))
    (ne_of_plain hspecial (by decide)) (ne_of_plain hspecial (by decide)) hacc (ne_of_plain hspecial (by decide)) h hhold]

theorem exec_registerRead_live (h : reading s (BitVec.ofNat 16 (2 * n + 1)) sec = true)
    (hhold : (s.cls (hostOf sec)).hold = none) : exec .registerRead s =
      .next (upperRead s sec (hiHalf (regView s (hostOf sec) n)) (BitVec.ofNat 16 (2 * n + 2))) := by
  obtain ⟨hn, hspecial⟩ := plainReg_iff.mp hplain
  have heff : disarm (readHi (phaseOpen s (hostOf sec)) (hostOf sec) n) (hostOf sec) n = phaseOpen s (hostOf sec) := by
    rw [disarm, if_neg (ne_of_plain hspecial (by decide)), readHi_of_plain hspecial]
  rw [exec_registerRead h (toNat_offset hn true) hspecial, hostRead_register_live hn (ne_of_plain hspecial (by decide))
    (ne_of_plain hspecial (by decide)) (ne_of_plain hspecial (by decide)) hacc h hhold heff]

end

/-! ### Reads that clear (R203) -/

/-- What the statement's list of clearing reads gives of each: its register, its side effect and its offset. -/
theorem clearingReads_spec : ∀ row ∈ clearingReads,
    row.2.1 ∈ [9, 15, 17, 23, 24, 31] ∧ (∀ s sec, readLo s (hostOf sec) row.2.1 = row.2.2 sec s) ∧
    ∀ s, exec row.1 s = phaseRead [2 * row.2.1] none s := by
  intro row hrow
  simp only [clearingReads, List.mem_cons, List.not_mem_nil, or_false] at hrow
  rcases hrow with rfl | rfl | rfl | rfl | rfl | rfl <;> exact ⟨by decide, fun _ _ => rfl, fun s => by dsimp only; rfl⟩

theorem exec_clearingRead {row : Instr × Nat × (Bool → State → State)} (hrow : row ∈ clearingReads) {s : State} {sec : Bool}
    (hcore : s.pwr.coreUp = true) (h : reading s (BitVec.ofNat 16 (2 * row.2.1)) sec = true) :
    exec row.1 s = .next (lowerRead (row.2.2 sec s) sec row.2.1 (regView s (hostOf sec) row.2.1)
      (BitVec.ofNat 16 (2 * row.2.1 + 1))) := by
  obtain ⟨hn, heff, hexec⟩ := clearingReads_spec row hrow
  have hbounds : ∀ n ∈ [9, 15, 17, 23, 24, 31], n < 40 ∧ n ≠ 8 ∧ n ≠ 16 ∧ n ≠ 19 := by decide
  obtain ⟨hlt, hparam, howner, hbank⟩ := hbounds _ hn
  have hacc := regAccess_of_open hlt howner (fun _ => hcore) (hostOf sec) false
  have hoff : (BitVec.ofNat 16 (2 * row.2.1)).toNat = 2 * row.2.1 := toNat_offset (by omega) false
  rw [hexec, phaseRead_of_mem h (List.mem_singleton.mpr hoff),
    hostRead_register_lower (by omega) hparam hbank (by omega) hacc h, heff]

/-! ### Offsets without a register (R204, R206) -/

section
variable {s : State} {off : Word} {sec : Bool} (hoff : 88 ≤ off.toNat)
include hoff

theorem nextOff_of_unmapped : nextOff off = off + 1 := by
  have hne {w : Word} (hw : w.toNat < 88) : off ≠ w := fun he => by rw [he] at hoff; omega
  exact nextOff_of_plain (hne (by decide)) (hne (by decide)) (hne (by decide))

theorem writeRow_of_unmapped (d : Word) : writeRow s ⟨off, true, sec⟩ d = .reg := by
  unfold writeRow
  split <;> simp_all

theorem exec_registerWrite_unmapped (h : writing s off sec = true) (d : Word) :
    exec (.registerWrite d) s = .next (phaseFailed s sec 1 off (off + 1)) := by
  obtain ⟨-, -, hq⟩ := writing_iff.mp h
  have hput : busPut (phaseOpen s (hostOf sec)) (hostOf sec) off d = (phaseOpen s (hostOf sec), some .unmapped) := by
    rw [busPut, regAccess_of_unmapped (by omega)]
  refine (phaseWrite_of_row h (writeRow_of_unmapped hoff d)).trans (congrArg _ ?_)
  rw [hostWrite_of_refused h (offset_eq _) (regHeld_of_quiet hq _ (by omega)) hput,
    autoInc_of_plain (by omega) (by omega) (by omega), nextOff_of_unmapped hoff]
  rfl

theorem exec_registerRead_unmapped (h : reading s off sec = true) :
    exec .registerRead s = .next (readFailed s sec 1 off (off + 1)) := by
  obtain ⟨-, -, hq⟩ := reading_iff.mp h
  have hspecial : off.toNat / 2 ∉ specialRegs := fun hm => by
    have hbound : ∀ n ∈ specialRegs, n < 44 := by decide
    have := hbound _ hm
    omega
  rw [exec_registerRead h (offset_eq _) hspecial, hostRead_of_denied h (offset_eq _) (regHeld_of_quiet hq _ (by omega))
    (regAccess_of_unmapped (by omega) _ _ _) (by decide), autoInc_of_plain (by omega) (by omega) (by omega),
    nextOff_of_unmapped hoff]
  rfl

end

/-! ### HB_CLIENT and SLU_NOTICE (R201) -/

theorem toNat_ofHalves (hi lo : Word) : (ofHalves hi lo).toNat = lo.toNat + 65536 * hi.toNat := by
  rw [ofHalves, BitVec.toNat_append, ← Nat.shiftLeft_add_eq_or_of_lt lo.isLt, Nat.shiftLeft_eq]
  omega

/-- A write that changes a class's registers alone. -/
theorem hostWrite_of_modCls {s : State} {off d : Word} {sec hi : Bool} {n : Nat} {f : ClsBank → ClsBank}
    (h : writing s off sec = true) (hoff : off.toNat = 2 * n + hi.toNat) (hparam : n ≠ 8) (hbank : n ≠ 19) (hprog : n ≠ 43)
    (hput : busPut (phaseOpen s (hostOf sec)) (hostOf sec) off d = ((phaseOpen s (hostOf sec)).modCls (hostOf sec) f, none)) :
    hostWrite s d = (phaseDone s sec (nextOff off)).modCls (hostOf sec) f := by
  obtain ⟨-, -, hq⟩ := writing_iff.mp h
  rw [hostWrite_of_put h hoff (regHeld_of_quiet hq _ hbank) hput, autoInc_of_plain hparam hbank hprog, advance_modCls,
    advance_phaseOpen_write]

section
variable {s : State} {sec : Bool} {d : Word}

theorem exec_registerWrite_client (h : writing s 0x0C sec = true) : exec (.registerWrite d) s =
    .next ((phaseDone s sec 0x0D).modCls (hostOf sec) (fun b => { b with client := BitVec.ofNat 10 d.toNat })) := by
  have hacc : regAccess (phaseOpen s (hostOf sec)) (hostOf sec) 6 true = none :=
    regAccess_of_open (by decide) (by decide) (fun h => absurd h (by decide)) _ _
  have hput := busPut_lower_of_unpaired (off := 0x0C) (d := d) hacc rfl rfl
  rw [← extractLsb'_ofHalves_zero d (by decide)]
  refine (phaseWrite_of_row h rfl).trans (congrArg _ ?_)
  exact hostWrite_of_modCls (n := 6) (hi := false) h rfl (by decide) (by decide) (by decide) hput

theorem regAccess_notice (hcore : s.pwr.coreUp = true) (c d : Cls) : regAccess (phaseOpen s c) d 12 true = none :=
  regAccess_of_open (by decide) (by decide) (fun _ => by rwa [phaseOpen_pwr]) d true

theorem exec_registerWrite_noticeLower (hcore : s.pwr.coreUp = true) (h : writing s 0x18 sec = true) :
    exec (.registerWrite d) s =
      .next ((phaseDone s sec 0x19).modCls (hostOf sec) (fun b => { b with stage := mput b.stage 12 d })) := by
  have hput := busPut_lower_of_paired (off := 0x18) (d := d) (regAccess_notice hcore (hostOf sec) (hostOf sec)) rfl rfl
  refine (phaseWrite_of_row h rfl).trans (congrArg _ ?_)
  exact hostWrite_of_modCls (n := 12) (hi := false) h rfl (by decide) (by decide) (by decide) hput

theorem extractLsb'_ofHalves (hi lo : Word) (start len : Nat) :
    (ofHalves hi lo).extractLsb' start len = BitVec.ofNat len ((lo.toNat + 65536 * hi.toNat) / 2 ^ start) :=
  BitVec.eq_of_toNat_eq (by rw [BitVec.extractLsb'_toNat, toNat_ofHalves, Nat.shiftRight_eq_div_pow, BitVec.toNat_ofNat])

/-- SLU_NOTICE as its two halves give it to a host class, with nothing staged (R201, R235). -/
def noticeWritten (lo d : Word) (b : ClsBank) : ClsBank :=
  { b with stage := mdel b.stage 12, nKind := BitVec.ofNat 2 lo.toNat,
           nOff := BitVec.ofNat 14 ((lo.toNat + 65536 * d.toNat) / 32768), nBank := BitVec.ofNat 3 (d.toNat / 8192) }

theorem regPut_notice (s : State) (sec : Bool) (lo d : Word) :
    regPut (s.modCls (hostOf sec) (fun b => { b with stage := mdel b.stage 12 })) (hostOf sec) 12 true true (ofHalves d lo) =
      (s.modCls (hostOf sec) (noticeWritten lo d), none) := by
  have hkind : (ofHalves d lo).extractLsb' 0 2 = BitVec.ofNat 2 lo.toNat := by
    rw [extractLsb'_ofHalves]
    exact BitVec.eq_of_toNat_eq (by simp only [BitVec.toNat_ofNat]; omega)
  have hoff : (ofHalves d lo).extractLsb' 15 14 = BitVec.ofNat 14 ((lo.toNat + 65536 * d.toNat) / 32768) :=
    extractLsb'_ofHalves d lo 15 14
  have hbank : (ofHalves d lo).extractLsb' 29 3 = BitVec.ofNat 3 (d.toNat / 8192) := by
    rw [extractLsb'_ofHalves]
    exact BitVec.eq_of_toNat_eq (by simp only [BitVec.toNat_ofNat]; omega)
  simp only [regPut, modCls_modCls, hkind, hoff, hbank]
  cases sec <;> rfl

theorem exec_registerWrite_noticeUpper {lo : Word} (hcore : s.pwr.coreUp = true) (h : writing s 0x19 sec = true)
    (hstage : mget (s.cls (hostOf sec)).stage 12 = some lo) :
    exec (.registerWrite d) s = .next ((phaseDone s sec 0x1A).modCls (hostOf sec) (noticeWritten lo d)) := by
  have hopen : mget ((phaseOpen s (hostOf sec)).cls (hostOf sec)).stage 12 = some lo := by rwa [phaseOpen_cls]
  have hput := busPut_upper_of_paired (off := 0x19) (d := d) (regAccess_notice hcore (hostOf sec) (hostOf sec)) rfl rfl hopen
  rw [regPut_notice] at hput
  refine (phaseWrite_of_row h rfl).trans (congrArg _ ?_)
  exact hostWrite_of_modCls (n := 12) (hi := true) h rfl (by decide) (by decide) (by decide) hput

theorem exec_busAddressPhase {off : Word} {wr : Bool} (hbus : busOn s = true) (hq : quiet s = true) :
    exec (.busAddressPhase off wr sec) s =
      .next { s with bus := { s.bus with cyc := some ⟨off, wr, sec⟩, herr := false, held := false } } := by
  simp only [exec, execBusAddressPhase, hbus, if_true, idleNow_wakeEvent_of_quiet hq]

end

/-- Settles O21: writes of a class's registers, plain reads, offsets without a register and clearing reads, each by the state
that its data phase reaches. -/
theorem hostBusCycle : Obligations.HostBusCycle := by
  refine ⟨fun s sec wr off d n => ⟨exec_busAddressPhase, exec_registerWrite_client,
    fun h hcore => exec_registerWrite_noticeLower hcore h, fun lo h hcore hstage => exec_registerWrite_noticeUpper hcore h hstage,
    fun hplain hacc => ⟨exec_registerRead_lower hplain hacc, fun h => ⟨fun v => exec_registerRead_held hplain hacc h,
      exec_registerRead_live hplain hacc h⟩⟩,
    fun hoff => ⟨fun h => exec_registerWrite_unmapped hoff h d, exec_registerRead_unmapped hoff⟩⟩,
    fun row hrow s sec hcore h => exec_clearingRead hrow hcore h⟩

end Sys2Proof.Proofs
end

section
/-! PROOFS. Live writes of parameters (spec/08 R211, R212, R216): what a parameter write answers, and that its consequences have
no part in the host bus or in the registers of its classes. -/

namespace Sys2Proof.Proofs

open Sys2Proof Sys2Proof.Machine Sys2Proof.Spec

/-! ### The host's side of the state -/

/-- The state with another host bus and other registers of the two host classes. -/
def withHost (s : State) (u : BusSt) (ns sec : ClsBank) : State := { s with bus := u, ns := ns, sec := sec }

section
variable (s : State) (u : BusSt) (ns sec : ClsBank)

theorem updateFe_withHost : updateFe (withHost s u ns sec) = withHost (updateFe s) u ns sec := rfl

theorem cmdVcore_withHost (n : Int) : cmdVcore (withHost s u ns sec) n = withHost (cmdVcore s n) u ns sec := by
  unfold cmdVcore
  simp only [apply_ite (withHost · u ns sec)]
  rfl

theorem reclip_withHost : reclip (withHost s u ns sec) = withHost (reclip s) u ns sec := by
  unfold reclip
  simp only [apply_ite (withHost · u ns sec), ← cmdVcore_withHost]
  rfl

theorem keepPace_withHost (key : Nat) (old : Int) :
    keepPace (withHost s u ns sec) key old = withHost (keepPace s key old) u ns sec := by
  unfold keepPace
  simp only [apply_ite (withHost · u ns sec)]
  rfl

theorem setParBit_withHost (k i : Nat) (b : Bool) :
    (withHost s u ns sec).setParBit k i b = withHost (s.setParBit k i b) u ns sec := by
  unfold State.setParBit
  simp only [apply_ite (withHost · u ns sec)]
  rfl

theorem postImm_withHost (t data : Nat) : postImm (withHost s u ns sec) t data = withHost (postImm s t data) u ns sec := by
  unfold postImm coalesce
  simp only [apply_ite (withHost · u ns sec), ← setParBit_withHost]
  rfl

theorem relevel_withHost (always : Bool) (cause idx : Nat) :
    relevel (withHost s u ns sec) always cause idx = withHost (relevel s always cause idx) u ns sec := by
  unfold relevel noteLevel
  by_cases hlevel : levelNow s = s.pwr.level
  · have hlevel' : levelNow (withHost s u ns sec) = (withHost s u ns sec).pwr.level := hlevel
    simp only [if_pos hlevel, if_pos hlevel', apply_ite (withHost · u ns sec), ← postImm_withHost]
    rfl
  · have hlevel' : ¬ levelNow (withHost s u ns sec) = (withHost s u ns sec).pwr.level := hlevel
    simp only [if_neg hlevel, if_neg hlevel', apply_ite (withHost · u ns sec), ← postImm_withHost]
    rfl

theorem unitRecover_withHost (k : Nat) : unitRecover (withHost s u ns sec) k = withHost (unitRecover s k) u ns sec :=
  relevel_withHost { s with pwr := { s.pwr with unitFlt := setBit s.pwr.unitFlt k false } } u ns sec true 3 k

/-- The state with a level's change told (R478). -/
def withChg (t : State) : State := { t with pwr := { t.pwr with chg := true } }

theorem gauDisable_withHost : gauDisable (withHost s u ns sec) = withHost (gauDisable s) u ns sec := by
  unfold gauDisable
  simp only [apply_ite (withHost · u ns sec)]
  congr 1
  exact congrArg withChg (unitRecover_withHost
    { s with gau := { s.gau with fault := false, absentRun := 0, disarmed := setBit s.gau.disarmed 3 false } } u ns sec 6)

theorem placeRing_withHost (key : Nat) : placeRing (withHost s u ns sec) key = withHost (placeRing s key) u ns sec := by
  unfold placeRing
  simp only [apply_ite (withHost · u ns sec)]
  rfl

theorem gauRescale_withHost (old : Int) :
    gauRescale (withHost s u ns sec) old = withHost (gauRescale s old) u ns sec := rfl

/-- What follows from a live value, but for the release of the cores by sys.boot, has no part in the host's side. -/
theorem paramHook_withHost {key : Nat} (hboot : key ≠ pSysBoot) (old : Int) :
    paramHook (withHost s u ns sec) key old = withHost (paramHook s key old) u ns sec := by
  unfold paramHook
  simp only [if_neg hboot, apply_ite (withHost · u ns sec), ← updateFe_withHost, ← reclip_withHost, ← cmdVcore_withHost,
    ← keepPace_withHost, ← gauDisable_withHost, ← gauRescale_withHost, ← placeRing_withHost]
  rfl

end

end Sys2Proof.Proofs
end

section
/-! PROOFS. The parameter window (spec/08 R205, R211, R216, R219): what a parameter write answers, the data phases of HB_PDATA,
and O23. -/

namespace Sys2Proof.Proofs

open Sys2Proof Sys2Proof.Machine Sys2Proof.Spec

/-! ### What follows from a live value beside the host's side -/

theorem paramHook_host {key : Nat} (hboot : key ≠ pSysBoot) (s : State) (old : Int) :
    (paramHook s key old).bus = s.bus ∧ (paramHook s key old).ns = s.ns ∧ (paramHook s key old).sec = s.sec := by
  have hself : paramHook s key old = withHost (paramHook s key old) s.bus s.ns s.sec :=
    paramHook_withHost s s.bus s.ns s.sec hboot old
  exact ⟨(congrArg State.bus hself :), (congrArg State.ns hself :), (congrArg State.sec hself :)⟩

theorem paramHook_advance {key : Nat} (hboot : key ≠ pSysBoot) (s : State) (old : Int) (y : BusCyc) :
    paramHook (advance s y) key old = advance (paramHook s key old) y := by
  obtain ⟨hbus, hns, hsec⟩ := paramHook_host hboot s old
  refine (paramHook_withHost s (advance s y).bus s.ns s.sec hboot old).trans ?_
  simp only [advance, withHost, ← hbus, ← hns, ← hsec]

theorem paramHook_modCls {key : Nat} (hboot : key ≠ pSysBoot) (s : State) (old : Int) (sec : Bool) (f : ClsBank → ClsBank) :
    paramHook (s.modCls (hostOf sec) f) key old = (paramHook s key old).modCls (hostOf sec) f := by
  obtain ⟨hbus, hns, hsec⟩ := paramHook_host hboot s old
  cases sec with
  | false =>
    refine (paramHook_withHost s s.bus (f s.ns) s.sec hboot old).trans ?_
    rw [← hbus, ← hns, ← hsec]; rfl
  | true =>
    refine (paramHook_withHost s s.bus s.ns (f s.sec) hboot old).trans ?_
    rw [← hbus, ← hns, ← hsec]; rfl

/-- HB_PSEL's index after an upper-word data phase of HB_PDATA (R211). -/
def indexNext (b : ClsBank) : ClsBank := { b with pindex := if b.pinc then b.pindex + 1 else b.pindex }

/-- A class's registers, whose shadow is overtaken when it holds the key (R218). -/
def overtaken (key : Nat) (b : ClsBank) : ClsBank :=
  if b.txn.isOpen ∧ (mget b.txn.shadow key).isSome then { b with txn := { b.txn with dirty := true } } else b

theorem overtaken_indexNext (key : Nat) (b : ClsBank) : overtaken key (indexNext b) = indexNext (overtaken key b) := by
  rw [overtaken, overtaken, apply_ite indexNext]
  rfl

theorem markDirty_indexNext (s : State) (sec : Bool) (key : Nat) :
    markDirty (s.modCls (hostOf sec) indexNext) key = (markDirty s key).modCls (hostOf sec) indexNext := by
  cases sec with
  | false => exact congrArg (fun b => { (markDirty s key) with ns := b }) (overtaken_indexNext key s.ns)
  | true => exact congrArg (fun b => { (markDirty s key) with sec := b }) (overtaken_indexNext key s.sec)

/-! ### Writes of a parameter -/

section
variable {s : State} {c : Cls} {key : Nat} {v : BitVec 32} {r : PRow} {x : Int} (hacc : paramAccess s c key = none)

theorem paramWrite_of_denied {e : Cause} (hdeny : paramAccess s c key = some e) : paramWrite s c key v = (s, some e) := by
  simp only [paramWrite, hdeny]

variable (hrow : paramRow key = some r)
include hacc hrow

theorem paramWrite_of_readOnly (hro : r.acc = .ro) : paramWrite s c key v = (s, none) := by
  simp only [paramWrite, hacc, hrow, hro, if_true]

theorem paramWrite_of_pending (hro : r.acc ≠ .ro) (hpend : keyPending s key = true) :
    paramWrite s c key v = (s, some .pending) := by
  simp only [paramWrite, hacc, hrow, if_neg hro, hpend, if_true]

variable (hfree : keyPending s key = false)
include hfree

theorem paramWrite_of_range (hro : r.acc ≠ .ro) (hdec : paramDecode key r v = none) : paramWrite s c key v = (s, some .range) := by
  simp [paramWrite, hacc, hrow, hro, hfree, hdec]

variable (hdec : paramDecode key r v = some x) (hwake : key ≠ pPwrWakeEn)
include hdec hwake

theorem paramWrite_of_shadowed (hrwx : r.acc = .rwx) (hopen : (txnOf s c).isOpen = true)
    (hroom : (txnOf s c).shadow.length < 64) :
    paramWrite s c key v = (s.modCls c (fun b => { b with txn := shadowPut b.txn key x }), none) := by
  have hforce : paramForce key x = x := if_neg hwake
  have hfull : ¬ 64 ≤ (txnOf s c).shadow.length := by omega
  simp [paramWrite, hacc, hrow, hrwx, hfree, hdec, hforce, hopen, hfull]
  rfl

variable (hro : r.acc ≠ .ro) (hw1c : r.acc ≠ .w1c) (hclosed : (txnOf s c).isOpen = false)
include hro hw1c hclosed

theorem paramWrite_of_live (hrule : ruleOk s (fun k => if k = key then x else s.par k) key = true) :
    paramWrite s c key v = (paramLive s key x, none) := by
  have hforce : paramForce key x = x := if_neg hwake
  simp [paramWrite, hacc, hrow, hro, hfree, hdec, hforce, hw1c, hclosed, hrule]

theorem paramWrite_of_rule (hrule : ruleOk s (fun k => if k = key then x else s.par k) key = false) :
    paramWrite s c key v = (s, some .rule) := by
  have hforce : paramForce key x = x := if_neg hwake
  simp [paramWrite, hacc, hrow, hro, hfree, hdec, hforce, hw1c, hclosed, hrule]

end

/-! ### The data phases of HB_PDATA -/

/-- The state in which HB_PDATA's upper word writes the parameter: the staged lower word is used up. -/
def paramOpen (s : State) (sec : Bool) : State :=
  (phaseOpen s (hostOf sec)).modCls (hostOf sec) (fun b => { b with stage := mdel b.stage 8 })

theorem paramAccess_paramOpen (s : State) (sec : Bool) (c : Cls) (key : Nat) :
    paramAccess (paramOpen s sec) c key = paramAccess s c key := by cases sec <;> rfl

theorem keyPending_paramOpen (s : State) (sec : Bool) (key : Nat) :
    keyPending (paramOpen s sec) key = keyPending s key := by cases sec <;> rfl

theorem txnOf_paramOpen (s : State) (sec : Bool) : txnOf (paramOpen s sec) (hostOf sec) = txnOf s (hostOf sec) := by
  cases sec <;> rfl

theorem ruleOk_paramOpen (s : State) (sec : Bool) (key : Nat) (x : Int) :
    ruleOk (paramOpen s sec) (fun k => if k = key then x else (paramOpen s sec).par k) key =
      ruleOk s (fun k => if k = key then x else s.par k) key := by cases sec <;> rfl

theorem paramRead_phaseOpen (s : State) (sec : Bool) (key : Nat) :
    paramRead (phaseOpen s (hostOf sec)) (hostOf sec) key = paramRead s (hostOf sec) key := by cases sec <;> rfl

theorem regAccess_param (s : State) (c : Cls) (wr : Bool) : regAccess s c 8 wr = none :=
  regAccess_of_open (by decide) (by decide) (fun h => absurd h (by decide)) c wr

theorem writesParam_iff {s : State} {sec : Bool} {key : Nat} {lo : Word} : writesParam s sec key lo = true ↔
    writing s 0x11 sec = true ∧ selKey (s.cls (hostOf sec)) = key ∧ mget (s.cls (hostOf sec)).stage 8 = some lo := by
  simp [writesParam, and_assoc]

/-- The parameters whose writes are rows of their own (R254, R255, R474). -/
def ownRowKeys : List Nat := [pNtcMsrRd, pNtcEvtRd, pNtcMailBank, pNtcMsrBank, pNtcEvtBank, pSysBoot]

section
variable {s : State} {sec : Bool} {key : Nat} {lo d : Word} (h : writesParam s sec key lo = true)
include h

theorem writeRow_param (hkey : key ∉ ownRowKeys) : writeRow s ⟨0x11, true, sec⟩ d = .param := by
  obtain ⟨-, hsel, -⟩ := writesParam_iff.mp h
  simp only [ownRowKeys, List.mem_cons, List.not_mem_nil, or_false, not_or] at hkey
  obtain ⟨hmsr, hevt, hmail, hmsrBank, hevtBank, hboot⟩ := hkey
  have hc (off : Word) : cycCls ⟨off, true, sec⟩ = hostOf sec := rfl
  simp [writeRow, hc, hsel, hmsr, hevt, hmail, hmsrBank, hevtBank, hboot]

theorem busPut_param : busPut (phaseOpen s (hostOf sec)) (hostOf sec) 0x11 d =
    let w := paramWrite (paramOpen s sec) (hostOf sec) key (ofHalves d lo)
    (w.2.elim w.1 fun _ => phaseOpen s (hostOf sec), w.2) := by
  obtain ⟨-, hsel, hstage⟩ := writesParam_iff.mp h
  have hopen : mget ((phaseOpen s (hostOf sec)).cls (hostOf sec)).stage 8 = some lo := by rwa [phaseOpen_cls]
  have hkey : selKey ((paramOpen s sec).cls (hostOf sec)) = key := by
    rwa [paramOpen, State.cls_modCls_self, phaseOpen_cls]
  rw [← hkey]
  exact busPut_upper_of_paired (off := 0x11) (regAccess_param _ _ _) rfl rfl hopen

theorem exec_parameterWrite_of_put (hkey : key ∉ ownRowKeys) {t : State}
    (hw : paramWrite (paramOpen s sec) (hostOf sec) key (ofHalves d lo) = (t, none)) :
    exec (.parameterWrite d) s = .next ((advance t ⟨0x11, true, sec⟩).modCls (hostOf sec) indexNext) := by
  obtain ⟨hwr, -, -⟩ := writesParam_iff.mp h
  obtain ⟨-, -, hq⟩ := writing_iff.mp hwr
  have hput := busPut_param h (d := d)
  rw [hw] at hput
  refine (phaseWrite_of_row hwr (writeRow_param h hkey)).trans (congrArg _ ?_)
  exact (hostWrite_of_put (hi := true) hwr rfl (regHeld_of_quiet hq _ (by decide)) hput).trans (autoInc_param _ _ _)

theorem exec_parameterWrite_of_refused (hkey : key ∉ ownRowKeys) {e : Cause}
    (hw : paramWrite (paramOpen s sec) (hostOf sec) key (ofHalves d lo) = (paramOpen s sec, some e)) :
    exec (.parameterWrite d) s = .next (paramRefused s sec (causeCode e)) := by
  obtain ⟨hwr, -, -⟩ := writesParam_iff.mp h
  obtain ⟨-, -, hq⟩ := writing_iff.mp hwr
  have hput := busPut_param h (d := d)
  rw [hw] at hput
  refine (phaseWrite_of_row hwr (writeRow_param h hkey)).trans (congrArg _ ?_)
  exact (hostWrite_of_refused (hi := true) hwr rfl (regHeld_of_quiet hq _ (by decide)) hput).trans (autoInc_param _ _ _)

end

theorem advance_paramOpen (s : State) (sec : Bool) :
    (advance (paramOpen s sec) ⟨0x11, true, sec⟩).modCls (hostOf sec) indexNext = paramPhase s sec := by
  rw [paramOpen, advance_modCls, advance_phaseOpen_write, modCls_modCls]
  rfl

theorem advance_paramLive {key : Nat} (hboot : key ≠ pSysBoot) (s : State) (sec : Bool) (x : Int) :
    (advance (paramLive (paramOpen s sec) key x) ⟨0x11, true, sec⟩).modCls (hostOf sec) indexNext =
      paramHook (markDirty ((paramPhase s sec).setPar key x) key) key (s.par key) := by
  have hold : (paramOpen s sec).par key = s.par key := by cases sec <;> rfl
  have hset (t : State) : (t.modCls (hostOf sec) indexNext).setPar key x = (t.setPar key x).modCls (hostOf sec) indexNext := by
    cases sec <;> rfl
  rw [paramLive, hold, ← paramHook_advance hboot, ← paramHook_modCls hboot, ← advance_paramOpen, hset, markDirty_indexNext]
  rfl

theorem exec_parameterRead {s : State} {sec : Bool} {v : BitVec 32} (h : reading s 0x11 sec = true)
    (hhold : (s.cls (hostOf sec)).hold = none) (hread : paramRead s (hostOf sec) (selKey (s.cls (hostOf sec))) = (v, none)) :
    exec .parameterRead s = .next ((upperRead s sec (hiHalf v) 0x10).modCls (hostOf sec) indexNext) := by
  obtain ⟨-, -, hq⟩ := reading_iff.mp h
  have hsel : selKey ((phaseOpen s (hostOf sec)).cls (hostOf sec)) = selKey (s.cls (hostOf sec)) := by
    rw [phaseOpen_cls]; rfl
  have hopen : regRead (phaseOpen s (hostOf sec)) (hostOf sec) 8 none = (phaseOpen s (hostOf sec), v, none) := by
    rw [regRead, regAccess_param]
    simp only [if_true, hsel, paramRead_phaseOpen, hread]
  refine (phaseRead_of_mem h (by decide) none).trans (congrArg _ ?_)
  exact (hostRead_upper_of_live (hi := true) h rfl (regHeld_of_quiet hq _ (by decide)) rfl hhold (by decide) hopen rfl).trans
    (autoInc_param _ _ _)

/-- Settles O23: each write by what `paramWrite` answers, and a live value's consequences by their order with the end of the
data phase, which makes no difference. -/
theorem parameterWindow : Obligations.ParameterWindow := by
  refine ⟨fun s sec key lo d r x h hmsr hevt hmail hmsrBank hevtBank hboot => ?_,
    fun s key j x => ⟨par_setPar_self s key x, fun hj => par_setPar_ne s key j x hj.symm⟩,
    fun s sec v => exec_parameterRead⟩
  have hkey : key ∉ ownRowKeys := by simp [ownRowKeys, hmsr, hevt, hmail, hmsrBank, hevtBank, hboot]
  simp only [← paramAccess_paramOpen s sec, ← keyPending_paramOpen s sec, ← ruleOk_paramOpen s sec, ← txnOf_paramOpen s sec]
  refine ⟨fun hacc hrow hfree => ⟨fun hro => ?_, fun hro hdec => ?_, fun hrwx hdec hopen hroom hwake => ?_,
    fun hro hw1c hdec hclosed hwake => ⟨fun hrule => ?_, fun hrule => ?_⟩⟩, fun hdeny => ?_, fun hacc hrow hro hpend => ?_⟩
  · rw [exec_parameterWrite_of_put h hkey (paramWrite_of_readOnly hacc hrow hro), advance_paramOpen]
  · exact exec_parameterWrite_of_refused h hkey (paramWrite_of_range hacc hrow hfree hro hdec)
  · rw [exec_parameterWrite_of_put h hkey (paramWrite_of_shadowed hacc hrow hfree hdec hwake hrwx hopen hroom),
      advance_modCls, modCls_modCls, ← advance_paramOpen, modCls_modCls]
    rfl
  · rw [exec_parameterWrite_of_put h hkey (paramWrite_of_live hacc hrow hfree hdec hwake hro hw1c hclosed hrule),
      advance_paramLive hboot]
  · exact exec_parameterWrite_of_refused h hkey (paramWrite_of_rule hacc hrow hfree hdec hwake hro hw1c hclosed hrule)
  · exact exec_parameterWrite_of_refused h hkey (paramWrite_of_denied hdeny)
  · exact exec_parameterWrite_of_refused h hkey (paramWrite_of_pending hacc hrow hro hpend)

end Sys2Proof.Proofs
end

section
/-! PROOFS. The calendar of the RTC (spec/09 R238, spec/17 R410, R411, R413): packed BCD, and what the second tick, a load and
a write leave in its fields. -/

namespace Sys2Proof.Proofs

open Sys2Proof Sys2Proof.Machine Sys2Proof.Spec

/-! ### Packed BCD -/

theorem bcdOk_iff {v lo hi : Nat} : bcdOk v lo hi = true ↔ v / 16 ≤ 9 ∧ v % 16 ≤ 9 ∧ lo ≤ bcdVal v ∧ bcdVal v ≤ hi := by
  simp [bcdOk, and_assoc]

theorem bcdVal_toBcd (n : Nat) : bcdVal (toBcd n) = n := by
  unfold bcdVal toBcd
  omega

theorem toBcd_lt {n m : Nat} (h : n < 10 * m) : toBcd n < 16 * m := by
  unfold toBcd
  omega

theorem bcdOk_toBcd {n lo hi : Nat} (hlo : lo ≤ n) (hhi : n ≤ hi) (h : hi ≤ 99) : bcdOk (toBcd n) lo hi = true := by
  rw [bcdOk_iff, bcdVal_toBcd]
  unfold toBcd
  omega

/-- A BCD field that advances holds a value of its range again. -/
theorem exists_bcdNext {v first last : Nat} (hv : first ≤ bcdVal v) (hle : first ≤ last) :
    ∃ n, first ≤ n ∧ n ≤ last ∧ (bcdNext v first last).2 = toBcd n := by
  unfold bcdNext
  split
  · exact ⟨first, le_refl _, hle, rfl⟩
  · exact ⟨bcdVal v + 1, by omega, by omega, rfl⟩

theorem bcdNext_of_carry {v first last : Nat} (h : (bcdNext v first last).1 = true) : (bcdNext v first last).2 = toBcd first := by
  unfold bcdNext at *
  split at h
  · simp_all
  · simp at h

theorem monthDays_bounds (month year : Nat) : 28 ≤ monthDays month year ∧ monthDays month year ≤ 31 := by
  unfold monthDays
  split
  · split <;> omega
  · omega
  · omega
  · omega
  · omega
  · omega

/-! ### A legal calendar and changes of one field -/

/-- What `calendarOk` says, field by field. -/
structure Legal (r : RtcSt) : Prop where
  sec : bcdOk r.sec.toNat 0 59 = true
  min : bcdOk r.min.toNat 0 59 = true
  hour : bcdOk r.hour.toNat 0 23 = true
  wday : 1 ≤ r.wday.toNat
  day : bcdOk r.day.toNat 1 31 = true
  month : bcdOk r.month.toNat 1 12 = true
  year : bcdOk r.year.toNat 0 99 = true
  fits : bcdVal r.day.toNat ≤ monthDays (bcdVal r.month.toNat) (bcdVal r.year.toNat)

theorem calendarOk_iff {r : RtcSt} : calendarOk r = true ↔ Legal r := by
  simp only [calendarOk, Bool.and_eq_true, decide_eq_true_eq, and_assoc]
  exact ⟨fun ⟨hs, hm, hh, hw, hd, hmo, hy, hf⟩ => ⟨hs, hm, hh, hw, hd, hmo, hy, hf⟩,
    fun h => ⟨h.sec, h.min, h.hour, h.wday, h.day, h.month, h.year, h.fits⟩⟩

/-- A field of `w` bits holds the BCD number of a value of its range. -/
theorem toNat_ofNat_toBcd {w n m : Nat} (hn : n < 10 * m) (hw : 16 * m ≤ 2 ^ w) : (BitVec.ofNat w (toBcd n)).toNat = toBcd n := by
  rw [BitVec.toNat_ofNat, Nat.mod_eq_of_lt ((toBcd_lt hn).trans_le hw)]

theorem bcdOk_ofNat_toBcd {w n lo hi : Nat} (hlo : lo ≤ n) (hhi : n ≤ hi) (h : hi ≤ 99) (hw : 16 * (hi / 10 + 1) ≤ 2 ^ w) :
    bcdOk (BitVec.ofNat w (toBcd n)).toNat lo hi = true := by
  rw [toNat_ofNat_toBcd (by omega) hw]
  exact bcdOk_toBcd hlo hhi h

theorem bcdVal_ofNat_toBcd {w n m : Nat} (hn : n < 10 * m) (hw : 16 * m ≤ 2 ^ w) :
    bcdVal (BitVec.ofNat w (toBcd n)).toNat = n := by
  rw [toNat_ofNat_toBcd hn hw, bcdVal_toBcd]

section
variable {r : RtcSt} (h : Legal r) {n : Nat}
include h

theorem Legal.setSec (hn : n ≤ 59) : Legal { r with sec := BitVec.ofNat 7 (toBcd n) } :=
  { h with sec := bcdOk_ofNat_toBcd (Nat.zero_le n) hn (by decide) (by decide) }

theorem Legal.setMin (hn : n ≤ 59) : Legal { r with min := BitVec.ofNat 7 (toBcd n) } :=
  { h with min := bcdOk_ofNat_toBcd (Nat.zero_le n) hn (by decide) (by decide) }

theorem Legal.setHour (hn : n ≤ 23) : Legal { r with hour := BitVec.ofNat 6 (toBcd n) } :=
  { h with hour := bcdOk_ofNat_toBcd (Nat.zero_le n) hn (by decide) (by decide) }

theorem Legal.setWday {w : BitVec 3} (hw : 1 ≤ w.toNat) : Legal { r with wday := w } := { h with wday := hw }

theorem Legal.setDay (hlo : 1 ≤ n) (hhi : n ≤ monthDays (bcdVal r.month.toNat) (bcdVal r.year.toNat)) :
    Legal { r with day := BitVec.ofNat 6 (toBcd n) } :=
  have hn : n ≤ 31 := hhi.trans (monthDays_bounds _ _).2
  { h with
    day := bcdOk_ofNat_toBcd hlo hn (by decide) (by decide)
    fits := (bcdVal_ofNat_toBcd (m := 4) (by omega) (by decide)).le.trans hhi }

/-- Before the 29th a day fits every month. -/
theorem Legal.setMonth (hday : bcdVal r.day.toNat ≤ 28) (hlo : 1 ≤ n) (hhi : n ≤ 12) :
    Legal { r with month := BitVec.ofNat 5 (toBcd n) } :=
  { h with
    month := bcdOk_ofNat_toBcd hlo hhi (by decide) (by decide)
    fits := hday.trans (monthDays_bounds _ _).1 }

theorem Legal.setYear (hday : bcdVal r.day.toNat ≤ 28) (hn : n ≤ 99) : Legal { r with year := BitVec.ofNat 8 (toBcd n) } :=
  { h with
    year := bcdOk_ofNat_toBcd (Nat.zero_le n) hn (by decide) (by decide)
    fits := hday.trans (monthDays_bounds _ _).1 }

end

/-! ### The second tick (spec/17 R410) -/

theorem exists_bcdNext_of_ok {v first last : Nat} (h : bcdOk v first last = true) :
    ∃ n, first ≤ n ∧ n ≤ last ∧ (bcdNext v first last).2 = toBcd n := by
  obtain ⟨-, -, hlo, hhi⟩ := bcdOk_iff.mp h
  exact exists_bcdNext hlo (hlo.trans hhi)

theorem wdayNext_pos (w : BitVec 3) : 1 ≤ (if w = 7 then (1 : BitVec 3) else w + 1).toNat := by
  revert w; decide

/-- The carry out of a field goes into the next one: out of the day it leaves the first of a month. -/
theorem legal_nextSecond {r : RtcSt} (h : Legal r) : Legal (nextSecond r) := by
  obtain ⟨sec, -, hsec, esec⟩ := exists_bcdNext_of_ok h.sec
  obtain ⟨min, -, hmin, emin⟩ := exists_bcdNext_of_ok h.min
  obtain ⟨hour, -, hhour, ehour⟩ := exists_bcdNext_of_ok h.hour
  obtain ⟨month, hmonth1, hmonth, emonth⟩ := exists_bcdNext_of_ok h.month
  obtain ⟨year, -, hyear, eyear⟩ := exists_bcdNext_of_ok h.year
  obtain ⟨-, -, hdayPos, -⟩ := bcdOk_iff.mp h.day
  obtain ⟨day, hday1, hday, eday⟩ := exists_bcdNext hdayPos (hdayPos.trans h.fits)
  have hnew := (h.setSec hsec).setMin hmin |>.setHour hhour |>.setWday (wdayNext_pos r.wday) |>.setDay hday1 hday
  unfold nextSecond
  simp only [esec, emin, ehour, eday, emonth, eyear]
  split
  · exact h.setSec hsec
  split
  · exact (h.setSec hsec).setMin hmin
  split
  · exact ((h.setSec hsec).setMin hmin).setHour hhour
  split
  next => exact hnew
  next hcarry =>
    have hfirst : day = 1 := by
      rw [← bcdVal_toBcd day, ← eday, bcdNext_of_carry (by simpa using hcarry), bcdVal_toBcd]
    have h28 : bcdVal (BitVec.ofNat 6 (toBcd day)).toNat ≤ 28 := by rw [hfirst]; decide
    split
    · exact hnew.setMonth h28 hmonth1 hmonth
    · exact (hnew.setMonth h28 hmonth1 hmonth).setYear h28 hyear

theorem legal_tickRtc {r : RtcSt} (h : Legal r) : Legal (tickRtc r) := { legal_nextSecond h with }

/-! ### A load from UTC (spec/17 R413) -/

theorem yearOf_bounds {d : Nat} (h : d < 36525) : (yearOf d).1 ≤ 99 := by
  unfold yearOf
  dsimp only
  split <;> omega

theorem yearOf_snd_lt (d : Nat) : (yearOf d).2 < if (yearOf d).1 % 4 = 0 then 366 else 365 := by
  unfold yearOf
  dsimp only
  split <;> split <;> omega

/-- The days of the `n` months from month `m` on. -/
def daysFrom (year m : Nat) : Nat → Nat
  | 0 => 0
  | n + 1 => monthDays m year + daysFrom year (m + 1) n

/-- A day within the `n + 1` months from month `m` on lies in one of them. -/
theorem monthOf_bounds (year n : Nat) : ∀ m d, d < daysFrom year m (n + 1) →
    m ≤ (monthOf year n m d).1 ∧ (monthOf year n m d).1 ≤ m + n ∧ 1 ≤ (monthOf year n m d).2 ∧
      (monthOf year n m d).2 ≤ monthDays (monthOf year n m d).1 year := by
  induction n with
  | zero =>
    intro m d h
    simp only [daysFrom] at h
    simp only [monthOf]
    omega
  | succ n ih =>
    intro m d h
    rw [daysFrom] at h
    rw [monthOf]
    split
    · exact ⟨le_refl _, by omega, by omega, by dsimp only; omega⟩
    · obtain ⟨hlo, hhi, hpos, hfit⟩ := ih (m + 1) (d - monthDays m year) (by omega)
      exact ⟨by omega, by omega, hpos, hfit⟩

theorem daysFrom_year (year : Nat) : daysFrom year 1 12 = if year % 4 = 0 then 366 else 365 := by
  simp only [daysFrom, monthDays]
  split <;> rfl

theorem legal_loadCalendar {s : State} (h : Legal s.rtc) (t : Int) : Legal (loadCalendar s t).rtc := by
  have hday : ((t / 86400 - 7300) % 36525).toNat < 36525 := by omega
  have hsec : (t % 86400).toNat < 86400 := by omega
  have hyear := yearOf_bounds hday
  obtain ⟨hm1, hm12, hd1, hdfit⟩ := monthOf_bounds _ 11 1 _ ((yearOf_snd_lt _).trans_eq (daysFrom_year _).symm)
  have hd31 := hdfit.trans (monthDays_bounds _ _).2
  exact {
    sec := bcdOk_ofNat_toBcd (Nat.zero_le _) (by omega) (by decide) (by decide)
    min := bcdOk_ofNat_toBcd (Nat.zero_le _) (by omega) (by decide) (by decide)
    hour := bcdOk_ofNat_toBcd (Nat.zero_le _) (by omega) (by decide) (by decide)
    wday := h.wday
    day := bcdOk_ofNat_toBcd hd1 hd31 (by decide) (by decide)
    month := bcdOk_ofNat_toBcd hm1 hm12 (by decide) (by decide)
    year := bcdOk_ofNat_toBcd (Nat.zero_le _) hyear (by decide) (by decide)
    fits := by
      simp only [loadCalendar]
      rw [bcdVal_ofNat_toBcd (m := 4) (by omega) (by decide), bcdVal_ofNat_toBcd (m := 2) (by omega) (by decide),
        bcdVal_ofNat_toBcd (m := 10) (by omega) (by decide)]
      exact hdfit }

/-! ### A write (spec/17 R411) -/

theorem toNat_extractLsb' (v : BitVec 32) (lo n : Nat) : (v.extractLsb' lo n).toNat = field v lo n := by
  simp [field]

theorem legal_writeRtcTime {s : State} (h : Legal s.rtc) (lo hi : Bool) (v : BitVec 32) :
    Legal (writeRtcTime s lo hi v).1.rtc := by
  unfold writeRtcTime
  dsimp only
  split
  next hok =>
    obtain ⟨-, hok⟩ := hok
    simp only [timeOk, Bool.and_eq_true, decide_eq_true_eq, and_assoc, ← toNat_extractLsb'] at hok
    obtain ⟨hsec, hmin, hhour, hwday, -⟩ := hok
    exact { h with sec := hsec, min := hmin, hour := hhour, wday := hwday }
  next => exact h

theorem legal_writeRtcDate {s : State} (h : Legal s.rtc) (lo hi : Bool) (v : BitVec 32) :
    Legal (writeRtcDate s lo hi v).1.rtc := by
  unfold writeRtcDate
  dsimp only
  split
  next hok =>
    obtain ⟨-, hok⟩ := hok
    simp only [dateOk, Bool.and_eq_true, decide_eq_true_eq, and_assoc, ← toNat_extractLsb'] at hok
    obtain ⟨hday, hmonth, hyear, hfits⟩ := hok
    exact { h with day := hday, month := hmonth, year := hyear, fits := hfits }
  next => exact h

theorem legal_ite {p : Prop} [Decidable p] {s t : State} (hs : Legal s.rtc) (ht : Legal t.rtc) :
    Legal (if p then s else t).rtc := by
  split <;> assumption

theorem legal_writeAlm {s : State} (h : Legal s.rtc) (n : Nat) (lo hi : Bool) (v : BitVec 32) :
    Legal (writeAlm s n lo hi v).1.rtc := by
  simp only [writeAlm]
  by_cases hok : almOk (almMerge lo hi (if n = 0 then s.rtc.alm0 else s.rtc.alm1) v) = true
  · rw [if_pos hok]
    split <;> exact { h with }
  · rw [if_neg hok]
    exact h

theorem legal_writeHalt {s : State} (h : Legal s.rtc) (b : Bool) : Legal (writeHalt s b).rtc :=
  legal_ite h { h with }

/-- Of the W1C fields of the status registers, that of RTC_SWSTAMP alone is of the RTC, and it is no field of the calendar. -/
theorem legal_writeStat {s : State} (h : Legal s.rtc) (n : Nat) (lo hi : Bool) (v : BitVec 32) :
    Legal (writeStat s n lo hi v).rtc := by
  unfold writeStat
  dsimp only
  split
  case h_5 => exact legal_ite (by rwa [antUnlatch_rtc]) h
  case h_9 => exact legal_ite { h with } h
  all_goals exact h

theorem legal_regPut {s : State} (h : Legal s.rtc) (c : Cls) (n : Nat) (lo hi : Bool) (v : BitVec 32) :
    Legal (regPut s c n lo hi v).1.rtc := by
  have keep {t : State} (ht : t.rtc = s.rtc) : Legal t.rtc := ht ▸ h
  unfold regPut
  split
  case h_13 => exact legal_ite (legal_writeHalt h _) h
  case h_14 => exact legal_writeRtcTime h lo hi v
  case h_15 => exact legal_writeRtcDate h lo hi v
  case h_16 => exact legal_writeAlm h 0 lo hi v
  case h_17 => exact legal_writeAlm h 1 lo hi v
  case h_22 => exact legal_writeStat h n lo hi v
  case h_19 =>
    refine keep ?_
    split
    · dsimp only
      split <;> simp
    · rfl
  all_goals exact keep (by simp [apply_ite State.rtc, apply_ite Prod.fst])

end Sys2Proof.Proofs
end

section
/-! PROOFS. The commands that leave the RTC alone: the instructions of the Galros cores (spec/13), the coprocessors (spec/14) and
the Runtime's commands (spec/10 R268). -/

namespace Sys2Proof.Proofs

open Sys2Proof Sys2Proof.Machine Sys2Proof.Spec

/-- A command, if it answers a next state, leaves the RTC as it stands in `s`. -/
def RtcKept (s : State) (o : Host.Outcome State Fault Refusal) : Prop := ∀ t, o = .next t → t.rtc = s.rtc

theorem RtcKept.next {s t : State} (h : t.rtc = s.rtc) : RtcKept s (.next t) := by
  rintro _ ⟨⟩
  exact h

theorem RtcKept.ite {s : State} {p : Prop} {_ : Decidable p} {a b : Host.Outcome State Fault Refusal} (ha : RtcKept s a)
    (hb : RtcKept s b) : RtcKept s (if p then a else b) := by
  split <;> assumption

/-- A command with a condition, without which nothing happens. -/
theorem RtcKept.guard {s t : State} {p : Prop} {_ : Decidable p} (h : t.rtc = s.rtc) :
    RtcKept s (if p then .next t else .next s) := .ite (.next h) (.next rfl)

/-! ### The operations of the Galros cores -/

theorem same_setW (s : State) (k : CoreId) (r : Reg) (v : Word) : Same s (setW s k r v) := ⟨setW_rtc s k r v, setW_pending s k r v⟩

theorem doTwo_keeps (op : Alu2) (write : Bool) (k : CoreId) (d q : Reg) (s : State) : (doTwo op write k d q s).keeps s := by
  unfold doTwo
  cases write <;> simp [IRes.keeps, Same]

theorem doImm_keeps (op : Alu2) (write : Bool) (k : CoreId) (d : Reg) (i : Word) (s : State) :
    (doImm op write k d i s).keeps s := by
  unfold doImm
  cases write <;> simp [IRes.keeps, Same]

theorem doOne_keeps (op : Alu1) (k : CoreId) (r : Reg) (s : State) : (doOne op k r s).keeps s := by
  simp [doOne, IRes.keeps, Same]

/-- An operation that goes on with what its data access brings. -/
theorem dAcc_keeps {s : State} {r : DAcc} (h : r.keeps s) {f : State → Word → IRes} (hf : ∀ t v, Same s t → (f t v).keeps s) :
    (match (generalizing := false) r with | .got t v => f t v | .trap t v => .trap t v | .wait => .wait : IRes).keeps s := by
  cases r with
  | got t v => exact hf t v h
  | trap t v => exact h
  | wait => trivial

theorem doLd_keeps (k : CoreId) (r : Reg) (m : MemForm) (u : Option Upset) (s : State) : (doLd k r m u s).keeps s := by
  unfold doLd
  split
  · exact Same.refl s
  · refine dAcc_keeps (dataRead_keeps s k _ _ u) (f := fun t v => .done (bumpBase t k m) (some (r.val, v))) fun t v h => ?_
    exact h.trans ⟨bumpBase_rtc .., bumpBase_pending ..⟩

theorem doSt_keeps (k : CoreId) (r : Reg) (m : MemForm) (s : State) : (doSt k r m s).keeps s := by
  refine dAcc_keeps (dataWrite_keeps s k _ _ _) (f := fun t _ => .done (bumpBase t k m) none) fun t v h => ?_
  exact h.trans ⟨bumpBase_rtc .., bumpBase_pending ..⟩

theorem doPush_keeps (k : CoreId) (r : Reg) (s : State) : (doPush k r s).keeps s := by
  refine dAcc_keeps (dataWrite_keeps s k 3 _ _) (f := fun t _ => .done (setW t k 7 (getW s k 7 - 1)) none) fun t v h => ?_
  exact h.trans (same_setW ..)

theorem doPop_keeps (k : CoreId) (r : Reg) (s : State) : (doPop k r s).keeps s := by
  unfold doPop
  split
  · exact Same.refl s
  · refine dAcc_keeps (dataRead_keeps s k 3 _ none)
      (f := fun t v => .done (setW t k 7 (getW t k 7 + 1)) (some (r.val, v))) fun t v h => ?_
    exact h.trans (same_setW ..)

theorem doMfs_keeps (k : CoreId) (spec : Fin 4) (r : Reg) (s : State) : (doMfs k spec r s).keeps s := by
  unfold doMfs
  split <;> simp [IRes.keeps, Same]

theorem doBit_keeps (op : BitOp) (k : CoreId) (a : Nat) (s : State) : (doBit op k a s).keeps s := by
  cases op <;> simp [doBit, IRes.keeps, Same]

theorem doBitAbs_keeps (op : BitOp) (k : CoreId) (w2 : BitVec 14) (s : State) : (doBitAbs op k w2 s).keeps s := by
  unfold doBitAbs
  split
  · exact Same.refl s
  · exact doBit_keeps op k w2.toNat s

theorem doBitReg_keeps (op : BitOp) (k : CoreId) (r : Reg) (s : State) : (doBitReg op k r s).keeps s := doBit_keeps op k _ s

theorem doCall_keeps (s : State) (k : CoreId) (pc target : BitVec 14) : (doCall s k pc target).keeps s := by
  unfold doCall
  dsimp only
  split
  next t ht => exact Same.trans (by simp [Same]) (Same.trans (pushRs_same ht) (by simp [Same]))
  next => trivial

/-! ### Repeat prefixes (spec/13 R343-R345) -/

theorem repBody_keeps {k : CoreId} {b : RepBody} {f : State → IRes} (h : repBody k b = some f) (s : State) : (f s).keeps s := by
  cases b <;> cases h
  case mov | add | adc | sub | sbc | and | or | xor | cmp | tst | dadd | dsub => exact doTwo_keeps ..
  case shl | shr | asr | rol | ror | rlc | rrc | swab | not | neg | inc | dec | clr | sexb => exact doOne_keeps ..
  case push => exact doPush_keeps ..
  case st => exact doSt_keeps ..
  case mfs => exact doMfs_keeps ..
  case btstr | bsetr | bclrr | bmovr => exact doBitReg_keeps ..
  case nop => exact Same.refl s

/-- The states in which a repeat sequence leaves off. -/
def RepEnd.keeps (s : State) : RepEnd → Prop
  | .ended t => Same s t
  | .cut t => Same s t
  | .intr t _ => Same s t
  | .trap t _ => Same s t

theorem RepEnd.keeps_trans {s t : State} {r : RepEnd} (h : Same s t) (hr : RepEnd.keeps t r) : RepEnd.keeps s r := by
  cases r <;> exact h.trans hr

theorem repLoop_keeps (k : CoreId) (r : Reg) (ic : Cond) {body : State → IRes} (hbody : ∀ s, (body s).keeps s) (whole : Bool)
    (n : Nat) : ∀ s, RepEnd.keeps s (repLoop k r ic body whole n s) := by
  induction n with
  | zero => exact Same.refl
  | succ n ih =>
    intro s
    have hone : (if condHolds (s.core k) ic then body s else .done s none).keeps s := by
      split
      · exact hbody s
      · exact Same.refl s
    rw [repLoop]
    revert hone
    cases (if condHolds (s.core k) ic then body s else .done s none) with
    | done t ld =>
      intro hone
      have ht : Same s (setW t k r (getW t k r - 1)) := Same.trans hone (same_setW ..)
      have hon := RepEnd.keeps_trans ht (ih _)
      dsimp only
      split
      · exact ht
      split
      · exact ht
      split
      · exact hon
      split
      · exact ht
      split
      · exact ht
      · exact hon
    | trap t v => exact id
    | rs | frame | wait => exact fun _ => Same.refl s

theorem doRep_keeps (k : CoreId) (r : Reg) (ic : Cond) (b : RepBody) (whole : Bool) (n : Nat) (s : State) :
    (doRep k r ic b whole n s).keeps s := by
  unfold doRep
  split
  · exact Same.refl s
  next body hbody =>
    dsimp only
    split
    · exact Same.refl s
    split
    · simp [IRes.keeps, Same]
    have hloop := repLoop_keeps k r ic (repBody_keeps hbody) whole n ((setW s k r (getW s k r)).modCore k commitLoad)
    have hloop : RepEnd.keeps s _ := RepEnd.keeps_trans (by simp [Same]) hloop
    revert hloop
    cases repLoop k r ic body whole n ((setW s k r (getW s k r)).modCore k commitLoad) with
    | ended t => exact fun h => Same.trans h (by simp [Same])
    | cut t => exact fun h => Same.trans h (by simp [Same])
    | trap t v => exact id
    | intr t v =>
      intro h
      have hpc : Same s (setPc t k ((s.core k).pc - 1)) := Same.trans h (by simp [Same])
      dsimp only
      cases ht : takeInt (setPc t k ((s.core k).pc - 1)) k v with
      | none => exact hpc
      | some u => exact hpc.trans (takeInt_same ht)

/-! ### Coprocessor operations at issue (spec/14 R347-R356) -/

theorem doCpop_keeps {issue : List Word → State → State} (h : ∀ args s, Same s (issue args s)) (k : CoreId) (t : Fin 4) (r : Reg)
    (n : Nat) (s : State) : (doCpop k t r n issue s).keeps s := by
  unfold doCpop
  split
  · exact Same.refl s
  split
  · exact Same.refl s
  · exact h _ s

/-! ### Every instruction -/

theorem runInstr_rtcKept {k : CoreId} {c : Cond} {n : Nat} {f : State → IRes} {s : State} (hf : ∀ u, (f u).keeps u) :
    RtcKept s (runInstr k c n f s) := fun _ h => (runInstr_same hf h).1

theorem cpop_rtcKept (unit : Fin 4) (fn n : Nat) (k : CoreId) (c : Cond) (t : Fin 4) (r : Reg) (s : State) :
    RtcKept s (cpop unit fn n k c t r s) :=
  runInstr_rtcKept (doCpop_keeps (fun _ _ => ⟨putOp_rtc .., putOp_pending ..⟩) k t r n)

/-! ### Special registers, returns and calls -/

theorem same_modCore (s : State) (k : CoreId) (f : Core → Core) : Same s (s.modCore k f) := ⟨s.modCore_rtc k f, s.modCore_pending k f⟩

theorem same_setPc (s : State) (k : CoreId) (pc : BitVec 14) : Same s (setPc s k pc) := ⟨setPc_rtc .., setPc_pending ..⟩

section
variable (k : CoreId) (c : Cond) (r : Reg) (s : State)

theorem sgld_rtcKept (g : Fin 4) : RtcKept s (execSgld k c g r s) :=
  runInstr_rtcKept fun u => by
    split
    · exact Same.refl u
    dsimp only
    split
    · exact same_modCore ..
    · exact Same.refl u

theorem sgst_rtcKept (g : Fin 4) : RtcKept s (execSgst k c g r s) :=
  runInstr_rtcKept fun u => by
    split
    · exact Same.refl u
    · exact ((same_setW ..).trans (same_setW ..)).trans (same_setW ..)

theorem mts_rtcKept (spec : Fin 4) : RtcKept s (execMts k c spec r s) :=
  runInstr_rtcKept fun u => by
    dsimp only
    split
    · exact Same.refl u
    · exact same_modCore ..

theorem brk_rtcKept : RtcKept s (execBrk k c s) :=
  runInstr_rtcKept fun u => by
    split
    · exact ⟨haltCore_rtc .., haltCore_pending ..⟩
    · exact Same.refl u

theorem wait_rtcKept : RtcKept s (execWait k c s) := runInstr_rtcKept fun u => ⟨parkCore_rtc u k, parkCore_pending u k⟩

theorem nop_rtcKept : RtcKept s (execNop k c s) := runInstr_rtcKept fun u => Same.refl u

theorem ret_rtcKept : RtcKept s (execRet k c s) :=
  runInstr_rtcKept fun u => by
    split
    next v e hv => exact (popRs_same hv).trans ((same_setPc ..).trans ⟨hookReturn_rtc .., hookReturn_pending ..⟩)
    next => trivial

theorem reti_rtcKept : RtcKept s (execReti k c s) :=
  runInstr_rtcKept fun u => by
    split
    next v e hv => exact (popRs_same hv).trans ⟨resumeAt_rtc .., resumeAt_pending ..⟩
    next => trivial

theorem retf_rtcKept : RtcKept s (execRetf k c s) :=
  runInstr_rtcKept fun u => by
    split
    next v ws hv => exact (popWords_ok _ _ _ _ _ hv).trans ((same_setW ..).trans ⟨resumeAt_rtc .., resumeAt_pending ..⟩)
    next v ws hv => exact popWords_error _ _ _ _ _ hv
    next => trivial

theorem retm_rtcKept : RtcKept s (execRetm k c s) :=
  runInstr_rtcKept fun u => by
    split
    · trivial
    split
    next v t hv => exact popWords_error _ _ _ _ _ hv
    next => trivial
    next v ms hv =>
      have hmask := popWords_ok _ _ _ _ _ hv
      dsimp only
      split
      next w t hw => exact hmask.trans (popWords_error _ _ _ _ _ hw)
      next => trivial
      next w ws hw =>
        split
        next => trivial
        next x e hx =>
          refine (hmask.trans (popWords_ok _ _ _ _ _ hw)).trans ((popRs_same hx).trans ?_)
          simp [Same]

theorem callm_rtcKept (mask target : BitVec 14) : RtcKept s (execCallm k c mask target s) :=
  runInstr_rtcKept fun u => by
    split
    · exact Same.refl u
    dsimp only
    split
    · trivial
    have hpush := pushWords_keeps k (maskWords u k mask) u (getW u k 7)
    revert hpush
    cases pushWords u k (getW u k 7) (maskWords u k mask) with
    | wait => exact id
    | trap v n =>
      intro hpush
      dsimp only
      split <;> exact hpush
    | got v sp =>
      intro hpush
      dsimp only
      split
      next w hw => exact Same.trans hpush ((same_setW ..).trans ((pushRs_same hw).trans (same_setPc ..)))
      next => trivial

/-! ### Results of coprocessor operations (spec/14 R349) -/

theorem cprd_rtcKept (slot t : Fin 4) : RtcKept s (execCprd k c slot t r s) := by
  unfold execCprd
  refine runInstr_rtcKept fun u => ?_
  dsimp only
  split
  · exact ⟨setTag_rtc .., setTag_pending ..⟩
  split
  · trivial
  · exact Same.refl u

theorem cpst_rtcKept (slot t : Fin 4) : RtcKept s (execCpst k c slot t r s) := by
  unfold execCpst
  exact runInstr_rtcKept fun u => Same.refl u

theorem waitcp_rtcKept (slot t : Fin 4) : RtcKept s (execWaitcp k c slot t r s) := by
  unfold execWaitcp
  refine runInstr_rtcKept fun u => ?_
  dsimp only
  split
  · trivial
  · exact Same.refl u

end

/-! ### Operations as they run (spec/14 R352-R354) -/

@[simp] theorem doneOk_s (s : State) (ws : List Word) : (doneOk s ws).s = s := rfl
@[simp] theorem doneArg_s (s : State) (i : Nat) : (doneArg s i).s = s := rfl
@[simp] theorem doneOut_s (s : State) : (doneOut s).s = s := rfl

@[simp] theorem cpStart_rtc (s : State) (a : List Word) : (cpStart s a).s.rtc = s.rtc := by
  unfold cpStart
  dsimp only
  repeat' split
  all_goals simp

@[simp] theorem cpTaps_rtc (s : State) (p : Nat) (a : List Word) : (cpTaps s p a).s.rtc = s.rtc := by
  unfold cpTaps
  dsimp only
  repeat' split
  all_goals simp

theorem runCp0_rtc (s : State) (k : CoreId) (fn : Nat) (a : List Word) : (runCp0 s k fn a).s.rtc = s.rtc := by
  unfold runCp0
  dsimp only
  repeat' split
  all_goals simp

theorem runCp1_rtc (s : State) (fn : Nat) (a : List Word) : (runCp1 s fn a).s.rtc = s.rtc := by
  unfold runCp1
  dsimp only
  repeat' split
  all_goals simp

theorem runCp2_rtc (s : State) (fn : Nat) (a : List Word) : (runCp2 s fn a).s.rtc = s.rtc := by
  unfold runCp2
  dsimp only
  repeat' split
  all_goals simp

theorem runOp_rtc (s : State) (k : CoreId) (op : CpOp) : (runOp s k op).s.rtc = s.rtc := by
  unfold runOp
  split
  · exact runCp0_rtc ..
  · exact runCp1_rtc ..
  · exact runCp2_rtc ..

theorem cpOperationComplete_rtcKept (k : CoreId) (t : Fin 4) (s : State) : RtcKept s (execCpOperationComplete k t s) := by
  unfold execCpOperationComplete
  split
  · exact .next rfl
  · exact .ite (.next rfl) (.next ((completeTag_rtc ..).trans (runOp_rtc ..)))

/-! ### The Runtime's commands (spec/10 R268) -/

/-- What is common to the commands: the block read, the notices and the answer. -/
theorem serve_rtcKept {mine : Nat → Bool} {run : Cmd → State → Answer} (h : ∀ c u, (run c u).1.rtc = u.rtc) (s : State) :
    RtcKept s (serve mine run s) := by
  unfold serve
  split
  · exact .next rfl
  next n rest =>
    dsimp only
    refine .ite (.next rfl) (.ite (.next rfl) ?_)
    split
    · exact .next (by simp)
    · exact .ite (.next (by simp)) (.next (by simp [h]))

theorem answer_ite {s : State} {p : Prop} [Decidable p] {a b : Answer} (ha : a.1.rtc = s.rtc) (hb : b.1.rtc = s.rtc) :
    (if p then a else b).1.rtc = s.rtc := by
  split <;> assumption

section
variable (c : Cmd) (s : State)

theorem runTimeSet_rtc : (runTimeSet c s).1.rtc = s.rtc := by
  unfold runTimeSet
  dsimp only
  split
  · rfl
  · exact answer_ite rfl (answer_ite rfl (answer_ite rfl (by simp)))

theorem runPosSet_rtc : (runPosSet c s).1.rtc = s.rtc := answer_ite rfl (restartSurvey_rtc s)

theorem runFreqAid_rtc : (runFreqAid c s).1.rtc = s.rtc :=
  answer_ite rfl (answer_ite rfl (by dsimp only; split <;> rfl))

theorem runSearch_rtc (a : Assist) : (runSearch a c s).1.rtc = s.rtc :=
  answer_ite rfl (answer_ite rfl (answer_ite (by simp) (beginSearch_rtc ..)))

theorem runSearchStop_rtc : (runSearchStop c s).1.rtc = s.rtc := by
  refine answer_ite rfl (answer_ite rfl ?_)
  dsimp only
  split
  · exact answer_ite (endSearch_rtc ..) (by simp)
  · exact endSearch_rtc ..

theorem runPanStart_rtc : (runPanStart c s).1.rtc = s.rtc := by
  refine answer_ite rfl (answer_ite rfl ?_)
  extract_lets q
  cases q with
  | some k => exact startPan_rtc ..
  | none => rfl

theorem runPanStop_rtc : (runPanStop c s).1.rtc = s.rtc := answer_ite rfl (answer_ite rfl (releasePan_rtc ..))

theorem runTwin_rtc : (runTwin c s).1.rtc = s.rtc := by
  refine answer_ite rfl ?_
  split
  next r hr => exact requestTwin_rtc hr
  next => rfl

theorem runIntRebase_rtc : (runIntRebase c s).1.rtc = s.rtc := answer_ite rfl (rebaseInteg_rtc s)

theorem runSlotCancelClient_rtc : (runSlotCancelClient c s).1.rtc = s.rtc := by
  refine answer_ite rfl ?_
  split
  · rfl
  · exact cancelList_rtc ..

theorem runProgLoad_rtc : (runProgLoad c s).1.rtc = s.rtc :=
  answer_ite rfl (answer_ite rfl (answer_ite (s.modCore_rtc ..) (by simp)))

theorem runPower_rtc : (runPower c s).1.rtc = s.rtc := answer_ite rfl (answer_ite (by simp) (by simp))

theorem runBankLend_rtc : (runBankLend c s).1.rtc = s.rtc := answer_ite rfl (setOwner_rtc ..)

theorem runBankRecall_rtc : (runBankRecall c s).1.rtc = s.rtc := answer_ite rfl (answer_ite rfl (setOwner_rtc ..))

theorem runMirRole_rtc : (runMirRole c s).1.rtc = s.rtc := answer_ite rfl (answer_ite rfl (setRole_rtc ..))

theorem runMirTakeover_rtc : (runMirTakeover c s).1.rtc = s.rtc :=
  answer_ite rfl (answer_ite rfl (answer_ite rfl (startTake_rtc ..)))

theorem runMirCompare_rtc : (runMirCompare c s).1.rtc = s.rtc := answer_ite rfl (answer_ite rfl (mirCompare_rtc ..))

end

/-! ### Frames of the mirrored pair (spec/19 R445, R446) -/

theorem receive_rtcKept {k : State → State} (h : ∀ u, (k u).rtc = u.rtc) (type : BitVec 4) (f : Frame) (s : State) :
    RtcKept s (receive type f k s) :=
  .ite (.next rfl) (.ite (.next (by simp)) (.ite (.next rfl) (.next (by rw [h, goodFrame_rtc]))))

theorem resend_rtc (f : Frame) (s : State) : (if s.mir.role = 1 then sendPairs s (f.payload.take 16) else s).rtc = s.rtc := by
  split
  · exact sendPairs_rtc ..
  · rfl

/-! ### Read data phases of the host bus (spec/08 R202) -/

theorem phaseRead_rtcKept (offs : List Nat) (u : Option Upset) (s : State) : RtcKept s (phaseRead offs u s) := by
  unfold phaseRead
  split
  · exact .guard (hostRead_rtc ..)
  · exact .next rfl

theorem registerRead_rtcKept (s : State) : RtcKept s (execRegisterRead s) := by
  unfold execRegisterRead
  split
  · exact .guard (hostRead_rtc ..)
  · exact .next rfl

end Sys2Proof.Proofs
end

section
/-! PROOFS. A legal calendar stays legal across a write data phase of the host bus (spec/08 R201) and across a frame of the Serial
Debug Port (spec/21 R489-R493). -/

namespace Sys2Proof.Proofs

open Sys2Proof Sys2Proof.Machine Sys2Proof.Spec

/-! ### Write data phases of the host bus (spec/08 R201) -/

theorem legal_busPut {s : State} (h : Legal s.rtc) (c : Cls) (off d : Word) : Legal (busPut s c off d).1.rtc := by
  unfold busPut
  dsimp only
  split
  · exact h
  split
  · split
    · split
      · exact h
      · exact legal_regPut (by rwa [State.setCls_rtc]) ..
    · rwa [State.modCls_rtc]
  · split <;> exact legal_regPut h ..

theorem legal_hostWrite {s : State} (h : Legal s.rtc) (d : Word) : Legal (hostWrite s d).rtc := by
  unfold hostWrite
  split
  · exact h
  next y hy =>
    dsimp only
    refine legal_ite h (legal_ite (by simpa using h) ?_)
    rw [advance_rtc, autoInc_rtc]
    split
    · rw [errResponse_rtc]
      exact legal_busPut (by simpa using h) ..
    · exact legal_busPut (by simpa using h) ..

/-- A command that leaves a legal calendar legal. -/
def KeepsLegal (s : State) (o : Host.Outcome State Fault Refusal) : Prop := Legal s.rtc → ∀ t, o = .next t → Legal t.rtc

theorem RtcKept.keepsLegal {s : State} {o : Host.Outcome State Fault Refusal} (h : RtcKept s o) : KeepsLegal s o :=
  fun hs t ht => h t ht ▸ hs

theorem KeepsLegal.next {s t : State} (h : Legal s.rtc → Legal t.rtc) : KeepsLegal s (.next t) := by
  rintro hs _ ⟨⟩
  exact h hs

theorem KeepsLegal.ite {s : State} {p : Prop} {_ : Decidable p} {a b : Host.Outcome State Fault Refusal} (ha : KeepsLegal s a)
    (hb : KeepsLegal s b) : KeepsLegal s (if p then a else b) := by
  split <;> assumption

theorem phaseWrite_keepsLegal (r : WRow) (d : Word) (s : State) : KeepsLegal s (phaseWrite r d s) := by
  unfold phaseWrite
  split
  · exact .ite (.next fun h => legal_hostWrite h d) (.next id)
  · exact .next id

/-! ### Frames of the Serial Debug Port (spec/21 R489-R493) -/

/-- The state that a request ends in has a legal calendar. -/
def LegalEnd : DRes → Prop
  | .done t _ => Legal t.rtc
  | .error t _ _ => Legal t.rtc
  | .retry => True

theorem legalEnd_ite {p : Prop} [Decidable p] {a b : DRes} (ha : LegalEnd a) (hb : LegalEnd b) :
    LegalEnd (if p then a else b) := by
  split <;> assumption

section
variable {s : State} (h : Legal s.rtc)
include h

theorem Legal.congr {t : State} (ht : t.rtc = s.rtc) : Legal t.rtc := ht ▸ h

theorem legalEnd_coreItem {f : Unit → DRes} (hf : LegalEnd (f ())) : LegalEnd (coreItem s f) :=
  legalEnd_ite h (legalEnd_ite trivial hf)

theorem legalEnd_space0Read (a : Nat) : LegalEnd (space0Read s a) := by
  unfold space0Read
  repeat' refine legalEnd_ite h ?_
  exact h

theorem legalEnd_space0Write (a : Nat) (v : BitVec 32) : LegalEnd (space0Write s a v) :=
  legalEnd_ite (h.congr (dctlWrite_rtc ..)) (legalEnd_ite (h.congr (dctlWrite_rtc ..)) (legalEnd_ite h
    (legalEnd_ite (h.congr (setBp_rtc ..)) (legalEnd_ite (h.congr (setBp_rtc ..))
      (legalEnd_ite (legal_ite (h.congr (endSession_rtc s)) h) h)))))

theorem legalEnd_space1Read (a : Nat) : LegalEnd (space1Read s a) :=
  legalEnd_ite h (legalEnd_coreItem h (legalEnd_ite (h.congr (pageRead_rtc ..)) (legalEnd_ite h (legalEnd_ite trivial
    (legalEnd_ite (h.congr (demandRead_rtc ..)) (h.congr (demandRead_rtc ..)))))))

theorem legalEnd_space1Write (a : Nat) (v : BitVec 32) : LegalEnd (space1Write s a v) :=
  legalEnd_ite h (legalEnd_coreItem h (legalEnd_ite (h.congr (pageWrite_rtc ..)) (legalEnd_ite h (legalEnd_ite trivial
    (h.congr (ownerWrite_rtc ..))))))

theorem legalEnd_space2Write (a : Nat) (v : BitVec 32) : LegalEnd (space2Write s a v) := by
  refine legalEnd_coreItem h ?_
  dsimp only
  split
  · exact h
  · exact h.congr (progWrite_rtc ..)

theorem legalEnd_space4Read (a : Nat) : LegalEnd (space4Read s a) := by
  unfold space4Read
  dsimp only
  split
  · exact h
  · exact legalEnd_ite trivial h

theorem legalEnd_space4Write (a : Nat) (v : BitVec 32) : LegalEnd (space4Write s a v) := by
  refine legalEnd_ite trivial ?_
  split
  · exact h
  · exact h.congr (paramWrite_rtc ..)

theorem legalEnd_space5Read (a : Nat) : LegalEnd (space5Read s a) := by
  refine legalEnd_ite trivial ?_
  split
  · exact h.congr (regRead_rtc ..)
  · exact h.congr (by simp)

theorem legalEnd_space5Write (a : Nat) (v : BitVec 32) : LegalEnd (space5Write s a v) := by
  unfold space5Write
  dsimp only
  split
  · exact h
  refine legalEnd_ite trivial (legalEnd_ite (legalEnd_ite h (h.congr (by simp))) ?_)
  split
  · exact h
  · exact (legal_regPut h .dbg (a % 64) true true v).congr (autoInc_rtc ..)

theorem legalEnd_space6 (a : Nat) {f : CoreId → Nat → BitVec 32 → DRes} (hf : ∀ k r v, LegalEnd (f k r v)) :
    LegalEnd (space6 s a f) := by
  unfold space6
  dsimp only
  split
  · exact h
  refine legalEnd_coreItem h ?_
  split
  · exact hf ..
  · exact h

theorem legalEnd_sdpGet (space a : Nat) : LegalEnd (sdpGet s space a) := by
  unfold sdpGet
  split
  · exact legalEnd_space0Read h _
  · exact legalEnd_space1Read h _
  · exact legalEnd_coreItem h h
  · exact legalEnd_coreItem h h
  · exact legalEnd_space4Read h _
  · exact legalEnd_space5Read h _
  · exact legalEnd_space6 h _ fun _ _ _ => h
  · exact h

theorem legalEnd_sdpPut (space a : Nat) (v : BitVec 32) : LegalEnd (sdpPut s space a v) := by
  unfold sdpPut
  split
  · exact legalEnd_space0Write h _ v
  · exact legalEnd_space1Write h _ v
  · exact legalEnd_space2Write h _ v
  · exact legalEnd_coreItem h (h.congr (bitWrite_rtc ..))
  · exact legalEnd_space4Write h _ v
  · exact legalEnd_space5Write h _ v
  · exact legalEnd_space6 h _ fun k r _ => h.congr (s.modCore_rtc ..)
  · exact h

theorem legal_frame (space : Nat) (crcOk : Bool) {f : Unit → DRes} (hf : LegalEnd (f ())) : Legal (frame s space crcOk f).rtc := by
  refine legal_ite h (legal_ite h ?_)
  revert hf
  unfold answerFrame
  cases f () with
  | done t v => exact id
  | retry => exact fun _ => h
  | error t e v => exact id

end

end Sys2Proof.Proofs
end

section
/-! PROOFS. The events of the device, all commands together, and the step: the calendar of the RTC stays legal (spec/09 R238,
spec/17 R408, R410-R413). -/

namespace Sys2Proof.Proofs

open Sys2Proof Sys2Proof.Machine Sys2Proof.Spec

/-! ### Time, samples and epochs (spec/01 - spec/03) -/

section
variable (s : State)

theorem gnssFineEntry_rtcKept : RtcKept s (execGnssFineEntry s) := by
  unfold execGnssFineEntry
  split
  · exact .guard (by simp)
  · exact .next rfl

theorem leapSecondApply_rtcKept : RtcKept s (execLeapSecondApply s) := by
  unfold execLeapSecondApply
  split
  · exact .guard (carryGnss_rtc ..)
  · exact .next rfl

theorem pacePeriodEnd_rtcKept (o : SclkObs) : RtcKept s (execPacePeriodEnd o s) := by
  refine .guard ?_
  rw [pacePeriod_rtc]
  split
  · split <;> simp
  · simp

theorem relapseWindowExpiry_rtcKept : RtcKept s (execRelapseWindowExpiry s) := by
  unfold execRelapseWindowExpiry
  split
  · exact .next (by simp)
  · exact .next rfl

theorem sampleArrival_rtcKept (d : BitVec 4) : RtcKept s (execSampleArrival d s) :=
  .ite (.next rfl) (.ite (.next rfl) (.ite (.next (by simp)) (.next (by simp))))

/-! ### Search and pans (spec/04) -/

theorem cellSearchEnd_rtcKept (o : CellObs) : RtcKept s (execCellSearchEnd o s) := by
  unfold execCellSearchEnd
  split
  · exact .next rfl
  refine .ite (.next rfl) (.ite (.next rfl) (.next ?_))
  rw [apply_ite State.rtc, startDwell_rtc, ite_self]
  split <;> simp

theorem pendingHitExpiry_rtcKept : RtcKept s (execPendingHitExpiry s) := by
  unfold execPendingHitExpiry
  split
  · exact .next rfl
  · exact .next (by simp)

theorem panGroupStall_rtcKept (g : Fin 4) : RtcKept s (execPanGroupStall g s) := by
  unfold execPanGroupStall
  dsimp only
  split
  · exact .guard (by simp)
  · exact .next rfl

theorem crystallizerStall_rtcKept : RtcKept s (execCrystallizerStall s) := by
  unfold execCrystallizerStall
  split
  · exact .guard (by simp)
  · exact .next rfl

variable (p : Fin 32)

theorem integrationEnd_rtcKept (o : IntegObs) : RtcKept s (execIntegrationEnd p o s) := by
  unfold execIntegrationEnd
  split
  · exact .next rfl
  refine .ite (.next rfl) (.ite (.next (by simp)) ?_)
  dsimp only
  cases o.lnav with
  | some i => exact .next (by simp [apply_ite State.rtc])
  | none => exact .next (by simp [apply_ite State.rtc])

theorem pullComplete_rtcKept : RtcKept s (execPullComplete p s) := by
  unfold execPullComplete
  split
  · exact .guard (by simp)
  · exact .next rfl

theorem codeLockLoss_rtcKept : RtcKept s (execCodeLockLoss p s) := by
  unfold execCodeLockLoss
  split
  · split
    · exact .ite (.ite (.next (by simp)) (.next (by simp))) (.next rfl)
    · exact .next rfl
  · exact .next rfl

theorem reacqTimeout_rtcKept : RtcKept s (execReacqTimeout p s) := by
  unfold execReacqTimeout
  split
  · exact .guard (by simp)
  · exact .next rfl

/-! ### Clock outputs, event slots and timemarks (spec/06, spec/07) -/

theorem tpoutInactiveEdge_rtcKept : RtcKept s (execTpoutInactiveEdge s) := by
  unfold execTpoutInactiveEdge
  split
  · exact .next (carryTick_rtc ..)
  · exact .next rfl

theorem tpoutDeferredPulse_rtcKept : RtcKept s (execTpoutDeferredPulse s) := by
  unfold execTpoutDeferredPulse
  split
  · exact .ite (.next (by simp)) (.next (by simp))
  · exact .next rfl

variable (i : Fin 1024)

theorem slotCommitPoint_rtcKept : RtcKept s (execSlotCommitPoint i s) := by
  unfold execSlotCommitPoint
  split
  · exact .guard (by simp)
  · exact .next rfl

theorem slotFire_rtcKept : RtcKept s (execSlotFire i s) := by
  unfold execSlotFire
  split
  · split
    · exact .guard (by simp)
    · exact .next rfl
  · exact .next rfl

theorem slotLateFire_rtcKept : RtcKept s (execSlotLateFire i s) := by
  unfold execSlotLateFire
  split
  · split
    · exact .guard (by simp)
    · exact .next rfl
  · exact .next rfl

theorem evoutPulseEnd_rtcKept (pin : Fin 4) : RtcKept s (execEvoutPulseEnd pin s) := by
  unfold execEvoutPulseEnd
  dsimp only
  split
  · exact .guard (by simp)
  · exact .next rfl

theorem tmarkEdge_rtcKept (k : Fin 2) (rising : Bool) (step : Fin 64) : RtcKept s (execTmarkEdge k rising step s) :=
  .ite (.next rfl) (.ite (.next (by simp [apply_ite State.rtc])) (.next (by simp [apply_ite State.rtc])))

/-! ### The Sluice, the banks and calibration (spec/10, spec/11, spec/21) -/

theorem channelTimeout_rtcKept (ch : Fin 64) : RtcKept s (execChannelTimeout ch s) := by
  unfold execChannelTimeout
  split
  · refine .ite (.next rfl) ?_
    split <;> exact .next (by simp)
  · exact .next rfl

theorem rakeBanks_rtc (u : List (Option Upset)) (w : Nat) (t : State) :
    ((List.range 8).foldl (fun s b => rakeBank s b w ((u[b]?).getD none)) t).rtc = t.rtc :=
  foldl_rtc _ (fun _ _ => rakeBank_rtc ..) _ t

/-- What RAKE_CHECK does after the banks, of any state: the address and the count of passes. -/
theorem rakePass_rtc (w : Nat) (t : State) (b : BankSt) :
    (if w = 0x3FFF then { t with bank := b }.incPar pSysRakePasses else { t with bank := b }).rtc = t.rtc := by
  split
  · exact State.incPar_rtc ..
  · rfl

theorem rakeCheck_rtcKept (u : List (Option Upset)) : RtcKept s (execRakeCheck u s) := by
  unfold execRakeCheck
  refine .ite (.next ?_) (.next rfl)
  refine (rakePass_rtc _ _ _).trans ?_
  rw [rakeBanks_rtc]

theorem calLoad_withDbg_rtc (t : State) (d d' : DbgSt) :
    { calLoad { t with dbg := d } with dbg := d' }.rtc = t.rtc :=
  calLoad_rtc { t with dbg := d }

theorem calStoreEnd_rtcKept (ok : Bool) : RtcKept s (execCalStoreEnd ok s) := by
  unfold execCalStoreEnd
  split
  · exact .next rfl
  · exact .next (calLoad_withDbg_rtc s.nextFree _ _)

/-! ### Interrupts, halts and CP3 (spec/12, spec/14, spec/21) -/

variable (k : CoreId)

theorem waitResume_rtcKept : RtcKept s (execWaitResume k s) := by
  unfold execWaitResume
  refine .ite ?_ (.next rfl)
  split
  next v hv =>
    refine .ite (.next ?_) (.next (leaveWait_rtc s k))
    cases ht : takeInt (leaveWait s k) k v with
    | none => exact leaveWait_rtc s k
    | some t => exact (takeInt_same ht).1.trans (leaveWait_rtc s k)
  next => exact .next rfl

theorem interruptEntry_rtcKept : RtcKept s (execInterruptEntry k s) := by
  unfold execInterruptEntry
  refine .ite ?_ (.next rfl)
  split
  · split
    · exact .next (haltCore_rtc ..)
    · split
      next t ht => exact .next ((stepEnd_rtc t k).trans (takeInt_same ht).1)
      next => exact .next rfl
  · exact .next rfl

theorem coreHalt_rtcKept : RtcKept s (execCoreHalt k s) := by
  unfold execCoreHalt
  refine .ite ?_ (.next rfl)
  split
  · exact .next (haltCore_rtc ..)
  · exact .next rfl

theorem breakpointHit_rtcKept : RtcKept s (execBreakpointHit k s) := by
  unfold execBreakpointHit
  refine .ite ?_ (.next rfl)
  split
  · exact .next (haltCore_rtc ..)
  · exact .next rfl

theorem cp3Serve_rtcKept : RtcKept s (execCp3Serve s) := by
  unfold execCp3Serve
  split
  · exact .ite (.next rfl) (.ite (.next (by simp)) (.next (by simp)))
  · exact .next rfl

theorem cp3Timeout_rtcKept : RtcKept s (execCp3Timeout s) := by
  unfold execCp3Timeout
  split
  · exact .next rfl
  · exact .next (by simp)

/-! ### Supplies and power states (spec/15, spec/16, spec/20) -/

theorem softStartEnd_rtcKept (ok held : Bool) : RtcKept s (execSoftStartEnd ok held s) :=
  .ite (.next rfl) (.ite (.next (softFail_rtc s)) (.ite (.next (by simp)) (.next (by simp))))

theorem vddinMeasure_rtcKept (mv : Nat) : RtcKept s (execVddinMeasure mv s) :=
  .ite (.ite (.next (by simp)) (.ite (.next (by simp)) (.next (by simp)))) (.next rfl)

theorem antCurrentHigh_rtcKept (ma : Nat) : RtcKept s (execAntCurrentHigh ma s) :=
  .ite (.ite (.next (by simp)) (.next (by simp))) (.next rfl)

theorem antRetry_rtcKept : RtcKept s (execAntRetry s) := .ite (.ite (.next rfl) (.next (antOff_rtc s 0))) (.next rfl)

theorem antoutWantedChange_rtcKept : RtcKept s (execAntoutWantedChange s) :=
  .ite (.guard rfl) (.guard (antOff_rtc s 0))

theorem entryCommit_rtcKept (us : Nat) : RtcKept s (execEntryCommit us s) := by
  refine .guard ?_
  split <;> simp

theorem sleepExit_rtcKept (ms : Nat) : RtcKept s (execSleepExit ms s) := .guard (by simp [apply_ite State.rtc])

theorem refinStable_rtcKept (gap : Nat) (presc : Bool) : RtcKept s (execRefinStable gap presc s) :=
  .ite (.ite (.next (wakeStart_rtc ..)) (.next (coldStart_rtc ..))) (.next rfl)

theorem aonReset_rtcKept : RtcKept s (execAonReset s) := .next (by simp)

theorem rstNAssert_rtcKept : RtcKept s (execRstNAssert s) := .ite (.next rfl) (.ite (.next rfl) (.next (by simp)))

theorem rstNRelease_rtcKept : RtcKept s (execRstNRelease s) := .ite (.next rfl) (.ite (.next (by simp)) (.next rfl))

/-! ### The gauge (spec/18) -/

theorem gaugeSample_rtcKept (mv : Nat) (ua : Int) : RtcKept s (execGaugeSample mv ua s) :=
  .ite (.ite (.next (gauFault_rtc s)) (.next (by simp [apply_ite State.rtc]))) (.next rfl)

theorem comparatorTrip_rtcKept (us : Nat) : RtcKept s (execComparatorTrip us s) := .guard (by simp [apply_ite State.rtc])

theorem fullCharge_rtc (full : Bool) (t : State) :
    (if full then noteGauge (setStat (setCharge t (gauFull t)) 2 true) 4 100 else t).rtc = t.rtc := by
  split
  · simp
  · rfl

theorem restCorrection_rtcKept {t : State} (h : t.rtc = s.rtc) (full rest : Bool) (q : Int) (d : Nat) :
    RtcKept s (if rest then
      if full then .next { t with gau := { t.gau with restDone := true } }
      else .next (noteGauge (setCharge { t with gau := { t.gau with restDone := true } } q) 5 d)
      else .next t) :=
  .ite (.ite (.next h) (.next (by simp [h]))) (.next h)

theorem gaugeSecondTasks_rtcKept : RtcKept s (execGaugeSecondTasks s) := by
  unfold execGaugeSecondTasks
  refine .ite ?_ (.next rfl)
  exact restCorrection_rtcKept s ((fullCharge_rtc _ _).trans (by simp)) _ _ _ _

/-! ### The mirrored pair (spec/19) -/

theorem linkLossEdgeCheck_rtcKept (seen : Bool) : RtcKept s (execLinkLossEdgeCheck seen s) :=
  .ite (.next rfl) (.ite (.next (by simp)) (.ite (.next (by simp)) (.next rfl)))

theorem tpcmpEdge_rtcKept (delayed capture : Int) : RtcKept s (execTpcmpEdge delayed capture s) :=
  .ite (.next rfl) (.ite (.next rfl) (.ite (.next (by simp [apply_ite State.rtc])) (.next (by simp [apply_ite State.rtc]))))

theorem frameSend_rtcKept : RtcKept s (execFrameSend s) := by
  refine .ite (.next rfl) ?_
  split <;> exact .next (by simp)

theorem takeoverSwitch_rtcKept : RtcKept s (execTakeoverSwitch s) := by
  unfold execTakeoverSwitch
  split
  · exact .next rfl
  refine .ite (.next rfl) ?_
  dsimp only
  split
  · exact .next (by simp)
  · exact .ite (.next (by simp)) (.next (by simp))
  · exact .next (by simp)

/-! ### Sessions of the Serial Debug Port (spec/21 R488) -/

theorem sdpSessionAttach_rtcKept (key : Word) : RtcKept s (execSdpSessionAttach key s) :=
  .ite (.ite (.next rfl) (.next rfl)) (.next rfl)

end

/-! ### The commands of the calendar (spec/17 R408, R410, R413) -/

theorem legal_reset : Legal .reset := calendarOk_iff.mp (by decide)

/-- RTC_SECOND_TICK moves the calendar on by `tickRtc`; the alarms it meets wake and leave the calendar. -/
theorem rtcSecondTick_keepsLegal (s : State) : KeepsLegal s (execRtcSecondTick s) := by
  unfold execRtcSecondTick
  refine .ite (.next id) ?_
  have hwake (c : Bool) (u : State) : (if c then wakeFrom u 5 else u).rtc = u.rtc := by
    split
    · exact wakeFrom_rtc ..
    · rfl
  refine .ite (.next fun h => ?_) (.next fun h => ?_)
  · split
    · simpa [hwake] using { legal_tickRtc h with }
    · simpa [hwake] using { legal_tickRtc h with }
  · simpa [hwake] using { legal_tickRtc h with }

/-- CALENDAR_LOAD writes the calendar by `loadCalendar` or leaves it. -/
theorem calendarLoad_keepsLegal (s : State) : KeepsLegal s (execCalendarLoad s) := by
  unfold execCalendarLoad
  refine .ite (.next fun h => ?_) (.next id)
  exact legal_ite (by simpa using h) (legal_loadCalendar (by simpa using h) _)

/-! ### Every command -/

/-- Only the second tick, a load from UTC, the supply of BAK and the two ways of writing a register touch the RTC; every other command
leaves it as it stands. -/
theorem exec_keepsLegal (i : Instr) (s : State) : KeepsLegal s (exec i s) := by
  cases i
  all_goals dsimp only [exec]
  case rtcSecondTick => exact rtcSecondTick_keepsLegal s
  case calendarLoad => exact calendarLoad_keepsLegal s
  case vbakSwitchOver => exact .ite (.next id) (.next fun h => { h with })
  case vddinSwitchBack => exact .next fun h => { h with }
  case bakReset => exact .ite (.next id) (.next fun _ => legal_reset)
  case sdpReadFrame => exact .next fun h => legal_frame h _ _ (legalEnd_sdpGet h _ _)
  case dErrRead => exact .next fun h => legal_frame h _ _ (legalEnd_sdpGet h _ _)
  case sdpWriteFrame => exact .next fun h => legal_frame h _ _ (legalEnd_sdpPut h _ _ _)
  case sdpHalt | sdpResume | sdpStep | sdpDetach => exact .next fun h => legal_frame h _ _ (legalEnd_sdpPut h _ _ _)
  case wcsEnable | wcsDisable | wcsRealignRequest | registerWrite | parameterWrite | programWindowWrite | bankWindowWrite |
      txnBegin | txnCommit | txnRollback | bnkOwnerWrite | rtcHaltSet | rtcHaltClear | rtcCalendarWrite | rtcSwstampRearm |
      antUnlatch | calLoad | calStore | dbgHaltRequest | dbgResumeRequest | sysBootRelease | ringReadIndexWrite | ringPlace |
      doorbellRing | doorbellTake => exact phaseWrite_keepsLegal _ _ s
  all_goals refine RtcKept.keepsLegal ?_
  case dtcLatchRead | evsTmarkRead | hbErrRead | parameterRead | bankWindowRead | pwrPaceCntRead | sluRingRead | bnkLogRead |
      vregStatRead | programWindowRead => exact phaseRead_rtcKept _ _ s
  case registerRead => exact registerRead_rtcKept s
  case timeSet => exact serve_rtcKept runTimeSet_rtc s
  case posSet => exact serve_rtcKept runPosSet_rtc s
  case freqAid => exact serve_rtcKept runFreqAid_rtc s
  case search a => exact serve_rtcKept (fun c u => runSearch_rtc c u a) s
  case searchStop => exact serve_rtcKept runSearchStop_rtc s
  case panStart => exact serve_rtcKept runPanStart_rtc s
  case panStop => exact serve_rtcKept runPanStop_rtc s
  case twin => exact serve_rtcKept runTwin_rtc s
  case intRebase => exact serve_rtcKept runIntRebase_rtc s
  case slotArm => exact serve_rtcKept (run := runSlotArm) (fun c u => slotArm_rtc ..) s
  case slotModify => exact serve_rtcKept (run := runSlotModify) (fun c u => slotModify_rtc ..) s
  case slotCancel => exact serve_rtcKept (run := runSlotCancel) (fun c u => slotCancel_rtc ..) s
  case slotCancelClient => exact serve_rtcKept runSlotCancelClient_rtc s
  case slotQuery => exact serve_rtcKept (run := runSlotQuery) (fun c u => rfl) s
  case progLoad => exact serve_rtcKept runProgLoad_rtc s
  case power => exact serve_rtcKept runPower_rtc s
  case bankLend => exact serve_rtcKept runBankLend_rtc s
  case bankRecall => exact serve_rtcKept runBankRecall_rtc s
  case mirRole => exact serve_rtcKept runMirRole_rtc s
  case mirTakeover => exact serve_rtcKept runMirTakeover_rtc s
  case mirCompare => exact serve_rtcKept runMirCompare_rtc s
  case nopCommand => exact serve_rtcKept (run := fun _ s => answer s 0) (fun c u => rfl) s
  case customerCommand o =>
    exact serve_rtcKept (run := fun _ s => answer (rtCalls s .svc o.calls) o.status.toNat) (fun c u => rtCalls_rtc ..) s
  case mov | add | adc | sub | sbc | and | or | xor | cmp | tst | dadd | dsub =>
    exact runInstr_rtcKept (doTwo_keeps _ _ _ _ _)
  case addi | subi | andi | ori | xori | cmpi | tsti | daddi => exact runInstr_rtcKept (doImm_keeps _ _ _ _ _)
  case shl | shr | asr | rol | ror | rlc | rrc | swab | not | neg | inc | dec | clr | sexb =>
    exact runInstr_rtcKept (doOne_keeps _ _ _)
  case btst | bset | bclr | bmov => exact runInstr_rtcKept (doBitAbs_keeps _ _ _)
  case btstr | bsetr | bclrr | bmovr => exact runInstr_rtcKept (doBitReg_keeps _ _ _)
  case ld => exact runInstr_rtcKept (doLd_keeps _ _ _ _)
  case st => exact runInstr_rtcKept (doSt_keeps _ _ _)
  case push => exact runInstr_rtcKept (doPush_keeps _ _)
  case pop => exact runInstr_rtcKept (doPop_keeps _ _)
  case mfs => exact runInstr_rtcKept (doMfs_keeps _ _ _)
  case rpt | rptu => exact runInstr_rtcKept (doRep_keeps _ _ _ _ _ _)
  case ldi k c d h w2 => exact runInstr_rtcKept (f := fun t => .done (setW t k d (h ++ w2)) none) fun u => same_setW ..
  case sgld => exact sgld_rtcKept _ _ _ _ _
  case sgst => exact sgst_rtcKept _ _ _ _ _
  case mts => exact mts_rtcKept _ _ _ _ _
  case nop => exact nop_rtcKept _ _ _
  case wait => exact wait_rtcKept _ _ _
  case brk => exact brk_rtcKept _ _ _
  case ret => exact ret_rtcKept _ _ _
  case reti => exact reti_rtcKept _ _ _
  case retf => exact retf_rtcKept _ _ _
  case retm => exact retm_rtcKept _ _ _
  case jmp k c a => exact runInstr_rtcKept (f := fun t => .done (setPc t k a) none) fun u => same_setPc ..
  case jmpr k c r =>
    exact runInstr_rtcKept (f := fun t => .done (setPc t k ((getW t k r).extractLsb' 0 14)) none) fun u => same_setPc ..
  case call => exact runInstr_rtcKept (fun u => doCall_keeps ..)
  case callr => exact runInstr_rtcKept (fun u => doCall_keeps ..)
  case callm => exact callm_rtcKept _ _ _ _ _
  case illegalInstruction => exact runInstr_rtcKept (f := fun t => .trap t 4) Same.refl
  case dwell k c t r =>
    exact runInstr_rtcKept (doCpop_keeps (issue := issueDwell k t) (fun _ _ => ⟨issueDwell_rtc .., issueDwell_pending ..⟩) k t r 3)
  case cp3Operation k c t r fn =>
    exact runInstr_rtcKept (doCpop_keeps (issue := issueCp3 k t fn) (fun _ _ => ⟨issueCp3_rtc .., issueCp3_pending ..⟩) k t r 2)
  case fetch | ncoSet | phase | start | stop | taps | intlen | result | abort | mulu | muls | divu | divs | rot | atan2 | sqrt =>
    exact cpop_rtcKept _ _ _ _ _ _ _ _
  case cprd => exact cprd_rtcKept _ _ _ _ _ _
  case cpst => exact cpst_rtcKept _ _ _ _ _ _
  case waitcp => exact waitcp_rtcKept _ _ _ _ _ _
  case cpOperationComplete => exact cpOperationComplete_rtcKept _ _ _
  case idleFrame f => exact receive_rtcKept (takeIdle_rtc f) _ f s
  case stateFrame f => exact receive_rtcKept (takeState_rtc f) _ f s
  case wordsFrame f lost => exact receive_rtcKept (takeWords_rtc f lost) _ f s
  case slotFrame f => exact receive_rtcKept (takeSlot_rtc f) _ f s
  case takeFrame f => exact receive_rtcKept (takeTake_rtc f) _ f s
  case ackFrame f => exact receive_rtcKept (fun _ => rfl) _ f s
  case resendFrame f => exact receive_rtcKept (resend_rtc f) _ f s
  case gnssFineEntry => exact gnssFineEntry_rtcKept s
  case leapSecondApply => exact leapSecondApply_rtcKept s
  case pacePeriodEnd => exact pacePeriodEnd_rtcKept _ _
  case relapseWindowExpiry => exact relapseWindowExpiry_rtcKept s
  case sampleArrival => exact sampleArrival_rtcKept _ _
  case cellSearchEnd => exact cellSearchEnd_rtcKept _ _
  case pendingHitExpiry => exact pendingHitExpiry_rtcKept s
  case panGroupStall => exact panGroupStall_rtcKept _ _
  case crystallizerStall => exact crystallizerStall_rtcKept s
  case integrationEnd => exact integrationEnd_rtcKept _ _ _
  case pullComplete => exact pullComplete_rtcKept _ _
  case codeLockLoss => exact codeLockLoss_rtcKept _ _
  case reacqTimeout => exact reacqTimeout_rtcKept _ _
  case tpoutInactiveEdge => exact tpoutInactiveEdge_rtcKept s
  case tpoutDeferredPulse => exact tpoutDeferredPulse_rtcKept s
  case slotCommitPoint => exact slotCommitPoint_rtcKept _ _
  case slotFire => exact slotFire_rtcKept _ _
  case slotLateFire => exact slotLateFire_rtcKept _ _
  case evoutPulseEnd => exact evoutPulseEnd_rtcKept _ _
  case tmarkEdge => exact tmarkEdge_rtcKept _ _ _ _
  case channelTimeout => exact channelTimeout_rtcKept _ _
  case rakeCheck => exact rakeCheck_rtcKept _ _
  case calStoreEnd => exact calStoreEnd_rtcKept _ _
  case waitResume => exact waitResume_rtcKept _ _
  case interruptEntry => exact interruptEntry_rtcKept _ _
  case coreHalt => exact coreHalt_rtcKept _ _
  case breakpointHit => exact breakpointHit_rtcKept _ _
  case cp3Serve => exact cp3Serve_rtcKept s
  case cp3Timeout => exact cp3Timeout_rtcKept s
  case softStartEnd => exact softStartEnd_rtcKept _ _ _
  case vddinMeasure => exact vddinMeasure_rtcKept _ _
  case antCurrentHigh => exact antCurrentHigh_rtcKept _ _
  case antRetry => exact antRetry_rtcKept s
  case antoutWantedChange => exact antoutWantedChange_rtcKept s
  case entryCommit => exact entryCommit_rtcKept _ _
  case sleepExit => exact sleepExit_rtcKept _ _
  case refinStable => exact refinStable_rtcKept _ _ _
  case aonReset => exact aonReset_rtcKept s
  case rstNAssert => exact rstNAssert_rtcKept s
  case rstNRelease => exact rstNRelease_rtcKept s
  case gaugeSample => exact gaugeSample_rtcKept _ _ _
  case comparatorTrip => exact comparatorTrip_rtcKept _ _
  case gaugeSecondTasks => exact gaugeSecondTasks_rtcKept s
  case linkLossEdgeCheck => exact linkLossEdgeCheck_rtcKept _ _
  case tpcmpEdge => exact tpcmpEdge_rtcKept _ _ _
  case frameSend => exact frameSend_rtcKept s
  case takeoverSwitch => exact takeoverSwitch_rtcKept s
  case sdpSessionAttach => exact sdpSessionAttach_rtcKept _ _
  case dtcWrap => exact .next (carryDtc_rtc ..)
  case wakePin => exact .next (wakeFrom_rtc ..)
  case mirrorLinkActivity => exact .next (by simp)
  all_goals exact .guard (by simp)

/-- Settles O60: a step ticks the machine or runs the command at the front of its queue, and each keeps `Legal`. -/
theorem calendarStaysLegal : Obligations.CalendarStaysLegal := by
  unfold Obligations.CalendarStaysLegal
  intro s t h hstep
  unfold step at hstep
  split at hstep
  · cases hstep
    rwa [tick_rtc]
  case _ c rest _ =>
    exact calendarOk_iff.mpr (exec_keepsLegal c { s with pending := rest } (calendarOk_iff.mp h) t hstep)

end Sys2Proof.Proofs
end

section
/-! PROOFS. DBG_CTRL (spec/09 R240, spec/21 R495): which fields of a core a resume reaches, and the writes of the register. -/

namespace Sys2Proof.Proofs

open Sys2Proof Sys2Proof.Machine Sys2Proof.Spec

/-! ### What leaves the cores alone -/

@[simp] theorem core_setParBit (s : State) (i j : Nat) (b : Bool) (k : CoreId) : (s.setParBit i j b).core k = s.core k := by
  cases k <;> simp [State.core]

@[simp] theorem core_postImm (s : State) (t d : Nat) (k : CoreId) : (postImm s t d).core k = s.core k := by
  unfold postImm coalesce
  split
  · split
    · cases k <;> rfl
    · rw [core_setParBit]
      cases k <;> rfl
  · rfl

@[simp] theorem core_relevel (s : State) (always : Bool) (cause idx : Nat) (k : CoreId) :
    (relevel s always cause idx).core k = s.core k := by
  rw [relevel_eq_levelled]
  split
  · rw [noteLevel, core_postImm]
    cases k <;> rfl
  · cases k <;> rfl

@[simp] theorem core_idleNow (s : State) (k : CoreId) : (idleNow s).core k = s.core k := by
  unfold idleNow
  split
  · cases k <;> rfl
  split
  · cases k <;> rfl
  · rfl

@[simp] theorem core_endAttempt (s : State) (k : CoreId) :
    (endAttempt s).core k = { s.core k with waiting := false, req := 0, ipPower := false } := by
  unfold endAttempt
  dsimp only
  split <;> cases k <;> rfl

theorem core_refuse (s : State) (blk blks : Nat) (k : CoreId) :
    (refuse s blk blks).core k = { s.core k with waiting := false, req := 0, ipPower := false } := by
  rw [refuse, notePower, core_postImm, State.core_setPar, State.bumpPar, State.core_setPar, core_endAttempt]
  cases k <;> rfl

/-! ### A core that is resumed -/

/-- The end of a refused attempt on a core: it may leave WAIT, and its request and ip_power are gone (spec/16 R390). -/
def Released (x y : Core) : Prop :=
  y = { x with waiting := x.waiting && y.waiting, req := y.req, ipPower := y.ipPower }

/-- A halted core runs again where it stood (spec/21 R494). -/
def Resumed (x y : Core) : Prop :=
  y = { x with halted := false, reason := 0, frameHalt := false, waiting := false,
               bpSkip := y.bpSkip, req := y.req, ipPower := y.ipPower }

theorem Released.refl (x : Core) : Released x x := by simp [Released]

theorem Released.trans {x y z : Core} (h : Released x y) (h' : Released y z) : Released x z := by
  unfold Released at *
  rw [h', h]
  simp [Bool.and_assoc]

theorem Released.resumed {x y z : Core} (h : Released x y) (h' : Resumed y z) : Resumed x z := by
  unfold Released Resumed at *
  rw [h', h]

theorem Resumed.released {x y z : Core} (h : Resumed x y) (h' : Released y z) : Resumed x z := by
  unfold Released Resumed at *
  rw [h', h]
  simp

theorem Released.kept {x y : Core} (h : Released x y) : y.halted = x.halted ∧ y.pc = x.pc ∧ y.w = x.w := by
  unfold Released at h
  rw [h]
  exact ⟨rfl, rfl, rfl⟩

theorem released_coreRefuses (s : State) (j k : CoreId) : Released (s.core j) ((coreRefuses s k).core j) := by
  unfold coreRefuses
  split
  · rw [core_refuse]
    simp [Released]
  · exact .refl _

theorem released_modCore_waiting (s : State) (j k : CoreId) :
    Released (s.core j) ((s.modCore k fun x => { x with waiting := false }).core j) := by
  rw [State.core_modCore]
  split
  next h => simp [Released, h]
  next => exact .refl _

theorem released_leaveWait (s : State) (j k : CoreId) : Released (s.core j) ((leaveWait s k).core j) := by
  unfold leaveWait
  dsimp only
  rw [core_idleNow]
  split
  · exact (released_modCore_waiting s j k).trans (released_coreRefuses ..)
  · exact released_modCore_waiting s j k

/-- The cores that a resume finds: one that is parked leaves WAIT first. -/
theorem released_wait (s : State) (j k : CoreId) :
    Released (s.core j) ((if (s.core k).waiting then leaveWait s k else s).core j) := by
  split
  · exact released_leaveWait ..
  · exact .refl _

theorem resumed_resumeCore {s : State} {k : CoreId} (h : (s.core k).halted = true) :
    Resumed (s.core k) ((resumeCore s k).core k) := by
  refine (released_wait s k k).resumed ?_
  unfold resumeCore
  rw [if_pos h]
  simp [Resumed]

theorem resumeCore_of_running {s : State} {k : CoreId} (h : (s.core k).halted = false) : resumeCore s k = s := by
  simp [resumeCore, h]

theorem released_resumeCore (s : State) {j k : CoreId} (hne : j ≠ k) : Released (s.core j) ((resumeCore s k).core j) := by
  unfold resumeCore
  split
  · refine (released_wait s j k).trans ?_
    simp [State.core_modCore, hne, Released.refl]
  · exact .refl _

/-- What a resume asked for or not (`ask`) leaves of a core. -/
def ResumedIf (ask : Bool) (x y : Core) : Prop := if ask && x.halted then Resumed x y else Released x y

theorem ResumedIf.released {ask : Bool} {x y z : Core} (h : ResumedIf ask x y) (h' : Released y z) : ResumedIf ask x z := by
  unfold ResumedIf at *
  split
  next hh =>
    rw [if_pos hh] at h
    exact h.released h'
  next hh =>
    rw [if_neg hh] at h
    exact h.trans h'

theorem Released.resumedIf {ask : Bool} {x y z : Core} (h : Released x y) (h' : ResumedIf ask y z) : ResumedIf ask x z := by
  unfold ResumedIf at *
  rw [h.kept.1] at h'
  split
  next hh =>
    rw [if_pos hh] at h'
    exact h.resumed h'
  next hh =>
    rw [if_neg hh] at h'
    exact h.trans h'

/-- A resume that a write asks for, or not. -/
def resumeIf (ask : Bool) (s : State) (k : CoreId) : State := if ask then resumeCore s k else s

theorem resumedIf_resumeIf (ask : Bool) (s : State) (k : CoreId) : ResumedIf ask (s.core k) ((resumeIf ask s k).core k) := by
  unfold ResumedIf resumeIf
  cases ask with
  | false => exact .refl _
  | true =>
    cases hh : (s.core k).halted with
    | true => simpa [hh] using resumed_resumeCore hh
    | false => simp [resumeCore_of_running hh, Released.refl]

theorem released_resumeIf (ask : Bool) (s : State) {j k : CoreId} (hne : j ≠ k) :
    Released (s.core j) ((resumeIf ask s k).core j) := by
  unfold resumeIf
  split
  · exact released_resumeCore s hne
  · exact .refl _

/-! ### Writes of the register -/

theorem regAccess_dbgCtrl {s : State} (hcore : s.pwr.coreUp = true) : regAccess (phaseOpen s .sec) .sec 40 true = none := by
  simp [regAccess, hcore]

/-- A write of DBG_CTRL at work writes it alone, and the cycle goes on. -/
theorem hostWrite_dbgCtrl {s : State} {d : Word} (h : writing s 0x50 true = true) (hcore : s.pwr.coreUp = true) :
    hostWrite s d = advance (writeDbg (phaseOpen s .sec) (ofHalves 0 d)) ⟨0x50, true, true⟩ := by
  obtain ⟨-, -, hq⟩ := writing_iff.mp h
  have hput : busPut (phaseOpen s .sec) .sec 0x50 d = (writeDbg (phaseOpen s .sec) (ofHalves 0 d), none) :=
    busPut_lower_of_unpaired (regAccess_dbgCtrl hcore) rfl rfl
  exact (hostWrite_of_put (hi := false) (n := 40) h rfl (regHeld_of_quiet hq _ (by decide)) hput).trans
    (autoInc_of_plain (by decide) (by decide) (by decide) _ _ _ _)

theorem writeRow_dbgHalt {s : State} {d : Word} (h : d.toNat % 4 ≠ 0) : writeRow s ⟨0x50, true, true⟩ d = .dbgHalt :=
  if_pos h

theorem writeRow_dbgResume {s : State} {d : Word} (h : d.toNat % 4 = 0) (h' : d.toNat / 4 % 4 ≠ 0) :
    writeRow s ⟨0x50, true, true⟩ d = .dbgResume := (if_neg (not_not_intro h)).trans (if_pos h')

/-- A core that DBG_CTRL asks to halt, or not. -/
def askHaltIf (ask : Bool) (x : Core) : Core := { x with haltReq := x.haltReq || (ask && !x.halted) }

theorem two_bits_of_zero {d : Word} {p : Nat} (h : d.toNat / 2 ^ p % 4 = 0) :
    d.getLsbD p = false ∧ d.getLsbD (p + 1) = false := by
  simp only [BitVec.getLsbD, Nat.testBit_eq_decide_div_mod_eq, decide_eq_false_iff_not, Nat.pow_succ, ← Nat.div_div_eq_div_mul]
  omega

theorem writeDbg_halt {s : State} {v : BitVec 32} (hseen : v.getLsbD 7 = false) (htrk : v.getLsbD 2 = false)
    (hsvc : v.getLsbD 3 = false) :
    writeDbg s v = { s with trk := askHaltIf (v.getLsbD 0) s.trk, svc := askHaltIf (v.getLsbD 1) s.svc } := by
  simp only [writeDbg, hseen, htrk, hsvc]
  cases v.getLsbD 0 <;> cases v.getLsbD 1 <;> simp [askHaltIf] <;> rfl

theorem writeDbg_resume {s : State} {v : BitVec 32} (hseen : v.getLsbD 7 = false) (htrk : v.getLsbD 0 = false)
    (hsvc : v.getLsbD 1 = false) :
    writeDbg s v = resumeIf (v.getLsbD 3) (resumeIf (v.getLsbD 2) s .trk) .svc := by
  simp only [writeDbg, hseen, htrk, hsvc]
  rfl

theorem resumedIf_writeDbg {s : State} {v : BitVec 32} (hseen : v.getLsbD 7 = false) (htrk : v.getLsbD 0 = false)
    (hsvc : v.getLsbD 1 = false) (k : CoreId) :
    ResumedIf (v.getLsbD (2 + coreNum k)) (s.core k) ((writeDbg s v).core k) := by
  rw [writeDbg_resume hseen htrk hsvc]
  cases k with
  | trk => exact (resumedIf_resumeIf ..).released (released_resumeIf _ _ (by decide))
  | svc => exact (released_resumeIf _ _ (by decide)).resumedIf (resumedIf_resumeIf ..)

section
variable {s : State} {d : Word} (h : writing s 0x50 true = true) (hcore : s.pwr.coreUp = true) (hseen : d.getLsbD 7 = false)
include h hcore hseen

theorem exec_dbgHaltRequest (hask : d.toNat % 4 ≠ 0) (hno : d.toNat / 4 % 4 = 0) : exec (.dbgHaltRequest d) s =
    .next { (phaseDone s true 0x51) with
      trk := askHaltIf (d.getLsbD 0) s.trk, svc := askHaltIf (d.getLsbD 1) s.svc } := by
  obtain ⟨htrk, hsvc⟩ := two_bits_of_zero (p := 2) hno
  refine (phaseWrite_of_row h (writeRow_dbgHalt hask)).trans (congrArg _ ?_)
  rw [hostWrite_dbgCtrl h hcore, writeDbg_halt]
  · rw [getLsbD_ofHalves_zero d (by decide), getLsbD_ofHalves_zero d (by decide)]
    rfl
  all_goals rwa [getLsbD_ofHalves_zero d (by decide)]

theorem exec_dbgResumeRequest (hno : d.toNat % 4 = 0) (hask : d.toNat / 4 % 4 ≠ 0) : ∃ t,
    exec (.dbgResumeRequest d) s = .next t ∧ ∀ k, ResumedIf (d.getLsbD (2 + coreNum k)) (s.core k) (t.core k) := by
  obtain ⟨htrk, hsvc⟩ := two_bits_of_zero (p := 0) (by simpa using hno)
  refine ⟨_, phaseWrite_of_row h (writeRow_dbgResume hno hask), fun k => ?_⟩
  rw [hostWrite_dbgCtrl h hcore]
  have hv := resumedIf_writeDbg (s := phaseOpen s .sec) (v := ofHalves 0 d) (k := k)
    (by rwa [getLsbD_ofHalves_zero d (by decide)]) (by rwa [getLsbD_ofHalves_zero d (by decide)])
    (by rwa [getLsbD_ofHalves_zero d (by decide)])
  rw [getLsbD_ofHalves_zero d (by cases k <;> decide)] at hv
  cases k <;> exact hv

end

end Sys2Proof.Proofs
end

section
/-! PROOFS. The frames of the Serial Debug Port (spec/21 R488-R494): what each space reads and writes and how a frame is answered,
and O33. -/

namespace Sys2Proof.Proofs

open Sys2Proof Sys2Proof.Machine Sys2Proof.Spec

/-! ### Sessions (spec/21 R488) -/

theorem exec_sdpBreak {s : State} (haon : s.pwr.aonUp = true) : exec .sdpBreak s = .next (endSession s) := if_pos haon

theorem exec_sdpSessionAttach {s : State} (haon : s.pwr.aonUp = true) (hbreak : s.dbg.afterBreak = true) (w : Word) :
    exec (.sdpSessionAttach w) s =
      if w = sessionKey then
        .next { s with dbg := { s.dbg with session := true, afterBreak := false, seen := s.dbg.seen || s.pwr.coreUp } }
      else .next { s with dbg := { s.dbg with afterBreak := false } } :=
  if_pos ⟨haon, hbreak⟩

theorem frame_of_no_session {s : State} (h : s.dbg.session = false) (space : Nat) (ok : Bool) (f : Unit → DRes) :
    frame s space ok f = s := by
  rw [frame, if_pos (.inr (by simp [h]))]

section
variable {s : State} (haon : s.pwr.aonUp = true) (hsess : s.dbg.session = true)
include haon hsess

theorem frame_of_session (space : Nat) (f : Unit → DRes) : frame s space true f = answerFrame s space (f ()) := by
  simp [frame, sdpOn, haon, hsess]

theorem frame_of_bad_crc (space : Nat) (f : Unit → DRes) : frame s space false f =
    { s with dbg := { s.dbg with status := .none, errCause := 6, errSpace := space } } := by
  simp [frame, sdpOn, haon, hsess]

theorem exec_sdpReadFrame {sp : BitVec 3} {a : BitVec 24} {r : DRes} {t : State} (h : sdpGet s sp.toNat a.toNat = r)
    (ht : answerFrame s sp.toNat r = t) : exec (.sdpReadFrame sp a true) s = .next t := by
  rw [← ht, ← h]
  exact congrArg _ (frame_of_session haon hsess ..)

theorem exec_sdpWriteFrame {sp : BitVec 3} {a : BitVec 24} {v : BitVec 32} {r : DRes} {t : State}
    (h : sdpPut s sp.toNat a.toNat v = r) (ht : answerFrame s sp.toNat r = t) : exec (.sdpWriteFrame sp a v true) s = .next t := by
  rw [← ht, ← h]
  exact congrArg _ (frame_of_session haon hsess ..)

end

section
variable {s : State} (haon : s.pwr.aonUp = true) (hsess : s.dbg.session = true) {sp : BitVec 3} {n : Nat} (hn : n < 2 ^ 24)
  {r : DRes} {t : State}
include haon hsess hn

theorem exec_sdpReadFrame_ofNat (h : sdpGet s sp.toNat n = r) (ht : answerFrame s sp.toNat r = t) :
    exec (.sdpReadFrame sp (BitVec.ofNat 24 n) true) s = .next t :=
  exec_sdpReadFrame haon hsess (by rwa [BitVec.toNat_ofNat, Nat.mod_eq_of_lt hn]) ht

theorem exec_sdpWriteFrame_ofNat {v : BitVec 32} (h : sdpPut s sp.toNat n v = r) (ht : answerFrame s sp.toNat r = t) :
    exec (.sdpWriteFrame sp (BitVec.ofNat 24 n) v true) s = .next t :=
  exec_sdpWriteFrame haon hsess (by rwa [BitVec.toNat_ofNat, Nat.mod_eq_of_lt hn]) ht

end

/-! ### Items of CORE (spec/21 R491, R493) -/

theorem coreItem_of_down {s : State} (h : s.pwr.coreUp = false) (f : Unit → DRes) : coreItem s f = .error s .coreDown 0 := by
  simp [coreItem, h]

theorem coreItem_of_up {s : State} (h : s.pwr.coreUp = true) (hwake : s.pwr.state ≠ .sleep) (f : Unit → DRes) :
    coreItem s f = f () := by
  simp [coreItem, h, hwake]

/-- A core's number above the address within a core's part of a space. -/
theorem coreBit_of_num {p r : Nat} (i : Nat) (hp : 2 ^ i = p) (k : CoreId) (hr : r < p) : coreBit (p * coreNum k + r) i = k := by
  subst hp
  rw [coreBit, Nat.testBit_two_pow_mul_add _ hr]
  cases k <;> simp [coreNum]

theorem coreNum_lt (k : CoreId) : coreNum k < 2 := by cases k <;> decide

/-! ### Space 0: the debug words (spec/21 R494) -/

theorem space0Read_dErr (s : State) : space0Read s 1 =
    .done { s with dbg := { s.dbg with errCause := 0, errSpace := 0 } }
      (BitVec.ofNat 32 (s.dbg.errCause ||| s.dbg.errSpace * 32)) := by
  have hpack : pack [(0, s.dbg.errCause), (5, s.dbg.errSpace)] = BitVec.ofNat 32 (s.dbg.errCause ||| s.dbg.errSpace * 32) := by
    simp [pack, Nat.shiftLeft_eq, BitVec.ofNat_or]
  exact congrArg _ hpack

theorem exec_dErrRead {s : State} (haon : s.pwr.aonUp = true) (hsess : s.dbg.session = true) : exec .dErrRead s =
    .next (answerFrame s 0 (.done { s with dbg := { s.dbg with errCause := 0, errSpace := 0 } }
      (BitVec.ofNat 32 (s.dbg.errCause ||| s.dbg.errSpace * 32)))) := by
  rw [← space0Read_dErr]
  exact congrArg _ (frame_of_session haon hsess ..)

/-! ### Space 1: words of the banks (spec/21 R490, R492) -/

section
variable {b i : Nat} (hb : b < 8) (hi : i < 16384) (s : State)
include hb hi

theorem space1Read_of_word : space1Read s (16384 * b + i) = coreItem s fun _ =>
    if bankOut s b then .error s .withdrawn 0
    else if bankBusy s b then .retry
    else
      let r := demandRead s b i
      if r.2.2 then .error r.1 .poison (r.2.1.setWidth 32) else .done r.1 (r.2.1.setWidth 32) := by
  have hl : (16384 * b + i) % 2 ^ 18 = 16384 * b + i := by omega
  have hbank : (16384 * b + i) / 16384 = b := by omega
  have hword : (16384 * b + i) % 16384 = i := by omega
  simp only [space1Read, hl, hbank, hword]
  rw [if_neg (by omega), if_neg (by omega)]

theorem space1Write_of_word (v : BitVec 32) : space1Write s (16384 * b + i) v = coreItem s fun _ =>
    if bankOut s b then .error s .notOwner 0
    else if bankBusy s b then .retry
    else .done (ownerWrite s b i (loHalf v)) 0 := by
  have hl : (16384 * b + i) % 2 ^ 18 = 16384 * b + i := by omega
  have hbank : (16384 * b + i) / 16384 = b := by omega
  have hword : (16384 * b + i) % 16384 = i := by omega
  simp only [space1Write, hl, hbank, hword]
  rw [if_neg (by omega), if_neg (by omega)]

end

/-- Only a primary mirrors what is written, and only of B4 (spec/19 R450). -/
theorem ownerWrite_of_unmirrored {s : State} {b : Nat} (h : s.mir.role ≠ 1 ∨ b ≠ 4) (w : Nat) (v : Word) :
    ownerWrite s b w v = putWord s b w v :=
  if_neg fun ⟨hrole, hb, _⟩ => h.elim (· hrole) (· hb)

section
variable {s : State} {b i : Nat} (hb : b < 8) (hi : i < 16384)
include hb hi

theorem space1Read_of_down (hdown : s.pwr.coreUp = false) : space1Read s (16384 * b + i) = .error s .coreDown 0 :=
  (space1Read_of_word hb hi s).trans (coreItem_of_down hdown _)

theorem space1Write_of_down (hdown : s.pwr.coreUp = false) (v : BitVec 32) :
    space1Write s (16384 * b + i) v = .error s .coreDown 0 :=
  (space1Write_of_word hb hi s v).trans (coreItem_of_down hdown _)

variable (hcore : s.pwr.coreUp = true) (hwake : s.pwr.state ≠ .sleep) (hin : bankOut s b = false)
include hcore hwake hin

theorem space1Read_of_busy (hbusy : bankBusy s b = true) : space1Read s (16384 * b + i) = .retry := by
  rw [space1Read_of_word hb hi, coreItem_of_up hcore hwake, if_neg (by simp [hin]), if_pos hbusy]

theorem space1Write_of_busy (hbusy : bankBusy s b = true) (v : BitVec 32) : space1Write s (16384 * b + i) v = .retry := by
  rw [space1Write_of_word hb hi, coreItem_of_up hcore hwake, if_neg (by simp [hin]), if_pos hbusy]

theorem space1Read_of_sound (hfree : bankBusy s b = false) (hsound : sound s b i = true) :
    space1Read s (16384 * b + i) = .done s ((bankWord s b i).setWidth 32) := by
  rw [space1Read_of_word hb hi, coreItem_of_up hcore hwake, if_neg (by simp [hin]), if_neg (by simp [hfree]),
    demandRead_of_sound hsound]
  rfl

theorem space1Write_of_free (hfree : bankBusy s b = false) (hmir : s.mir.role ≠ 1 ∨ b ≠ 4) (v : BitVec 32) :
    space1Write s (16384 * b + i) v = .done (putWord s b i (loHalf v)) 0 := by
  rw [space1Write_of_word hb hi, coreItem_of_up hcore hwake, if_neg (by simp [hin]), if_neg (by simp [hfree]),
    ownerWrite_of_unmirrored hmir]

end

/-! ### A W register of a core -/

theorem sdpGet_space6 (s : State) (a : Nat) : sdpGet s 6 a = space6 s a fun _ _ v => .done s v := rfl

theorem sdpPut_space6 (s : State) (a : Nat) (v : BitVec 32) :
    sdpPut s 6 a v = space6 s a fun k r _ => .done (s.modCore k (fun x => coreRegWrite x r v)) 0 := rfl

theorem coreRegWrite_of_reg (x : Core) (r : Reg) (v : BitVec 32) :
    coreRegWrite x r.val v = { x with w := x.w.set r (loHalf v) } := by
  rw [coreRegWrite, if_pos r.isLt]
  have hset : x.w.setIfInBounds r.val (loHalf v) = x.w.set r (loHalf v) :=
    Vector.ext fun i hi => by rw [Vector.getElem_setIfInBounds, Vector.getElem_set]
  rw [hset]

/-! ### Spaces 2 and 3: program memory and B-space -/

section
variable {s : State} (hcore : s.pwr.coreUp = true) (hwake : s.pwr.state ≠ .sleep) (k : CoreId)
include hcore hwake

theorem space2Read_of_num (a : BitVec 14) :
    space2Read s (16384 * coreNum k + a.toNat) = .done s ((progWord s k a).setWidth 32) := by
  have ha : BitVec.ofNat 14 (16384 * coreNum k + a.toNat) = a := BitVec.eq_of_toNat_eq (by simp; omega)
  rw [space2Read, coreItem_of_up hcore hwake, coreBit_of_num (p := 16384) 14 rfl k a.isLt, ha]

theorem space2Write_of_num (a : BitVec 14) (v : BitVec 32) : space2Write s (16384 * coreNum k + a.toNat) v =
    let r := progWrite s k a (v.setWidth 14)
    r.2.elim (.done r.1 0) fun e => .error s e 0 := by
  have ha : BitVec.ofNat 14 (16384 * coreNum k + a.toNat) = a := BitVec.eq_of_toNat_eq (by simp; omega)
  have hv : v.extractLsb' 0 14 = v.setWidth 14 := BitVec.eq_of_toNat_eq (by simp)
  rw [space2Write, coreItem_of_up hcore hwake, coreBit_of_num (p := 16384) 14 rfl k a.isLt, ha, hv]
  generalize progWrite s k a (v.setWidth 14) = r
  obtain ⟨t, _ | e⟩ := r <;> rfl

theorem space2Write_of_stored {a : BitVec 14} {v : BitVec 32} {t : State}
    (h : progWrite s k a (v.setWidth 14) = (t, none)) : space2Write s (16384 * coreNum k + a.toNat) v = .done t 0 := by
  rw [space2Write_of_num hcore hwake, h]
  rfl

theorem space2Write_of_refused {a : BitVec 14} {v : BitVec 32} {e : Cause}
    (h : progWrite s k a (v.setWidth 14) = (s, some e)) : space2Write s (16384 * coreNum k + a.toNat) v = .error s e 0 := by
  rw [space2Write_of_num hcore hwake, h]
  rfl

theorem space3Read_of_num (a : BitVec 12) :
    space3Read s (4096 * coreNum k + a.toNat) = .done s (if bitRead s k a.toNat then 1 else 0) := by
  have ha : (4096 * coreNum k + a.toNat) % 4096 = a.toNat := by omega
  rw [space3Read, coreItem_of_up hcore hwake, coreBit_of_num (p := 4096) 12 rfl k a.isLt, ha, bit]
  split <;> rfl

theorem space3Write_of_num (a : BitVec 12) (v : BitVec 32) :
    space3Write s (4096 * coreNum k + a.toNat) v = .done (bitWrite s k a.toNat (v.getLsbD 0)) 0 := by
  have ha : (4096 * coreNum k + a.toNat) % 4096 = a.toNat := by omega
  rw [space3Write, coreItem_of_up hcore hwake, coreBit_of_num (p := 4096) 12 rfl k a.isLt, ha]

/-! ### Space 6: the W registers -/

theorem space6_of_num (r : Reg) (f : CoreId → Nat → BitVec 32 → DRes) : space6 s (256 * coreNum k + r.val) f =
    if (s.core k).halted then f k r.val (((s.core k).w.get r).setWidth 32) else .error s .prgBusy 0 := by
  have hr : (256 * coreNum k + r.val) % 256 = r.val := by omega
  have hread : coreRegRead (s.core k) r.val = some (((s.core k).w.get r).setWidth 32) := by
    rw [coreRegRead, if_pos r.isLt]
    simp [Vector.get, Vector.getD]
  simp only [space6, coreBit_of_num (p := 256) 8 rfl k (r := r.val) (by omega), hr, hread, coreItem_of_up hcore hwake]

variable {k} (r : Reg) (v : BitVec 32)

theorem sdpGet_reg_of_halted (h : (s.core k).halted = true) :
    sdpGet s 6 (256 * coreNum k + r.val) = .done s (((s.core k).w.get r).setWidth 32) := by
  rw [sdpGet_space6, space6_of_num hcore hwake, if_pos h]

theorem sdpGet_reg_of_running (h : (s.core k).halted = false) :
    sdpGet s 6 (256 * coreNum k + r.val) = .error s .prgBusy 0 := by
  rw [sdpGet_space6, space6_of_num hcore hwake, if_neg (by simp [h])]

theorem sdpPut_reg_of_halted (h : (s.core k).halted = true) : sdpPut s 6 (256 * coreNum k + r.val) v =
    .done (s.modCore k fun x => { x with w := x.w.set r (loHalf v) }) 0 := by
  rw [sdpPut_space6, space6_of_num hcore hwake, if_pos h]
  simp only [coreRegWrite_of_reg]

theorem sdpPut_reg_of_running (h : (s.core k).halted = false) :
    sdpPut s 6 (256 * coreNum k + r.val) v = .error s .prgBusy 0 := by
  rw [sdpPut_space6, space6_of_num hcore hwake, if_neg (by simp [h])]

end

/-! ### Spaces 4 and 5: parameters and direct registers -/

theorem space4Read_of_value {s : State} (hwake : s.pwr.state ≠ .sleep) {key : BitVec 12} {v : BitVec 32}
    (h : paramRead s .dbg key.toNat = (v, none)) : space4Read s key.toNat = .done s v := by
  have hkey : key.toNat % 4096 = key.toNat := by omega
  simp [space4Read, hkey, h, heldKey, hwake]

theorem space5Read_of_plain {s : State} (hcore : s.pwr.coreUp = true) (hwake : s.pwr.state ≠ .sleep) {n : Nat}
    (h : plainReg n = true) : space5Read s n = .done s (regView s .dbg n) := by
  obtain ⟨hn, hplain⟩ := plainReg_iff.mp h
  have hmod : n % 64 = n := by omega
  have hne {m : Nat} (hm : m ∈ specialRegs) : n ≠ m := fun e => hplain (e ▸ hm)
  have hbank : n ≠ 19 := hne (by decide)
  have hparam : n ≠ 8 := hne (by decide)
  have hacc : regAccess s .dbg n false = none := by simp [regAccess, hcore]; omega
  have hheld : heldReg s n = false := by simp [heldReg, regHeld, hwake, hbank]
  simp only [space5Read, hmod, hheld, regRead_of_register hacc hparam hbank, readLo_of_plain hplain, disarm,
    if_neg (hne (m := 4) (by decide)), autoInc_of_plain hparam hbank (hne (m := 43) (by decide))]
  simp

/-! ### O33 -/

theorem ResumedIf.spec {ask : Bool} {x y : Core} (h : ResumedIf ask x y) :
    if ask && x.halted then
      y = { x with halted := false, reason := 0, frameHalt := false, waiting := false,
                   bpSkip := y.bpSkip, req := y.req, ipPower := y.ipPower }
    else y.halted = x.halted ∧ y.pc = x.pc ∧ y.w = x.w := by
  unfold ResumedIf at h
  split at h
  next hh => rwa [if_pos hh]
  next hh => rw [if_neg hh]; exact h.kept

/-- Settles O33: DBG_CTRL through the data phase that writes it, the session by its three commands, and each space of the SDP by
what its request comes to. -/
theorem debugRegistersAndPort : Obligations.DebugRegistersAndPort := by
  unfold Obligations.DebugRegistersAndPort
  refine ⟨fun s d h hcore hseen => ⟨exec_dbgHaltRequest h hcore hseen, fun hno hask => ?_⟩, fun s haon => ?_⟩
  · obtain ⟨t, ht, hk⟩ := exec_dbgResumeRequest h hcore hseen hno hask
    exact ⟨t, ht, fun k => (hk k).spec⟩
  intro ended
  refine ⟨exec_sdpBreak haon, fun hbreak => ⟨?_, fun w hw => ?_⟩, fun hno sp a v c => ?_, fun hsess => ?_⟩
  · exact (exec_sdpSessionAttach haon hbreak _).trans (if_pos rfl)
  · exact (exec_sdpSessionAttach haon hbreak w).trans (if_neg hw)
  · exact ⟨congrArg _ (frame_of_no_session hno ..), congrArg _ (frame_of_no_session hno ..),
      congrArg _ (frame_of_no_session hno ..), congrArg _ (frame_of_no_session hno ..)⟩
  intro done retry failed
  refine ⟨?_, ?_, exec_sdpReadFrame haon hsess rfl rfl, fun sp a v => ⟨?_, ?_, ?_, ?_⟩,
    fun b i v hb hi => ⟨fun hdown => ⟨?_, ?_⟩, fun hcore hwake hin => ⟨fun hbusy => ⟨?_, ?_⟩,
      fun hfree => ⟨fun hsound => ?_, fun hmir => ?_⟩⟩⟩, fun hcore hwake => ?_⟩
  · exact congrArg _ (frame_of_session haon hsess ..)
  · exact (exec_dErrRead haon hsess).trans rfl
  · exact congrArg _ (frame_of_bad_crc haon hsess ..)
  · exact congrArg _ (frame_of_bad_crc haon hsess ..)
  · exact exec_sdpReadFrame haon hsess rfl rfl
  · exact exec_sdpWriteFrame haon hsess rfl rfl
  · exact exec_sdpReadFrame_ofNat haon hsess (by omega) (space1Read_of_down hb hi hdown) rfl
  · exact exec_sdpWriteFrame_ofNat haon hsess (by omega) (space1Write_of_down hb hi hdown v) rfl
  · exact exec_sdpReadFrame_ofNat haon hsess (by omega) (space1Read_of_busy hb hi hcore hwake hin hbusy) rfl
  · exact exec_sdpWriteFrame_ofNat haon hsess (by omega) (space1Write_of_busy hb hi hcore hwake hin hbusy v) rfl
  · exact exec_sdpReadFrame_ofNat haon hsess (by omega) (space1Read_of_sound hb hi hcore hwake hin hfree hsound) rfl
  · exact exec_sdpWriteFrame_ofNat haon hsess (by omega) (space1Write_of_free hb hi hcore hwake hin hfree hmir v) rfl
  refine ⟨fun k a v => ?_, fun k a v => ?_, fun key v h => ?_, fun n h => ?_, fun k r v => ?_⟩
  · have hk := coreNum_lt k
    refine ⟨?_, fun hrom hstop => ?_, fun hrun => ?_, fun hram hstop => ?_⟩
    · exact exec_sdpReadFrame_ofNat haon hsess (by omega) (space2Read_of_num hcore hwake k a) rfl
    · exact exec_sdpWriteFrame_ofNat haon hsess (by omega)
        (space2Write_of_refused hcore hwake k (progWrite_of_rom hstop hrom)) rfl
    · exact exec_sdpWriteFrame_ofNat haon hsess (by omega)
        (space2Write_of_refused hcore hwake k (progWrite_of_busy hrun)) rfl
    · exact exec_sdpWriteFrame_ofNat haon hsess (by omega)
        (space2Write_of_stored hcore hwake k (progWrite_of_stored hstop hram)) rfl
  · have hk := coreNum_lt k
    exact ⟨exec_sdpReadFrame_ofNat haon hsess (by omega) (space3Read_of_num hcore hwake k a) rfl,
      exec_sdpWriteFrame_ofNat haon hsess (by omega) (space3Write_of_num hcore hwake k a v) rfl⟩
  · have hkey : (key.setWidth 24).toNat = key.toNat := by simp; omega
    exact exec_sdpReadFrame haon hsess ((congrArg (space4Read s) hkey).trans (space4Read_of_value hwake h)) rfl
  · obtain ⟨hn, -⟩ := plainReg_iff.mp h
    exact exec_sdpReadFrame_ofNat haon hsess (by omega) (space5Read_of_plain hcore hwake h) rfl
  · have hk := coreNum_lt k
    have hr := r.isLt
    refine ⟨fun hhalt => ⟨?_, ?_⟩, fun hrun => ⟨?_, ?_⟩⟩
    · exact exec_sdpReadFrame_ofNat haon hsess (by omega) (sdpGet_reg_of_halted hcore hwake r hhalt) rfl
    · exact exec_sdpWriteFrame_ofNat haon hsess (by omega) (sdpPut_reg_of_halted hcore hwake r v hhalt) rfl
    · exact exec_sdpReadFrame_ofNat haon hsess (by omega) (sdpGet_reg_of_running hcore hwake r hrun) rfl
    · exact exec_sdpWriteFrame_ofNat haon hsess (by omega) (sdpPut_reg_of_running hcore hwake r v hrun) rfl

end Sys2Proof.Proofs
end
